-- ==== Sys2Proof/Word.lean ====
section
/-! DEFINITION. The word types of the PLO-6410 and the plainest of its arithmetic. -/

namespace Sys2Proof

/-- A byte of a record, a frame, the flash or the DRAM. -/
abbrev Byte := BitVec 8

/-- A DAC or ADC code (R6): 10 bits. -/
abbrev Code := BitVec 10

/-- The 48-bit phase and frequency words of a player (R200). -/
abbrev Phase := BitVec 48

/-- The number of a drive channel, DRV00 to DRV63, and of a monitor input, MON00 to MON63. -/
abbrev Chan := Fin 64

/-- The number of a bank: 0 is A, 1 is B, 2 is C, 3 is D. -/
abbrev Bank := Fin 4

/-- The number of a player, PL00 to PL15. -/
abbrev PlayerNo := Fin 16

/-- The bank of a channel or of a monitor input: sixteen of each, in order. -/
def bankOf (n : Chan) : Bank := ⟨n.val / 16, by omega⟩

/-- Every element of a vector replaced by a function of its index and value. -/
def mapAll {α β : Type} {n : Nat} (f : Fin n → α → β) (v : Vector α n) : Vector β n :=
  Vector.ofFn fun i => f i v[i]

end Sys2Proof
end

