-- ==== Sys2Proof/Syntax.lean ====
section
/-! DEFINITION. The commands of the block: one constructor for each row of spec/opcode_table.json.
A command is an event at the block's edge, or a step that the spec's table calls whole and indivisible. Its operands
are what the event brings in from outside the block: sampled levels, measured values, received bytes. -/

namespace Sys2Proof

/-- The supplies that the block monitors (Table 2.4, Table 17.2). VDDQ and VDD_DPHY are the one domain DPHY. -/
inductive Domain where
  | aon | vddio | ref | pll | core | mon | daca | dacb | dacc | dacd | dphy | cport | link
  deriving DecidableEq, Repr

/-- The two supplies of the AON domain (R105). -/
inductive AonSupply where
  | vddAon | vddIo
  deriving DecidableEq, Repr

/-- The three transaction pins (Table 3.7). -/
inductive TxPin where
  | txb | txc | txa
  deriving DecidableEq, Repr

/-- A port of the Bolnos chain (Table 12.1). -/
inductive LinkPort where
  | a | b | c
  deriving DecidableEq, Repr

/-- A flash operation of Table 3.8. -/
inductive FlashOp where
  | read | pageProgram | sectorErase | blockErase
  deriving DecidableEq, Repr

/-- How the device gives the flash 4-byte addresses (R117, R118): not at all, by dedicated instructions, or in a mode. -/
inductive FourByte where
  | none | dedicated | enterMode
  deriving DecidableEq, Repr

/-- What SFDP discovery reads (R117). A flash may offer dedicated 4-byte instructions, an enter-4-byte-mode instruction,
both or neither. -/
structure SfdpReport where
  signature : Bool
  densityMbit : Nat
  fastRead114 : Bool
  erase4k : Bool
  dedicated4Byte : Bool
  enter4Byte : Bool
  quadEnable : BitVec 3
  deriving DecidableEq, Repr

/-- The codes that a bank's self-test converts (R260): three levels at each of sixteen positions,
code `3 * position + level`. -/
abbrev SelfTest := Vector Code 48

/-- A counter record of a ledger region as two reads of the flash give it (Table 10.5, R343). -/
structure CounterRead where
  base : BitVec 32
  grain : Byte
  reserved : BitVec 24
  tally1 : BitVec 1024
  tally2 : BitVec 1024
  deriving DecidableEq, Repr

/-- A ledger region as power-up reads it (Table 10.5, R349): the marker three times. -/
structure RegionRead where
  erased : Bool
  magic : BitVec 32
  seq : BitVec 32
  rails : BitVec 16
  reserved : BitVec 16
  hcrc : BitVec 32
  counters : Vector CounterRead 128
  marker : Vector (BitVec 32) 3
  seqCopy : BitVec 32
  deriving DecidableEq, Repr

/-- One DRAM device: rank, subchannel and byte lane (lane 4 holds the check bytes). -/
structure DramDevice where
  sub : Fin 2
  rank : Fin 2
  lane : Fin 5
  deriving DecidableEq, Repr

/-- What DDR5 initialisation, identification and training find (R120, R121, R293). `answered` is whether rank 0 of
each subchannel answered; `densities` are the die densities found, in Gb. -/
structure TrainReport where
  answered : Vector Bool 2
  ranks : Vector (Fin 3) 2
  densities : List Nat
  allX8 : Bool
  identified : Bool
  refreshManagement : Bool
  failed : List DramDevice
  deriving DecidableEq, Repr

/-- One frame's samples of the control balls (R83): MODE, VAR, TXB/TXC/TXA (bit 0, 1, 2), EV7 to EV0 and RTR_N. -/
structure PinSample where
  mode : BitVec 3
  var : BitVec 2
  tx : BitVec 3
  ev : BitVec 8
  rtrN : Bool
  deriving DecidableEq, Repr

/-- A line of the DRAM by page number and line within the page (R296). -/
structure LineAddr where
  page : Nat
  line : Fin 1024
  deriving DecidableEq, Repr

/-- The error pattern of one read: the symbols that came back wrong, each with what was added to it (R320, R321). -/
abbrev Flips := List (Fin 80 × Byte)

/-- What the device meets when a command makes it read a line that the command's own row does not name: the errors of the read, and
those of the verify read after it is written (R322, R329, R332). A line that is not listed reads without error. -/
structure LineErrs where
  addr : LineAddr
  read : Flips
  verify : Flips
  deriving DecidableEq, Repr

/-- The level samples that a closing command brings: MODE and VAR as sampled frame by frame and RTR_N likewise,
the oldest first, the last the sample of the frame of the command (R81, R149); and what the reads of the commit fence meet
(R332). -/
structure PinObs where
  modeVar : List (BitVec 3 × BitVec 2)
  rtrN : List Bool
  fence : List LineErrs
  deriving DecidableEq, Repr

/-- What a tick boundary measures: REFIN in mV (R245) and, for each rank, whether MR4 asks for 2x refresh (R315). -/
structure TickObs where
  refinMv : Nat
  hotRank : Vector Bool 2
  deriving DecidableEq, Repr

/-- A set that a transmitter may insert between any two characters of a frame (R371, R375, R376): an urgent frame, an echo
set with SEQ and TURN, or a measure set with SEQ. -/
inductive LineSet where
  | urgent (bytes : List Byte)
  | echo (seq : Byte) (turnPs : BitVec 16)
  | measure (seq : Byte)
  deriving DecidableEq, Repr

/-- What a receiver meets between the first character of a frame and its /T/ (R370, R371): a byte of the frame, an inserted
set, whose own effect is a command of its own, or a code error, which any special character outside Table 12.2 is. -/
inductive RxItem where
  | byte (b : Byte)
  | inserted (x : LineSet)
  | codeError
  deriving DecidableEq, Repr

/-- A measure or echo set as received (R376): its SEQ, and whether no code error marred it (R370). -/
structure SetRx where
  seq : Byte
  clean : Bool
  deriving DecidableEq, Repr

/-- An urgent frame as received (R375): its 4 bytes, and whether no code error marred it (R370). -/
structure UrgentRx where
  bytes : Vector Byte 4
  clean : Bool
  deriving DecidableEq, Repr

/-- A sync frame as received (R371, R373): what came between /S/ and /T/, and the instant of its /S/ in ps after the
boundary that the device expects it to mark. -/
structure SyncRx where
  items : List RxItem
  arrivalPs : Int
  deriving DecidableEq, Repr

/-- The voltages of one monitor scan, in nV: V(MONn) and V(MONG_x), each with respect to VSS (R256, R510). -/
structure ScanIn where
  mon : Vector Int 64
  mong : Vector Int 4
  deriving DecidableEq, Repr

/-- The requester of a DRAM line read (Table 10.1). -/
inductive ReadSource where
  | fetch | scrub | merge | capture | reserved
  deriving DecidableEq, Repr

/-- The two read-backs of a probe (R325): 80 bytes after 0x55 and 80 bytes after 0xAA. -/
structure ProbeRead where
  after55 : Vector Byte 80
  afterAA : Vector Byte 80
  deriving DecidableEq, Repr

/-- The 24 items of Table 11.2, each the mean of 256 conversions; item 23 is RSET_x in ohms where it is measured. -/
structure CalReadings where
  items : Vector Int 23
  rsetOhm : Nat
  deriving DecidableEq, Repr

/-- The commands. The docstring of each names its row of the table and the rule it follows. -/
inductive Instr where
  /-- POWER_ON_RESET (R104). -/
  | powerOnReset
  /-- AON_BROWN_OUT (R105): the supply and the length of the dip in ns (R500). -/
  | aonBrownOut (which : AonSupply) (dipNs : Nat)
  /-- SUPPLY_BROWN_OUT (R134). -/
  | supplyBrownOut (d : Domain) (dipNs : Nat)
  /-- SUPPLY_GOOD (R134): with the self-test of each monitor bank, which a good MON supply runs (R260). -/
  | supplyGood (d : Domain) (tests : Vector SelfTest 4)
  /-- RST_N_LOW (R90): the length of the low pulse in ns (R89). -/
  | rstNLow (widthNs : Nat)
  /-- RST_N_RISE (R133). -/
  | rstNRise
  /-- STRAP_STAGE_END (R96): for each strap the sum of its 64 conversions, in 10^-7 of the strap reference. -/
  | strapStageEnd (sums : Vector Nat 8)
  /-- SUPPLY_STAGE_END (R108). -/
  | supplyStageEnd
  /-- SUPPLY_STAGE_TIMEOUT (R106). -/
  | supplyStageTimeout
  /-- REFERENCE_VALID (R114): edges counted in an AONOSC window, clean characters held on port A. -/
  | referenceValid (edges : Nat) (cleanChars : Nat)
  /-- REFERENCE_WAIT_TIMEOUT (R114). -/
  | referenceWaitTimeout
  /-- REFERENCE_LOST (R57): edges counted in an AONOSC window, and whether port A holds alignment. -/
  | referenceLost (edges : Nat) (aligned : Bool)
  /-- PLL_LOCK (R115): three frames of pin samples (R83) and REFIN in mV (R245). -/
  | pllLock (pins : Vector PinSample 3) (refinMv : Nat)
  /-- PLL_LOCK_TIMEOUT (R109). -/
  | pllLockTimeout
  /-- PLL_LOCK_LOST (R116). -/
  | pllLockLost
  /-- CORE_STAGE_END (R111). -/
  | coreStageEnd (sramOk : Bool) (tests : Vector SelfTest 4) (cportLocked : Bool)
  /-- SFDP_DISCOVERY_DONE (R117). -/
  | sfdpDiscoveryDone (r : SfdpReport)
  /-- FLASH_TIMEOUT (R93). -/
  | flashTimeout (op : FlashOp)
  /-- LEDGER_SELECTED (R349): the two regions as read, and whether a format that is needed succeeds. -/
  | ledgerSelected (lower upper : RegionRead) (formatOk : Bool)
  /-- DRAM_TRAINING_DONE (R121). -/
  | dramTrainingDone (r : TrainReport)
  /-- DRAM_STAGE_TIMEOUT (R109). -/
  | dramStageTimeout
  /-- IMAGE_WAIT_TIMEOUT (R123). -/
  | imageWaitTimeout
  /-- SEAL_VERIFY_DONE (R462). -/
  | sealVerifyDone
  /-- JOIN_WAIT_TIMEOUT (R128). -/
  | joinWaitTimeout
  /-- ROOT_ENUMERATION (R382). -/
  | rootEnumeration
  /-- ENUMCNT_UPDATE (R382). -/
  | enumcntUpdate
  /-- TRIM_WAIT_TIMEOUT (R110). -/
  | trimWaitTimeout
  /-- TXB (R140): the samples of the ball, one a frame, the oldest first and the last that of this frame (R81), and the other
  TX pins whose pulses are recognised in the same frame. -/
  | txb (samples : List Bool) (others : List TxPin)
  /-- TXC (R143). -/
  | txc (samples : List Bool) (others : List TxPin) (obs : PinObs)
  /-- TXA (R143). -/
  | txa (samples : List Bool) (others : List TxPin)
  /-- TX_STUCK_PIN (R85): the samples of the ball, likewise. -/
  | txStuckPin (pin : TxPin) (samples : List Bool)
  /-- TX_STUCK_PIN_CLEAR (R86). -/
  | txStuckPinClear (pin : TxPin) (samples : List Bool)
  /-- MODE_INVALID (R92): the MODE samples, the oldest first. -/
  | modeInvalid (samples : List (BitVec 3))
  /-- MODE_VALID_CLEAR (R92). -/
  | modeValidClear (samples : List (BitVec 3))
  /-- EV_DEBOUNCED (R88): the samples of pin EVk, the oldest first. -/
  | evDebounced (k : Fin 8) (samples : List Bool)
  /-- SYSTEM_EVENT (R402). -/
  | systemEvent
  /-- RTR_N_LOW (R91): the samples of RTR_N, the oldest first. -/
  | rtrNLow (samples : List Bool)
  /-- VALIDATION_DONE (R148). -/
  | validationDone
  /-- TICK_BOUNDARY (R50). -/
  | tickBoundary (obs : TickObs)
  /-- COMMIT_APPLY (R151). -/
  | commitApply
  /-- ROLLBACK_APPLY (R33). -/
  | rollbackApply
  /-- PROBATION_END (R153). -/
  | probationEnd
  /-- TXN_TIMEOUT (R145). -/
  | txnTimeout
  /-- ISLAND (R391). -/
  | island
  /-- ISLAND_REJOIN (R392). -/
  | islandRejoin
  /-- ALIGNMENT_FAULT (R389). -/
  | alignmentFault
  /-- SYNC_NONE (R390). -/
  | syncNone (f : SyncRx)
  /-- SYNC_OPEN (R158). -/
  | syncOpen (f : SyncRx)
  /-- SYNC_PREPARE (R395): with this device's own pin levels, which its validation judges (R146). -/
  | syncPrepare (f : SyncRx) (obs : PinObs)
  /-- SYNC_COMMIT (R395). -/
  | syncCommit (f : SyncRx)
  /-- SYNC_ABORT (R395). -/
  | syncAbort (f : SyncRx)
  /-- SYNC_ROLLBACK (R395). -/
  | syncRollback (f : SyncRx)
  /-- SYNC_RESERVED_COMMAND (R395). -/
  | syncReservedCommand (f : SyncRx)
  /-- RETURN_FRAME (R394): the port it arrives on what came after /R/, and whether /T/ ended it. -/
  | returnFrame (port : LinkPort) (items : List RxItem) (ended : Bool)
  /-- RETURN_SEND (R394). -/
  | returnSend
  /-- URGENT_RETREAT (R404): the port it arrives on. -/
  | urgentRetreat (port : LinkPort) (frame : UrgentRx)
  /-- URGENT_REPEAT (R403). -/
  | urgentRepeat
  /-- MEASURE_SEND (R385). -/
  | measureSend
  /-- MEASURE_REQUEST (R385): the set's SEQ and the time from its first bit in to the echo's first bit out, in ps. -/
  | measureRequest (port : LinkPort) (set : SetRx) (turnPs : BitVec 16)
  /-- MEASURE_ECHO (R385): the echo's SEQ and TURN, the measured round trip in ps. -/
  | measureEcho (set : SetRx) (turnPs : BitVec 16) (rttPs : Nat)
  /-- CAUSEWAY_HANDOVER (R406). -/
  | causewayHandover
  /-- MONITOR_SCAN (R257). -/
  | monitorScan (v : ScanIn)
  /-- GUARD_TRIP (R274). -/
  | guardTrip (i : Chan)
  /-- GUARD_REARM (R275). -/
  | guardRearm (i : Chan)
  /-- DETECTOR_CLOSE (R283). -/
  | detectorClose (i : Chan)
  /-- DETECTOR_TIMEOUT (R282). -/
  | detectorTimeout (i : Chan)
  /-- ENGINE_SLOT (R237). -/
  | engineSlot (n : Chan)
  /-- RANGE_SWITCH_FORCED (R248). -/
  | rangeSwitchForced (n : Chan)
  /-- PLAY (R214): one frame of the step. -/
  | play (p : PlayerNo)
  /-- TONE (R205). -/
  | tone (p : PlayerNo)
  /-- CHIRP (R206). -/
  | chirp (p : PlayerNo)
  /-- RAMP (R208). -/
  | ramp (p : PlayerNo)
  /-- NOISE (R210). -/
  | noise (p : PlayerNo)
  /-- LEVEL (R211). -/
  | level (p : PlayerNo)
  /-- WAIT (R197). -/
  | wait (p : PlayerNo)
  /-- WAIT_TIMEOUT (R197). -/
  | waitTimeout (p : PlayerNo)
  /-- LOOP (R190). -/
  | loop (p : PlayerNo)
  /-- NEXT (R190). -/
  | next (p : PlayerNo)
  /-- JUMP (R191). -/
  | jump (p : PlayerNo)
  /-- END (R187). -/
  | endStep (p : PlayerNo)
  /-- EVENT_JUMP (R194). -/
  | eventJump (p : PlayerNo)
  /-- MK_PULSE_END (R167). -/
  | mkPulseEnd (k : Fin 8)
  /-- PLAYER_STOP (R225): the cause as Table 13.5 codes it: 1 state parity, 2 program SRAM parity, 3 empty prefetch. -/
  | playerStop (p : PlayerNo) (cause : Fin 4)
  /-- LINE_READ_DONE (R322). -/
  | lineReadDone (src : ReadSource) (a : LineAddr) (flips : Flips) (verify : Flips)
  /-- SCRUB_READ (R330). -/
  | scrubRead
  /-- PROBE_START (R325). -/
  | probeStart (rank : Fin 2) (sub : Fin 2)
  /-- PROBE_DONE (R325). -/
  | probeDone (r : ProbeRead)
  /-- DDR_ALERT_FAULT (R484). -/
  | ddrAlertFault
  /-- MERGE_FLUSH (R332): the subchannel and the error pattern of the line read that a partial mask needs. -/
  | mergeFlush (sub : Fin 2) (flips : Flips) (verify : Flips)
  /-- REFRESH_DUE (R316): the bank indices that queued reads target. -/
  | refreshDue (rank : Fin 2) (sub : Fin 2) (busy : BitVec 4)
  /-- SELF_REFRESH_DRAIN (R317). -/
  | selfRefreshDrain
  /-- SELF_REFRESH_ENTRY (R317). -/
  | selfRefreshEntry
  /-- SELF_REFRESH_EXIT (R318). -/
  | selfRefreshExit
  /-- SELF_REFRESH_EXIT_DONE (R318). -/
  | selfRefreshExitDone
  /-- SEGMENT_LOAD_TIMEOUT (R301). -/
  | segmentLoadTimeout (id : BitVec 16)
  /-- LEDGER_PROGRAM_DONE (R345). -/
  | ledgerProgramDone
  /-- LEDGER_ERASE_DONE (R348). -/
  | ledgerEraseDone
  /-- LEDGER_RETRY (R350): whether the repeated operation succeeds. -/
  | ledgerRetry (ok : Bool)
  /-- CALIBRATION_START (R361). -/
  | calibrationStart
  /-- CALIBRATION_DONE (R352). -/
  | calibrationDone (r : CalReadings)
  /-- MONITOR_TRIM_DONE (R359): the bank, its closing self-test and the inputs (one bit for each of the bank's sixteen)
  for which a selection did not reach the goals. -/
  | monitorTrimDone (b : Bank) (test : SelfTest) (missed : BitVec 16)
  /-- THERMAL_READING (R523): in units of 0.25 °C. -/
  | thermalReading (quarterDeg : Int)
  /-- STRAP_WINDOW (R97): the strap and the sum of the window's 16 conversions, in 10^-7 of the strap reference. -/
  | strapWindow (k : Fin 8) (sum : Nat)
  /-- CPORT_RECOVER (R485). -/
  | cportRecover
  /-- LINK_UP (R409). -/
  | linkUp
  /-- LINK_DOWN (R409). -/
  | linkDown
  /-- CONTENT_FRAME (R416): a received Ethernet frame from destination address to the end of its pad, and whether its
  FCS holds; its length with the FCS is four bytes more. -/
  | contentFrame (bytes : List Byte) (fcsOk : Bool)
  /-- PAUSE (R421): likewise. -/
  | pause (bytes : List Byte) (fcsOk : Bool)
  /-- PARTIAL_RECORD_TIMEOUT (R417). -/
  | partialRecordTimeout
  /-- HEADER (R441): the raw bytes of the record, from its header to its CRC; likewise below. -/
  | header (rec : List Byte)
  /-- END_RECORD (R443). -/
  | endRecord (rec : List Byte)
  /-- PROVISION (R465): with the cells as they read back after programming, KEY then KCV. -/
  | provision (rec : List Byte) (readBack : List Byte)
  /-- BASE (R446). -/
  | base (rec : List Byte)
  /-- OVERLAY (R446). -/
  | overlay (rec : List Byte)
  /-- PROGRAM (R447). -/
  | program (rec : List Byte)
  /-- TONE_TABLE (R448). -/
  | toneTable (rec : List Byte)
  /-- MARGIN_TABLE (R449). -/
  | marginTable (rec : List Byte)
  /-- COEFFICIENT_SET (R450). -/
  | coefficientSet (rec : List Byte)
  /-- GUARD_TABLE (R451). -/
  | guardTable (rec : List Byte)
  /-- LINK_MAP (R452). -/
  | linkMap (rec : List Byte)
  /-- CAPTURE_PLAN (R453). -/
  | capturePlan (rec : List Byte)
  /-- BUDGETS (R455). -/
  | budgets (rec : List Byte)
  /-- SEGMENT_CHUNK (R300): with the error pattern of the read that judges the line of a repair chunk (R340). -/
  | segmentChunk (rec : List Byte) (errs : List LineErrs)
  /-- STATUS (R424). -/
  | status
  /-- CAPTURE (R425). -/
  | capture (k : Fin 8)
  /-- DETECTOR (R426). -/
  | detector
  /-- EVENT (R427). -/
  | event
  /-- BOG (R428). -/
  | bog
  /-- LEDGER (R429). -/
  | ledger
  /-- OUTCOME (R430). -/
  | outcome
  /-- WANTED (R339). -/
  | wanted (id : BitVec 16)
  /-- BYPASS (R102). -/
  | bypass
  /-- IDCODE (R102). -/
  | idcode
  /-- SAMPLE_PRELOAD (R102): the pins that the boundary cells capture. -/
  | samplePreload (cells : List Bool)
  /-- EXTEST (R101): the levels shifted into the boundary cells. -/
  | extest (cells : List Bool)
  /-- EXTEST_PULSE (R101). -/
  | extestPulse (cells : List Bool)
  /-- EXTEST_TRAIN (R101). -/
  | extestTrain (cells : List Bool)
  /-- CLAMP (R101). -/
  | clamp
  /-- HIGHZ (R101). -/
  | highz
  /-- PORT_CONNECTED (R367). -/
  | portConnected (port : LinkPort)
  /-- PORT_DISCONNECTED (R367). -/
  | portDisconnected (port : LinkPort)
  /-- PAUSE_TIMER_EXPIRED (R421). -/
  | pauseTimerExpired
  /-- LINK_FAULT_RECEIVED (R410). -/
  | linkFaultReceived
  /-- LINK_FAULT_CLEARED (R410). -/
  | linkFaultCleared
  /-- CONVERTER_CHECK_DONE (R363): how far the check is from its expected reading, in codes. -/
  | converterCheckDone (error : Int)
  /-- TRST_N_LOW (R103). -/
  | trstNLow
  deriving DecidableEq, Repr

end Sys2Proof
end

