-- ==== Sys2Proof/Decode.lean ====
section
/-! DEFINITION. The command that a word spells. No row of the spec's table of commands gives bits: a command is an event
at the block's edge, or a step that it takes by itself, and no word of an instruction stream encodes it. -/

namespace Sys2Proof

/-- The command that a word of the table's bits spells: none, because no row of the table has bits. -/
def decodeTableWord (_nbits _w : Nat) : Option Instr := none

end Sys2Proof
end

