-- ==== Sys2Proof/Config.lean ====
section
/-! DEFINITION. What one implementation fixes and the manual leaves open: the free values, which have no body, and the
figures of the manual that many files use. -/

namespace Sys2Proof.Config

/-- FREE VALUE (R89, R500): whether the device acts on the `k`-th pulse or dip that falls in a band in which the manual
leaves the outcome open. Each is judged on its own. Log entry 3. -/
opaque freeBit : Nat → Bool

/-- FREE VALUE (R359): the capacitor selection that a monitor trim chooses. The manual states its goals, not the
selection's code. Log entry 4. -/
opaque freeSelection : Nat → BitVec 16

/-- FREE VALUE (Tables 4.1 and 4.2): which of the codes 0xA8 to 0xAC of the IMAGE stage a flash read shows that times out while
the boot image is read; the manual names none. Log entry 8. -/
opaque imageReadTimeoutCode : Fin 5

/-- FREE VALUE (R386): the `k`-th delay through the device that it measures as it forwards a frame, in ps, before the bound
of R386; and its link delay while d_A is not valid, for which the manual states none. Log entry 10. -/
opaque freeDelay : Nat → Nat

/-- FREE VALUE (R393): VETO_CODE of a device that is not ready and holds no veto, such as one that still validates. The
manual names no code for it. Log entry 11. -/
opaque unstatedVetoCode : BitVec 8

/-- FREE VALUE (R340, Table 10.4): the CAUSE of the entry of a line that a repair chunk's read finds uncorrectable. The manual
names no cause for that read. Log entry 12. -/
opaque unstatedBogCause : BitVec 2

/-- FREE VALUE (R241): the level, in mV, that a VOLT ball presents for a weight, a gain and a VREF for which the formula exceeds
2.7 V. The manual bounds it and fixes it no more closely. Log entry 116. -/
opaque freeVoltLevel : Nat → Nat → Nat → Rat

/-- FREE VALUE (R243, R244): RSET_x as the board fits it, in Ω, before the device has measured it. Log entry 116. -/
opaque boardRset : Fin 4 → Nat

/-- FREE VALUE (R328, R332): the errors of the `k`-th read of a line that no command reports: one made for room in the merge
buffer, at the DRAIN stage, or at a retirement. Log entry 88. -/
opaque freeReadErrors : Nat → List (Fin 80 × BitVec 8)

/-- Frames in a tick (Table 0.3). -/
def framesPerTick : Nat := 16384

/-- Samples of a line and lines of a page (R294). -/
def samplesPerLine : Nat := 48

/-- Lines of a page (R294). -/
def linesPerPage : Nat := 1024

/-- The bound of the resident set (R304). -/
def residentMax : Nat := 1024

/-- Entries of the active Bog list (R337). -/
def bogMax : Nat := 65536

/-- Entries of the Bog list's history ring (R337). -/
def historyMax : Nat := 57336

/-- The fetch table (R338). -/
def fetchTableMax : Nat := 256

/-- Remap entries of a subchannel (R334). -/
def remapMax : Nat := 16

/-- Merge buffer entries of a subchannel (R332). -/
def mergeMax : Nat := 16

/-- Entries of a read queue, and those of it that normal-class ports may hold (R305, R306). -/
def readMax : Nat := 64
/-- Entries that normal-class ports may hold of a read queue (R306). -/
def normalMax : Nat := 24
/-- Entries of a write queue (R305). -/
def writeMax : Nat := 32

/-- The content buffer, and its two PAUSE thresholds, in bytes (R419). -/
def bufferSize : Nat := 262144
/-- The fill above which a PAUSE is sent (R419). -/
def pauseAbove : Nat := 163840
/-- The fill at or below which the pause is released (R419). -/
def pauseBelow : Nat := 65536

end Sys2Proof.Config
end

