-- ==== Sys2Proof/Machine/Types.lean ====
section
/-! DEFINITION. The parts of the block's state, as plain data. Each field's docstring gives its width, the rule that
names it and its reset value. -/

namespace Sys2Proof.Machine

/-! ## Bring-up and power -/

/-- The stages of bring-up (Table 4.1) and what stands before and after them. -/
inductive Stage where
  /-- Held in reset: before power-on reset (R104). -/
  | reset
  /-- RST_N is low (R90). -/
  | rstLow
  | strap | supply | clock | core | flash | ledger | dram | image | join | trimWait
  /-- Waiting for the PROVISION record (R127). -/
  | provision
  /-- The key is written, or spoiled (R127, R465). -/
  | provisioned
  /-- Bring-up is complete (R112). -/
  | done
  /-- Bring-up has failed with a cause code of Table 4.2 (R130). -/
  | failed (cause : Byte)
  deriving DecidableEq, Repr

/-- The role of the device (Table 3.10). -/
inductive Role where
  | standalone | root | spine | tooth
  deriving DecidableEq, Repr

/-- The power domains, the straps, the bring-up stage and the one-time-programmable cells. -/
structure Power where
  /-- 13 × 1 (R58, R134): which supplies are good, by `Domain`; reset: none good. -/
  good : Vector Bool 13
  /-- (R109, Table 4.1): the stage; reset: held in reset. -/
  stage : Stage
  /-- 1 (R132): CORE has ended since the core was last reset; reset 0. -/
  coreEnded : Bool
  /-- 8 (R110, Table 4.2): the code on MK[7:0] during bring-up; reset 0x00. -/
  mkCode : Byte
  /-- 8 × 4 (R95, R96): the latched strap codes RS0 to RS7; reset: DESIGN CHOICE 15 each, an open strap (log 5). -/
  straps : Vector (BitVec 4) 8
  /-- 1 (R96): the straps have been latched since power-on reset; reset 0. -/
  strapsLatched : Bool
  /-- 1 (R97, R133): the strap drift fault, latched until power-on reset; reset 0. -/
  driftLatched : Bool
  /-- 8 × 1 (R97): straps that drifted in a window of the present tick; reset 0. -/
  drifted : Vector Bool 8
  /-- 4 × 1 (R60, R108): banks fitted at the end of SUPPLY; reset: none. -/
  fitted : Vector Bool 4
  /-- 1 (R60, R108): the optional banks have been judged since power-on reset; reset 0. -/
  judged : Bool
  /-- 64 (R484): the fault causes present, bit for bit as Table 16.1; reset 0. -/
  faults : BitVec 64
  /-- 1 (R114): the reference is valid; reset 0. -/
  refValid : Bool
  /-- 1 (R115): the main PLL is locked; reset 0. -/
  locked : Bool
  /-- 1 (Table 3.7): CLOCK has ended since the last reset, and the groups that it enables have been enabled; reset 0. -/
  clocked : Bool
  /-- 1 (R135, R156): the power-up state holds; reset 1. -/
  powerUp : Bool
  /-- 256, or blank (R464): the KEY cells; reset: DESIGN CHOICE blank (log 5). -/
  key : Option (List Byte)
  /-- 64, or blank (R464, R466): the KCV cells; reset: DESIGN CHOICE blank (log 5). -/
  kcv : Option (List Byte)
  /-- 4 × Ω (R244): the latest RSET_x measurement of each bank, none before the first; reset none. -/
  rset : Vector (Option Nat) 4
  /-- mV (R245): the latest REFIN reading; reset 0, which selects the internal reference: DESIGN CHOICE (log 5). -/
  refinMv : Nat
  /-- 16 × signed (R523): the latest readings, newest first, in 0.25 °C; reset none. -/
  thermal : List Int
  /-- signed (R523): the junction temperature, the mean of the readings, in 0.25 °C; reset DESIGN CHOICE 0 (log 5). -/
  junction : Int
  /-- signed (R523): the junction temperature that the thermal rules judge, which is the mean from the frame after its reading; reset
  DESIGN CHOICE 0 (log 5). -/
  junctionActs : Int
  /-- (R117, R118): how the flash is addressed, none before discovery; reset none. -/
  flashAddr : Option FourByte
  /-- Mbit (R119): the density of the flash; reset 0. -/
  flashMbit : Nat
  deriving DecidableEq, Repr

/-! ## Time, pins -/

/-- The tick counter and the epoch. -/
structure Clock where
  /-- 48 (R115, Table 12.3): the frame count; bits [13:0] are the frame within the tick; reset 0. -/
  epoch : BitVec 48
  /-- the MODEL's own count of frames, which no alignment moves and no loss of lock stops (log 2); reset DESIGN CHOICE 0
  (log 2). -/
  clk : Nat
  /-- frames (R149): `clk` at the frame in which R83 last set the filtered levels; reset 0. -/
  pinsSetAt : Nat
  deriving DecidableEq, Repr

/-- The control and status pins. -/
structure Pins where
  /-- 3 (R81): the filtered MODE; reset 0, DESIGN CHOICE (log 5). -/
  mode : BitVec 3
  /-- 2 (R81): the filtered VAR; reset 0, DESIGN CHOICE (log 5). -/
  var : BitVec 2
  /-- 3 × 1 (R85): stuck TXB, TXC and TXA; reset 0. -/
  stuck : Vector Bool 3
  /-- 3 × frames (R83): `clk` from which the filtered level of TXB, TXC or TXA counts its width because a lock set it high,
  none while it is low or counted from its own samples; reset none. -/
  txHigh : Vector (Option Nat) 3
  /-- (R83): the samples of a lock whose levels are set in the third frame, and `clk` of that frame; reset none. -/
  locking : Option (Nat × Vector PinSample 3)
  /-- 8 (R88): the debounced EV levels; reset 0, DESIGN CHOICE (log 5). -/
  ev : BitVec 8
  /-- 1 (R91): RTR_N reads low by another's driver; reset 0. -/
  rtrLow : Bool
  /-- 1 (R30, R175): this device drives RTR_N low; reset 0. -/
  rtrDrive : Bool
  /-- 3 (R170): ST[2:0] as shown in this frame; reset 0b000 (Table 3.7). -/
  st : BitVec 3
  /-- 8 × 1 (R167): the MK levels that SET and CLEAR move; reset 0. -/
  mkLevel : Vector Bool 8
  /-- 8 × frames (R167): `clk` at which each MK pulse ends, none while no pulse runs; reset none. -/
  mkPulse : Vector (Option Nat) 8
  /-- 8 × 1 (R168): the MK levels that an edge of this frame moves when it reaches the ball, in the next; reset none. -/
  mkLevelNext : Vector (Option Bool) 8
  /-- 8 × frames (R168): `clk` at which a pulse ends whose edge of this frame reaches the ball in the next; reset none. -/
  mkPulseNext : Vector (Option Nat) 8
  /-- 24 (R163): the EV and SE events raised in this frame, by code 0x00 to 0x17; reset 0. -/
  raised : BitVec 24
  deriving DecidableEq, Repr

/-! ## Configuration -/

/-- Pin parameters (Table 15.3). -/
structure PinParams where
  evDeb : BitVec 8
  mkSrc : BitVec 5
  mkWidth : BitVec 8
  deriving DecidableEq, Repr

/-- Player parameters (Table 15.4). -/
structure PlayerParams where
  entry : BitVec 10
  bind : BitVec 64
  ref : BitVec 7
  cset : BitVec 3
  deriving DecidableEq, Repr

/-- Drive channel parameters (Table 15.5). -/
structure ChanParams where
  nom : Code
  amp : BitVec 16
  sha : BitVec 4
  ofs : BitVec 12
  sho : BitVec 2
  slewStep : BitVec 9
  slewInt : BitVec 9
  retStep : BitVec 9
  retInt : BitVec 9
  shallow : Code
  deep : Code
  gain : BitVec 1
  phase : BitVec 16
  deriving DecidableEq, Repr

/-- Monitor input and detector parameters (Tables 15.6 and 15.7). -/
structure MonParams where
  pgain : BitVec 2
  cofs : BitVec 8
  rank : BitVec 2
  preset : BitVec 3
  phase : BitVec 1
  sh : BitVec 24
  detRef : BitVec 7
  detFreq : BitVec 48
  detCyc : BitVec 16
  detSync : BitVec 1
  detThr : BitVec 24
  detTdir : BitVec 1
  deriving DecidableEq, Repr

/-- Device-wide parameters (Tables 15.2 and 15.8). -/
structure DevParams where
  txnTimeout : BitVec 16
  probation : BitVec 13
  seMask : BitVec 8
  telDst : BitVec 48
  align : BitVec 1
  guardTab : BitVec 3
  srIdle : BitVec 16
  devRetire : BitVec 16
  scrubPass : BitVec 12
  calInterval : BitVec 16
  calMon : BitVec 1
  deriving DecidableEq, Repr

/-- All parameters of the device (R467). -/
structure Params where
  dev : DevParams
  pin : Vector PinParams 8
  player : Vector PlayerParams 16
  chan : Vector ChanParams 64
  mon : Vector MonParams 64
  deriving DecidableEq, Repr

/-- One entry of a BASE or OVERLAY record (Table 14.5). -/
structure Patch where
  pid : BitVec 16
  pidx : Byte
  value : BitVec 64
  deriving DecidableEq, Repr

/-- One guard entry (Table 14.6). -/
structure Guard where
  lo : Code
  hi : Code
  dwell : BitVec 5
  scope : BitVec 2
  en : Bool
  deriving DecidableEq, Repr

/-- A drive channel's monitor input, none for 0xFF, and its rail (R452). -/
structure Link where
  mon : Option Chan
  rail : Fin 64
  deriving DecidableEq, Repr

/-- A capture stream (Table 14.7). -/
structure CapStream where
  mask : BitVec 64
  ring : BitVec 16
  trig : Byte
  pre : BitVec 16
  post : BitVec 32
  deriving DecidableEq, Repr

/-- The base, the overlays and the objects (R136, R438, R469). -/
structure Image where
  /-- the base's parameters (R467) -/
  params : Params
  /-- the patch lists of the 24 overlays; empty has the effect of absent (R138, R446) -/
  overlays : Vector (List Patch) 24
  /-- the program of each player, its 128-bit steps in order; empty for none (R176, R447) -/
  programs : Vector (List (BitVec 128)) 16
  /-- tone tables (R448) -/
  tones : Vector (Option (List Code)) 8
  /-- margin tables: entry e for channel n at 64 e + n (R449) -/
  margins : Vector (Option (List Code)) 16
  /-- image coefficient sets 2 to 7: c[φ][t] at 8 φ + t (R450) -/
  csets : Vector (Option (List (BitVec 16))) 6
  /-- guard tables (R451) -/
  guards : Vector (Option (Vector Guard 64)) 8
  /-- the link map (R452) -/
  links : Vector Link 64
  /-- the capture plan, none when there is none (R453) -/
  plan : Option (Vector CapStream 8)
  /-- the EXC and DOSE budgets of each rail; 0xFFFFFFFF sets no limit (R454) -/
  budgets : Vector (BitVec 32 × BitVec 32) 64
  deriving DecidableEq, Repr

/-- A configuration: an image with a mode and a variant, and the parameters that the selected overlay gives (R137). -/
structure Configuration where
  image : Image
  mode : BitVec 3
  var : BitVec 2
  params : Params
  deriving DecidableEq, Repr

/-- What an outcome or a refusal names (R430). -/
structure Obj where
  kind : Byte
  obj : BitVec 32
  deriving DecidableEq, Repr

/-- The state of the transaction (R140 to R143). -/
inductive TxnState where
  | idle | opened | pending
  deriving DecidableEq, Repr

/-- The result of validation, delivered when it completes (R146, R148). -/
inductive Verdict where
  | pass
  | fail (code : Byte) (obj : Obj)
  deriving DecidableEq, Repr

/-- The actions of Table 2.2 that the settlement of a boundary left to their own commands. -/
structure Due where
  /-- row 2: the fourth missed tick -/
  island : Bool
  /-- row 3 -/
  rollback : Bool
  /-- row 4 -/
  apply : Bool
  /-- row 5 -/
  txnTimeout : Bool
  /-- row 6 -/
  probationEnd : Bool
  /-- row 8 -/
  calibration : Bool
  /-- row 9 -/
  status : Bool
  /-- row 9 and R429: a LEDGER frame is due -/
  ledger : Bool
  /-- rows 7 to 9, which wait for the rows above them -/
  rest : Bool
  deriving DecidableEq, Repr

/-- Records whose last bytes were accepted in one frame and that patched the shadow in it (R142): the frame, by `clk`, the shadow
before them, and the objects that their refusal would name. -/
structure Fresh where
  clk : Nat
  image : Image
  refused : List Obj
  deriving DecidableEq, Repr

/-- Transactions, probation and the configurations. -/
structure Txn where
  /-- 2 (R143): IDLE, OPEN or PENDING; reset IDLE. -/
  state : TxnState
  /-- (R140): the shadow, none in IDLE; reset none. -/
  shadow : Option Image
  /-- 3 (R136): the MODE that the closing command selected; reset 0, DESIGN CHOICE (log 5). -/
  selMode : BitVec 3
  /-- 2 (R136): the VAR selected together with `selMode`; reset 0, DESIGN CHOICE (log 5). -/
  selVar : BitVec 2
  /-- (R146): the verdict of a validation that has not completed; reset none. -/
  verdict : Option Verdict
  /-- 1 (R143): the PENDING shadow has passed validation; reset 0. -/
  validated : Bool
  /-- frames (R147): `clk` at which TXC or PREPARE closed the transaction; reset 0. -/
  closedAt : Nat
  /-- 16 (R145): the time-out count; reset 0. -/
  count : BitVec 16
  /-- 16 (R145, R482): TXN_TIMEOUT as it was when the transaction opened; reset 4,096. -/
  limit : BitVec 16
  /-- 8 (R430, Table 12.3): TXID; reset DESIGN CHOICE 0 (log 5). -/
  txid : Byte
  /-- (R137, R469): the live configuration; reset: the power-up state. -/
  live : Configuration
  /-- (R152): last-good, none for the power-up state; reset none. -/
  lastGood : Option Configuration
  /-- (R124, R469): the base, overlays and objects that the boot image built; reset: the defaults. -/
  boot : Image
  /-- 64 × 1 (R150): the channels that the live configuration lets leave nominal; reset none. -/
  leave : Vector Bool 64
  /-- 13 (R153): the probation count, none while no probation runs; reset none. -/
  probation : Option Nat
  /-- 1 (R33): a trip of the ending tick calls for a roll-back at the next boundary; reset 0. -/
  rollbackPending : Bool
  /-- 64 × 1 (R14, R25): the channels that had sight under the shadow in the frame that validation judged; reset none. -/
  seen : Vector Bool 64
  /-- (R142): what the shadow was before the records that were accepted in the frame of the latest of them; reset none. -/
  fresh : Option Fresh
  /-- 1 (R46, R156): the power-up state has returned, and its configuration is live from the next boundary; reset 0. -/
  defaultsDue : Bool
  /-- (R50): what the settled boundary left due; reset none. -/
  due : Due
  deriving DecidableEq, Repr

/-! ## Drive path -/

/-- One drive channel. -/
structure Channel where
  /-- 10 (R237): the limiter's code c, which the channel's next slot latches (R227); reset 512 (Table 7.4). -/
  code : Code
  /-- 10 (R227, R228): the code last latched to the DAC; reset 512 (Table 7.4). -/
  latched : Code
  /-- 10 and 1 (R228, R229): with ALIGN on, the code of this frame and its gain, once the channel's slot has run; they latch at
  slot 0 of the next frame; reset none. -/
  delayed : Option (Code × BitVec 1)
  /-- 9 (R527): m before the latest computation; reset 0. -/
  mBase : BitVec 9
  /-- 1 (R527): the retreat state as it stood at the latest computation; reset 0. -/
  slotRetreated : Bool
  /-- 1 (R527): `gainNext` before the latest computation; reset 0. -/
  gainBase : BitVec 1
  /-- 1 (R249): the gain in whose codes `code` stands, which the analogue stage takes when it latches; reset 0. -/
  gainNext : BitVec 1
  /-- frames (R527): `clk` of the latest computation, none before the first; reset none. -/
  slotClk : Option Nat
  /-- 1 (R235): the clamp changed the target of the code that is computed and not latched; reset 0. -/
  satNext : Bool
  /-- 1 (R250): a mapping clamped it; reset 0. -/
  clipNext : Bool
  /-- 1 (R346): the ledger held it; reset 0. -/
  heldNext : Bool
  /-- 9 (R237): m, the frames since the last move, saturating at 256; reset 0. -/
  m : BitVec 9
  /-- 1 (R10, R15): released; reset 1. -/
  released : Bool
  /-- 1 (R17): released for good; reset 0. -/
  forGood : Bool
  /-- 1 (R18): retreated; reset 0. -/
  retreated : Bool
  /-- 1 (R22, R151): held at nominal until the next apply for want of sight; reset 0. -/
  heldNominal : Bool
  /-- 10 (R198): the target of the last frame step other than WAIT; reset 512. -/
  lastTarget : Code
  /-- 1 (R247): the gain that the analogue stage holds; reset 0, G = 1 (R470 with open straps). -/
  gainHeld : BitVec 1
  /-- 1 (R247): a switch window is open; reset 0. -/
  window : Bool
  /-- 1 (R250): the previous frame's mapping clamped; reset 0. -/
  clipRun : Bool
  /-- 16 (R235): saturated frames; reset 0 (R424). -/
  saturated : BitVec 16
  /-- 16 (R250): clipped frames; reset 0 (R424). -/
  clipped : BitVec 16
  /-- 16 (R346): frames held by the ledger; reset 0 (R424). -/
  ledgerHeld : BitVec 16
  /-- 1 (R36): the channel lay beyond its shallow threshold in its last frame; reset 0. -/
  beyond : Bool
  /-- 1 (R357): the Fog flag; reset 0. -/
  fog : Bool
  /-- frames (R363): `clk` of the frame from which the DAC is connected again after a calibration that was abandoned; reset 0. -/
  joinsAt : Nat
  /-- 18 (R354): units found bad since power-up; reset 0. -/
  badUnits : BitVec 18
  /-- 15 × 5 (R240, R355): the unit at each thermometer position; reset DESIGN CHOICE units 0 to 14 (log 5). -/
  positions : List (Fin 18)
  /-- 6, signed (R355): the ladder trim; reset DESIGN CHOICE 0 (log 5). -/
  ladder : Int
  /-- 1 (R355): the INL flag; reset 0. -/
  inl : Bool
  deriving DecidableEq, Repr

/-! ## Sense path -/

/-- One sample of an input with its flags (R258, R259). -/
structure Sample where
  code : Code
  ovr : Bool
  tr : Bool
  deriving DecidableEq, Repr

/-- One frame of a reference (R280): its frame, its unwrapped phase, its word and the count of its resets (R282). -/
structure RefPoint where
  clk : Nat
  phase : Nat
  word : Phase
  gen : Nat
  deriving DecidableEq, Repr

/-- A closed integration whose result is not yet reported (R282, R283). -/
structure Closing where
  iAcc : Int
  qAcc : Int
  n : Nat
  taint : Bool
  timeout : Bool
  epoch : BitVec 48
  deriving DecidableEq, Repr

/-- One monitor input: front end, rank filter, guard, decimator and detector. -/
structure Input where
  /-- (R259, R268): the last valid sample; reset none. -/
  lastValid : Option Code
  /-- 2 (R268): the pre-gain under which `lastValid` was taken; reset ×1, DESIGN CHOICE (log 5). -/
  oldPgain : BitVec 2
  /-- 8 (R268): the coarse offset under which `lastValid` was taken; reset 0, DESIGN CHOICE (log 5). -/
  oldCofs : BitVec 8
  /-- 2 (R268): conversions still to be replaced after a range change; reset 0. -/
  settling : Nat
  /-- (R261): the rank window, newest first; reset empty (R528). -/
  window : List Sample
  /-- (R259, R273): the guard path's own rank window, of actual conversions, newest first; reset empty (R528). -/
  rawWindow : List Code
  /-- (R272): the rank outputs that the fast path holds, newest first; reset empty (R528). -/
  fast : List Code
  /-- (R277): the guard samples counted, newest first: g and whether OVR made it outside; reset empty. -/
  guardHist : List (Nat × Bool)
  /-- 1 (R276): the latest guard sample is outside; reset 0. -/
  outside : Bool
  /-- (R274): consecutive outside samples; reset 0 (R528). -/
  outCount : Nat
  /-- (R275): consecutive inside samples since a trip; reset 0. -/
  inCount : Nat
  /-- 1 (R275): tripped and not re-armed; reset 0 (R528). -/
  tripped : Bool
  /-- 1 (R276): tripped since the last apply tick; reset 0. -/
  trippedSinceApply : Bool
  /-- 1 (R274): a guard sample has completed DWELL outside samples; reset 0. -/
  tripDue : Bool
  /-- (R263): the integrators; reset empty, which stands for 0. -/
  integ : List Int
  /-- (R263): the combs' memories; reset empty, which stands for 0. -/
  comb : List Int
  /-- (R263): the FIR history y, newest first; reset empty, which stands for 0. -/
  fir : List Int
  /-- (R262): input samples since the filter's restart; reset 0. -/
  age : Nat
  /-- (R266): input samples since the last with OVR, none before the first; reset none. -/
  ovrAge : Option Nat
  /-- (R266): input samples since the last with TR, none before the first; reset none. -/
  trAge : Option Nat
  /-- 16 (R266): the latest filter output word; reset 0, DESIGN CHOICE (log 5). -/
  word : BitVec 16
  /-- 56, signed (R281): I_acc; reset 0. -/
  iAcc : Int
  /-- 56, signed (R281): Q_acc; reset 0. -/
  qAcc : Int
  /-- 27 (R281): N; reset 0. -/
  n : Nat
  /-- 1 (R284): an accumulated sample carried OVR or TR; reset 0. -/
  taint : Bool
  /-- 16 (R282): passes through 0 since the integration began; reset 0. -/
  passes : Nat
  /-- (R282): unwrapped reference and its reset count at the previous sample; reset none. -/
  prevTheta : Option (Nat × Nat)
  /-- (R261, R280): the references of the last rank positions, newest first; reset empty. -/
  thetas : List (Nat × Nat)
  /-- (R283): an integration that has closed and is not reported; reset none. -/
  closing : Option Closing
  /-- 1 (R285): the previous result met the threshold condition; reset 0. -/
  met : Bool
  /-- (R279): `clk` from which the free NCO's phase counts; reset 0. -/
  ncoStart : Nat
  /-- 16 (R259): replacements made; reset 0 (R424). -/
  replaced : BitVec 16
  /-- 8 (R286): discarded partial integrations; reset 0 (R424). -/
  discards : BitVec 8
  /-- 1 (R359): the trim did not reach its goals; reset 0. -/
  trimMissed : Bool
  /-- 3 × 16 (R359): the capacitor selections at ×1, ×4 and ×16; reset 0, DESIGN CHOICE (log 5). -/
  selection : Vector (BitVec 16) 3
  deriving DecidableEq, Repr

/-- What the detectors keep of the time before an apply tick (R229, R280): `clk` of its frame 0, ALIGN, and of each drive channel the
references of frames −1 and −2: phase, word and the count of resets. -/
structure RefBefore where
  clk : Nat
  align : BitVec 1
  refs : Vector (List (Nat × Nat × Nat)) 64
  deriving DecidableEq, Repr

/-- The sense path. -/
structure Sense where
  /-- (R280): the references before the latest apply tick, none before the first; reset none. -/
  before : Option RefBefore
  /-- 64 inputs. -/
  input : Vector Input 64
  /-- 4 × 1 (R260): the bank's self-test stands failed; reset 0. -/
  failed : Vector Bool 4
  /-- 4 × 1 (R358): a trim of the bank is under way; reset 0. -/
  trimming : Vector Bool 4
  /-- 4 × frames (R358): `clk` at the start of the bank's latest trim; reset 0. -/
  trimSince : Vector Nat 4
  /-- 4 × 1 (R259): the overrange of input 15 replaces input 0 of the following scan; reset 0. -/
  carry : Vector Bool 4
  deriving DecidableEq, Repr

/-! ## Players -/

/-- The state of a player (Table 6.1). -/
inductive PlayerState where
  | idle | running | ended | stopped
  deriving DecidableEq, Repr

/-- A pending jump (R193): its target, its boundary and the depth of the watching step. -/
structure Pend where
  target : BitVec 10
  bnd : BitVec 2
  depth : Nat
  deriving DecidableEq, Repr

/-- A lane's prefetch (R308, R309): samples of the pass fetched so far, and a read that is admitted and not returned. -/
structure Prefetch where
  held : Nat
  asked : Nat
  outstanding : Bool
  bogged : Bool
  /-- the words of the pass that a wrong decoding delivered, by their index in the segment (R321) -/
  wrong : List (Nat × BitVec 64)
  deriving DecidableEq, Repr

/-- One player. -/
structure Player where
  /-- 2 (Table 6.1): the state; reset IDLE. -/
  state : PlayerState
  /-- 1 (R219): the player was RUNNING when the present frame began; reset 0. -/
  ran : Bool
  /-- 1 (R168, R219): it was RUNNING when the frame before began; reset 0. -/
  ranLast : Bool
  /-- 10 (R183): the index of the step in force; reset 0. -/
  pc : BitVec 10
  /-- 32 (R183): k, the frames that the step has supplied; reset 0. -/
  k : Nat
  /-- 48 (R200): P; reset 0 (R203). -/
  phase : Phase
  /-- 48 (R200): F; reset 0 (R203). -/
  word : Phase
  /-- (R282): the unwrapped phase since the last reset of P; reset 0. -/
  unwrapped : Nat
  /-- (R282): how often P has been reset; reset 0. -/
  gen : Nat
  /-- (R280): the reference of the last frames, newest first; reset empty. -/
  refs : List RefPoint
  /-- 32 (R209): the noise generator; reset 0x00000001 (R203). -/
  noise : BitVec 32
  /-- 10 (R210): the noise value held; reset DESIGN CHOICE 512 (log 5). -/
  noiseValue : Code
  /-- 56 (R213): pos; reset 0. -/
  pos : BitVec 56
  /-- up to 4 × 24 (R190): the loop stack, its top first; reset empty. -/
  loops : List (BitVec 24)
  /-- (R193): the pending jump; reset none. -/
  pend : Option Pend
  /-- 1 (R194): the boundary of the pending jump is met; reset 0. -/
  jumpDue : Bool
  /-- 1 (R197): the WAIT's time-out has passed; reset 0. -/
  timeoutDue : Bool
  /-- 1 (R222): the PLAY in force supplies LEVEL-at-nominal for the rest of its pass; reset 0. -/
  fallback : Bool
  /-- (R529): the fallback jumps and control steps passed in this frame; reset 0. -/
  followed : Nat
  /-- (R529): the PLAY steps left by a fallback in this frame; reset empty. -/
  leftBy : List (BitVec 10)
  /-- 64 × (R308): the prefetch of each lane; reset empty. -/
  lanes : Vector Prefetch 64
  /-- the MODEL's own count of the passes begun, which tells a read of the present pass from one left over (R308; log 121);
  reset DESIGN CHOICE 0 (log 121). -/
  pass : Nat
  /-- 28 (R199): internal events raised in this frame, taken in one frame later, by code; reset 0. -/
  raisedNow : BitVec 32
  /-- 28 (R199): internal events that count as raised in this frame; reset 0. -/
  raisedSeen : BitVec 32
  /-- 8 (R225, Table 13.5): the stop cause; reset 0. -/
  cause : Fin 4
  /-- 16 (R217): in-band markers with index 0b110 or 0b111; reset 0 (R424). -/
  badMarkers : BitVec 16
  deriving DecidableEq, Repr

/-! ## Waveform memory and its integrity -/

/-- The states of a segment other than FREE (Table 9.4). -/
inductive SegState where
  | loading | ready | quarantined
  deriving DecidableEq, Repr

/-- A segment descriptor (Table 9.4). A FREE segment has no entry. -/
structure Segment where
  id : BitVec 16
  state : SegState
  whole : Bool
  listLost : Bool
  len : Nat
  rcvd : Nat
  lists : List Nat
  peakHi : Code
  peakLo : Code
  pages : List Nat
  /-- `clk` at the arrival of the last chunk (R301) -/
  lastChunk : Nat
  /-- held LOADING until the boot image's tag is verified (R462) -/
  sealHold : Bool
  /-- page indices whose number an uncorrectable list-page line lost (R340) -/
  lostPages : List Nat
  /-- unreadable lines that R340 made wanted and that have no active entry -/
  wanted : List Nat
  /-- lines of a wholly quarantined segment that its repair has read and found readable (R340) -/
  readable : List Nat
  /-- uncorrectable lines of the segment's list pages that are not rewritten (R340) -/
  lostLists : List LineAddr
  deriving DecidableEq, Repr

/-- The cause of a Bog-list entry (Table 10.4). -/
inductive BogCause where
  | fetch | scrub | merge | repair
  deriving DecidableEq, Repr

/-- The state of a Bog-list entry (Table 10.4). -/
inductive BogState where
  | active | repaired | retirement | released
  deriving DecidableEq, Repr

/-- A Bog-list entry (Table 10.4). -/
structure BogEntry where
  addr : LineAddr
  owner : BitVec 16
  cause : BogCause
  state : BogState
  tick : BitVec 32
  first : BitVec 32
  /-- the tick in which the entry was created (R328) -/
  born : Nat
  /-- the place of the entry in its region of the DRAM (R337) -/
  slot : Nat
  deriving DecidableEq, Repr

/-- A remap entry: the line and its spare (R334). -/
structure Remap where
  addr : LineAddr
  spare : Vector Byte 64
  deriving DecidableEq, Repr

/-- A merge buffer entry (R332). `repair` marks a line of a quarantined segment (R340), and `map` an update of the segment map,
the bitmap, a list page or the Bog list, whose bytes the typed maps hold (log 122). -/
structure Merge where
  addr : LineAddr
  owner : BitVec 16
  data : Vector Byte 64
  mask : BitVec 64
  since : Nat
  repair : Bool
  map : Bool
  deriving DecidableEq, Repr

/-- A narrow write of the maps that has not entered the merge buffer (R332): its line and its bytes. -/
structure MapWrite where
  addr : LineAddr
  mask : BitVec 64
  deriving DecidableEq, Repr

/-- A controller port (Table 9.6). -/
inductive MemPort where
  | p0 | p1 | p2 | p3 | p4
  deriving DecidableEq, Repr

/-- What a read is for (Table 9.6, R303, R304, R328, R332). -/
inductive ReadKind where
  /-- lane `lane` of a player, channel `chan`, in pass `pass` (R309) -/
  | lane (p : PlayerNo) (lane : Nat) (chan : Chan) (pass : Nat)
  /-- a head load (R304) -/
  | head
  /-- a list read by the map walker (R303) -/
  | list
  /-- a scrub read (R330) -/
  | scrub
  /-- the read of a line that a partial merge buffer entry is to be merged into (R332) -/
  | merge
  /-- the read of an unsent line of a capture ring (R425) -/
  | ring (k : Fin 8)
  /-- the read in erasure mode of a Bog-listed line at a retirement (R328) -/
  | reread
  deriving DecidableEq, Repr

/-- A request of the controller (R305, R307): its port, its line, the frame in which it was asked, and for a read what it is for;
none for a write. -/
structure MemReq where
  port : MemPort
  addr : LineAddr
  owner : BitVec 16
  asked : Nat
  read : Option ReadKind
  /-- 6 (R305): the tag of its read queue entry; 0 while it waits, and for a write -/
  tag : BitVec 6
  deriving DecidableEq, Repr

/-- The self-refresh stages (Table 9.11). -/
inductive SrStage where
  | awake | idleCount | drain | committed | exit
  deriving DecidableEq, Repr

/-- A line of a capture ring (R289, R425). -/
structure CapLine where
  input : Chan
  preset : BitVec 3
  epoch : BitVec 48
  words : List (BitVec 16)
  born : Nat
  /-- the number of the line among those that its stream has written -/
  index : Nat
  /-- it has been read through port P3 for the next CAPTURE frame (R425) -/
  got : Bool
  deriving DecidableEq, Repr

/-- The words of one input that a stream holds and has not written: its preset, the frame of the newest, and the words, newest
last (R288, R289). -/
structure CapWords where
  input : Chan
  preset : BitVec 3
  epoch : BitVec 48
  words : List (BitVec 16)
  deriving DecidableEq, Repr

/-- A capture stream at work (R288, R289). -/
structure Capture where
  /-- 1 (R288): it runs continuously or waits for its trigger; reset 0. -/
  active : Bool
  /-- 1 (R288): its trigger has come, or it needs none; reset 0. -/
  triggered : Bool
  /-- (R288): words still to be written after the trigger, for each input; reset empty. -/
  post : List (Chan × Nat)
  /-- (R288): the words kept before the trigger, and the words of a line not yet whole; reset empty. -/
  words : List CapWords
  /-- (R289): lines written to the ring since it was armed: the next goes to line `written` of the ring, modulo its size; reset
  0. -/
  written : Nat
  /-- (R289): the unsent lines, oldest first; reset empty. -/
  lines : List CapLine
  /-- 32 (R425): lines overwritten since the last CAPTURE frame; reset 0. -/
  gap : Nat
  /-- (R299): the pages of the ring; reset none. -/
  pages : List Nat
  deriving DecidableEq, Repr

/-- The waveform memory, its maps and its integrity state. -/
structure Mem where
  /-- 1 (R108): DRAM is fitted; reset 0. -/
  fitted : Bool
  /-- Gb (R120): the die density; reset 0. -/
  density : Nat
  /-- (R292): the number of ranks; reset 0. -/
  ranks : Nat
  /-- (R294): the line data as (address, byte) pairs in canonical form; reset: nothing listed. -/
  cells : List Host.Cell
  /-- (R298, Table 9.4): the segment map; reset: every segment FREE (R122). -/
  segs : List Segment
  /-- (R298, R299): the pages in use, ascending; reset none. -/
  used : List Nat
  /-- (R337): the active Bog list, oldest first; reset empty (R122). -/
  bog : List BogEntry
  /-- (R337): the history ring, newest first; reset empty (R122). -/
  history : List BogEntry
  /-- (R337): entries that have ever entered the ring; the next takes this place, modulo the ring; reset 0. -/
  historyCount : Nat
  /-- 2 × 16 (R334): remap entries; reset empty. -/
  remap : Vector (List Remap) 2
  /-- 2 × 16 (R332): merge buffer entries, oldest first; reset empty. -/
  merge : Vector (List Merge) 2
  /-- (R332): narrow writes of the maps that have not entered the merge buffer; reset empty. -/
  mapDue : List MapWrite
  /-- 2 (R326): the retired rank and lane of each subchannel; reset none. -/
  retired : Vector (Option (Fin 2 × Fin 5)) 2
  /-- (R323): each DRAM device's distinct corrected lines, as (bank, line key), in the present pass; reset empty. -/
  charged : List (DramDevice × List (Nat × Nat))
  /-- 4 × (R325): distinct uncorrectable lines of this tick, by 2 × rank + subchannel; reset empty. -/
  badLines : Vector (List LineAddr) 4
  /-- 4 × ticks (R325, R328): the tick in which the second of `badLines` came, by 2 × rank + subchannel; reset 0. -/
  badSince : Vector Nat 4
  /-- (R325): a probe that runs: rank, subchannel and the tick of its trigger; reset none. -/
  probe : Option (Fin 2 × Fin 2 × Nat)
  /-- 4 × ticks (R325): since the last probe of each rank and subchannel, by 2 × rank + subchannel; reset 0. -/
  probeTicks : Vector Nat 4
  /-- (R330): the line that the scrubber reads next, as 1,024 × page + line; reset 0, DESIGN CHOICE (log 5). -/
  scrubPos : Nat
  /-- core cycles (R330, R331): of the schedule up to the present frame, less those of the lines issued; reset 0. -/
  scrubDue : Int
  /-- frames (R318, R331): length of the present pass without those in self-refresh; reset 0. -/
  scrubFrames : Nat
  /-- (R331): an interval of the schedule, counted by `clk`, and the lines issued in it; reset 0. -/
  scrubSlot : Nat × Nat
  /-- 3 × 32 (R331): corrected, persistent and uncorrectable lines of the present pass; reset 0. -/
  scrubStats : Nat × Nat × Nat
  /-- 2 × 64 (R305): the read queues, in the order of issue (R311); reset empty. -/
  reads : Vector (List MemReq) 2
  /-- 2 × 32 (R305): the write queues, oldest first; reset empty. -/
  writes : Vector (List MemReq) 2
  /-- (R307): requests that wait for an entry, oldest first; reset empty. -/
  waiting : List MemReq
  /-- 1 (R310): Squall; reset 0. -/
  squall : Bool
  /-- 1 (Table 13.5): Squall was raised since the last STATUS; reset 0. -/
  squallSeen : Bool
  /-- 4 × 4 (R316): REFsb commands of each bank index that are owed and not paid, that of the present tREFI and the postponed ones,
  by 2 × rank + subchannel; reset 0. -/
  credit : Vector (Vector Nat 4) 4
  /-- 4 (R316): REFab commands issued, by 2 × rank + subchannel; the model's own count (log 2); reset 0. -/
  refab : Vector Nat 4
  /-- 1 (R315): 2x refresh rate; reset 0. -/
  hot : Bool
  /-- 3 (R317): the self-refresh stage; reset AWAKE. -/
  sr : SrStage
  /-- 16 (R317): the idle count; reset 0. -/
  srCount : Nat
  /-- 1 (R317): a request arrived in the present tick; reset 0. -/
  requested : Bool
  /-- 1 (R317, R318): a request, a commit that needs DRAM or the loss of permission calls for exit; reset 0. -/
  wakeDue : Bool
  /-- up to 1,024 (R303): the segments whose descriptor and head the cache holds, ascending; reset none. -/
  resident : List (BitVec 16)
  /-- (R303, R321): the words of the cached heads that a wrong decoding delivered, by segment and word; reset none. -/
  headWrong : List (BitVec 16 × Nat × BitVec 64)
  /-- (R303): the list line that the cache holds of a segment, as list page and line; the first line for one not listed; reset
  none. -/
  listLines : List (BitVec 16 × Nat × Nat)
  /-- 8 (R287): the capture streams; reset idle. -/
  capture : Vector Capture 8
  deriving DecidableEq, Repr

/-! ## The ledger -/

/-- A counter record in the flash (Table 10.5). -/
structure Counter where
  base : BitVec 32
  grain : Byte
  reserved : BitVec 24
  tally : BitVec 1024
  deriving DecidableEq, Repr

/-- A ledger region in the flash (Table 10.5): the fields as its bytes hold them, all ones where they are erased. -/
structure Region where
  magic : BitVec 32
  seq : BitVec 32
  /-- the number of rails -/
  rails : BitVec 16
  reserved : BitVec 16
  hcrc : BitVec 32
  counters : Vector Counter 128
  /-- the commit marker -/
  marker : BitVec 32
  /-- the copy of SEQ -/
  copy : BitVec 32
  deriving DecidableEq, Repr

/-- A flash operation of the ledger that runs. -/
inductive LedgerOp where
  /-- a page program that brings record `i` to tally count `t`, on the way to count `goal` (R345) -/
  | tally (i : Fin 128) (t goal : Nat)
  /-- erase of sector `k` of the other region (R348, step 1) -/
  | erase (k : Fin 8)
  /-- program of the other region's header (R348, step 3) -/
  | header
  /-- program of counter record `i` of the other region (R348, step 3) -/
  | record (i : Fin 128)
  /-- program of the other region's commit marker and SEQ copy (R348, step 4) -/
  | commit
  /-- program of the marker bytes of region `r` once more (R348, step 5; R349) -/
  | again (r : Fin 2)
  deriving DecidableEq, Repr

/-- The ledger: record 2 r is EXC of rail r, record 2 r + 1 its DOSE (R342). -/
structure Ledger where
  /-- 32 KiB each (R342): the lower and the upper region; reset erased. -/
  region : Vector Region 2
  /-- 1 (R349): the live region; reset lower, DESIGN CHOICE (log 5). -/
  live : Fin 2
  /-- 1 (R349): a region is selected; reset 0. -/
  selected : Bool
  /-- 128 × 32 (R344): the true counts c; reset 0. -/
  count : Vector Nat 128
  /-- 128 × (R344): the bounds B under the live configuration; reset 1 for DOSE, 0 for EXC. -/
  bound : Vector Nat 128
  /-- (R345): the queue of counters that are due; reset empty. -/
  queue : List (Fin 128)
  /-- (R345, R348): the flash operation that runs; reset none. -/
  op : Option LedgerOp
  /-- 1 (R348): compaction is under way; reset 0. -/
  compacting : Bool
  /-- 4 (R348): sectors of the other region that this compaction has erased; reset 0. -/
  sectors : Nat
  /-- 128 × 32 (R348, step 2): the new BASEs, none before they are computed; reset none. -/
  newBase : Option (Vector (BitVec 32) 128)
  /-- 8 (R348): the step of the program phase: 0 the header, 1 to 128 the records, 129 the marker and the copy, 130 the marker
  again; reset 0. -/
  filled : Nat
  /-- ticks (R350): since the last retry during a write failure; reset 0. -/
  retryTicks : Nat
  /-- 64 × 1 (R346): rails held; reset 0. -/
  held : Vector Bool 64
  /-- 64 × 1 (R36): rails beyond a deep threshold in this tick; reset 0. -/
  deep : Vector Bool 64
  /-- 128 × 1 (R37): counters whose budget is reached; reset 0. -/
  reached : Vector Bool 128
  deriving DecidableEq, Repr

/-! ## Calibration -/

/-- Why a calibration runs (Table 11.3, Table 4.3). -/
inductive CalKind where
  | powerUp | full | background | bankReturn
  deriving DecidableEq, Repr

/-- A drive channel under calibration (R352): its channel, why, and the ticks it has run. -/
structure CalItem where
  chan : Chan
  kind : CalKind
  ticks : Nat
  checked : Bool
  deriving DecidableEq, Repr

/-- A pass over channels and banks (R360): why, the next channel and bank to take (64 and 4 when all are taken), and the drive
banks of which it leaves a channel uncalibrated (R364). The pass of a bank whose supply has returned holds that bank in
`nextBank` and takes no monitor bank. -/
structure CalPass where
  kind : CalKind
  nextChan : Nat
  nextBank : Nat
  missed : Vector Bool 4
  deriving DecidableEq, Repr

/-- Calibration. -/
structure Cal where
  /-- (R352): the channel being calibrated; reset none. -/
  item : Option CalItem
  /-- (R360): the pass that runs; reset none. -/
  pass : Option CalPass
  /-- 7 (R361): the last item of the rotation started: 0 to 63 a channel, 64 to 67 a bank; reset 67, DESIGN CHOICE (log 5). -/
  last : Nat
  /-- 16 (R361): ticks since the last start; reset 0. -/
  since : Nat
  /-- 1 (Table 13.5): a CALIBRATE pass is complete since the last apply; reset 0. -/
  passDone : Bool
  /-- 1 (R110): power-up calibration is complete; reset 0. -/
  powerUpDone : Bool
  /-- ticks (R110): since the end of CORE; reset 0. -/
  sinceCore : Nat
  /-- 4 × 1 (R353): RSET of the bank has been measured in this pass; reset 0. -/
  rsetDone : Vector Bool 4
  /-- 4 × 1 (R353): RSET of the bank has been measured in this cycle of the rotation; reset 0. -/
  rsetCycle : Vector Bool 4
  /-- 4 × 1 (R110, Table 4.3): the bank awaits a calibration, its supply having fallen or a pass having left a channel of it out;
  reset 0. -/
  owed : Vector Bool 4
  deriving DecidableEq, Repr

/-! ## The Bolnos chain -/

/-- A return frame's content (Table 12.4). -/
structure Return where
  ready : Bool
  probtrip : Bool
  diverged : Bool
  retreat : Bool
  missing : Bool
  alignf : Bool
  tick : BitVec 24
  live : BitVec 16
  faults : BitVec 16
  vetoId : BitVec 16
  vetoCode : Byte
  deriving DecidableEq, Repr

/-- A sync frame command that the root has to send at its next boundary (Table 12.6). -/
inductive RootCmd where
  | none | sendPrepare | sendAbort
  deriving DecidableEq, Repr

/-- The chain state of the device. -/
structure Chain where
  /-- 12 (R379): the ID, none while none is held; reset none. -/
  id : Option (BitVec 12)
  /-- 8 (R377): the spine index; reset 0, DESIGN CHOICE (log 5). -/
  spine : Byte
  /-- 8 (R377): the tooth index; reset 0, DESIGN CHOICE (log 5). -/
  tooth : Byte
  /-- 3 × 1 (R367): ports A, B and C hold character alignment; reset 0. -/
  connected : Vector Bool 3
  /-- 1 (R405): the Causeway carries the chain duties; reset 1. -/
  causeway : Bool
  /-- 16 (R382, Table 13.5): ENUMCNT of the latest sync frame, or the root's own; reset 0. -/
  enumcnt : BitVec 16
  /-- (R377): SPINE, TOOTH and KIND of the previous valid sync frame in JOIN; reset none. -/
  lastIndex : Option (Byte × Byte × BitVec 2)
  /-- 1 (R128): the tick is aligned; reset 0. -/
  aligned : Bool
  /-- (R391): consecutive missed ticks; reset 0. -/
  missed : Nat
  /-- 1 (R390): a sync frame valid for the present boundary has arrived; reset 0. -/
  synced : Bool
  /-- 1 (R391): the device is an island; reset 0. -/
  island : Bool
  /-- (R392): consecutive valid sync frames seen as an island; reset 0. -/
  validRun : Nat
  /-- 16 × ps (R385): RTT − TURN of the latest samples, each twice a delay, newest first; reset none. -/
  delays : List Int
  /-- 8 (R385): SEQ of the next measure set; reset 0, DESIGN CHOICE (log 5). -/
  measureSeq : Byte
  /-- (R385): a measure set awaits its echo; reset 0. -/
  measureOut : Bool
  /-- frames (R385): `clk` of the latest measure set, none before the first; reset none. -/
  measureAt : Option Nat
  /-- (R385): consecutive echoes that failed; reset 0. -/
  echoMisses : Nat
  /-- thirds of a ps (R387, Table 13.5): the boundary error, which moves in phase steps of 10/3 ps; reset 0. -/
  boundaryErr : Int
  /-- ticks (R389): for which the error has exceeded 1 ns; reset 0. -/
  errTicks : Nat
  /-- (R392, R388): EPOCH of the latest valid sync frame; reset 0, DESIGN CHOICE (log 5). -/
  rxEpoch : BitVec 48
  /-- 1 (R395): COMMIT has come and applies at the next boundary; reset 0. -/
  commitDue : Bool
  /-- 1 (R395): ROLLBACK has come and applies at the next boundary; reset 0. -/
  rollbackDue : Bool
  /-- 8 (R160): the veto held for the present TXID; reset none. -/
  veto : Option Byte
  /-- 8 (R396): the TXID of the latest PREPARE; reset none. -/
  preparedId : Option Byte
  /-- 1 (R393): a vote runs; reset 0. -/
  voting : Bool
  /-- 1 (R398): DIVERGED; reset 0. -/
  diverged : Bool
  /-- (R400): ticks for which PROBTRIP is still set; reset 0. -/
  probtrip : Nat
  /-- 1 (R399, R400): the last applied commit is in system probation; reset 0. -/
  sysProbation : Bool
  /-- 1 (R373): TXOPEN: the root's own, and elsewhere that of the latest valid sync frame; reset 0. -/
  txopen : Bool
  /-- 1 (R158): the root's TXB awaits the boundary that sends OPEN; reset 0. -/
  openDue : Bool
  /-- (R158, R159): what the root sends at its next boundary; reset none. -/
  rootCmd : RootCmd
  /-- (R397): boundaries since PREPARE, none while no vote runs; reset none. -/
  sincePrepare : Option Nat
  /-- 1 (R397): every merged return of the vote so far meets the conditions; reset 0. -/
  voteGood : Bool
  /-- 8 (R164): SE events that the root queued in this tick; reset 0. -/
  seQueue : BitVec 8
  /-- 8 (R402): SE byte of the sync frame that marked the present boundary; reset 0. -/
  seNext : BitVec 8
  /-- 8 (R402): SE events to be raised in frame 0 of this tick; reset 0. -/
  seRaise : BitVec 8
  /-- 2 (R394): returns of this tick held from ports B and C; reset none. -/
  returns : Vector (Option Return) 2
  /-- 24 (R394): the tick whose merged return was sent last, none before the first; reset none. -/
  returnedTick : Option (BitVec 24)
  /-- (R394, R382): the latest return that this device merged; reset none. -/
  merged : Option Return
  /-- (R382): the LIVE that merged returns have held, and for how many; reset none. -/
  liveRun : Option (BitVec 16 × Nat)
  /-- ticks (R382): of ENUMCNT 0 in the root's JOIN; reset 0. -/
  joinTicks : Nat
  /-- (R403): urgent frames still to be repeated; reset 0. -/
  urgentLeft : Nat
  /-- frames (R403): `clk` of the latest urgent frame of this device's own; reset 0. -/
  urgentAt : Nat
  /-- (R373): the latest sync frame sent on B and on C; reset none. -/
  outSync : Vector (Option (List Byte)) 2
  /-- (R374): the latest return frame sent on A; reset none. -/
  outReturn : Option (List Byte)
  /-- 3 (R375): the latest urgent frame sent on each port; reset none. -/
  outUrgent : Vector (Option (List Byte)) 3
  /-- (R376): the latest measure set sent on A; reset none. -/
  outMeasure : Option (List Byte)
  /-- 3 (R376): the latest echo set sent on each port; reset none. -/
  outEcho : Vector (Option (List Byte)) 3
  /-- 3 (R371): the sets inserted on each port in this frame, in the order in which they go out; reset none. -/
  line : Vector (List LineSet) 3
  /-- 3 (R371, R386): the sets inserted on each port in the frame before; reset none. -/
  lineBefore : Vector (List LineSet) 3
  /-- 48 (R387, R388): the frame count that the latest valid sync frame places, as its value at `clk` 0; none before one while d_A is
  valid; reset none. -/
  rxBase : Option (BitVec 48)
  /-- 48 (R405): the frame count that the Causeway keeps from the sync frames that it forwards, as its value at `clk` 0;
  none before the first; reset none. -/
  wayBase : Option (BitVec 48)
  /-- 7 (R394, R405): the depth that the Causeway infers from the sync frames that it forwards; reset 0. -/
  wayDepth : Nat
  deriving DecidableEq, Repr

/-! ## Content port and telemetry -/

/-- The image being read (R439 to R443). -/
structure ImageRead where
  /-- (R441): a HEADER has been accepted; reset 0. -/
  started : Bool
  /-- 32 (R440): ILEN; reset 0. -/
  ilen : Nat
  /-- 32 (R440): NREC; reset 0. -/
  nrec : Nat
  /-- 1 (R440): SEALED; reset 0. -/
  sealedFlag : Bool
  /-- (R459): the bytes of the image read so far; reset none. -/
  bytes : List Byte
  /-- (R441): records read so far; reset 0. -/
  records : Nat
  /-- (R462): the configuration records held until the tag is verified, in order of arrival; reset none. -/
  held : List (List Byte)
  /-- (R124, R443): the segments that the image began; reset none. -/
  segments : List (BitVec 16)
  /-- (R124): the image that the records build; reset: the defaults. -/
  built : Option Image
  /-- 1 (R443): the END record has come; reset 0. -/
  complete : Bool
  deriving DecidableEq, Repr

/-- The bytes that one accepted content frame brought to the stream and that no record has taken (R142): how many, `clk` of its
frame, and whether it had SOR set (R436). -/
structure Arrival where
  n : Nat
  clk : Nat
  sor : Bool
  deriving DecidableEq, Repr

/-- The content port. -/
structure Port where
  /-- 1 (R409): the link is up; reset 0. -/
  linkUp : Bool
  /-- 1 (R410): Local or Remote Fault is received; reset 0. -/
  rxFault : Bool
  /-- 1 (R421): the partner has paused the device; reset 0. -/
  paused : Bool
  /-- frames (R421): `clk` at which the pause_time of the latest PAUSE is over; reset 0. -/
  pauseEnd : Nat
  /-- up to 256 KiB (R415, R419): the bytes of the content buffer that no record has taken; reset empty. -/
  stream : List Byte
  /-- 32 (R416): the expected offset E, none while no stream is in progress; reset none. -/
  expect : Option (BitVec 32)
  /-- (R142, R436): the bytes of `stream` by the frames that brought them, in their order; reset empty. -/
  arrived : List Arrival
  /-- frames (R417): `clk` at the last payload byte; reset 0. -/
  lastByte : Nat
  /-- 1 (R419): a PAUSE is in force at the partner; reset 0. -/
  pausing : Bool
  /-- 16 (R419): pause_time of the latest PAUSE frame sent; reset none. -/
  outPause : Option (BitVec 16)
  /-- frames (R485): `clk` when VDD_CPORT was last found good; reset 0. -/
  goodAt : Nat
  /-- 48 (R413): the source of the latest accepted content frame; reset none. -/
  host : Option (BitVec 48)
  /-- 18 × 32 (Table 13.7): the STATUS counters; reset 0 (R424). -/
  counter : Vector (BitVec 32) 18
  /-- (R439): the boot image; reset: nothing read. -/
  image : ImageRead
  deriving DecidableEq, Repr

/-- An event log entry (R427). -/
structure EventEntry where
  code : Byte
  sub : Byte
  obj : BitVec 16
  epoch : BitVec 48
  data : BitVec 48
  deriving DecidableEq, Repr

/-- An outcome entry (R430). -/
structure OutcomeEntry where
  code : Byte
  txid : Byte
  obj : Obj
  epoch : BitVec 48
  pin : Byte
  mask : BitVec 64
  deriving DecidableEq, Repr

/-- A detector result (R283, R426). -/
structure DetResult where
  input : Chan
  taint : Bool
  timeout : Bool
  met : Bool
  i : Int
  q : Int
  mag : Nat
  ph : BitVec 16
  n : Nat
  epoch : BitVec 48
  deriving DecidableEq, Repr

/-- A telemetry body with the frame in which it was frozen (R422). -/
structure Frozen where
  epoch : BitVec 48
  body : List Byte
  deriving DecidableEq, Repr

/-- A telemetry frame as sent (R422): its addresses (R413), its EtherType, and its bytes after the EtherType. -/
structure TelFrame where
  dst : BitVec 48
  src : BitVec 48
  etherType : BitVec 16
  payload : List Byte
  deriving DecidableEq, Repr

/-- Telemetry. -/
structure Telemetry where
  /-- 32 (R422): SEQ of the next frame; reset DESIGN CHOICE 0 (log 5). -/
  seq : BitVec 32
  /-- 2,048 entries (R423): the event log, oldest first; reset empty. -/
  events : List EventEntry
  /-- (R427): how many of them were pending at the latest tick boundary and are not yet sent; reset 0. -/
  eventsDue : Nat
  /-- 256 entries (R423): outcomes, oldest first; reset empty. -/
  outcomes : List OutcomeEntry
  /-- 4,096 results (R423): detector results, oldest first; reset empty. -/
  results : List DetResult
  /-- (R426): how many of them were queued at the latest tick boundary and are not yet sent; reset 0. -/
  resultsDue : Nat
  /-- 32 (R426): results dropped; reset 0. -/
  resultsLost : BitVec 32
  /-- (R428): Bog-list entries created or changed since the last BOG frame, one for each line, as they now stand (Table 13.4); reset
  empty. -/
  bogChanges : List BogEntry
  /-- (R339): segments for which a WANTED frame is due; reset none. -/
  wanted : List (BitVec 16)
  /-- ticks (R339): since the last repeat of WANTED frames; reset 0. -/
  wantedTicks : Nat
  /-- (R423): a STATUS frame that waits for the line; reset none. -/
  status : Option Frozen
  /-- (R423): a LEDGER frame that waits for the line; reset none. -/
  ledger : Option Frozen
  /-- (R422): the latest frame sent; reset none. -/
  sent : Option TelFrame
  deriving DecidableEq, Repr

/-! ## Test access -/

/-- The boundary-scan instruction in force (R101, R102). -/
inductive TapInstr where
  | bypass | idcode | samplePreload | extest | extestPulse | extestTrain | clamp | highz
  deriving DecidableEq, Repr

/-- The test access port. -/
structure Tap where
  /-- (R102): the instruction in force; reset IDCODE, PRESUMED from IEEE 1149.1 (log 5). -/
  ir : TapInstr
  /-- 32 (R102): the data register that the instruction captured; reset DESIGN CHOICE 0 (log 5). -/
  dr : BitVec 32
  /-- (R101): the boundary cells; reset none, DESIGN CHOICE (log 5). -/
  cells : List Bool
  /-- 1 (R101): the cells drive the boundary outputs; reset 0. -/
  driving : Bool
  /-- 1 (R101): the boundary outputs are at high impedance; reset 0. -/
  hiZ : Bool
  deriving DecidableEq, Repr

end Sys2Proof.Machine
end

