-- ==== Sys2Proof/Machine/Defaults.lean ====
section
/-! DEFINITION. The values that the parts of the state take at reset: the catalogue defaults (R469, R470, Tables 15.2
to 15.8) and, for each part, its reset value. -/

namespace Sys2Proof.Machine

/-- Eight open straps: code 15 each selects every default of Table 3.10. -/
def openStraps : Vector (BitVec 4) 8 := Vector.replicate 8 15

/-- The default gain of a bank as CHn_GAIN encodes it, 0 for G = 1 and 1 for G = 2 (R99, R470): a strap bit of 1 is G = 1. -/
def strapGain (straps : Vector (BitVec 4) 8) (b : Bank) : BitVec 1 :=
  let bit := match b with
    | 0 => straps[2].getLsbD 2
    | 1 => straps[2].getLsbD 0
    | 2 => straps[3].getLsbD 2
    | 3 => straps[3].getLsbD 0
  if bit then 0 else 1

/-- The pre-gains of banks A and B and of banks C and D, and ALIGN, for an RS4 code (Table 3.11). -/
def rs4Row (code : BitVec 4) : BitVec 2 × BitVec 2 × BitVec 1 :=
  match code.toNat with
  | 15 => (0, 0, 0) | 14 => (1, 1, 0) | 13 => (2, 2, 0) | 12 => (0, 1, 0)
  | 11 => (0, 2, 0) | 10 => (1, 0, 0) | 9 => (1, 2, 0) | 8 => (2, 0, 0)
  | 7 => (2, 1, 0) | 6 => (0, 0, 1) | 5 => (1, 1, 1) | 4 => (2, 2, 1)
  | 3 => (0, 1, 1) | 2 => (1, 0, 1) | 1 => (0, 2, 1) | _ => (2, 0, 1)

/-- The pre-gain of a bank by strap (R470). -/
def strapPgain (straps : Vector (BitVec 4) 8) (b : Bank) : BitVec 2 :=
  let row := rs4Row straps[4]
  if b.val < 2 then row.1 else row.2.1

/-- The catalogue defaults (R469), with the four that the straps give (R470). -/
def defaultParams (straps : Vector (BitVec 4) 8) : Params where
  dev := { txnTimeout := 4096, probation := 256, seMask := 0, telDst := 0, align := (rs4Row straps[4]).2.2,
           guardTab := 0, srIdle := 64, devRetire := 1024, scrubPass := 246, calInterval := 4096, calMon := 1 }
  pin := Vector.replicate 8 { evDeb := 4, mkSrc := 0x1F, mkWidth := 4 }
  player := Vector.replicate 16 { entry := 0, bind := 0, ref := 0x7F, cset := 0 }
  chan := Vector.ofFn fun n =>
    { nom := 512, amp := 1024, sha := 10, ofs := 0, sho := 0, slewStep := 16, slewInt := 1, retStep := 4, retInt := 2,
      shallow := 16, deep := 64, gain := strapGain straps (bankOf n), phase := 0 }
  mon := Vector.ofFn fun n =>
    { pgain := strapPgain straps (bankOf n), cofs := 0, rank := 0, preset := 1, phase := 0, sh := 0, detRef := 0x7F,
      detFreq := 0, detCyc := 256, detSync := 0, detThr := 0, detTdir := 0 }

/-- The default link map: DRVn to MONn and to rail n (R452). -/
def defaultLinks : Vector Link 64 := Vector.ofFn fun n => { mon := some n, rail := n }

/-- Every parameter at its default and no object but the default link map (R443, R469). -/
def defaultImage (straps : Vector (BitVec 4) 8) : Image where
  params := defaultParams straps
  overlays := Vector.replicate 24 []
  programs := Vector.replicate 16 []
  tones := Vector.replicate 8 none
  margins := Vector.replicate 16 none
  csets := Vector.replicate 6 none
  guards := Vector.replicate 8 none
  links := defaultLinks
  plan := none
  budgets := Vector.replicate 64 (0xFFFFFFFF, 0xFFFFFFFF)

/-- The power-up state as a configuration (R469). -/
def powerUpConfiguration (straps : Vector (BitVec 4) 8) : Configuration :=
  { image := defaultImage straps, mode := 0, var := 0, params := defaultParams straps }

/-- Nothing is due. -/
def Due.none : Due :=
  { island := false, rollback := false, apply := false, txnTimeout := false, probationEnd := false,
    calibration := false, status := false, ledger := false, rest := false }

/-- The power domains at reset. -/
def Power.initial : Power where
  good := Vector.replicate 13 false
  stage := .reset
  coreEnded := false
  mkCode := 0
  straps := openStraps
  strapsLatched := false
  driftLatched := false
  drifted := Vector.replicate 8 false
  fitted := Vector.replicate 4 false
  judged := false
  faults := 0
  refValid := false
  locked := false
  clocked := false
  powerUp := true
  key := none
  kcv := none
  rset := Vector.replicate 4 none
  refinMv := 0
  thermal := []
  junction := 0
  junctionActs := 0
  flashAddr := none
  flashMbit := 0

/-- The clock at reset. -/
def Clock.initial : Clock := { epoch := 0, clk := 0, pinsSetAt := 0 }

/-- The pins at reset: status pins low, nothing driven (Table 3.7). -/
def Pins.initial : Pins where
  mode := 0
  var := 0
  stuck := Vector.replicate 3 false
  txHigh := Vector.replicate 3 none
  locking := none
  ev := 0
  rtrLow := false
  rtrDrive := false
  st := 0
  mkLevel := Vector.replicate 8 false
  mkPulse := Vector.replicate 8 none
  mkLevelNext := Vector.replicate 8 none
  mkPulseNext := Vector.replicate 8 none
  raised := 0

/-- Transactions at reset, over an image: IDLE, no shadow, the power-up state live and last-good (R143, R152, R469). -/
def Txn.initial (img : Image) : Txn where
  state := .idle
  shadow := none
  selMode := 0
  selVar := 0
  verdict := none
  validated := false
  closedAt := 0
  count := 0
  limit := 4096
  txid := 0
  live := { image := img, mode := 0, var := 0, params := img.params }
  lastGood := none
  boot := img
  leave := Vector.replicate 64 false
  probation := none
  rollbackPending := false
  seen := Vector.replicate 64 false
  fresh := none
  defaultsDue := false
  due := Due.none

/-- A drive channel at reset: released (R15), at the default nominal code. -/
def Channel.initial : Channel where
  code := 512
  latched := 512
  delayed := none
  mBase := 0
  slotRetreated := false
  gainBase := 0
  gainNext := 0
  slotClk := none
  satNext := false
  clipNext := false
  heldNext := false
  m := 0
  released := true
  forGood := false
  retreated := false
  heldNominal := false
  lastTarget := 512
  gainHeld := 0
  window := false
  clipRun := false
  saturated := 0
  clipped := 0
  ledgerHeld := 0
  beyond := false
  fog := false
  joinsAt := 0
  badUnits := 0
  positions := (List.finRange 18).take 15
  ladder := 0
  inl := false

/-- A monitor input at reset: every path empty (R528). -/
def Input.initial : Input where
  lastValid := none
  oldPgain := 0
  oldCofs := 0
  settling := 0
  window := []
  rawWindow := []
  fast := []
  guardHist := []
  outside := false
  outCount := 0
  inCount := 0
  tripped := false
  trippedSinceApply := false
  tripDue := false
  integ := []
  comb := []
  fir := []
  age := 0
  ovrAge := none
  trAge := none
  word := 0
  iAcc := 0
  qAcc := 0
  n := 0
  taint := false
  passes := 0
  prevTheta := none
  thetas := []
  closing := none
  met := false
  ncoStart := 0
  replaced := 0
  discards := 0
  trimMissed := false
  selection := Vector.replicate 3 0

/-- The sense path at reset. -/
def Sense.initial : Sense where
  before := none
  input := Vector.replicate 64 Input.initial
  failed := Vector.replicate 4 false
  trimming := Vector.replicate 4 false
  trimSince := Vector.replicate 4 0
  carry := Vector.replicate 4 false

/-- An empty prefetch. -/
def Prefetch.empty : Prefetch := { held := 0, asked := 0, outstanding := false, bogged := false, wrong := [] }

/-- A player at reset (R203). -/
def Player.initial : Player where
  state := .idle
  ran := false
  ranLast := false
  pc := 0
  k := 0
  phase := 0
  word := 0
  unwrapped := 0
  gen := 0
  refs := []
  noise := 1
  noiseValue := 512
  pos := 0
  loops := []
  pend := none
  jumpDue := false
  timeoutDue := false
  fallback := false
  followed := 0
  leftBy := []
  lanes := Vector.replicate 64 Prefetch.empty
  pass := 0
  raisedNow := 0
  raisedSeen := 0
  cause := 0
  badMarkers := 0

/-- A capture stream at reset. -/
def Capture.initial : Capture where
  active := false
  triggered := false
  post := []
  words := []
  written := 0
  lines := []
  gap := 0
  pages := []

/-- The waveform memory at reset: no DRAM, nothing listed. -/
def Mem.initial : Mem where
  fitted := false
  density := 0
  ranks := 0
  cells := []
  segs := []
  used := []
  bog := []
  history := []
  historyCount := 0
  remap := Vector.replicate 2 []
  merge := Vector.replicate 2 []
  mapDue := []
  retired := Vector.replicate 2 none
  charged := []
  badLines := Vector.replicate 4 []
  badSince := Vector.replicate 4 0
  probe := none
  probeTicks := Vector.replicate 4 0
  scrubPos := 0
  scrubDue := 0
  scrubFrames := 0
  scrubSlot := (0, 0)
  scrubStats := (0, 0, 0)
  reads := Vector.replicate 2 []
  writes := Vector.replicate 2 []
  waiting := []
  squall := false
  squallSeen := false
  credit := Vector.replicate 4 (Vector.replicate 4 0)
  refab := Vector.replicate 4 0
  hot := false
  sr := .awake
  srCount := 0
  requested := false
  wakeDue := false
  resident := []
  headWrong := []
  listLines := []
  capture := Vector.replicate 8 Capture.initial

/-- An erased ledger region. -/
def Region.erasedRegion : Region where
  magic := 0xFFFFFFFF
  seq := 0xFFFFFFFF
  rails := 0xFFFF
  reserved := 0xFFFF
  hcrc := 0xFFFFFFFF
  counters := Vector.replicate 128 { base := 0xFFFFFFFF, grain := 0xFF, reserved := 0xFFFFFF, tally := BitVec.allOnes 1024 }
  marker := 0xFFFFFFFF
  copy := 0xFFFFFFFF

/-- The ledger at reset: both regions erased. -/
def Ledger.initial : Ledger where
  region := Vector.replicate 2 Region.erasedRegion
  live := 0
  selected := false
  count := Vector.replicate 128 0
  bound := Vector.ofFn fun i => if i.val % 2 = 1 then 1 else 0
  queue := []
  op := none
  compacting := false
  sectors := 0
  newBase := none
  filled := 0
  retryTicks := 0
  held := Vector.replicate 64 false
  deep := Vector.replicate 64 false
  reached := Vector.replicate 128 false

/-- Calibration at reset. -/
def Cal.initial : Cal where
  item := none
  pass := none
  last := 67
  since := 0
  passDone := false
  powerUpDone := false
  sinceCore := 0
  rsetDone := Vector.replicate 4 false
  rsetCycle := Vector.replicate 4 false
  owed := Vector.replicate 4 false

/-- The chain at reset: the Causeway carries the chain duties (R405). -/
def Chain.initial : Chain where
  id := none
  spine := 0
  tooth := 0
  connected := Vector.replicate 3 false
  causeway := true
  enumcnt := 0
  lastIndex := none
  aligned := false
  missed := 0
  synced := false
  island := false
  validRun := 0
  delays := []
  measureSeq := 0
  measureOut := false
  measureAt := none
  echoMisses := 0
  boundaryErr := 0
  errTicks := 0
  rxEpoch := 0
  commitDue := false
  rollbackDue := false
  veto := none
  preparedId := none
  voting := false
  diverged := false
  probtrip := 0
  sysProbation := false
  txopen := false
  openDue := false
  rootCmd := .none
  sincePrepare := none
  voteGood := false
  seQueue := 0
  seNext := 0
  seRaise := 0
  returns := Vector.replicate 2 none
  returnedTick := none
  merged := none
  liveRun := none
  joinTicks := 0
  urgentLeft := 0
  urgentAt := 0
  outSync := Vector.replicate 2 none
  outReturn := none
  outUrgent := Vector.replicate 3 none
  outMeasure := none
  outEcho := Vector.replicate 3 none
  line := Vector.replicate 3 []
  lineBefore := Vector.replicate 3 []
  rxBase := none
  wayBase := none
  wayDepth := 0

/-- No image has been read. -/
def ImageRead.initial : ImageRead where
  started := false
  ilen := 0
  nrec := 0
  sealedFlag := false
  bytes := []
  records := 0
  held := []
  segments := []
  built := none
  complete := false

/-- The content port at reset. -/
def Port.initial : Port where
  linkUp := false
  rxFault := false
  paused := false
  pauseEnd := 0
  stream := []
  expect := none
  arrived := []
  lastByte := 0
  pausing := false
  outPause := none
  goodAt := 0
  host := none
  counter := Vector.replicate 18 0
  image := ImageRead.initial

/-- Telemetry at reset. -/
def Telemetry.initial : Telemetry where
  seq := 0
  events := []
  eventsDue := 0
  outcomes := []
  results := []
  resultsDue := 0
  resultsLost := 0
  bogChanges := []
  wanted := []
  wantedTicks := 0
  status := none
  ledger := none
  sent := none

/-- The test access port at reset. -/
def Tap.initial : Tap := { ir := .idcode, dr := 0, cells := [], driving := false, hiZ := false }

end Sys2Proof.Machine
end

