-- ==== Sys2Proof/Machine/State.lean ====
section
/-! DEFINITION. The state of the block: everything that the spec gives the PLO-6410, as plain data, its value right
after reset, and the reasons for which the block stops. -/

namespace Sys2Proof.Machine

/-- Reasons for which the block stops. -/
inductive Fault where
  /-- A line read names a line that the fitted DRAM does not hold (R292, Table 9.1). Raised by LINE_READ_DONE.
  Safe: the machine stops, and no claim follows. -/
  | noSuchLine
  deriving DecidableEq, Repr

/-- Reasons for which the model refuses a command. -/
inductive Refusal where
  /-- The command has no meaning in this model yet. Raised by `exec` alone. Safe. -/
  | notModelled (mnemonic : String)
  deriving DecidableEq, Repr

/-! ## The block -/

/-- The state of the block, and the commands that wait. -/
structure State where
  power : Power
  clock : Clock
  pins : Pins
  txn : Txn
  chan : Vector Channel 64
  sense : Sense
  player : Vector Player 16
  mem : Mem
  ledger : Ledger
  cal : Cal
  chain : Chain
  port : Port
  tel : Telemetry
  tap : Tap
  /-- The model's own field: how many free values have been taken (log 3); reset DESIGN CHOICE 0. -/
  freeCount : Nat
  /-- The commands that wait, first in, first out; reset empty. -/
  pending : List Instr
  deriving DecidableEq, Repr

/-- The machine right after reset: nothing powered is trusted yet, every domain is held in reset (R104), every output is
released (R15), the power-up state holds (R469) and no command waits. -/
def State.reset : State where
  power := Power.initial
  clock := Clock.initial
  pins := Pins.initial
  txn := Txn.initial (defaultImage openStraps)
  chan := Vector.replicate 64 Channel.initial
  sense := Sense.initial
  player := Vector.replicate 16 Player.initial
  mem := Mem.initial
  ledger := Ledger.initial
  cal := Cal.initial
  chain := Chain.initial
  port := Port.initial
  tel := Telemetry.initial
  tap := Tap.initial
  freeCount := 0
  pending := []

end Sys2Proof.Machine
end

