-- ==== Sys2Proof/Machine/Bits.lean ====
section
/-! DEFINITION. Bit fields, byte order (R7, R8), the CRCs (R433, R375), saturating and rounding arithmetic (R234), and
the tables and roots of the tone detectors (R281, R283). -/

namespace Sys2Proof.Machine

/-- The number that a byte string holds, little-endian (R8). -/
def leNat : List Byte → Nat
  | [] => 0
  | b :: bs => b.toNat + 256 * leNat bs

/-- The `k` low bytes of a number, little-endian (R8). -/
def leBytes : Nat → Nat → List Byte
  | 0, _ => []
  | k + 1, n => BitVec.ofNat 8 n :: leBytes k (n / 256)

/-- The `len` bytes of a byte string from offset `off`. -/
def slice (bs : List Byte) (off len : Nat) : List Byte := (bs.drop off).take len

/-- The little-endian field of `len` bytes at offset `off`; bytes beyond the end count as 0. -/
def fieldAt (bs : List Byte) (off len : Nat) : Nat := leNat (slice bs off len)

/-- Whether every byte is 0. -/
def allZero (bs : List Byte) : Bool := bs.all (· == 0)

/-- The number that a byte string holds, most significant byte first (IEEE 802.3 order, R8). -/
def beNat (bs : List Byte) : Nat := leNat bs.reverse

/-- The signed number in the low `w` bits. -/
def signedOf (w : Nat) (n : Nat) : Int := (BitVec.ofNat w n).toInt

/-- Saturation to a range. -/
def satInt (lo hi x : Int) : Int := if x < lo then lo else if hi < x then hi else x

/-- The rounding shift of R234. -/
def rsh (x : Int) (k : Nat) : Int := if k = 0 then x else (x + 2 ^ (k - 1)) / 2 ^ k

/-- A code of 10 bits from an integer, clamped to 0 to 1023. -/
def clampCode (x : Int) : Code := BitVec.ofNat 10 (satInt 0 1023 x).toNat

/-- Two's complement of `w` bits. -/
def wrapSigned (w : Nat) (x : Int) : Int := (BitVec.ofInt w x).toInt

/-- One byte of the CRC-32 of IEEE 802.3, reflected. -/
def crc32Byte (c : BitVec 32) (b : Byte) : BitVec 32 :=
  let step (c : BitVec 32) : BitVec 32 := if c.getLsbD 0 then (c >>> 1) ^^^ 0xEDB88320#32 else c >>> 1
  step (step (step (step (step (step (step (step (c ^^^ b.zeroExtend 32))))))))

/-- The CRC-32 of R433 over a byte string. -/
def crc32 (bs : List Byte) : BitVec 32 := ~~~ (bs.foldl crc32Byte 0xFFFFFFFF)

/-- One byte of the CRC-8 of R375. -/
def crc8Byte (c b : Byte) : Byte :=
  let step (c : Byte) : Byte := if c.getLsbD 7 then (c <<< 1) ^^^ 0x07#8 else c <<< 1
  step (step (step (step (step (step (step (step (c ^^^ b))))))))

/-- The CRC-8 of R375, with initial value 0x00. -/
def crc8 (bs : List Byte) : Byte := bs.foldl crc8Byte 0

/-- The majority of three samples (R81). -/
def majority (a b c : Bool) : Bool := (a && b) || (a && c) || (b && c)

/-- The filtered levels of a run of samples, oldest first: one for each sample that has two before it (R81). -/
def filtered : List Bool → List Bool
  | a :: b :: c :: rest => majority a b c :: filtered (b :: c :: rest)
  | _ => []

/-- The filtered codes of a run of sampled codes: the majority bit by bit (R81). -/
def filteredCodes {w : Nat} : List (BitVec w) → List (BitVec w)
  | a :: b :: c :: rest => ((a &&& b) ||| (a &&& c) ||| (b &&& c)) :: filteredCodes (b :: c :: rest)
  | _ => []

/-- The last `n` elements of a list. -/
def lastN {α : Type} (n : Nat) (l : List α) : List α := l.drop (l.length - n)

/-- The members of a mask, ascending. -/
def maskMembers (m : BitVec 64) : List Chan := (List.finRange 64).filter fun n => m.getLsbD n.val

/-- The greatest `r` of the bits from `i` down with `r² ≤ x`. -/
def isqrtFrom : Nat → Nat → Nat → Nat
  | 0, r, x => if (r + 1) * (r + 1) ≤ x then r + 1 else r
  | i + 1, r, x => isqrtFrom i (if (r + 2 ^ (i + 1)) * (r + 2 ^ (i + 1)) ≤ x then r + 2 ^ (i + 1) else r) x

/-- The square root of a number below 2^64, rounded to the nearest integer (R283). -/
def sqrtRound (x : Nat) : Nat :=
  let r := isqrtFrom 31 0 x
  if r * r + r < x then r + 1 else r

/-- The scale of the fixed-point sines: 2^96. -/
def trigOne : Nat := 2 ^ 96

/-- π in units of 2^-96. -/
def trigPi : Nat := 248902613312231085230521944622

/-- The alternating series that sums `x^m / m!` for `m = m0, m0 + 2, …`, in units of 2^-96. -/
def trigSeries : Nat → Nat → Int → Int → Int
  | 0, _, _, _ => 0
  | k + 1, m, x, term => term + trigSeries k (m + 2) x (-(term * x / trigOne * x / trigOne) / ((m + 1) * (m + 2)))

/-- cos(π n / d) for 0 ≤ n / d ≤ 1/2, in units of 2^-96. DEDUCED: what is rounded from it rounds as the exact cosine (log entry
146). -/
def cosFix (n d : Nat) : Int := trigSeries 20 0 (trigPi * n / d : Nat) trigOne

/-- sin(π n / d) for 0 ≤ n / d ≤ 1/2, in units of 2^-96. -/
def sinFix (n d : Nat) : Int := trigSeries 20 1 (trigPi * n / d : Nat) (trigPi * n / d : Nat)

/-- The integer nearest to `num / den`, an exact half away from zero (R281, R283). -/
def roundDiv (num : Int) (den : Nat) : Int :=
  if 0 ≤ num then (2 * num + den) / (2 * den) else -((2 * -num + den) / (2 * den))

/-- round(32,767 cos(2π a / 4,096)) (R281). -/
def ctab (a : Nat) : Int :=
  let a := a % 4096
  let quarter (j : Nat) : Int := roundDiv (32767 * cosFix j 2048) trigOne
  if a ≤ 1024 then quarter a
  else if a ≤ 2048 then -(quarter (2048 - a))
  else if a ≤ 3072 then -(quarter (a - 2048))
  else quarter (4096 - a)

/-- round(32,767 sin(2π a / 4,096)) (R281): the cosine a quarter turn earlier. -/
def stab (a : Nat) : Int := ctab (a + 3072)

/-- Whether the direction (x, y), in the first quadrant, lies at `(2 j − 1) π / 65,536` or beyond. -/
def beyondStep (x y : Int) (j : Nat) : Bool := 0 ≤ y * cosFix (2 * j - 1) 65536 - x * sinFix (2 * j - 1) 65536

/-- The greatest `j` of the bits from `i` down that `beyondStep` admits. -/
def angleFrom : Nat → Int → Int → Nat → Nat
  | 0, x, y, r => if beyondStep x y (r + 1) then r + 1 else r
  | i + 1, x, y, r => angleFrom i x y (if beyondStep x y (r + 2 ^ (i + 1)) then r + 2 ^ (i + 1) else r)

/-- round(atan2(q, i) × 65,536 / 2π) mod 65,536, and 0 at the origin (R283). -/
def phaseOf (i q : Int) : BitVec 16 :=
  if i = 0 ∧ q = 0 then 0
  else
    let (quad, x, y) :=
      if 0 < i ∧ 0 ≤ q then (0, i, q)
      else if i ≤ 0 ∧ 0 < q then (1, q, -i)
      else if i < 0 ∧ q ≤ 0 then (2, -i, -q)
      else (3, -q, i)
    let r := angleFrom 13 x y 0
    -- within half a step of the next axis
    BitVec.ofNat 16 (quad * 16384 + (if beyondStep x y (r + 1) then r + 1 else r))

/-- A number put in its place in an ascending list. -/
def insertAsc (x : Int) : List Int → List Int
  | [] => [x]
  | y :: ys => if x ≤ y then x :: y :: ys else y :: insertAsc x ys

/-- A list in ascending order. -/
def sortAsc (l : List Int) : List Int := l.foldr insertAsc []

/-- A flag at a bit of a byte. -/
def bitAt (b : Bool) (i : Nat) : Nat := if b then 2 ^ i else 0

end Sys2Proof.Machine
end

