-- ==== Sys2Proof/Machine/LineCode.lean ====
section
/-! DEFINITION. The line code: Reed-Solomon (80,64) over GF(2^8) (R319 to R321). -/

namespace Sys2Proof.Machine

/-- Multiplication by α = 0x02 in the field of x^8 + x^4 + x^3 + x^2 + 1. -/
def gfDouble (a : Byte) : Byte := if a.getLsbD 7 then (a <<< 1) ^^^ 0x1D else a <<< 1

/-- The product of `a` with the low `n` bits of `b`. -/
def gfMulBits : Nat → Byte → Byte → Byte
  | 0, _, _ => 0
  | n + 1, a, b => (if b.getLsbD 0 then a else 0) ^^^ gfMulBits n (gfDouble a) (b >>> 1)

/-- Multiplication in GF(2^8). -/
def gfMul (a b : Byte) : Byte := gfMulBits 8 a b

/-- Powers. -/
def gfPow (a : Byte) : Nat → Byte
  | 0 => 1
  | n + 1 => gfMul a (gfPow a n)

/-- α^n. -/
def gfAlpha (n : Nat) : Byte := gfPow 2 (n % 255)

/-- The inverse of a non-zero element: its 254th power. -/
def gfInv (a : Byte) : Byte :=
  let a2 := gfMul a a; let a4 := gfMul a2 a2; let a8 := gfMul a4 a4; let a16 := gfMul a8 a8
  let a32 := gfMul a16 a16; let a64 := gfMul a32 a32; let a128 := gfMul a64 a64
  gfMul a2 (gfMul a4 (gfMul a8 (gfMul a16 (gfMul a32 (gfMul a64 a128)))))

/-- A polynomial's value at `x`, its coefficients from the highest degree down. -/
def polyEval (p : List Byte) (x : Byte) : Byte := p.foldl (fun acc c => gfMul acc x ^^^ c) 0

/-- The product of a polynomial, low degree first, with (1 + a x). -/
def polyMulLinear (p : List Byte) (a : Byte) : List Byte :=
  List.zipWith (· ^^^ ·) (p ++ [0]) (0 :: p.map (gfMul a))

/-- g(x) without its leading 1, from degree 15 down (R319). -/
def rsGenerator : List Byte :=
  ((List.range 16).foldl (fun g i => List.zipWith (· ^^^ ·) (g ++ [0]) (0 :: g.map (gfMul (gfAlpha i)))) [1]).tail

/-- The sixteen check symbols c_64 to c_79 of 64 data bytes: the remainder of the data by g(x) (R320). -/
def rsCheck (data : List Byte) : List Byte :=
  data.foldl (fun r d =>
    let f := d ^^^ r.headD 0
    List.zipWith (· ^^^ ·) (r.tail ++ [0]) (rsGenerator.map (gfMul f))) (List.replicate 16 0)

/-- The codeword of 64 data bytes. -/
def rsEncode (data : List Byte) : List Byte := data ++ rsCheck data

/-- The sixteen syndromes of a received word. -/
def rsSyndromes (word : List Byte) : List Byte := (List.range 16).map fun j => polyEval word (gfAlpha j)

/-- The sum over `i` of `p_i q_(n-i)`, polynomials low degree first. -/
def convAt (p q : List Byte) (n : Nat) : Byte :=
  (List.range (n + 1)).foldl (fun acc i => acc ^^^ gfMul (p.getD i 0) (q.getD (n - i) 0)) 0

/-- The state of the Berlekamp-Massey iteration. -/
structure BmState where
  lambda : List Byte
  prev : List Byte
  len : Nat
  deriving DecidableEq, Repr

/-- One step of Berlekamp and Massey at syndrome `r`, with `f` erasures. -/
def bmStep (synd : List Byte) (f : Nat) (s : BmState) (r : Nat) : BmState :=
  let delta := convAt s.lambda synd r
  let shifted := 0 :: s.prev
  if delta = 0 then { s with prev := shifted }
  else
    let n := max s.lambda.length shifted.length
    let pad (l : List Byte) : List Byte := l ++ List.replicate (n - l.length) 0
    let lambda := List.zipWith (fun a b => a ^^^ gfMul delta b) (pad s.lambda) (pad shifted)
    if 2 * s.len ≤ r + f then
      { lambda := lambda, prev := s.lambda.map (gfMul (gfInv delta)), len := r + 1 + f - s.len }
    else { lambda := lambda, prev := shifted, len := s.len }

/-- What decoding a received word gives (R321, Table 10.1). -/
inductive Decoded where
  | clean
  | corrected (errors : List (Fin 80 × Byte))
  | uncorrectable
  deriving DecidableEq, Repr

/-- The locator of symbol `i`: α^(79 − i), from c(x) = Σ c_i x^(79 − i) (R320). -/
def rsLocator (i : Nat) : Byte := gfAlpha (79 - i)

/-- A polynomial low degree first, at `x`. -/
def polyEvalLow (p : List Byte) (x : Byte) : Byte := polyEval p.reverse x

/-- Decoding with erasures at `erased` (R321): errors and erasures with 2e + f ≤ 16 are corrected. The correction found
is checked against every syndrome, so a word that no such pattern explains is uncorrectable. -/
def rsDecode (word : List Byte) (erased : List (Fin 80)) : Decoded :=
  let synd := rsSyndromes word
  if synd.all (· == 0) then .clean
  else
    let f := erased.length
    let gamma := erased.foldl (fun p i => polyMulLinear p (rsLocator i.val)) [1]
    let bm := ((List.range 16).drop f).foldl (bmStep synd f) { lambda := gamma, prev := gamma, len := f }
    let found := (List.finRange 80).filter fun i => polyEvalLow bm.lambda (gfInv (rsLocator i.val)) == 0
    let deg := bm.lambda.length - ((bm.lambda.reverse.takeWhile (· == 0)).length + 1)
    if found.length ≠ deg ∨ 2 * (deg - f) + f > 16 then .uncorrectable
    else
      let omega := (List.range 16).map (convAt bm.lambda synd)
      let deriv (x : Byte) : Byte :=
        (List.range bm.lambda.length).foldl
          (fun acc i => if i % 2 = 1 then acc ^^^ gfMul (bm.lambda.getD i 0) (gfPow x (i - 1)) else acc) 0
      let errs := found.map fun i =>
        let xi := gfInv (rsLocator i.val)
        (i, gfMul (rsLocator i.val) (gfMul (polyEvalLow omega xi) (gfInv (deriv xi))))
      let fixed := errs.foldl (fun w e => w.set e.1.val (w.getD e.1.val 0 ^^^ e.2)) word
      if (rsSyndromes fixed).all (· == 0) then .corrected (errs.filter fun e => e.2 != 0) else .uncorrectable

/-- A word with an error pattern added. -/
def addErrors (word : List Byte) (errs : List (Fin 80 × Byte)) : List Byte :=
  errs.foldl (fun w e => w.set e.1.val (w.getD e.1.val 0 ^^^ e.2)) word

/-- The byte lane of a symbol, and so the DRAM device that holds it (R320). -/
def laneOf (i : Fin 80) : Fin 5 := if i.val < 64 then ⟨i.val % 4, by omega⟩ else 4

/-- The sixteen symbols that one DRAM device holds (R320). -/
def symbolsOf (lane : Fin 5) : List (Fin 80) := (List.finRange 80).filter fun i => laneOf i = lane

end Sys2Proof.Machine
end

