-- ==== Sys2Proof/Machine/Memory.lean ====
section
/-! DEFINITION. The waveform memory as an addressed RAM: bytes in canonical form, lines, the bank map (R294 to R296), page
allocation (R298, R299), and the maps as the DRAM holds them (Tables 9.3, 9.4 and 10.4). -/

namespace Sys2Proof.Machine

/-- What an address that is not listed reads as. DESIGN CHOICE: 0 (log 6). -/
def blankByte : Byte := 0

/-- The canonical form: addresses strictly rising, and no entry equal to what an unlisted address reads as. -/
def Memory.wf (m : List Host.Cell) : Bool :=
  match m with
  | [] => true
  | (_, b) :: [] => b != blankByte
  | (a, b) :: (a', b') :: rest => decide (a < a') && (b != blankByte) && Memory.wf ((a', b') :: rest)

/-- The byte at an address. -/
def cellRead : List Host.Cell → Nat → Byte
  | [], _ => blankByte
  | (a, b) :: rest, x => if x = a then b else if x < a then blankByte else cellRead rest x

/-- One byte written; the canonical form is kept. -/
def cellWrite : List Host.Cell → Nat → Byte → List Host.Cell
  | [], x, v => if v = blankByte then [] else [(x, v)]
  | (a, b) :: rest, x, v =>
    if x < a then (if v = blankByte then (a, b) :: rest else (x, v) :: (a, b) :: rest)
    else if x = a then (if v = blankByte then rest else (a, v) :: rest)
    else (a, b) :: cellWrite rest x v

/-- Bytes written from an address on. -/
def cellWriteAll : List Host.Cell → Nat → List Byte → List Host.Cell
  | m, _, [] => m
  | m, x, v :: vs => cellWriteAll (cellWrite m x v) (x + 1) vs

/-- `k` bytes read from an address on. -/
def cellReadAll (m : List Host.Cell) (x : Nat) : Nat → List Byte
  | 0 => []
  | k + 1 => cellRead m x :: cellReadAll m (x + 1) k

/-- The DRAM coordinates of a line (R296). -/
structure DramAddr where
  sub : Fin 2
  rank : Nat
  bg : Nat
  ba : Nat
  row : Nat
  col : Nat
  deriving DecidableEq, Repr

/-- The bank slot of line `o'` of a page that segment `owner` owns; owner 0 for pages that no segment owns (R296). -/
def bankSlot (a : LineAddr) (owner : BitVec 16) : Nat := (a.line.val + owner.toNat) % 64

/-- The rows of a bank for a die density (Table 9.1). -/
def rowsOf (density : Nat) : Nat :=
  match density with
  | 16 => 65536
  | 24 => 98304
  | 32 => 131072
  | _ => 0

/-- The computation of R296. -/
def dramAddr (density : Nat) (a : LineAddr) (owner : BitVec 16) : DramAddr :=
  let slot := bankSlot a owner
  let cb := a.line.val / 64
  { sub := ⟨slot % 2, by omega⟩
    rank := a.page / 4 / rowsOf density
    bg := slot / 2 % 8
    ba := slot / 16 % 4
    row := a.page / 4 % rowsOf density
    col := (16 * (a.page % 4) + cb) * 16 }

/-- The subchannel of a line (R296). -/
def subOf (a : LineAddr) (owner : BitVec 16) : Fin 2 := ⟨bankSlot a owner % 2, by omega⟩

/-- The first byte address of a line's data: a page holds 1,024 lines of 64 bytes, in the order of column block and
bank slot. -/
def lineBase (a : LineAddr) (owner : BitVec 16) : Nat :=
  (a.page * 1024 + a.line.val / 64 * 64 + bankSlot a owner) * 64

/-- The pages of the fitted DRAM (Table 9.1): four to a row. -/
def Mem.pageCount (m : Mem) : Nat := 4 * rowsOf m.density * m.ranks

/-- Rank 1's probe page: the highest-numbered page of a two-rank board (R325). -/
def Mem.isProbePage (m : Mem) (p : Nat) : Bool := m.ranks == 2 && p + 1 == m.pageCount

/-- Whether a page may be allocated: not reserved, not the probe page, and fitted (R298, R325). -/
def Mem.allocatable (m : Mem) (p : Nat) : Bool := decide (64 ≤ p) && decide (p < m.pageCount) && !m.isProbePage p

/-- The lowest page from `p` on that is not in the ascending list of used pages. -/
def lowestFree : Nat → List Nat → Nat
  | p, [] => p
  | p, u :: us => if u = p then lowestFree (p + 1) us else if u < p then lowestFree p us else p

/-- The page that R299 takes next: the lowest-numbered free page, none when there is none. -/
def Mem.nextPage (m : Mem) : Option Nat :=
  let p := lowestFree 64 m.used
  if m.allocatable p then some p else none

/-- An ascending list with one more member. -/
def insertSorted (x : Nat) : List Nat → List Nat
  | [] => [x]
  | y :: ys => if x < y then x :: y :: ys else if x = y then y :: ys else y :: insertSorted x ys

/-! ## Whose page -/

/-- The descriptor of a segment; none when it is FREE. -/
def Mem.seg (m : Mem) (id : BitVec 16) : Option Segment := m.segs.find? fun g => g.id == id

/-- The kinds of page (Table 10.3). -/
inductive PageKind where
  | reserved | probe | free
  | data (id : BitVec 16) (j : Nat)
  | list (id : BitVec 16) (k : Nat)
  | ring (k : Fin 8)
  deriving DecidableEq, Repr

/-- The kind of a page (R298, R325, R299). -/
def Mem.pageKind (m : Mem) (p : Nat) : PageKind :=
  if p < 64 then .reserved
  else if m.isProbePage p then .probe
  else
    match m.segs.findSome? fun g =>
        if g.pages.contains p then some (PageKind.data g.id (g.pages.findIdx (· == p)))
        else if g.lists.contains p then some (PageKind.list g.id (g.lists.findIdx (· == p)))
        else none with
    | some k => k
    | none =>
      match (List.finRange 8).find? fun k => (m.capture[k]).pages.contains p with
      | some k => .ring k
      | none => .free

/-- S of R296 for a page: the segment that owns it as a data page, and otherwise 0. -/
def PageKind.owner (k : PageKind) : BitVec 16 :=
  match k with
  | .data id _ => id
  | .reserved | .probe | .free | .list _ _ | .ring _ => 0

/-- The rank of a line. -/
def Mem.rankOf (m : Mem) (a : LineAddr) : Fin 2 := if rowsOf m.density ≤ a.page / 4 then 1 else 0

/-- The probe lines are written without encoding, and are neither scrubbed nor read as lines (R325, Table 10.3). -/
def Mem.isProbeLine (m : Mem) (a : LineAddr) : Bool :=
  (a.page == 63 || m.isProbePage a.page) && decide (1022 ≤ a.line.val)

/-! ## The maps as the DRAM holds them (R298, R337)

The typed maps of the state are the device's maps; here is the content that they give the lines of the reserved region and of the
list pages. -/

/-- The code of a segment's STATE (Table 9.4). -/
def SegState.code (st : SegState) : Byte :=
  match st with
  | .loading => 1 | .ready => 2 | .quarantined => 3

/-- A segment descriptor (Table 9.4): 32 bytes. -/
def Segment.encode (g : Segment) : List Byte :=
  leBytes 2 g.id.toNat ++ [g.state.code, BitVec.ofNat 8 (g.whole.toNat + 2 * g.listLost.toNat)] ++ leBytes 4 g.len ++
    leBytes 4 g.rcvd ++ leBytes 4 (g.lists.headD 0) ++ leBytes 2 g.peakHi.toNat ++ leBytes 2 g.peakLo.toNat ++
    leBytes 4 g.pages.length ++ List.replicate 8 0

/-- The descriptor of an ID (Table 9.4): that of a FREE segment holds its ID alone. -/
def Mem.descriptor (m : Mem) (id : Nat) : List Byte :=
  (m.seg (BitVec.ofNat 16 id)).elim (leBytes 2 id ++ List.replicate 30 0) Segment.encode

/-- The byte of the free-page bitmap for pages 8 k to 8 k + 7: a bit is 1 when its page is free (Table 9.3). -/
def Mem.bitmapByte (m : Mem) (k : Nat) : Byte :=
  BitVec.ofNat 8 ((List.range 8).map fun b =>
    if m.allocatable (8 * k + b) && !m.used.contains (8 * k + b) then 2 ^ b else 0).sum

/-- The code of a Bog entry's cause (Table 10.4). -/
def BogCause.code (c : BogCause) : Byte :=
  match c with
  | .fetch => 1 | .scrub => 2 | .merge => 3 | .repair => 4

/-- The code of a Bog entry's state (Table 10.4). -/
def BogState.code (c : BogState) : Byte :=
  match c with
  | .active => 1 | .repaired => 2 | .retirement => 3 | .released => 4

/-- A Bog-list entry (Table 10.4): 16 bytes. -/
def BogEntry.encode (e : BogEntry) : List Byte :=
  leBytes 4 (e.addr.page + e.addr.line.val * 2 ^ 20) ++ leBytes 2 e.owner.toNat ++ [e.cause.code, e.state.code] ++
    leBytes 4 e.tick.toNat ++ leBytes 4 e.first.toNat

/-- The entry at a place of the history ring (R337): the newest that was put there, none for a place not yet used. -/
def Mem.historyAt (m : Mem) (slot : Nat) : Option BogEntry :=
  if m.historyCount = 0 ∨ Config.historyMax ≤ slot then none
  else m.history[(m.historyCount - 1 + Config.historyMax - slot) % Config.historyMax]?

/-- The 16 bytes of a place of the Bog list or its history; zero for one that holds no entry (log 124). -/
def entryBytes (e : Option BogEntry) : List Byte := e.elim (List.replicate 16 0) BogEntry.encode

/-- The content of a line of the reserved region (Table 9.3, R337). -/
def Mem.mapLine (m : Mem) (page line : Nat) : List Byte :=
  if page < 0x20 then m.descriptor (2048 * page + 2 * line) ++ m.descriptor (2048 * page + 2 * line + 1)
  else if page < 0x22 then (List.range 64).map fun i => m.bitmapByte (65536 * (page - 0x20) + 64 * line + i)
  else if page < 0x32 then
    (List.range 4).flatMap fun i => entryBytes (m.bog.find? fun e => e.slot == 4096 * (page - 0x22) + 4 * line + i)
  else (List.range 4).flatMap fun i => entryBytes (m.historyAt (4096 * (page - 0x32) + 4 * line + i))

/-- The content of line `l` of list page `k` of a segment: sixteen entries, the last of a page being the next list page (R298). -/
def Segment.listLine (g : Segment) (k l : Nat) : List Byte :=
  (List.range 16).flatMap fun q =>
    let e := 16 * l + q
    leBytes 4 (if e = 16383 then (g.lists[k + 1]?).getD 0 else (g.pages[16383 * k + e]?).getD 0)

/-- The line of a capture ring at an address, when it holds one that is unsent: its number among the lines written (R289). -/
def Capture.lineAt (c : Capture) (a : LineAddr) : Option CapLine :=
  let place := 1024 * c.pages.findIdx (· == a.page) + a.line.val
  c.lines.find? fun l => l.index % (1024 * c.pages.length) == place

/-! ## Narrow writes of the maps (R332) -/

/-- `n` bytes of a line from a byte on. -/
def byteMask (byte n : Nat) : BitVec 64 := if 64 ≤ n then BitVec.allOnes 64 else ((1#64 <<< n) - 1) <<< byte

/-- A narrow write joined to those that wait: one to each line. -/
def addMapWrite (w : MapWrite) : List MapWrite → List MapWrite
  | [] => [w]
  | x :: xs => if x.addr = w.addr then { x with mask := x.mask ||| w.mask } :: xs else x :: addMapWrite w xs

/-- Bytes of a map line are to be written. -/
def Mem.noteMap (m : Mem) (page line byte n : Nat) : Mem :=
  { m with mapDue := addMapWrite { addr := { page := page, line := ⟨line % 1024, by omega⟩ }, mask := byteMask byte n } m.mapDue }

/-- The descriptor of an ID is to be written (Table 9.3). -/
def Mem.noteSeg (m : Mem) (id : BitVec 16) : Mem := m.noteMap (id.toNat / 2048) (id.toNat % 2048 / 2) (32 * (id.toNat % 2)) 32

/-- The bitmap's bit of a page is to be written (R299). -/
def Mem.notePage (m : Mem) (p : Nat) : Mem := m.noteMap (0x20 + p / 8 / 65536) (p / 8 % 65536 / 64) (p / 8 % 64) 1

/-- Entry `e` of a list page is to be written (R298). -/
def Mem.noteList (m : Mem) (page e : Nat) : Mem := m.noteMap page (e / 16) (4 * (e % 16)) 4

/-- A place of the Bog list is to be written (R337). -/
def Mem.noteBog (m : Mem) (slot : Nat) : Mem := m.noteMap (0x22 + slot / 4096) (slot % 4096 / 4) (16 * (slot % 4)) 16

/-- A place of the history ring is to be written (R337). -/
def Mem.noteHistory (m : Mem) (slot : Nat) : Mem := m.noteMap (0x32 + slot / 4096) (slot % 4096 / 4) (16 * (slot % 4)) 16

/-- A descriptor put in the place of the one with its ID, or added; its line is to be written when its bytes change. -/
def Mem.putSeg (m : Mem) (g : Segment) : Mem :=
  let m1 := if (m.seg g.id).map Segment.encode == some g.encode then m else m.noteSeg g.id
  if m.segs.any (fun x => x.id == g.id) then { m1 with segs := m.segs.map fun x => if x.id == g.id then g else x }
  else { m1 with segs := m.segs ++ [g] }

/-- A new page, the lowest-numbered free one (R299). -/
def Mem.takePage (m : Mem) : Option (Nat × Mem) :=
  match m.nextPage with
  | some p => some (p, { m with used := insertSorted p m.used }.notePage p)
  | none => none

/-- Pages returned to the free list: their remap entries are released, and what the merge buffer holds for them is dropped (R334). -/
def Mem.releasePages (m : Mem) (ps : List Nat) : Mem :=
  let m1 := { m with
    used := m.used.filter fun p => !ps.contains p
    remap := mapAll (fun _ rs => rs.filter fun r => !ps.contains r.addr.page) m.remap
    merge := mapAll (fun _ es => es.filter fun e => !ps.contains e.addr.page) m.merge
    mapDue := m.mapDue.filter fun w => !ps.contains w.addr.page }
  ps.foldl Mem.notePage m1

/-! ## Lines -/

/-- The bytes of a line where no map gives them: of its remap spare, and otherwise of the arrays (R334). -/
def Mem.rawLine (m : Mem) (a : LineAddr) (owner : BitVec 16) : List Byte :=
  match (m.remap[subOf a owner]).find? (fun r => r.addr == a) with
  | some r => r.spare.toList
  | none => cellReadAll m.cells (lineBase a owner) 64

/-- The data of a line beneath the merge buffer: the maps, the unsent capture lines, and else the arrays and spares. -/
def Mem.arrayLine (m : Mem) (a : LineAddr) (owner : BitVec 16) : List Byte :=
  match m.pageKind a.page with
  | .reserved => if m.isProbeLine a then m.rawLine a owner else m.mapLine a.page a.line.val
  | .list id k => (m.seg id).elim (m.rawLine a owner) fun g => g.listLine k a.line.val
  | .ring k => ((m.capture[k]).lineAt a).elim (m.rawLine a owner) fun l => l.words.flatMap fun w => leBytes 2 w.toNat
  | .probe | .free | .data _ _ => m.rawLine a owner

/-- The bytes of a merge buffer entry over the bytes beneath it (R332). -/
def mergeBytes (e : Merge) (under : List Byte) : List Byte :=
  (List.finRange 64).map fun i => if e.mask.getLsbD i.val then e.data[i] else under.getD i.val 0

/-- The merge buffer's content over a line; an entry of the maps holds what the maps hold (R333). -/
def Mem.merged (m : Mem) (a : LineAddr) (owner : BitVec 16) (under : List Byte) : List Byte :=
  match (m.merge[subOf a owner]).find? (fun e => e.addr == a && !e.map) with
  | some e => mergeBytes e under
  | none => under

/-- The data of a line as a read returns it (R333). -/
def Mem.lineData (m : Mem) (a : LineAddr) (owner : BitVec 16) : List Byte := m.merged a owner (m.arrayLine a owner)

/-- The data of a line of a segment's data page as a read returns it. -/
def Mem.dataLine (m : Mem) (a : LineAddr) (owner : BitVec 16) : List Byte := m.merged a owner (m.rawLine a owner)

/-- A vector of 64 bytes from a list; missing bytes are 0. -/
def vec64 (bs : List Byte) : Vector Byte 64 := Vector.ofFn fun i => bs.getD i.val 0

/-- Whether a remap spare holds a line (R334). -/
def Mem.onSpare (m : Mem) (a : LineAddr) (owner : BitVec 16) : Bool := (m.remap[subOf a owner]).any fun r => r.addr == a

/-- A line written whole, to its remap spare when it has one (R334). -/
def Mem.writeLine (m : Mem) (a : LineAddr) (owner : BitVec 16) (data : List Byte) : Mem :=
  let sub := subOf a owner
  if m.onSpare a owner then
    { m with remap := m.remap.set sub ((m.remap[sub]).map fun r => if r.addr == a then { r with spare := vec64 data } else r) }
  else { m with cells := cellWriteAll m.cells (lineBase a owner) (vec64 data).toList }

/-! ## Requests -/

/-- A request arrives at the controller (R317, Table 9.11). -/
def Mem.request (m : Mem) : Mem :=
  match m.sr with
  | .awake => { m with requested := true, srCount := 0 }
  | .idleCount | .drain => { m with requested := true, srCount := 0, sr := .awake }
  | .committed => { m with requested := true, wakeDue := true }
  | .exit => { m with requested := true }

/-- Whether the controller serves requests: DRAM is awake (Table 9.11). -/
def Mem.awake (m : Mem) : Bool := m.sr == .awake || m.sr == .idleCount || m.sr == .drain

/-- A write of a line is asked of the controller; it waits for its entry (R307). What it writes counts for every later read, since
the reads and writes of one line are served in their order (R333). -/
def Mem.askWrite (m : Mem) (port : MemPort) (a : LineAddr) (owner : BitVec 16) : Mem :=
  let m1 := m.request
  { m1 with waiting := m1.waiting ++ [{ port := port, addr := a, owner := owner, asked := 0, read := none, tag := 0 }] }

/-- A line written through a port; a spare is on the chip, and takes no request (R334). -/
def Mem.putLine (m : Mem) (port : MemPort) (a : LineAddr) (owner : BitVec 16) (data : List Byte) : Mem :=
  if m.onSpare a owner then m.writeLine a owner data else (m.writeLine a owner data).askWrite port a owner

/-- The line that holds line `o` of a segment: its j-th data page and line o' (R296); none beyond the pages held. -/
def Segment.lineAddr (g : Segment) (o : Nat) : Option LineAddr :=
  match g.pages[o / 1024]? with
  | some p => if g.lostPages.contains (o / 1024) then none else some { page := p, line := ⟨o % 1024, by omega⟩ }
  | none => none

/-! ## The fetch table -/

/-- The active entry of a line (R336). -/
def Mem.bogEntry (m : Mem) (a : LineAddr) : Option BogEntry := m.bog.find? fun e => e.addr == a

/-- The fetch table over the quarantined resident segments in order, with the room left (R338): a segment whose entries fit takes
room for all of them, and its lines are judged one by one unless it is wholly quarantined. -/
def fetchTable (bog : List BogEntry) : Nat → List Segment → List (BitVec 16 × Bool)
  | _, [] => []
  | room, g :: gs =>
    let n := (bog.filter fun e => e.owner == g.id).length
    if n ≤ room then (g.id, !g.whole) :: fetchTable bog (room - n) gs
    else (g.id, false) :: fetchTable bog room gs

/-- Whether a line of a segment counts as Bog-listed for fetch (R338). -/
def Mem.countsBogged (m : Mem) (g : Segment) (o : Nat) : Bool :=
  g.state == .quarantined &&
    (match g.lineAddr o with
     | none => true
     | some a =>
       let quarantined := m.resident.filterMap fun id => (m.seg id).filter fun x => x.state == .quarantined
       match (fetchTable m.bog Config.fetchTableMax quarantined).find? fun e => e.1 == g.id with
       | some (_, true) => (m.bogEntry a).isSome
       | _ => true)

/-! ## Samples -/

/-- The sample word of a line: 64 bits, little-endian (Table 9.2). -/
def lineWord (data : List Byte) (w : Nat) : BitVec 64 := BitVec.ofNat 64 (fieldAt data (8 * w) 8)

/-- Stored word `w` of a segment (R294). -/
def Mem.word (m : Mem) (g : Segment) (w : Nat) : BitVec 64 :=
  match g.lineAddr (w / 8) with
  | some a => lineWord (m.dataLine a g.id) (w % 8)
  | none => 0

/-- Sample `k` of a segment in the word that holds it (Table 9.2). -/
def wordSample (w : BitVec 64) (k : Nat) : Code := w.extractLsb' (10 * (k % 6)) 10

/-- The marker field of a word (Table 9.2). -/
def wordMarker (w : BitVec 64) : BitVec 4 := w.extractLsb' 60 4

/-- A word of a pass: as a wrong decoding delivered it, and otherwise as it is stored (R321). -/
def Mem.wordOr (m : Mem) (g : Segment) (wrong : List (Nat × BitVec 64)) (w : Nat) : BitVec 64 :=
  ((wrong.find? fun e => e.1 == w).map Prod.snd).getD (m.word g w)

end Sys2Proof.Machine
end

