-- ==== Sys2Proof/Machine/Capture.lean ====
section
/-! DEFINITION. Captures (R287 to R289): the words that a stream keeps, its lines, and its trigger. -/

namespace Sys2Proof.Machine

/-- A preset's decimation (Table 8.2). -/
def presetR (preset : Nat) : Nat :=
  match preset with
  | 0 => 8 | 1 => 64 | 2 => 512 | 3 => 4096 | _ => 256

/-- The words that a stream holds of an input. -/
def Capture.held (c : Capture) (i : Chan) : Option CapWords := c.words.find? fun w => w.input == i

/-- The words of an input replaced. -/
def Capture.setWords (c : Capture) (w : CapWords) : Capture :=
  { c with words := w :: c.words.filter fun x => x.input != w.input }

/-- One more word of an input. -/
def Capture.push (c : Capture) (i : Chan) (word : BitVec 16) (preset : BitVec 3) (epoch : BitVec 48) : CapWords :=
  { input := i, preset := preset, epoch := epoch, words := ((c.held i).elim [] CapWords.words) ++ [word] }

/-- A whole line enters the ring, which overwrites its oldest unsent line when it is full (R289). -/
def Capture.putLine (c : Capture) (l : CapLine) : Capture :=
  let grown := c.lines ++ [{ l with index := c.written }]
  if grown.length ≤ 1024 * c.pages.length then { c with lines := grown, written := c.written + 1 }
  else { c with lines := grown.drop 1, written := c.written + 1, gap := c.gap + 1 }

/-- The whole lines of the words held of an input are written (R289). DESIGN CHOICE: the last words of a capture, fewer than 32,
make no line and are not written (log entry 142). `fuel` bounds their number; two words of a preset lie 2 R
frames apart. -/
def Capture.writeLines : Nat → Capture → Chan → Nat → Capture
  | 0, c, _, _ => c
  | fuel + 1, c, i, clk =>
    match c.held i with
    | none => c
    | some w =>
      if w.words.length < 32 then c
      else
        let first := w.epoch - BitVec.ofNat 48 (2 * presetR w.preset.toNat * (w.words.length - 1))
        let c1 := (c.setWords { w with words := w.words.drop 32 }).putLine
          { input := i, preset := w.preset, epoch := first, words := w.words.take 32, born := clk, index := 0, got := false }
        Capture.writeLines fuel c1 i clk

/-- A capture stream's trigger comes (R288): it waits no longer, writes the words that it kept, and each input of its mask has
CAP_POST words still to come. -/
def Capture.fire (c : Capture) (st : CapStream) (clk : Nat) : Capture :=
  if c.active && !c.triggered then
    (maskMembers st.mask).foldl (fun c i => c.writeLines 40 i clk)
      { c with triggered := true, active := false, post := (maskMembers st.mask).map fun n => (n, st.post.toNat) }
  else c

/-- Whether a stream still takes words: it is active, or has words to write after its trigger. -/
def Capture.takes (c : Capture) : Bool := c.active || c.post.any fun e => decide (0 < e.2)

/-- One filter word of an input enters a stream (R288): kept before the trigger, written after it. -/
def Capture.take (c : Capture) (st : CapStream) (i : Chan) (word : BitVec 16) (preset : BitVec 3) (epoch : BitVec 48)
    (clk : Nat) : Capture :=
  let w := c.push i word preset epoch
  if !st.mask.getLsbD i.val then c
  else if st.trig = 0x3F then (if c.active then (c.setWords w).writeLines 40 i clk else c)
  else if !c.triggered then
    (if c.active then c.setWords { w with words := lastN st.pre.toNat w.words } else c)
  else
    match c.post.find? fun e => e.1 == i with
    | some (_, k + 1) => { (c.setWords w).writeLines 40 i clk with post := c.post.map fun e => if e.1 == i then (i, k) else e }
    | _ => c

/-- Every capture stream replaced; each line that a stream has written is a write through port P1 (R289, Table 9.6). -/
def Mem.setCaptures (m : Mem) (f : Fin 8 → Capture → Capture) : Mem :=
  (List.finRange 8).foldl (fun m k =>
    let old := m.capture[k]
    let new := f k old
    (List.range (new.written - old.written)).foldl (fun m j =>
      let place := (old.written + j) % (1024 * new.pages.length)
      match new.pages[place / 1024]? with
      | some p => m.askWrite .p1 { page := p, line := ⟨place % 1024, by omega⟩ } 0
      | none => m) { m with capture := m.capture.set k new }) m

/-- The lines that the capture rings have overwritten unsent, which GAP counts (R425). -/
def Mem.gaps (m : Mem) : Nat := (m.capture.toList.map Capture.gap).sum

end Sys2Proof.Machine
end

