-- ==== Sys2Proof/Machine/Operands.lean ====
section
/-! DEFINITION. What the state's codes stand for: the strap fields (Table 3.10), the supplies, the parts of the frame
count, and the fields that the commands name. -/

namespace Sys2Proof.Machine

/-! ## Straps -/

/-- The role that RS0[3:2] selects (Table 3.10). -/
def Power.role (p : Power) : Role :=
  match (p.straps[0]).extractLsb' 2 2 with
  | 3 => .standalone
  | 2 => .root
  | 1 => .spine
  | _ => .tooth

/-- Whether the reference is port A: RS0[1] is 0 (Table 3.10, R53). -/
def Power.refIsPortA (p : Power) : Bool := !(p.straps[0]).getLsbD 1

/-- Whether the boot source is the flash image: RS1[3] (Table 3.10, R123). -/
def Power.bootsFromFlash (p : Power) : Bool := (p.straps[1]).getLsbD 3

/-- The seal field RS1[2:1]: 3 unsealed, 2 SEAL, 1 PROVISION, 0 invalid (Table 3.10). -/
def Power.sealField (p : Power) : BitVec 2 := (p.straps[1]).extractLsb' 1 2

/-- Whether SEAL is set. -/
def Power.sealOn (p : Power) : Bool := p.sealField == 2

/-- Whether the device is strapped to PROVISION. -/
def Power.provisions (p : Power) : Bool := p.sealField == 1

/-- Whether a bank is of the CURR type (Table 3.10). -/
def Power.bankIsCurr (p : Power) (b : Bank) : Bool :=
  match b with
  | 0 => (p.straps[2]).getLsbD 3
  | 1 => (p.straps[2]).getLsbD 1
  | 2 => (p.straps[3]).getLsbD 3
  | 3 => (p.straps[3]).getLsbD 1

/-- Whether the content port is strapped on: RS5[3] is 0 (Table 3.10). -/
def Power.portOn (p : Power) : Bool := !(p.straps[5]).getLsbD 3

/-- The ticks between status frames: 2^(7 − RS5[2:0]) (Table 3.10). -/
def Power.statusInterval (p : Power) : Nat := 2 ^ (7 - ((p.straps[5]).extractLsb' 0 3).toNat)

/-- The ID override V: V[6:3] = NOT RS6, V[2:0] = NOT RS7[3:1] (Table 3.10, R100). -/
def Power.idOverride (p : Power) : Nat := (~~~(p.straps[6])).toNat * 8 + (~~~((p.straps[7]).extractLsb' 1 3)).toNat

/-- Whether the strap codes are valid by themselves, the key apart (R99, R100). -/
def Power.strapsValid (p : Power) : Bool :=
  (p.straps[0]).getLsbD 0 && (p.straps[1]).getLsbD 0 && (p.sealField != 0) &&
  !(p.refIsPortA && (p.role == .standalone || p.role == .root)) &&
  !(!p.bootsFromFlash && !p.portOn) && !(p.provisions && !p.portOn) &&
  (match p.role with
   | .standalone => true
   | .root => p.idOverride == 0
   | .spine | .tooth => decide (p.idOverride ≤ 63))

/-! ## Supplies -/

/-- The index of a supply in `Power.good`. -/
def domainIndex (d : Domain) : Fin 13 :=
  match d with
  | .aon => 0 | .vddio => 1 | .ref => 2 | .pll => 3 | .core => 4 | .mon => 5 | .daca => 6 | .dacb => 7 | .dacc => 8
  | .dacd => 9 | .dphy => 10 | .cport => 11 | .link => 12

/-- Whether a supply is good. -/
def Power.isGood (p : Power) (d : Domain) : Bool := p.good[domainIndex d]

/-- The supply of a drive bank. -/
def dacDomain (b : Bank) : Domain :=
  match b with
  | 0 => .daca | 1 => .dacb | 2 => .dacc | 3 => .dacd

/-- The bank that a supply feeds, none for the others. -/
def domainBank (d : Domain) : Option Bank :=
  match d with
  | .daca => some 0 | .dacb => some 1 | .dacc => some 2 | .dacd => some 3
  | _ => none

/-- Whether the five mandatory domains are good (R59, R106). -/
def Power.mandatoryGood (p : Power) : Bool :=
  p.isGood .aon && p.isGood .vddio && p.isGood .ref && p.isGood .pll && p.isGood .core && p.isGood .mon

/-- Whether a fault cause is present (Table 16.1). -/
def Power.fault (p : Power) (b : Nat) : Bool := p.faults.getLsbD b

/-! ## Stages -/

/-- Whether a bring-up stage of Table 4.1 runs, PROVISION's wait for its record included (R110, R127). -/
def Stage.runs (st : Stage) : Bool :=
  match st with
  | .strap | .supply | .clock | .core | .flash | .ledger | .dram | .image | .join | .trimWait | .provision => true
  | .reset | .rstLow | .provisioned | .done | .failed _ => false

/-- Whether the stage is one of those after CLOCK (R116). -/
def Stage.afterClock (st : Stage) : Bool :=
  match st with
  | .core | .flash | .ledger | .dram | .image | .join | .trimWait | .provision => true
  | _ => false

/-- Whether CORE has ended and bring-up has not failed (Table 4.1). -/
def Stage.pastCore (st : Stage) : Bool :=
  match st with
  | .flash | .ledger | .dram | .image | .join | .trimWait | .provision | .provisioned | .done => true
  | _ => false

/-- Whether bring-up is complete (R112). -/
def State.isUp (s : State) : Bool := s.power.stage == .done

/-- Whether the stage lies after CLOCK, bring-up complete or failed included. -/
def Stage.pastClock (st : Stage) : Bool :=
  match st with
  | .reset | .rstLow | .strap | .supply | .clock => false
  | .core | .flash | .ledger | .dram | .image | .join | .trimWait | .provision | .provisioned | .done | .failed _ => true

/-- Whether the core runs: the main PLL is locked, VDD_CORE is good and the device is past CLOCK. A bring-up that has failed
with the PLL in lock still counts ticks, checks the straps (R97) and sends STATUS frames (R132). -/
def State.coreRuns (s : State) : Bool := s.power.locked && s.power.isGood .core && s.power.stage.pastClock

/-- Whether the control balls are watched: after lock, with RST_N high (R82), from the frame in which R83 sets their
levels. -/
def State.watchesPins (s : State) : Bool := s.coreRuns && s.pins.locking.isNone

/-- Whether the device is joined to a chain: its role is not STANDALONE and JOIN lies behind it (R128, R129, R157). -/
def State.joined (s : State) : Bool := s.power.role != .standalone && (s.isUp || s.power.stage == .trimWait)

/-- Whether the device is the root of a chain. -/
def State.isRoot (s : State) : Bool := s.power.role == .root

/-! ## Time -/

/-- The frame within the tick. -/
def Clock.frame (c : Clock) : Nat := c.epoch.toNat % Config.framesPerTick

/-- Whether a command takes a due action: at the boundary itself (R46), and only in a tick's first frame. -/
def State.takesNow (s : State) (due : Bool) : Bool := due && decide (s.clock.frame = 0)

/-- The tick count: the epoch in whole ticks. -/
def Clock.tick (c : Clock) : Nat := c.epoch.toNat / Config.framesPerTick

/-! ## Identity -/

/-- The ID that the device holds: V or 0x000 for a STANDALONE device (R100), 0x000 for a ROOT, and for the others the one that JOIN
gives (R379, R411). -/
def State.deviceId (s : State) : Option (BitVec 12) :=
  if s.power.role == .standalone then some (BitVec.ofNat 12 s.power.idOverride)
  else if s.isRoot then some 0
  else s.chain.id

/-- DEVID of a telemetry header (Table 13.3). -/
def State.devid (s : State) : Nat :=
  match s.deviceId with
  | some i => i.toNat
  | none => 0x8FFF

/-! ## Pins -/

/-- A TX pin's index, and the number that outcome 0x05 gives it, one more (R430). -/
def txIndex (p : TxPin) : Fin 3 :=
  match p with
  | .txb => 0 | .txc => 1 | .txa => 2

/-- A port's index. -/
def portIndex (p : LinkPort) : Fin 3 :=
  match p with
  | .a => 0 | .b => 1 | .c => 2

/-- The mode that a code selects: an invalid code is a request for HOLD (R92). -/
def modeTaken (m : BitVec 3) : BitVec 3 := if m = 6 ∨ m = 7 then 0 else m

/-- Whether a MODE code is invalid (Table 2.5). -/
def modeInvalid (m : BitVec 3) : Bool := m == 6 || m == 7

end Sys2Proof.Machine
end

