-- ==== Sys2Proof/Machine/Flags.lean ====
section
/-! DEFINITION. The flags that the block shows: the status pins (Table 5.7, R171 to R175), the fault line (R110, R172) and
the signal groups of Table 3.7. -/

namespace Sys2Proof.Machine

/-- The causes of a device-wide release: bits 0 to 5, 15 and 16 (R487). -/
def releaseCauses : BitVec 64 := 0x1803F

/-- Whether any channel is retreated. -/
def State.anyRetreated (s : State) : Bool := s.chan.toList.any (·.retreated)

/-- The highest-ranked state of Table 5.7 that applies. -/
def State.stCode (s : State) : BitVec 3 :=
  match s.power.stage with
  | .reset | .rstLow | .provisioned => 0
  | .failed _ => 7
  | .strap | .supply | .clock | .core | .flash | .ledger | .dram | .image | .join | .trimWait | .provision => 1
  | .done =>
    if s.power.faults &&& releaseCauses ≠ 0 then 7
    else if s.chain.island then 6
    else if s.power.powerUp then 0
    else if s.anyRetreated then 5
    else if s.txn.state ≠ .idle then 4
    else if s.txn.live.mode ≠ 0 then 3
    else 2

/-- ST[2:0] made to show the present state: the stages of bring-up show it as they change (R110, R112, R130). -/
def State.showSt (s : State) : State := { s with pins := { s.pins with st := s.stCode } }

/-- RDY_N is driven low: bring-up is complete and ST reads neither 0b111 nor 0b001 (R171). -/
def State.rdyLow (s : State) : Bool := s.isUp && s.pins.st != 7 && s.pins.st != 1

/-- The fault causes that drive FLT_N while a stage runs: the reported waits, and the supplies of R110. -/
def State.stageCauses (s : State) : BitVec 64 :=
  let supply (b : Nat) (d : Domain) : BitVec 64 := if s.power.isGood d then 0 else 1#64 <<< b
  let banks := supply 7 .daca ||| supply 8 .dacb ||| supply 9 .dacc ||| supply 10 .dacd
  0xE0000000#64 ||| supply 2 .ref ||| supply 3 .pll ||| supply 4 .core ||| supply 6 .mon ||| banks |||
    supply 11 .cport ||| supply 12 .link

/-- FLT_N is driven low (R110, R130, R172; Table 3.7 in reset, Table 4.2 once provisioned). Held in reset by a brown-out of AON
or VDDIO, Table 1.1 has it asserted, and bit 5 stands until power-on reset (log entry 109); with VDDIO absent it never pulls low
(R502). -/
def State.fltLow (s : State) : Bool :=
  match s.power.stage with
  | .reset => s.power.fault 5 && s.power.isGood .vddio
  | .rstLow | .provisioned => false
  | .failed _ => true
  | .done => s.power.faults != 0
  | .strap | .supply | .clock | .core | .flash | .ledger | .dram | .image | .join | .trimWait | .provision =>
    s.power.faults &&& s.stageCauses != 0

/-- Whether the signal groups stand as Table 3.7 has them in reset: no power-on reset yet, or RST_N low. -/
def State.inReset (s : State) : Bool := s.power.stage == .reset || s.power.stage == .rstLow

/-- ALRT is high: a channel is retreated, or the junction is at 120 °C or above (R173), judged from the frame after its reading
(R523); low in reset (Table 3.7). -/
def State.alrt (s : State) : Bool := !s.inReset && (s.anyRetreated || decide (480 ≤ s.power.junctionActs))

/-- STALE is high: a Fog flag is set (R174); low in reset (Table 3.7). -/
def State.stale (s : State) : Bool := !s.inReset && s.chan.toList.any (·.fog)

/-! ## The other groups of Table 3.7 -/

/-- The flash balls rest: FL_SCK low, FL_CS_N high and FL_IO at high impedance, before FLASH first enables them and while
no flash access is pending (Tables 2.3 and 3.7). -/
def State.flashRests (s : State) : Bool :=
  match s.power.stage with
  | .reset | .rstLow | .strap | .supply | .clock | .core | .failed _ | .provisioned => true
  | .flash | .ledger => false
  | .image => s.ledger.op.isNone && !s.power.bootsFromFlash
  | .dram | .join | .trimWait | .provision | .done => s.ledger.op.isNone

/-- CP_TX stands at electrical idle: until CORE first enables the SerDes, with the port strapped off, and without CPORT (R62,
Table 3.7). -/
def State.cpTxIdle (s : State) : Bool := !s.power.portOn || !s.power.isGood .cport || !s.power.clocked

/-- DDR_RESET_N is low: until the DRAM stage initialises the DRAM, and always where none is fitted (Table 3.7).
DESIGN CHOICE: it is low after a bring-up that failed, even once the DRAM was initialised (log entry 133). -/
def State.ddrResetLow (s : State) : Bool :=
  !s.mem.fitted ||
    (match s.power.stage with
     | .dram | .image | .join | .trimWait | .done => false
     | .reset | .rstLow | .strap | .supply | .clock | .core | .flash | .ledger | .provision | .provisioned | .failed _ => true)

/-- The DDR5 clock is stopped: while DDR_RESET_N is low, and in the COMMITTED stage of self-refresh until exit (Tables 2.3
and 3.7). -/
def State.ddrClockStopped (s : State) : Bool := s.ddrResetLow || s.mem.sr == .committed

/-- TDO is at high impedance: a command of the test access port is whole, and nothing shifts between two of them
(Table 3.7). -/
def State.tdoHighZ (_s : State) : Bool := true

/-- RTR_N is low at the ball: another pulls it, or this device drives it (R30, R91). -/
def State.rtrLow (s : State) : Bool := s.pins.rtrLow || s.pins.rtrDrive

end Sys2Proof.Machine
end

