-- ==== Sys2Proof/Machine/Params.lean ====
section
/-! DEFINITION. The parameter catalogue (R467 to R480): each parameter's width, instances, range and patch class, how an
entry of a record sets it, and the parameters that an overlay gives (R137). -/

namespace Sys2Proof.Machine

/-- The patch classes (Table 15.1). -/
inductive PatchClass where
  | a | p | c | s | b
  deriving DecidableEq, Repr

/-- The overlays that may patch a parameter of a class (Table 15.1). -/
def PatchClass.permits (k : PatchClass) (overlay : Nat) : Bool :=
  match k with
  | .a => true
  | .p => decide (4 ≤ overlay) && decide (overlay ≤ 19)
  | .c => decide (overlay ≤ 7)
  | .s => decide (overlay ≤ 3) || (decide (16 ≤ overlay) && decide (overlay ≤ 19))
  | .b => false

/-- A row of Tables 15.2 to 15.8. -/
structure ParamRow where
  pid : Nat
  width : Nat
  instances : Nat
  cls : PatchClass
  deriving DecidableEq, Repr

/-- The device-wide rows (Tables 15.2 and 15.8). -/
def deviceRows : List ParamRow :=
  [⟨0x0101, 16, 1, .b⟩, ⟨0x0102, 13, 1, .b⟩, ⟨0x0103, 8, 1, .a⟩, ⟨0x0104, 48, 1, .b⟩, ⟨0x0105, 1, 1, .b⟩,
   ⟨0x0106, 3, 1, .a⟩]

/-- The pin and player rows (Tables 15.3 and 15.4). -/
def playerRows : List ParamRow :=
  [⟨0x0201, 8, 8, .a⟩, ⟨0x0202, 5, 8, .a⟩, ⟨0x0203, 8, 8, .a⟩,
   ⟨0x0301, 10, 16, .p⟩, ⟨0x0302, 64, 16, .p⟩, ⟨0x0303, 7, 16, .p⟩, ⟨0x0304, 3, 16, .p⟩]

/-- The drive channel rows (Table 15.5). -/
def channelRows : List ParamRow :=
  [⟨0x0401, 10, 64, .b⟩, ⟨0x0402, 16, 64, .a⟩, ⟨0x0403, 4, 64, .a⟩, ⟨0x0404, 12, 64, .a⟩, ⟨0x0405, 2, 64, .a⟩,
   ⟨0x0406, 9, 64, .a⟩, ⟨0x0407, 9, 64, .a⟩, ⟨0x0408, 9, 64, .b⟩, ⟨0x0409, 9, 64, .b⟩, ⟨0x040A, 10, 64, .b⟩,
   ⟨0x040B, 10, 64, .b⟩, ⟨0x040C, 1, 64, .a⟩, ⟨0x040D, 16, 64, .a⟩]

/-- The monitor input and detector rows (Tables 15.6 and 15.7). -/
def monitorRows : List ParamRow :=
  [⟨0x0501, 2, 64, .a⟩, ⟨0x0502, 8, 64, .a⟩, ⟨0x0503, 2, 64, .a⟩, ⟨0x0504, 3, 64, .a⟩, ⟨0x0505, 1, 64, .a⟩,
   ⟨0x0506, 24, 64, .a⟩, ⟨0x0601, 7, 64, .a⟩, ⟨0x0602, 48, 64, .a⟩, ⟨0x0603, 16, 64, .a⟩, ⟨0x0604, 1, 64, .a⟩,
   ⟨0x0605, 24, 64, .a⟩, ⟨0x0606, 1, 64, .a⟩]

/-- The memory, integrity and calibration rows (Table 15.8). -/
def memoryRows : List ParamRow :=
  [⟨0x0701, 16, 1, .s⟩, ⟨0x0702, 16, 1, .b⟩, ⟨0x0703, 12, 1, .b⟩, ⟨0x0801, 16, 1, .c⟩, ⟨0x0802, 1, 1, .c⟩]

/-- Every parameter of the device, by ascending PID (R467). -/
def paramRows : List ParamRow := deviceRows ++ playerRows ++ channelRows ++ monitorRows ++ memoryRows

/-- The row of a PID, none when the catalogue lists none. -/
def paramRow (pid : Nat) : Option ParamRow := paramRows.find? fun r => r.pid == pid

/-- One channel's parameters changed. -/
def Params.onChan (p : Params) (i : Nat) (f : ChanParams → ChanParams) : Params :=
  { p with chan := mapAll (fun n c => if n.val = i then f c else c) p.chan }

/-- One input's parameters changed. -/
def Params.onMon (p : Params) (i : Nat) (f : MonParams → MonParams) : Params :=
  { p with mon := mapAll (fun n c => if n.val = i then f c else c) p.mon }

/-- One player's parameters changed. -/
def Params.onPlayer (p : Params) (i : Nat) (f : PlayerParams → PlayerParams) : Params :=
  { p with player := mapAll (fun n c => if n.val = i then f c else c) p.player }

/-- One pin's parameters changed. -/
def Params.onPin (p : Params) (i : Nat) (f : PinParams → PinParams) : Params :=
  { p with pin := mapAll (fun n c => if n.val = i then f c else c) p.pin }

/-- The low `w` bits of a VALUE (R468). -/
def valueBits (w : Nat) (v : BitVec 64) : BitVec w := v.extractLsb' 0 w

/-- A drive channel parameter set (Table 15.5). -/
def ChanParams.put (c : ChanParams) (pid : Nat) (v : BitVec 64) : ChanParams :=
  match pid with
  | 0x0401 => { c with nom := valueBits 10 v }
  | 0x0402 => { c with amp := valueBits 16 v }
  | 0x0403 => { c with sha := valueBits 4 v }
  | 0x0404 => { c with ofs := valueBits 12 v }
  | 0x0405 => { c with sho := valueBits 2 v }
  | 0x0406 => { c with slewStep := valueBits 9 v }
  | 0x0407 => { c with slewInt := valueBits 9 v }
  | 0x0408 => { c with retStep := valueBits 9 v }
  | 0x0409 => { c with retInt := valueBits 9 v }
  | 0x040A => { c with shallow := valueBits 10 v }
  | 0x040B => { c with deep := valueBits 10 v }
  | 0x040C => { c with gain := valueBits 1 v }
  | 0x040D => { c with phase := valueBits 16 v }
  | _ => c

/-- A monitor input or detector parameter set (Tables 15.6 and 15.7). -/
def MonParams.put (c : MonParams) (pid : Nat) (v : BitVec 64) : MonParams :=
  match pid with
  | 0x0501 => { c with pgain := valueBits 2 v }
  | 0x0502 => { c with cofs := valueBits 8 v }
  | 0x0503 => { c with rank := valueBits 2 v }
  | 0x0504 => { c with preset := valueBits 3 v }
  | 0x0505 => { c with phase := valueBits 1 v }
  | 0x0506 => { c with sh := valueBits 24 v }
  | 0x0601 => { c with detRef := valueBits 7 v }
  | 0x0602 => { c with detFreq := valueBits 48 v }
  | 0x0603 => { c with detCyc := valueBits 16 v }
  | 0x0604 => { c with detSync := valueBits 1 v }
  | 0x0605 => { c with detThr := valueBits 24 v }
  | 0x0606 => { c with detTdir := valueBits 1 v }
  | _ => c

/-- A player parameter set (Table 15.4). -/
def PlayerParams.put (c : PlayerParams) (pid : Nat) (v : BitVec 64) : PlayerParams :=
  match pid with
  | 0x0301 => { c with entry := valueBits 10 v }
  | 0x0302 => { c with bind := v }
  | 0x0303 => { c with ref := valueBits 7 v }
  | 0x0304 => { c with cset := valueBits 3 v }
  | _ => c

/-- A pin parameter set (Table 15.3). -/
def PinParams.put (c : PinParams) (pid : Nat) (v : BitVec 64) : PinParams :=
  match pid with
  | 0x0201 => { c with evDeb := valueBits 8 v }
  | 0x0202 => { c with mkSrc := valueBits 5 v }
  | 0x0203 => { c with mkWidth := valueBits 8 v }
  | _ => c

/-- A device-wide parameter set (Tables 15.2 and 15.8). -/
def DevParams.put (d : DevParams) (pid : Nat) (v : BitVec 64) : DevParams :=
  match pid with
  | 0x0101 => { d with txnTimeout := valueBits 16 v }
  | 0x0102 => { d with probation := valueBits 13 v }
  | 0x0103 => { d with seMask := valueBits 8 v }
  | 0x0104 => { d with telDst := valueBits 48 v }
  | 0x0105 => { d with align := valueBits 1 v }
  | 0x0106 => { d with guardTab := valueBits 3 v }
  | 0x0701 => { d with srIdle := valueBits 16 v }
  | 0x0702 => { d with devRetire := valueBits 16 v }
  | 0x0703 => { d with scrubPass := valueBits 12 v }
  | 0x0801 => { d with calInterval := valueBits 16 v }
  | 0x0802 => { d with calMon := valueBits 1 v }
  | _ => d

/-- One entry's effect on the parameters (R137, R446). -/
def Params.put (p : Params) (e : Patch) : Params :=
  let pid := e.pid.toNat
  let i := e.pidx.toNat
  match pid / 256 with
  | 2 => p.onPin i fun c => c.put pid e.value
  | 3 => p.onPlayer i fun c => c.put pid e.value
  | 4 => p.onChan i fun c => c.put pid e.value
  | 5 | 6 => p.onMon i fun c => c.put pid e.value
  | _ => { p with dev := p.dev.put pid e.value }

/-- The patches of a list over the parameters: a later entry for the same parameter wins (R137, R446). -/
def Params.patched (p : Params) (es : List Patch) : Params := es.foldl Params.put p

/-- The number of the overlay for a mode and variant (R136, Table 5.1). -/
def overlayNumber (mode : BitVec 3) (var : BitVec 2) : Fin 24 :=
  ⟨(4 * (modeTaken mode).toNat + var.toNat) % 24, Nat.mod_lt _ (by decide)⟩

/-- The configuration of an image under a mode and a variant (R137, R138). -/
def Image.configure (img : Image) (mode : BitVec 3) (var : BitVec 2) : Configuration :=
  { image := img, mode := modeTaken mode, var := var,
    params := img.params.patched img.overlays[overlayNumber mode var] }

/-! ## Ranges -/

/-- The total shift of a preset (Table 8.2). -/
def presetShift (preset : Nat) : Nat :=
  match preset with
  | 0 => 5 | 1 => 20 | 2 => 32 | 3 => 44 | _ => 4

/-- The CIC order of a preset (Table 8.2). -/
def presetOrder (preset : Nat) : Nat :=
  match preset with
  | 0 => 3 | 1 | 2 | 3 => 4 | _ => 1

/-- The comb shifts SH[1] to SH[N] in force; a value of 0 puts the whole shift on the last comb (R264, R478). -/
def MonParams.shifts (m : MonParams) : List Nat :=
  let n := presetOrder m.preset.toNat
  if m.sh = 0 then List.replicate (n - 1) 0 ++ [presetShift m.preset.toNat]
  else (List.range n).map fun i => (m.sh.extractLsb' (6 * i) 6).toNat

/-- Whether the comb shifts meet R478 for the preset in force. -/
def MonParams.shiftsOk (m : MonParams) : Bool :=
  let n := presetOrder m.preset.toNat
  let total := presetShift m.preset.toNat
  m.sh == 0 ||
    ((m.sh >>> (6 * n)) == 0 && m.shifts.all (fun k => decide (k ≤ total)) && m.shifts.sum == total)

/-- The ranges of Tables 15.5 for one channel, by PID; SHALLOW above DEEP is named by SHALLOW (Table 15.9). -/
def ChanParams.bad (c : ChanParams) (pid : Nat) : Bool :=
  match pid with
  | 0x0406 => c.slewStep == 0
  | 0x0407 => c.slewInt == 0 || decide (256 < c.slewInt.toNat)
  | 0x0408 => c.retStep == 0
  | 0x0409 => c.retInt == 0 || decide (256 < c.retInt.toNat)
  | 0x040A => decide (511 < c.shallow.toNat) || decide (c.deep.toNat < c.shallow.toNat)
  | 0x040B => decide (511 < c.deep.toNat)
  | _ => false

/-- The ranges of Tables 15.6 and 15.7 for one input, by PID; the comb shifts are named by MONn_SH (Table 15.9). -/
def MonParams.bad (c : MonParams) (pid : Nat) : Bool :=
  match pid with
  | 0x0501 => c.pgain == 3
  | 0x0504 => decide (4 < c.preset.toNat)
  | 0x0506 => !c.shiftsOk
  | 0x0601 => decide (0x40 < c.detRef.toNat) && c.detRef != 0x7F
  | 0x0602 => c.detFreq.getLsbD 47
  | 0x0603 => c.detCyc == 0
  | _ => false

/-- The ranges of Table 15.4 for one player. -/
def PlayerParams.bad (c : PlayerParams) (pid : Nat) : Bool :=
  match pid with
  | 0x0303 => decide (0x3F < c.ref.toNat) && c.ref != 0x7F
  | _ => false

/-- The ranges of Table 15.3 for one pin. -/
def PinParams.bad (c : PinParams) (pid : Nat) : Bool :=
  match pid with
  | 0x0201 => c.evDeb == 0
  | 0x0202 => decide (0x10 ≤ c.mkSrc.toNat) && c.mkSrc != 0x1F
  | 0x0203 => c.mkWidth == 0
  | _ => false

/-- The ranges of Tables 15.2 and 15.8. -/
def DevParams.bad (d : DevParams) (pid : Nat) : Bool :=
  match pid with
  | 0x0101 => decide (d.txnTimeout.toNat < 64)
  | 0x0102 => decide (d.probation.toNat < 16) || decide (4096 < d.probation.toNat)
  | 0x0701 => decide (d.srIdle.toNat < 4)
  | 0x0702 => decide (d.devRetire.toNat < 64)
  | 0x0703 => decide (d.scrubPass.toNat < 8)
  | 0x0801 => decide (1 ≤ d.calInterval.toNat) && decide (d.calInterval.toNat ≤ 63)
  | _ => false

/-- Whether a parameter lies outside its range, or breaks a rule of Table 15.9 that is named by it (R481). -/
def Params.bad (p : Params) (pid i : Nat) : Bool :=
  match pid / 256 with
  | 2 => p.pin.toList[i]?.any (·.bad pid)
  | 3 => p.player.toList[i]?.any (·.bad pid)
  | 4 => p.chan.toList[i]?.any (·.bad pid)
  | 5 | 6 => p.mon.toList[i]?.any (·.bad pid)
  | _ => p.dev.bad pid

/-- The first parameter outside its range, by ascending PID and PIDX (R148). -/
def Params.firstBad (p : Params) : Option (Nat × Nat) :=
  paramRows.findSome? fun r => ((List.range r.instances).find? fun i => p.bad r.pid i).map fun i => (r.pid, i)

/-- The first entry of an overlay that patches a parameter outside its class, by ascending PID and PIDX (R471, R472). -/
def firstUnpatchable (overlay : Nat) (es : List Patch) : Option (Nat × Nat) :=
  paramRows.findSome? fun r =>
    if r.cls.permits overlay then none
    else ((List.range r.instances).find? fun i => es.any fun e => e.pid.toNat == r.pid && e.pidx.toNat == i).map
      fun i => (r.pid, i)

end Sys2Proof.Machine
end

