-- ==== Sys2Proof/Machine/Program.lean ====
section
/-! DEFINITION. Programs: the fields of a step (R179 to R182), loops (R189), which steps are reachable (R180, R526), what
validation finds in a step (R182 to R213), and the channels that a configuration lets leave nominal (R150). -/

namespace Sys2Proof.Machine

/-- A program step as stored (R179). -/
abbrev Step := BitVec 128

/-- The opcodes (Table 6.3). -/
inductive Op where
  | play | tone | chirp | ramp | noise | level | wait | loop | next | jump | finish | extension | reserved
  deriving DecidableEq, Repr

/-- OP. -/
def Step.op (st : Step) : Op :=
  match (st.extractLsb' 0 8).toNat with
  | 0x01 => .play | 0x02 => .tone | 0x03 => .chirp | 0x04 => .ramp | 0x05 => .noise | 0x06 => .level | 0x07 => .wait
  | 0x08 => .loop | 0x09 => .next | 0x0A => .jump | 0x0B => .finish | 0xFF => .extension
  | _ => .reserved

/-- A field of a step. -/
def Step.field (st : Step) (lo w : Nat) : Nat := (st.extractLsb' lo w).toNat

/-- BND: 0 IMMEDIATE, 1 SEGMENT, 2 LOOP. -/
def Step.bnd (st : Step) : BitVec 2 := st.extractLsb' 8 2
/-- RST. -/
def Step.rst (st : Step) : Bool := st.getLsbD 10
/-- FBK. -/
def Step.fbk (st : Step) : Bool := st.getLsbD 11
/-- MKA: 0 none, 1 SET, 2 CLEAR, 3 PULSE. -/
def Step.mka (st : Step) : BitVec 2 := st.extractLsb' 12 2
/-- MKE. -/
def Step.mke (st : Step) : Bool := st.getLsbD 14
/-- EVE. -/
def Step.eve (st : Step) : Bool := st.getLsbD 15
/-- EVC. -/
def Step.evc (st : Step) : Nat := st.field 16 6
/-- EVT. -/
def Step.evt (st : Step) : Nat := st.field 22 10
/-- DUR of TONE, RAMP, NOISE, LEVEL and of a CHIRP's extension. -/
def Step.dur (st : Step) : Nat := st.field 32 32
/-- SEG of PLAY. -/
def Step.seg (st : Step) : Nat := st.field 32 16
/-- LANES of PLAY. -/
def Step.lanes (st : Step) : Bool := st.getLsbD 48
/-- RATIO of PLAY. -/
def Step.ratio (st : Step) : Nat := st.field 64 32
/-- FBT of PLAY. -/
def Step.fbt (st : Step) : Nat := st.field 96 10
/-- F of TONE and RAMP. -/
def Step.freq (st : Step) : Phase := st.extractLsb' 64 48
/-- TT of TONE. -/
def Step.tt (st : Step) : Nat := st.field 112 3
/-- TT of a CHIRP's extension. -/
def Step.extTt (st : Step) : Nat := st.field 64 3
/-- F0 of CHIRP. -/
def Step.f0 (st : Step) : Phase := st.extractLsb' 32 48
/-- DF of CHIRP, signed. -/
def Step.df (st : Step) : Int := (st.extractLsb' 80 48).toInt
/-- SHAPE of RAMP. -/
def Step.shape (st : Step) : BitVec 2 := st.extractLsb' 112 2
/-- SEED of NOISE. -/
def Step.seed (st : Step) : BitVec 32 := st.extractLsb' 64 32
/-- HOLD of NOISE. -/
def Step.hold (st : Step) : Nat := st.field 96 8
/-- CODE of LEVEL. -/
def Step.code (st : Step) : Code := st.extractLsb' 64 10
/-- MTAB of LEVEL. -/
def Step.mtab (st : Step) : Nat := st.field 80 4
/-- MENT of LEVEL. -/
def Step.ment (st : Step) : Nat := st.field 84 6
/-- SRC of LEVEL. -/
def Step.src (st : Step) : Bool := st.getLsbD 95
/-- REL of LEVEL. -/
def Step.rel (st : Step) : Bool := st.getLsbD 96
/-- TMO of WAIT. -/
def Step.tmo (st : Step) : Nat := st.field 32 32
/-- TOT of WAIT. -/
def Step.tot (st : Step) : Nat := st.field 64 10
/-- COUNT of LOOP. -/
def Step.count (st : Step) : BitVec 24 := st.extractLsb' 32 24
/-- TARGET of JUMP. -/
def Step.target (st : Step) : Nat := st.field 32 10

/-- The bits from `lo`, `w` of them. -/
def bitsAt (lo w : Nat) : BitVec 128 := ((1#128 <<< w) - 1) <<< lo

/-- The bits that Tables 6.2 and 6.3 assign to a step (R181). -/
def Op.assigned (o : Op) : BitVec 128 :=
  let common := bitsAt 0 32
  match o with
  | .play => common ||| bitsAt 32 17 ||| bitsAt 64 42
  | .tone => common ||| bitsAt 32 83
  | .chirp => BitVec.allOnes 128
  | .ramp => common ||| bitsAt 32 82
  | .noise => common ||| bitsAt 32 72
  | .level => common ||| bitsAt 32 42 ||| bitsAt 80 10 ||| bitsAt 95 2
  | .wait => common ||| bitsAt 32 42
  | .loop => common ||| bitsAt 32 24
  | .next | .finish => common
  | .jump => common ||| bitsAt 32 10
  | .extension => bitsAt 0 8 ||| bitsAt 32 35
  | .reserved => BitVec.allOnes 128

/-- Whether a step keeps the structure of its record: no reserved bit of a defined OP is set (R181, R447). -/
def Step.sound (st : Step) : Bool := (st &&& ~~~(st.op.assigned)) == 0

/-- Whether an opcode is a frame step (R183). -/
def Op.isFrame (o : Op) : Bool :=
  match o with
  | .play | .tone | .chirp | .ramp | .noise | .level | .wait => true
  | _ => false

/-- Whether an opcode is a control step (R185). -/
def Op.isControl (o : Op) : Bool :=
  match o with
  | .loop | .next | .jump | .finish => true
  | _ => false

/-- Whether a step has a DUR of its own that may be 0 (R184). -/
def Op.hasDur (o : Op) : Bool :=
  match o with
  | .tone | .ramp | .noise | .level => true
  | _ => false

/-! ## Loops -/

/-- The pairing of LOOP and NEXT, scanning from index `i` with the open LOOPs on a stack: innermost first (R189). -/
def pairFrom (i : Nat) (stack : List Nat) : List Step → List (Nat × Nat)
  | [] => []
  | st :: rest =>
    match st.op with
    | .loop => pairFrom (i + 1) (i :: stack) rest
    | .next =>
      match stack with
      | [] => pairFrom (i + 1) [] rest
      | l :: outer => (l, i) :: pairFrom (i + 1) outer rest
    | _ => pairFrom (i + 1) stack rest

/-- A program with its loops. -/
structure Prog where
  steps : List Step
  pairs : List (Nat × Nat)
  deriving DecidableEq, Repr

/-- The program of a step list. -/
def Prog.of (steps : List Step) : Prog := { steps := steps, pairs := pairFrom 0 [] steps }

/-- The step at an index, none beyond the program. -/
def Prog.at? (g : Prog) (i : Nat) : Option Step := g.steps[i]?

/-- The opcode at an index; END beyond the program (R186). -/
def Prog.op (g : Prog) (i : Nat) : Op := (g.at? i).elim .finish Step.op

/-- The LOOPs whose bodies enclose a step, innermost first (R189). -/
def Prog.loopsOf (g : Prog) (i : Nat) : List Nat :=
  (g.pairs.filter fun p => decide (p.1 < i) && decide (i < p.2)).map Prod.fst

/-- The depth of a step (R189). -/
def Prog.depth (g : Prog) (i : Nat) : Nat := (g.loopsOf i).length

/-- The LOOP of a NEXT. -/
def Prog.loopOf (g : Prog) (n : Nat) : Option Nat := (g.pairs.find? fun p => p.2 == n).map Prod.fst

/-- Whether a LOOP or a NEXT has its pair. -/
def Prog.paired (g : Prog) (i : Nat) : Bool := g.pairs.any fun p => p.1 == i || p.2 == i

/-- Whether a CHIRP has its extension (R182). -/
def Prog.chirpWhole (g : Prog) (i : Nat) : Bool := g.op (i + 1) == .extension && decide (i + 1 < g.steps.length)

/-- The successor of a step; none past the end, which acts as END (R186). -/
def Prog.successor (g : Prog) (i : Nat) : Option Nat :=
  let j := if g.op i = .chirp then i + 2 else i + 1
  if j < g.steps.length ∧ j < 1024 then some j else none

/-! ## Reachability -/

/-- The targets of the jumps that a step can make (R191): event, time-out, fallback and JUMP targets. -/
def Prog.jumps (g : Prog) (i : Nat) : List Nat :=
  match g.at? i with
  | none => []
  | some st =>
    match st.op with
    | .wait => if st.tmo = 0 then [] else [st.tot]
    | .jump => [st.target]
    | .play => (if st.eve then [st.evt] else []) ++ (if st.fbk then [st.fbt] else [])
    | .tone | .chirp | .ramp | .noise | .level => if st.eve then [st.evt] else []
    | _ => []

/-- The steps that follow a step without a jump: its successor, unless its DUR of 0 gives it no last frame (R184), and
the body or the end of a loop (R190). -/
def Prog.follows (g : Prog) (i : Nat) : List Nat :=
  match g.at? i with
  | none => []
  | some st =>
    match st.op with
    | .play | .wait => (g.successor i).toList
    | .chirp => if g.chirpWhole i then (g.successor i).toList else []
    | .tone | .ramp | .noise | .level => if st.dur = 0 then [] else (g.successor i).toList
    | .loop => if g.paired i then [i + 1] else []
    | .next =>
      match g.loopOf i with
      | none => []
      | some l =>
        let c := (g.at? l).elim 0 fun s => s.count.toNat
        (if c = 1 then [] else [l + 1]) ++ (if c = 0 then [] else (g.successor i).toList)
    | .jump | .finish | .extension | .reserved => []

/-- The steps reached from the list `todo`, beyond those already seen. -/
def Prog.reach (g : Prog) : Nat → List Nat → List Nat → List Nat
  | 0, _, seen => seen
  | _ + 1, [], seen => seen
  | fuel + 1, i :: todo, seen =>
    if seen.contains i || decide (g.steps.length ≤ i) || g.op i == .extension then g.reach fuel todo seen
    else g.reach fuel (g.follows i ++ g.jumps i ++ todo) (i :: seen)

/-- The reachable steps, ascending (R180). -/
def Prog.reachable (g : Prog) (entry : Nat) : List Nat :=
  let seen := g.reach (4 * g.steps.length + 4) [entry] []
  (List.range g.steps.length).filter seen.contains

/-! ## Findings of validation -/

/-- Whether a jump from step `i` may go to step `t` (R191). `inner` drops the innermost loop, for a LOOP watch. -/
def Prog.jumpAllowed (g : Prog) (i t : Nat) (inner : Bool) : Bool :=
  let from_ := if inner then (g.loopsOf i).drop 1 else g.loopsOf i
  let to_ := g.loopsOf t
  decide (t < g.steps.length) && g.op t != .next && decide (to_.length ≤ from_.length) &&
    (from_.drop (from_.length - to_.length) == to_)

/-- Whether every jump of a step is allowed (R191); an event watch whose BND is LOOP at depth 1 or more jumps from the
NEXT that it replaces. -/
def Prog.jumpsAllowed (g : Prog) (i : Nat) : Bool :=
  match g.at? i with
  | none => true
  | some st =>
    let watch := if st.eve && st.op.isFrame && st.op != .wait then
      g.jumpAllowed i st.evt (st.bnd == 2 && decide (1 ≤ g.depth i)) else true
    let other := match st.op with
      | .wait => st.tmo == 0 || g.jumpAllowed i st.tot false
      | .jump => g.jumpAllowed i st.target false
      | .play => !st.fbk || g.jumpAllowed i st.fbt false
      | _ => true
    watch && other

/-- Whether a step names a reserved event code (R163): in a watch, or as the event of a WAIT. -/
def Prog.namesReserved (g : Prog) (i : Nat) : Bool :=
  (g.at? i).any fun st => (st.op == .wait || (st.op.isFrame && st.eve)) && decide (0x1E ≤ st.evc)

/-- Whether a reachable step breaks a rule of check 0x14 by itself: R182, R189, R191. -/
def Prog.breaksRefs (g : Prog) (i : Nat) : Bool :=
  match g.at? i with
  | none => false
  | some st =>
    (st.op == .chirp && !g.chirpWhole i) ||
    (g.follows i ++ g.jumps i).any (fun t => g.op t == .extension) ||
    ((st.op == .loop || st.op == .next) && !g.paired i) ||
    !g.jumpsAllowed i

/-- The greatest frequency word, 2^47 − 1 (R202). -/
def freqOk (f : Int) : Bool := decide (0 ≤ f) && decide (f < 2 ^ 47)

/-- Whether a step breaks a range of check 0x16 by itself: Table 6.2, R189, R202, R207, R208, R209, R213. -/
def Prog.breaksRange (g : Prog) (i : Nat) : Bool :=
  match g.at? i with
  | none => false
  | some st =>
    decide (4 < g.depth i) ||
    (st.op.isFrame && st.op != .wait && st.eve && st.bnd == 3) ||
    (match st.op with
     | .tone => !freqOk st.freq.toNat
     | .ramp => !freqOk st.freq.toNat || st.shape == 3
     | .noise => st.rst && st.seed == 0
     | .play => decide (st.ratio < 0x10000) || decide (0x1000000 < st.ratio)
     | .chirp =>
       let d := ((g.at? (i + 1)).getD 0).dur
       g.chirpWhole i && (d == 0 || !freqOk st.f0.toNat || !freqOk (st.f0.toNat + (d - 1 : Nat) * st.df))
     | _ => false)

/-- The stack of loops that a run of control steps has itself pushed, cut back to the loops that enclose a target. -/
def Prog.cut (g : Prog) (known : List (Nat × Nat)) (t : Nat) : List (Nat × Nat) :=
  known.filter fun e => (g.loopsOf t).contains e.1

/-- Whether a run of control steps entered at step `i` can pass through more than `k` of them (R185). `known` holds the
loops pushed within the run with the top of each; the top of a loop pushed before it may be any that its COUNT allows.
`watches l` gives the targets of the LOOP watches whose innermost loop is `l` and whose jump may be pending (Table 6.4): none once
a jump has been taken (R194). DEDUCED: the implicit END of R186 is no step and does not count among the 8 (log entry 141). -/
def Prog.longRun (g : Prog) (watches : Nat → List Nat) : Nat → Nat → List (Nat × Nat) → Bool
  | 0, i, _ => (g.op i).isControl && decide (i < g.steps.length)
  | k + 1, i, known =>
    if g.steps.length ≤ i then false
    else
      let st := (g.at? i).getD 0
      match st.op with
      | .loop => g.paired i && g.longRun watches k (i + 1) ((i, st.count.toNat) :: known)
      | .jump => g.longRun (fun _ => []) k st.target (g.cut known st.target)
      | .next =>
        match g.loopOf i with
        | none => false
        | some l =>
          let count := (g.at? l).elim 0 fun s => s.count.toNat
          let after (m : List (Nat × Nat)) : Bool :=
            match g.successor i with
            | some j => g.longRun watches k j m
            | none => false
          let back (m : List (Nat × Nat)) : Bool := g.longRun watches k (l + 1) m
          match known with
          | (l', top) :: outer =>
            if l' = l then
              (watches l).any (fun t => g.longRun (fun _ => []) k t (g.cut outer t)) ||
              (if top = 0 then back known else if top = 1 then after outer else back ((l, top - 1) :: outer))
            else false
          | [] =>
            (watches l).any (fun t => g.longRun (fun _ => []) k t []) ||
            (count != 0 && after []) || (count != 1 && back [(l, if count = 0 then 0 else count - 1)])
      | _ => false

/-- The targets of the LOOP watches whose innermost loop is `l` (Table 6.4). -/
def Prog.loopWatches (g : Prog) (reachable : List Nat) (l : Nat) : List Nat :=
  (reachable.filter fun j =>
    let st := (g.at? j).getD 0
    st.op.isFrame && st.op != .wait && st.eve && st.bnd == 2 && (g.loopsOf j).head? == some l).map
    fun j => ((g.at? j).getD 0).evt

/-- The first step, ascending, at which a run of more than 8 control steps begins (R185): where a frame step is followed, with a
jump pending perhaps, or at the entry or the target of a jump, with none. -/
def Prog.firstLongRun (g : Prog) (entry : Nat) (reachable : List Nat) : Option Nat :=
  let frames := reachable.filter fun i => (g.op i).isFrame
  let followed := frames.flatMap g.follows
  let fresh := entry :: frames.flatMap g.jumps
  reachable.find? fun i =>
    (followed.contains i && g.longRun (g.loopWatches reachable) 8 i []) ||
    (fresh.contains i && g.longRun (fun _ => []) 8 i [])

/-! ## Configurations -/

/-- Whether a mode lets channels leave nominal and runs players: MARGIN, SWEEP, PLAY and SYNTH (Table 2.5, R526). -/
def modeRuns (mode : BitVec 3) : Bool := decide (1 ≤ mode.toNat) && decide (mode.toNat ≤ 4)

/-- Whether an opcode is permitted in a mode (Table 2.5). -/
def modePermits (mode : BitVec 3) (o : Op) : Bool :=
  match o with
  | .wait | .loop | .next | .jump | .finish | .level => modeRuns mode
  | .tone | .chirp => mode == 2 || mode == 3
  | .ramp | .noise => mode == 3 || mode == 4
  | .play => mode == 3
  | .extension | .reserved => false

/-- The program of a player. -/
def Configuration.prog (c : Configuration) (p : PlayerNo) : Prog := Prog.of c.image.programs[p]

/-- Whether a player runs in a configuration (R526). -/
def Configuration.runs (c : Configuration) (p : PlayerNo) : Bool :=
  modeRuns c.mode && !(c.image.programs[p]).isEmpty && (c.params.player[p]).bind != 0

/-- The bound channels of a player, its lanes in order (R177). -/
def Configuration.lanes (c : Configuration) (p : PlayerNo) : List Chan := maskMembers (c.params.player[p]).bind

/-- The entry step of a player. -/
def Configuration.entry (c : Configuration) (p : PlayerNo) : Nat := ((c.params.player[p]).entry).toNat

/-- The reachable steps of a player that runs; none for another (R526). -/
def Configuration.reachable (c : Configuration) (p : PlayerNo) : List Nat :=
  if c.runs p then (c.prog p).reachable (c.entry p) else []

/-- The reference channel of a player: the channel that PLn_REF names when it is bound, and otherwise lane 0 (R177). -/
def Configuration.refChan (c : Configuration) (p : PlayerNo) : Option Chan :=
  let pp := c.params.player[p]
  (c.lanes p).find? (fun n => n.val == pp.ref.toNat) <|> (c.lanes p).head?

/-- The code that a LEVEL gives channel `n`, before any judgement of its range; none when its margin table is absent
(R211, R449). -/
def Configuration.levelCode (c : Configuration) (st : Step) (n : Chan) : Option Int :=
  if st.src then
    match c.image.margins.toList[st.mtab]?.join with
    | some tab => some ((tab.getD (64 * st.ment + n.val) 0).toNat : Int)
    | none => none
  else if st.rel then some (((c.params.chan[n]).nom.toNat : Int) + st.code.toInt)
  else some (st.code.toNat : Int)

/-- Whether a step may move a channel from its nominal code (R150). -/
def Configuration.stepMoves (c : Configuration) (st : Step) (n : Chan) : Bool :=
  match st.op with
  | .play | .tone | .chirp | .ramp | .noise => true
  | .level => c.levelCode st n != some ((c.params.chan[n]).nom.toNat : Int)
  | _ => false

/-- Whether a configuration lets a channel leave nominal (R150). -/
def Configuration.leaves (c : Configuration) (n : Chan) : Bool :=
  (List.finRange 16).any fun p =>
    ((c.params.player[p]).bind).getLsbD n.val && c.runs p &&
      (c.reachable p).any fun i => c.stepMoves (((c.prog p).at? i).getD 0) n

/-- The segments that a PLAY names: one for every lane with LANES = 0, SEG + i for lane i with LANES = 1 (R215). -/
def Step.segments (st : Step) (lanes : Nat) : List Nat :=
  if st.lanes then (List.range lanes).map (st.seg + ·) else [st.seg]

/-- The segments that the reachable PLAY steps of a configuration name, ascending (R303). -/
def Configuration.segments (c : Configuration) : List Nat :=
  let named := (List.finRange 16).flatMap fun p =>
    (c.reachable p).flatMap fun i =>
      let st := ((c.prog p).at? i).getD 0
      if st.op = .play then st.segments (c.lanes p).length else []
  named.foldl (fun acc x => insertSortedNat x acc) []
where
  /-- an ascending list with one more member -/
  insertSortedNat (x : Nat) : List Nat → List Nat
    | [] => [x]
    | y :: ys => if x < y then x :: y :: ys else if x = y then y :: ys else y :: insertSortedNat x ys

/-- Whether a capture plan uses a stream. -/
def Configuration.captures (c : Configuration) : Bool :=
  match c.image.plan with
  | some plan => plan.toList.any fun st => st.mask != 0
  | none => false

/-- Whether a configuration needs DRAM (R147). -/
def Configuration.needsDram (c : Configuration) : Bool :=
  c.mode == 1 || c.mode == 2 || c.mode == 3 || c.captures

end Sys2Proof.Machine
end

