-- ==== Sys2Proof/Machine/Ops.lean ====
section
/-! DEFINITION. The named operations on the state that many commands share: the logs, the counters, events and capture
triggers, release and retreat, fault causes, resets, and the closing of a transaction. -/

namespace Sys2Proof.Machine

/-! ## Counters and logs -/

/-- One more in a STATUS counter, modulo 2^32 (R424). -/
def State.bump (s : State) (i : Fin 18) : State :=
  { s with port := { s.port with counter := s.port.counter.set i (s.port.counter[i] + 1) } }

/-- The order of log entries within one frame: ascending CODE, with 0x08 and 0x09 one group, then OBJ, then SUB (R427). -/
def EventEntry.key (e : EventEntry) : Nat :=
  (if e.code = 9 then 8 else e.code.toNat) * 2 ^ 24 + e.obj.toNat * 2 ^ 8 + e.sub.toNat

/-- An entry put in its place at the end of a log whose newest entry stands first. -/
def insertNewest (e : EventEntry) : List EventEntry → List EventEntry
  | [] => [e]
  | x :: xs => if x.epoch = e.epoch ∧ e.key < x.key then x :: insertNewest e xs else e :: x :: xs

/-- An entry of the event log (R427); a full log drops its oldest entry, which counter 4 counts (R423). -/
def State.logEvent (s : State) (code sub : Byte) (obj : BitVec 16) (data : BitVec 48 := 0) : State :=
  let e : EventEntry := { code := code, sub := sub, obj := obj, epoch := s.clock.epoch, data := data }
  let grown := (insertNewest e s.tel.events.reverse).reverse
  if grown.length ≤ 2048 then { s with tel := { s.tel with events := grown } }
  else { s.bump 4 with tel := { s.tel with events := grown.drop 1, eventsDue := s.tel.eventsDue - 1 } }

/-- No offending object (R430). -/
def noObj : Obj := { kind := 0, obj := 0 }

/-- An outcome of Table 5.4 (R162, R430); a full queue drops its oldest, which counter 4 counts (R423). -/
def State.outcome (s : State) (code : Byte) (obj : Obj := noObj) (pin : Byte := 0) (mask : BitVec 64 := 0) : State :=
  let e : OutcomeEntry :=
    { code := code, txid := s.txn.txid, obj := obj, epoch := s.clock.epoch, pin := pin, mask := mask }
  let grown := s.tel.outcomes ++ [e]
  if grown.length ≤ 256 then { s with tel := { s.tel with outcomes := grown } }
  else { s.bump 4 with tel := { s.tel with outcomes := grown.drop 1 } }

/-! ## Free values -/

/-- Whether the device acts on a pulse or dip of a width whose outcome the manual leaves open (R89, R500), and the state
that has taken the next free value. -/
def State.freeChoice (s : State) : Bool × State := (Config.freeBit s.freeCount, { s with freeCount := s.freeCount + 1 })

/-! ## Players' events and captures -/

/-- The players bound to a channel by the live configuration. -/
def State.boundTo (s : State) (p : PlayerNo) (n : Chan) : Bool := ((s.txn.live.params.player[p]).bind).getLsbD n.val

/-- An internal event, 0x18 to 0x1D, raised for every player that `who` names (R163, R199). -/
def State.raiseFor (s : State) (code : Nat) (who : PlayerNo → Bool) : State :=
  { s with player := mapAll (fun p x => if who p then { x with raisedNow := x.raisedNow ||| (1#32 <<< code) } else x) s.player }

/-- The monitor input that the live link map gives a channel (R452). -/
def State.linkOf (s : State) (n : Chan) : Option Chan := (s.txn.live.image.links[n]).mon

/-- Whether the live link map links a channel to an input. -/
def State.linked (s : State) (n i : Chan) : Bool := s.linkOf n == some i

/-- The capture plan that is live (R453). -/
def State.plan (s : State) : Option (Vector CapStream 8) := s.txn.live.image.plan

/-- Every capture stream replaced; the lines that a ring has overwritten count as lost telemetry (R423, Table 13.4). -/
def State.setCaptures (s : State) (f : Fin 8 → Capture → Capture) : State :=
  let mem := s.mem.setCaptures f
  { s with mem := mem, port := { s.port with
      counter := s.port.counter.set 4 (s.port.counter[4] + BitVec.ofNat 32 (mem.gaps - s.mem.gaps)) } }

/-- Every capture stream whose plan entry meets a condition is triggered (R288). -/
def State.fireCaptures (s : State) (cond : CapStream → Bool) : State :=
  match s.plan with
  | none => s
  | some plan => s.setCaptures fun k c => if cond plan[k] then c.fire plan[k] s.clock.clk else c

/-- An EV or SE event, codes 0x00 to 0x17, raised in this frame for every player, and for the captures (R163, R288). -/
def State.raisePin (s : State) (code : Nat) : State :=
  State.fireCaptures { s with pins := { s.pins with raised := s.pins.raised ||| (1#24 <<< code) } }
    fun st => st.trig.toNat == code && st.mask != 0

/-! ## Release and retreat -/

/-- Whether a channel's bank is fitted. -/
def State.fitted (s : State) (n : Chan) : Bool := s.power.fitted[bankOf n]

/-- A channel released (R10): a retreat ends (R494), a switch window closes with the new gain (R254), and its
calibration is abandoned, with its Fog flag (R363). -/
def Channel.release (gain : BitVec 1) (c : Channel) : Channel :=
  { c with released := true, retreated := false, window := false, gainHeld := gain, gainNext := gain, fog := false, joinsAt := 0,
           delayed := none, beyond := false, clipRun := false, clipNext := false }

/-- A pass leaves a bank's calibration incomplete. -/
def CalPass.miss (p : CalPass) (b : Bank) : CalPass := { p with missed := p.missed.set b true }

/-- A calibration is abandoned (R363); the pass that runs does not repeat it (R364). -/
def Cal.abandon (c : Cal) (n : Chan) : Cal := { c with item := none, pass := c.pass.map fun p => p.miss (bankOf n) }

/-- The channel that is under calibration is one of those that `who` names: its calibration is abandoned (R363). -/
def State.abandonCal (s : State) (who : Chan → Bool) : State :=
  match s.cal.item with
  | some it => if who it.chan then { s with cal := s.cal.abandon it.chan } else s
  | none => s

/-- A pass begins (R360): the banks whose supply is low cannot be calibrated in it. -/
def State.newPass (s : State) (kind : CalKind) (chan bank : Nat) : CalPass :=
  { kind := kind, nextChan := chan, nextBank := bank, missed := Vector.ofFn fun b => !s.power.isGood (dacDomain b) }

/-- Every channel that `who` names is released (R10, R16). -/
def State.release (s : State) (who : Chan → Bool) : State :=
  State.abandonCal
    { s with chan := mapAll (fun n c => if who n then c.release (s.txn.live.params.chan[n]).gain else c) s.chan } who

/-- Every output is released. -/
def State.releaseAll (s : State) : State := s.release fun _ => true

/-- A channel retreated in frame `clk` (R11): m is set so that the channel's next computation makes the first retreat code (R20,
R238). A released channel stays released (R12), and one that is already retreated only ends its hold. Under calibration the DAC
connects again when the first retreat code latches, a frame after its computation (R363). -/
def Channel.retreat (retInt : BitVec 9) (clk : Nat) (c : Channel) : Channel :=
  if c.released then c
  else if c.retreated then { c with fog := false }
  else
    { c with
      retreated := true, m := retInt, fog := false
      joinsAt := if c.fog then (if c.slotClk = some clk then clk + 2 else clk + 1) else c.joinsAt }

/-- Every channel that `who` names retreats (R11, R18); a calibration of one that is not released is abandoned (R12, R363). -/
def State.retreat (s : State) (who : Chan → Bool) : State :=
  State.abandonCal
    { s with chan := mapAll (fun n c => if who n then c.retreat (s.txn.live.params.chan[n]).retInt s.clock.clk else c) s.chan }
    fun n => who n && !(s.chan[n]).released

/-- All channels retreat. -/
def State.retreatAll (s : State) : State := s.retreat fun _ => true

/-! ## Transactions -/

/-- The shadow as a configuration, when the test `who` holds (R137). -/
def State.shadowIf (s : State) (who : Bool) : List Configuration :=
  match s.txn.shadow with
  | some img => if who then [img.configure s.txn.selMode s.txn.selVar] else []
  | none => []

/-- The segments that configurations name, ascending. -/
def segmentsOf (cs : List Configuration) : List Nat :=
  (cs.flatMap Configuration.segments).foldl (fun acc x => insertSorted x acc) []

/-- The configurations whose segments are resident: live, last-good and a validated shadow (R303). -/
def State.residentSources (s : State) : List Configuration := s.txn.live :: s.txn.lastGood.toList ++ s.shadowIf s.txn.validated

/-- The resident set judged afresh (R303, R304): what the cache holds of other segments is dropped. The controller drops no request
(R307): what a head load of a shadow that is gone returns is not taken. -/
def State.setResident (s : State) : State :=
  let ids := (segmentsOf s.residentSources).map (BitVec.ofNat 16)
  let loading := (segmentsOf (s.shadowIf s.txn.verdict.isSome)).map (BitVec.ofNat 16)
  { s with mem := { s.mem with
      resident := ids
      headWrong := s.mem.headWrong.filter fun e => ids.contains e.1 || loading.contains e.1
      listLines := s.mem.listLines.filter fun e => ids.contains e.1 } }

/-- The device becomes IDLE: no shadow, no verdict, nothing validated; a segment that only the shadow named is resident no more
(R304). -/
def State.closeTxn (s : State) : State :=
  State.setResident
    { s with txn := { s.txn with state := .idle, shadow := none, verdict := none, validated := false, count := 0 } }

/-- The device discards its transaction with an outcome; in IDLE nothing happens (Table 5.2). -/
def State.discard (s : State) (code : Byte) (obj : Obj := noObj) : State :=
  if s.txn.state = .idle then s else (s.outcome code obj).closeTxn

/-- A joined device holds a veto of the present TXID, the first reason standing (R160, R393); the root ends the system
transaction with ABORT at its next boundary. -/
def State.holdVeto (s : State) (code : Byte) : State :=
  if !s.joined then s
  else
    let c := { s.chain with veto := some (s.chain.veto.getD code) }
    if s.isRoot then { s with chain := { c with rootCmd := .sendAbort, sincePrepare := none } } else { s with chain := c }

/-! ## Link ports -/

/-- Whether the role uses a port (Table 12.1). -/
def Role.uses (r : Role) (p : LinkPort) : Bool :=
  match r, p with
  | .standalone, _ => false
  | .root, .a => false
  | .root, _ => true
  | .spine, _ => true
  | .tooth, .c => false
  | .tooth, _ => true

/-- Whether frames on a port reach the device: its role uses it, LINK is good and its receiver holds alignment. Before the
straps are latched the role is not known, and the Causeway serves every port (R405, log entry 110). -/
def State.portLive (s : State) (p : LinkPort) : Bool :=
  s.power.isGood .link && (!s.power.strapsLatched || s.power.role.uses p) && s.chain.connected[portIndex p]

/-- The rank of a set that is inserted on a line: urgent frames before echo sets, and echo sets before measure sets (R371). -/
def LineSet.rank (x : LineSet) : Nat :=
  match x with
  | .urgent _ => 0
  | .echo _ _ => 1
  | .measure _ => 2

/-- A set put in its place among those that a transmitter inserts in this frame, behind those of its own rank (R371). -/
def insertSet (x : LineSet) : List LineSet → List LineSet
  | [] => [x]
  | y :: ys => if LineSet.rank x < LineSet.rank y then x :: y :: ys else y :: insertSet x ys

/-- A set inserted on a port's line. -/
def Chain.insert (c : Chain) (p : Fin 3) (x : LineSet) : Chain := { c with line := c.line.set p (insertSet x c.line[p]) }

/-- The port of an index. -/
def linkPortOf (k : Fin 3) : LinkPort := if k = 0 then .a else if k = 1 then .b else .c

/-! ## Fault causes -/

/-- Whether the beginning and the end of a cause are logged: never bit 5, nor bit 1, whose response stops the core, and bits 2 to 4
only while the content port has power and the core runs (R489, log entry 134). -/
def State.logsFault (s : State) (b : Nat) : Bool :=
  s.coreRuns && b != 5 && b != 1 && !(2 ≤ b && b ≤ 4 && !s.power.isGood .cport)

/-- A cause that releases every output ends probation, of the device and as far as it knows of the system: what then stands is the
power-up state (R156, R495). -/
def State.endsProbation (s : State) (b : Nat) : State :=
  if releaseCauses.getLsbD b then
    { s with
      txn := { s.txn with probation := none, rollbackPending := false, due := { s.txn.due with probationEnd := false } }
      chain := { s.chain with sysProbation := false } }
  else s

/-- A fault that arises discards an OPEN or PENDING transaction with outcome 0x03 (R144); a joined device then votes not
ready with 0x03 where it held a PENDING shadow (R496). -/
def State.faultDiscards (s : State) : State :=
  let s' := s.discard 3
  if s.txn.state = .pending ∨ (s.txn.state = .opened ∧ s.isRoot) then s'.holdVeto 3 else s'

/-- A fault cause begins (R484): its bit is set, the event log holds it, and a transaction is discarded. A cause that is
already present begins nothing. -/
def State.beginFault (s : State) (b : Nat) : State :=
  if s.power.fault b then s
  else
    let s1 := { s with power := { s.power with faults := s.power.faults ||| (1#64 <<< b) } }
    let s2 := if s.logsFault b then s1.logEvent 8 0 (BitVec.ofNat 16 b) else s1
    s2.faultDiscards.endsProbation b

/-- A fault cause clears by its own rule (R493). -/
def State.clearFault (s : State) (b : Nat) : State :=
  if s.power.fault b then
    let s1 := { s with power := { s.power with faults := s.power.faults &&& ~~~(1#64 <<< b) } }
    if s.logsFault b then s1.logEvent 9 0 (BitVec.ofNat 16 b) else s1
  else s

/-! ## Resets and stages -/

/-- The causes that outlive a reset of the core, because they stand outside it: the supplies, the junction and the
strap drift. -/
def lastingCauses : BitVec 64 := 0x19FDC

/-- The channels as a reset of the core leaves them: released, with what calibration has found since power-up (R17,
R354) and what STATUS counts (R424). -/
def Channel.reset (c : Channel) : Channel :=
  { Channel.initial with
    forGood := c.forGood, badUnits := c.badUnits, saturated := c.saturated, clipped := c.clipped, ledgerHeld := c.ledgerHeld }

/-- What a reset of the core leaves of an input: what STATUS counts since power-on reset (R424). -/
def Input.reset (x : Input) : Input := { Input.initial with replaced := x.replaced, discards := x.discards }

/-- What a reset of the core leaves of a player: what STATUS counts (R424). -/
def Player.reset (x : Player) : Player := { Player.initial with badMarkers := x.badMarkers }

/-- The chain state as a reset of every domain but LINK leaves it (R90, R104): what the ports and the Causeway hold stands, and
the Causeway carries the chain duties. -/
def Chain.keepLink (c : Chain) : Chain :=
  { Chain.initial with
    connected := c.connected, delays := c.delays, measureSeq := c.measureSeq, measureOut := c.measureOut,
    measureAt := c.measureAt, echoMisses := c.echoMisses, returns := c.returns, returnedTick := c.returnedTick,
    outSync := c.outSync, outReturn := c.outReturn, outUrgent := c.outUrgent, outMeasure := c.outMeasure,
    outEcho := c.outEcho, line := c.line, lineBefore := c.lineBefore, wayBase := c.wayBase, wayDepth := c.wayDepth }

/-- Every domain except LINK is reset (R90). What stands outside the reset survives: the supplies, the latched straps and
drift fault (R133), the drifts of a tick that a loss of lock interrupts (R97), the driver of RTR_N, which RST_N alone lets
go here (R175), the one-time-programmable cells, the flash, the STATUS counters (R424) and the ports' alignment.
DESIGN CHOICE: telemetry's SEQ and the detectors' LOST count stand too (log entry 135). -/
def State.coreReset (s : State) : State :=
  { State.reset with
    power := { Power.initial with
      good := s.power.good, straps := s.power.straps, strapsLatched := s.power.strapsLatched,
      driftLatched := s.power.driftLatched, drifted := s.power.drifted, fitted := s.power.fitted, judged := s.power.judged,
      faults := s.power.faults &&& lastingCauses, key := s.power.key, kcv := s.power.kcv,
      thermal := s.power.thermal, junction := s.power.junction, junctionActs := s.power.junctionActs, refinMv := s.power.refinMv }
    clock := { Clock.initial with clk := s.clock.clk }
    pins := { Pins.initial with rtrDrive := s.pins.rtrDrive }
    txn := Txn.initial (defaultImage s.power.straps)
    chan := mapAll (fun _ c => c.reset) s.chan
    sense := { Sense.initial with input := mapAll (fun _ x => x.reset) s.sense.input }
    player := mapAll (fun _ x => x.reset) s.player
    mem := { Mem.initial with cells := s.mem.cells }
    ledger := { Ledger.initial with region := s.ledger.region }
    cal := { Cal.initial with owed := s.cal.owed }
    chain := s.chain.keepLink
    port := { Port.initial with counter := s.port.counter }
    tel := { Telemetry.initial with seq := s.tel.seq, resultsLost := s.tel.resultsLost }
    tap := s.tap
    freeCount := s.freeCount
    pending := s.pending }

/-- Power-on reset is awaited: every domain except LINK is held in reset (R104, R105), and nothing that was latched at
the last power-up stands. No boundary cell drives an output (R101, log entry 106). -/
def State.powerReset (s : State) : State :=
  { State.reset with
    power := { Power.initial with good := s.power.good, key := s.power.key, kcv := s.power.kcv }
    clock := { Clock.initial with clk := s.clock.clk }
    mem := { Mem.initial with cells := s.mem.cells }
    ledger := { Ledger.initial with region := s.ledger.region }
    chain := s.chain.keepLink
    tap := { s.tap with driving := false, hiZ := false }
    freeCount := s.freeCount
    pending := s.pending }

/-- The stage code of Table 4.1 that MK[7:0] shows. -/
def Stage.code (st : Stage) : Byte :=
  match st with
  | .strap => 1 | .supply => 2 | .clock => 3 | .core => 4 | .flash => 5 | .ledger => 6 | .dram => 7 | .image => 8
  | .join => 9 | .trimWait => 10 | .provision => 5 | .provisioned => 0x0F
  | .failed c => c
  | .reset | .rstLow | .done => 0

/-- A stage begins, and the pins show it (R110). -/
def State.enterStage (s : State) (st : Stage) : State :=
  State.showSt { s with power := { s.power with stage := st, mkCode := st.code } }

/-- Bring-up fails with a cause code (R130): bit 32 begins, and the pins hold the signature. -/
def State.failBringUp (s : State) (cause : Byte) : State := (s.beginFault 32).enterStage (.failed cause)

/-- A restart of the core other than by RST_N or power-on reset: the device keeps its ID (R379). -/
def State.coreRestart (s : State) : State :=
  let s1 := s.coreReset
  { s1 with chain := { s1.chain with id := s.chain.id, spine := s.chain.spine, tooth := s.chain.tooth } }

/-- Bring-up returns to SUPPLY with the straps latched (R133, Table 4.3). -/
def State.restartAtSupply (s : State) : State := s.coreRestart.enterStage .supply

/-- Bring-up returns to CLOCK; the stages after it run again in full, on what SUPPLY has judged (R108, R116). -/
def State.returnToClock (s : State) : State :=
  let s1 := s.coreRestart
  State.enterStage { s1 with mem := { s1.mem with fitted := s.mem.fitted } } .clock

/-- Bring-up completes (R112): the power-up state holds and every output stays released. The waits are over. -/
def State.completeBringUp (s : State) : State :=
  State.enterStage { s with power := { s.power with powerUp := true } } .done

/-- Whether power-up calibration is complete for every fitted bank (Table 4.1): the pass has ended, and no fitted bank owes one (log
entry 67). -/
def State.trimmed (s : State) : Bool :=
  s.cal.powerUpDone && (List.finRange 4).all fun b => !s.power.fitted[b] || !s.cal.owed[b]

/-- TRIM-WAIT begins, and ends at once when power-up calibration is complete (Table 4.1, R112). -/
def State.enterTrimWait (s : State) : State :=
  if s.trimmed then s.completeBringUp else s.enterStage .trimWait

/-! ## Boundary scan -/

/-- The boundary-scan instructions that act on the outputs take effect only while RST_N is low, and act as BYPASS otherwise
(R101). -/
def Tap.settle (t : Tap) (rstLow : Bool) : Tap :=
  let drives := match t.ir with
    | .extest | .extestPulse | .extestTrain | .clamp => rstLow
    | .bypass | .idcode | .samplePreload | .highz => false
  { t with driving := drives, hiZ := rstLow && t.ir == .highz }

/-! ## Frames and ticks -/

/-- The number of frames `clk` moves on. -/
def Clock.pass (c : Clock) (frames : Nat) : Clock :=
  { c with epoch := c.epoch + BitVec.ofNat 48 frames, clk := c.clk + frames }

/-- A frame passes on the ports' lines: what they inserted in it lies behind. -/
def Chain.passFrame (c : Chain) : Chain := { c with lineBefore := c.line, line := Vector.replicate 3 [] }

/-- A frame begins: the events of the frame before are over, internal events count one frame after they were raised
(R199), ST[2:0] shows the state that stood at the end of the frame before (R170), the ports' lines are clear of what
they inserted, and a player that runs is RUNNING in it, whatever its last step brings (R219). -/
def State.beginFrame (s : State) : State :=
  { s with
    pins := { s.pins with raised := 0, st := s.stCode }
    chain := s.chain.passFrame
    player := mapAll (fun _ p =>
      { p with raisedSeen := p.raisedNow, raisedNow := 0, followed := 0, leftBy := [], ran := p.state == .running, ranLast := p.ran }) s.player }

/-- The filtered and debounced levels after a lock: the majority of three samples (R83). A TX pin that is high counts its width
from this frame. -/
def Pins.setFrom (p : Pins) (samples : Vector PinSample 3) (clk : Nat) : Pins :=
  let a := samples[0]
  let b := samples[1]
  let c := samples[2]
  let tx := (a.tx &&& b.tx) ||| (a.tx &&& c.tx) ||| (b.tx &&& c.tx)
  { p with
    mode := (a.mode &&& b.mode) ||| (a.mode &&& c.mode) ||| (b.mode &&& c.mode)
    var := (a.var &&& b.var) ||| (a.var &&& c.var) ||| (b.var &&& c.var)
    ev := (a.ev &&& b.ev) ||| (a.ev &&& c.ev) ||| (b.ev &&& c.ev)
    txHigh := Vector.ofFn fun k => if tx.getLsbD k.val then some clk else none
    rtrLow := !majority a.rtrN b.rtrN c.rtrN, locking := none }

/-- A filtered MODE code that is invalid is a fault cause, bit 17 (R92). -/
def State.judgeMode (s : State) : State := if modeInvalid s.pins.mode then s.beginFault 17 else s

/-- The third frame after a lock sets the filtered levels (R83). -/
def State.settlePins (s : State) : State :=
  match s.pins.locking with
  | some (t, samples) =>
    if t ≤ s.clock.clk then
      State.judgeMode { s with pins := s.pins.setFrom samples t, clock := { s.clock with pinsSetAt := t } }
    else s
  | none => s

/-- The MK edges of the frame before whose ball instant lies in this one (R168). -/
def Pins.showMarkers (p : Pins) : Pins :=
  { p with
    mkLevel := mapAll (fun k x => (p.mkLevelNext[k]).getD x) p.mkLevel
    mkPulse := mapAll (fun k x => p.mkPulseNext[k] <|> x) p.mkPulse
    mkLevelNext := Vector.replicate 8 none, mkPulseNext := Vector.replicate 8 none }

end Sys2Proof.Machine
end

