-- ==== Sys2Proof/Machine/Sequencer.lean ====
section
/-! DEFINITION. The sequencing of players: what a step does at its first frame, markers, the noise generator, fallbacks
(R220 to R222, R529), jumps (R191), and the per-frame bookkeeping of R199. -/

namespace Sys2Proof.Machine

/-! ## Detectors' restart -/

/-- The detector discards its integration and starts afresh (R286); a partial integration is counted. -/
def Input.restartDetector (x : Input) : Input :=
  { x with iAcc := 0, qAcc := 0, n := 0, taint := false, passes := 0, prevTheta := none,
           discards := if x.n = 0 then x.discards else x.discards + 1 }

/-- The drive channel whose phase is a detector's reference, none for its free NCO (R278). -/
def Configuration.detChan (c : Configuration) (i : Chan) : Option Chan :=
  let r := (c.params.mon[i]).detRef.toNat
  if r ≤ 0x3F then some ⟨r % 64, Nat.mod_lt _ (by decide)⟩
  else if r = 0x40 then none
  else (List.finRange 64).find? fun n => (c.image.links[n]).mon == some i

/-- The detectors that DETn_SYNC restarts at the first frame of a TONE or CHIRP of a player (R286). -/
def State.syncDetectors (s : State) (p : PlayerNo) : State :=
  let restart (i : Chan) (x : Input) : Input :=
    if (s.txn.live.params.mon[i]).detSync == 1 && (s.txn.live.detChan i).any (s.boundTo p) then x.restartDetector else x
  { s with sense := { s.sense with input := mapAll restart s.sense.input } }

/-! ## Markers -/

/-- Whether a player's marker edges of a frame reach the ball in the next frame (R168): the reference channel latches at slot 0 of
the next frame with ALIGN on, and otherwise in its own slot, and the edge follows 32 slots after the latch. -/
def State.edgeLate (s : State) (p : PlayerNo) : Bool :=
  s.txn.live.params.dev.align == 1 || (s.txn.live.refChan p).any fun n => decide (32 ≤ n.val)

/-- Whether the pins that follow a player show its markers: while it runs, and through the last frame in which it was RUNNING, as that
frame shows at the ball (R166, R168, R219, Table 6.1). -/
def State.showsMarkers (s : State) (p : PlayerNo) : Bool :=
  let x := s.player[p]
  x.state == .running || (x.state == .ended && (x.ran || (x.ranLast && s.edgeLate p)))

/-- The level of MKk once bring-up is complete: the level of its step actions or its running pulse (R167); low when it
follows no player, or one that does not run (R166, Table 6.1). -/
def State.markerPin (s : State) (k : Fin 8) : Bool :=
  let src := (s.txn.live.params.pin[k]).mkSrc
  if h : src.toNat < 16 then s.showsMarkers ⟨src.toNat, h⟩ && (s.pins.mkLevel[k] || (s.pins.mkPulse[k]).isSome)
  else false

/-- MKk: a bit of the stage code during bring-up (R110), and marker duty afterwards (R112). -/
def State.mkPin (s : State) (k : Fin 8) : Bool :=
  if s.isUp then s.markerPin k else s.power.mkCode.getLsbD k.val

/-- The end of a pulse on pin k that starts in frame `start` (R167). -/
def State.pulseEnd (s : State) (k : Fin 8) (start : Nat) : Nat := start + (s.txn.live.params.pin[k]).mkWidth.toNat

/-- Whether pin k follows a player (R166). -/
def State.follows (s : State) (k : Fin 8) (p : PlayerNo) : Bool := (s.txn.live.params.pin[k]).mkSrc.toNat == p.val

/-- A pulse on every pin that follows a player; one that runs is restarted (R167). It starts in the frame in which its edge reaches
the ball (R168). -/
def State.pulse (s : State) (p : PlayerNo) : State :=
  let ends (start : Nat) (v : Vector (Option Nat) 8) : Vector (Option Nat) 8 :=
    mapAll (fun k x => if s.follows k p then some (s.pulseEnd k start) else x) v
  if s.edgeLate p then { s with pins := { s.pins with mkPulseNext := ends (s.clock.clk + 1) s.pins.mkPulseNext } }
  else { s with pins := { s.pins with mkPulse := ends s.clock.clk s.pins.mkPulse } }

/-- The level of every pin that follows a player, from the frame in which the edge reaches the ball (R168). -/
def State.setLevel (s : State) (p : PlayerNo) (level : Bool) : State :=
  if s.edgeLate p then
    { s with pins := { s.pins with
        mkLevelNext := mapAll (fun k x => if s.follows k p then some level else x) s.pins.mkLevelNext } }
  else { s with pins := { s.pins with mkLevel := mapAll (fun k x => if s.follows k p then level else x) s.pins.mkLevel } }

/-- A step's marker action (R167, R219): 1 SET, 2 CLEAR, 3 PULSE. -/
def State.marker (s : State) (p : PlayerNo) (act : BitVec 2) : State :=
  if act = 1 ∨ act = 2 then s.setLevel p (act == 1)
  else if act = 3 then s.pulse p
  else s

/-! ## Noise -/

/-- One advance of the noise generator (R209). -/
def noiseStep (r : BitVec 32) : BitVec 32 :=
  let b := r.getLsbD 31 ^^ r.getLsbD 21 ^^ r.getLsbD 1 ^^ r.getLsbD 0
  (r <<< 1) ||| (BitVec.ofBool b).zeroExtend 32

/-- Ten advances (R210). -/
def noiseTen (r : BitVec 32) : BitVec 32 :=
  noiseStep (noiseStep (noiseStep (noiseStep (noiseStep (noiseStep (noiseStep (noiseStep (noiseStep (noiseStep r)))))))))

/-- The register advances ten times and its ten lowest bits become the value (R210). -/
def Player.drawNoise (x : Player) : Player :=
  let r := noiseTen x.noise
  { x with noise := r, noiseValue := r.extractLsb' 0 10 }

/-! ## One player -/

/-- One player changed. -/
def State.onPlayer (s : State) (p : PlayerNo) (f : Player → Player) : State :=
  { s with player := s.player.set p (f s.player[p]) }

/-- The program of a player in the live configuration. -/
def State.prog (s : State) (p : PlayerNo) : Prog := s.txn.live.prog p

/-- The step in force of a player. -/
def State.stepOf (s : State) (p : PlayerNo) : Step := ((s.prog p).at? (s.player[p]).pc.toNat).getD 0

/-- The reference of the frame after the present one, which the detectors use (R280). -/
def Player.record (x : Player) (frame : Nat) : Player :=
  { x with refs := ({ clk := frame, phase := x.unwrapped, word := x.word, gen := x.gen } ::
      x.refs.filter fun r => r.clk != frame).take 4 }

/-- The phase accumulator reset to 0 (R200). -/
def Player.resetPhase (x : Player) : Player := { x with phase := 0, unwrapped := 0, gen := x.gen + 1 }

/-- The loop stack cut to a depth (R191). -/
def Player.truncate (x : Player) (depth : Nat) : Player := { x with loops := x.loops.drop (x.loops.length - depth) }

/-- Whether DRAM fetch has stopped: DPHY lost, DRAM lost or DDR_ALERT_N (R327, Table 16.1). -/
def State.dramDown (s : State) : Bool := s.power.fault 13 || s.power.fault 14 || s.power.fault 33

/-- The segments that a player's PLAY step plays, lane by lane. -/
def State.playSegments (s : State) (p : PlayerNo) (st : Step) : List Nat := st.segments (s.txn.live.lanes p).length

/-- The segment of a number, none when it is FREE or no ID. -/
def State.segment (s : State) (id : Nat) : Option Segment :=
  if id < 65536 then s.mem.seg (BitVec.ofNat 16 id) else none

/-- The segment that a lane of a PLAY plays (R215). -/
def State.laneSegment (s : State) (p : PlayerNo) (st : Step) (n : Chan) : Nat :=
  if st.lanes then st.seg + (s.txn.live.lanes p).findIdx (· == n) else st.seg

/-- What the cached head of a lane's segment holds wrong (R303, R321). -/
def State.headOf (s : State) (p : PlayerNo) (st : Step) (n : Chan) : List (Nat × BitVec 64) :=
  (s.mem.headWrong.filter fun e => e.1.toNat == s.laneSegment p st n).map Prod.snd

/-- The length of the segment that a PLAY plays, in samples; all its segments have one length (R215). -/
def State.passLength (s : State) (st : Step) : Nat := (s.segment st.seg).elim 0 Segment.len

/-- Whether a PLAY that begins takes its fallback from its first frame: a segment is on the Bog list (R220), or DRAM
fetch has stopped (R327). -/
def State.mustFallBack (s : State) (p : PlayerNo) (st : Step) : Bool :=
  s.dramDown || (s.playSegments p st).any fun id => (s.segment id).elim true fun g => g.state == .quarantined

/-- A player acts as at END (R186, R187). -/
def Player.finish (x : Player) : Player := { x with state := .ended, pend := none, jumpDue := false, timeoutDue := false }

/-- Where a run of control steps entered at `i` leads: the first frame step or the END, and how many control steps were
passed, the END included; none past the limit (R529). -/
def Prog.landing (g : Prog) : Nat → Nat → List Nat → Nat → Option (Nat × Nat)
  | 0, _, _, _ => none
  | fuel + 1, i, loops, passed =>
    match g.op i with
    | .loop => g.landing fuel (i + 1) ((((g.at? i).getD 0).count).toNat :: loops) (passed + 1)
    | .next =>
      match g.loopOf i, loops with
      | some l, top :: outer =>
        if top = 0 then g.landing fuel (l + 1) loops (passed + 1)
        else if top = 1 then g.landing fuel ((g.successor i).getD g.steps.length) outer (passed + 1)
        else g.landing fuel (l + 1) ((top - 1) :: outer) (passed + 1)
      | _, _ => some (g.steps.length, passed + 1)
    | .jump =>
      let t := ((g.at? i).getD 0).target
      g.landing fuel t (loops.drop (loops.length - g.depth t)) (passed + 1)
    | .finish => some (i, if i < g.steps.length then passed + 1 else passed)
    | .play | .tone | .chirp | .ramp | .noise | .level | .wait | .extension | .reserved => some (i, passed)

/-- Whether a player that falls back from the PLAY at its step may follow FBT in this frame (R529): the jumps and control
steps of the frame stay within 8, and FBT does not lead to a PLAY already left by a fallback in this frame. -/
def State.mayFollow (s : State) (p : PlayerNo) (t : Nat) : Bool :=
  let x := s.player[p]
  let g := s.prog p
  let stack := (x.loops.drop (x.loops.length - g.depth t)).map BitVec.toNat
  let done := x.followed + 1
  decide (done ≤ 8) &&
    match g.landing 10 t stack 0 with
    | some (j, passed) =>
      decide (done + passed ≤ 8) && !(g.op j == .play && (x.pc.toNat :: x.leftBy.map BitVec.toNat).contains j)
    | none => false

/-- A step begins: at a frame step, what its first frame does (R200 to R215); at a control step, nothing, because LOOP,
NEXT, JUMP and END settle it in the same frame. A PLAY that must fall back does so at once (R220, R222). `fuel` bounds the
fallbacks of one frame (R529). -/
def State.arrive : Nat → State → PlayerNo → Nat → State
  | 0, s, _, _ => s
  | fuel + 1, s, p, i =>
    let g := s.prog p
    let st := (g.at? i).getD 0
    if g.steps.length ≤ i then s.onPlayer p Player.finish
    else
      let here (x : Player) : Player := { x with pc := BitVec.ofNat 10 i, k := 0, fallback := false }
      let noted (f : Player → Player) : State := s.onPlayer p fun x => (f (here x)).record (s.clock.clk + 1)
      let clear (x : Player) : Player := if st.rst then x.resetPhase else x
      match st.op with
      | .tone | .ramp => noted fun x => { clear x with word := st.freq }
      | .chirp => noted fun x => { clear x with word := st.f0 }
      | .noise => noted fun x => (if st.rst then { x with noise := st.seed } else x).drawNoise
      | .play =>
        let len := s.passLength st
        let head (n : Chan) : Prefetch :=
          { held := min len 96, asked := min len 96, outstanding := false, bogged := false, wrong := s.headOf p st n }
        let begun := noted fun x => { x with pos := 0, pass := x.pass + 1, lanes := mapAll (fun n _ => head n) x.lanes }
        if begun.mustFallBack p st then
          if st.fbk && begun.mayFollow p st.fbt then
            let left := begun.onPlayer p fun x =>
              { x.truncate (g.depth st.fbt) with
                  pend := none, jumpDue := false, followed := x.followed + 1, leftBy := x.pc :: x.leftBy }
            State.arrive fuel left p st.fbt
          else begun.onPlayer p fun x =>
            if st.fbk then { x with fallback := true, pend := none, jumpDue := false } else { x with fallback := true }
        else begun
      | .level | .wait | .loop | .next | .jump | .finish | .extension | .reserved => noted id

/-- The successor of a step, or END past the last (R186). -/
def State.proceed (s : State) (p : PlayerNo) (i : Nat) : State :=
  match (s.prog p).successor i with
  | some j => s.arrive 9 p j
  | none => s.onPlayer p Player.finish

/-- A jump to a step (R191): the loop stack is cut to the target's depth, and any pending jump is cleared (R194). -/
def State.jumpTo (s : State) (p : PlayerNo) (t : Nat) : State :=
  (s.onPlayer p fun x => { x.truncate ((s.prog p).depth t) with pend := none, jumpDue := false, timeoutDue := false }).arrive 9 p t

/-- A player starts afresh: IDLE and cleared (R203, R226); what STATUS counts stands. -/
def Player.fresh (x : Player) : Player := { Player.initial with badMarkers := x.badMarkers, gen := x.gen + 1 }

/-! ## Control steps -/

/-- One more control step passed in this frame (R529). -/
def State.passControl (s : State) (p : PlayerNo) : State := s.onPlayer p fun x => { x with followed := x.followed + 1 }

/-- LOOP (R190). -/
def State.settleLoop (s : State) (p : PlayerNo) : State :=
  let st := s.stepOf p
  let s1 := (s.passControl p).onPlayer p fun x => { x with loops := st.count :: x.loops }
  s1.proceed p (s.player[p]).pc.toNat

/-- Whether a pending jump replaces the NEXT at a step: BND LOOP, watched one level further in (Table 6.4). -/
def Pend.replaces (d : Pend) (depth : Nat) : Bool := d.bnd == 2 && decide (1 ≤ d.depth) && d.depth == depth + 1

/-- NEXT (R190, R194): the jump that replaces it, the body again, or the step after it. -/
def State.settleNext (s : State) (p : PlayerNo) : State :=
  let x := s.player[p]
  let g := s.prog p
  let i := x.pc.toNat
  let s1 := s.passControl p
  match x.pend, g.loopOf i, x.loops with
  | pend, some l, top :: outer =>
    if pend.any (Pend.replaces · (g.depth i)) then s1.jumpTo p (pend.elim 0 fun d => d.target.toNat)
    else if top = 0 then s1.arrive 9 p (l + 1)
    else if top = 1 then (s1.onPlayer p fun y => { y with loops := outer }).proceed p i
    else (s1.onPlayer p fun y => { y with loops := (top - 1) :: outer }).arrive 9 p (l + 1)
  | _, _, _ => s1.onPlayer p Player.finish

/-- JUMP (R191). -/
def State.settleJump (s : State) (p : PlayerNo) : State := (s.passControl p).jumpTo p (s.stepOf p).target

/-- END (R187). -/
def State.settleEnd (s : State) (p : PlayerNo) : State := (s.passControl p).onPlayer p Player.finish

/-- The control steps from the one at which a player stands, at most `fuel` of them (R185), up to a frame step or the END. -/
def State.settleRun : Nat → State → PlayerNo → State
  | 0, s, _ => s
  | fuel + 1, s, p =>
    if (s.player[p]).state ≠ .running then s
    else
      match (s.stepOf p).op with
      | .loop => State.settleRun fuel (s.settleLoop p) p
      | .next => State.settleRun fuel (s.settleNext p) p
      | .jump => State.settleRun fuel (s.settleJump p) p
      | .finish => s.settleEnd p
      | .play | .tone | .chirp | .ramp | .noise | .level | .wait | .extension | .reserved => s

/-- Every player starts afresh at an apply tick; each that runs starts at its entry step, whose control steps take no frame
(R151, R185, R226), and frame 0's references are those of P = 0 (R203). -/
def State.startPlayers (s : State) : State :=
  (List.finRange 16).foldl (fun s p =>
    let s0 := s.onPlayer p Player.fresh
    if s0.txn.live.runs p then
      let s1 := (s0.onPlayer p fun x => { x with state := .running }).arrive 9 p (s0.txn.live.entry p)
      (State.settleRun 9 s1 p).onPlayer p fun x =>
        { x with followed := 0, leftBy := [], ran := true, refs := x.refs.map fun r => { r with clk := s.clock.clk } }
    else s0) s

/-! ## Bookkeeping -/

/-- The events that count as raised for a player in this frame (R163, R199). -/
def State.sees (s : State) (p : PlayerNo) (code : Nat) : Bool :=
  if code < 24 then s.pins.raised.getLsbD code else (s.player[p]).raisedSeen.getLsbD code

/-- The length of a frame step in frames; none where it has no last frame of its own, and for PLAY and WAIT. -/
def Prog.lastAt (g : Prog) (i : Nat) : Option Nat :=
  let st := (g.at? i).getD 0
  match st.op with
  | .tone | .ramp | .noise | .level => if st.dur = 0 then none else some st.dur
  | .chirp => some ((g.at? (i + 1)).getD 0).dur
  | _ => none

/-- Whether a step has a last frame at all (R184). -/
def Step.hasLast (st : Step) : Bool := !(st.op.hasDur && st.dur == 0)

/-- Whether a pending jump waits at a SEGMENT boundary: BND SEGMENT, or LOOP at depth 0 (Table 6.4). -/
def Pend.atSegment (d : Pend) : Bool := d.bnd == 1 || (d.bnd == 2 && d.depth == 0)

/-- Whether the boundary of a pending jump is met in this frame (Table 6.4, except the LOOP row, which NEXT settles).
`wrapped` says that P wrapped through 2^48, and `ended` that the step's pass or its DUR is over. -/
def boundaryMet (d : Pend) (st : Step) (wrapped ended : Bool) : Bool :=
  if d.bnd = 0 then true
  else if d.atSegment then
    match st.op with
    | .tone | .chirp | .ramp => wrapped
    | .noise | .level => st.dur == 0 || ended
    | _ => ended
  else false

/-- The stored sample that a PLAY uses in the frame of position `pos` (R214). -/
def indexAt (pos : BitVec 56) : Nat := pos.toNat / 2 ^ 24

/-- The in-band marker of the frame that a PLAY supplies, from the segment of the reference lane (R217, R218): 0 none,
1 a marker, 2 a field that marks nothing and is counted. DESIGN CHOICE (log entry 119): a field with index 0b110 or 0b111 is counted
once in a pass, in the first frame that plays its word's first sample. -/
def State.inBand (s : State) (p : PlayerNo) (st : Step) : Nat :=
  let x := s.player[p]
  let i := indexAt x.pos
  if x.fallback then 0
  else if x.k ≠ 0 ∧ (x.pos.toNat - st.ratio) / 2 ^ 24 = i then 0
  else
    match s.txn.live.refChan p, (s.txn.live.refChan p).bind fun n => s.segment (s.laneSegment p st n) with
    | some n, some g =>
      let m := wordMarker (s.mem.wordOr g (x.lanes[n]).wrong (i / 6))
      if m.getLsbD 3 then
        if (m.extractLsb' 0 3).toNat = i % 6 then 1
        else if 6 ≤ (m.extractLsb' 0 3).toNat ∧ i % 6 = 0 then 2
        else 0
      else 0
    | _, _ => 0

/-- The markers of the frame: an in-band marker starts a pulse, and a field that marks nothing is counted (R167, R217). -/
def State.playMarker (s : State) (p : PlayerNo) (st : Step) : State :=
  match s.inBand p st with
  | 1 => s.pulse p
  | 2 => s.onPlayer p fun x => { x with badMarkers := x.badMarkers + 1 }
  | _ => s

/-- A step is left: its marker action at its last frame, when it has one (R219). -/
def State.leaveStep (s : State) (p : PlayerNo) (st : Step) : State :=
  if st.mke && st.hasLast then s.marker p st.mka else s

/-- A fallback from the frame after the present one (R221, R222): with FBK = 0, LEVEL-at-nominal for the rest of the pass;
with FBK = 1, a jump to FBT, or, where that may not be followed, LEVEL-at-nominal for the length of one pass (R529). -/
def State.fallBackNow (s : State) (p : PlayerNo) (st : Step) : State :=
  if st.fbk && s.mayFollow p st.fbt then
    let s1 := (s.leaveStep p st).onPlayer p fun x =>
      { x with pend := none, jumpDue := false, followed := x.followed + 1, leftBy := x.pc :: x.leftBy }
    s1.jumpTo p st.fbt
  else if st.fbk then s.onPlayer p fun x => { x with fallback := true, pos := 0, pend := none, jumpDue := false }
  else s.onPlayer p fun x => { x with fallback := true }

/-- Whether the pass of a PLAY has stopped asking at a line that counts as Bog-listed, and a lane would need that line (R221): the
interpolator reads up to I + 4 (R232). -/
def State.reachesBogged (s : State) (p : PlayerNo) (st : Step) : Bool :=
  let x := s.player[p]
  let need := min (indexAt x.pos + 4) (s.passLength st - 1)
  (s.txn.live.lanes p).any fun n => (x.lanes[n]).bogged && decide ((x.lanes[n]).held ≤ need)

/-- Whether a lane would need a sample of a line that counts as Bog-listed now, be it fetched already (R221, R338): the
interpolator reads from I − 3 to I + 4 (R232). -/
def State.tapsBogged (s : State) (p : PlayerNo) (st : Step) : Bool :=
  let i := indexAt (s.player[p]).pos
  (s.playSegments p st).any fun id =>
    (s.segment id).any fun g =>
      let lo := (i - 3) / Config.samplesPerLine
      let hi := min (i + 4) (g.len - 1) / Config.samplesPerLine
      (List.range (hi + 1 - lo)).any fun d => s.mem.countsBogged g (lo + d)

/-- A PLAY meets a line of its pass that was fetched and counts as Bog-listed now: the player raises 0x1A (R221), once a pass. -/
def State.meetBogged (s : State) (p : PlayerNo) (st : Step) : State :=
  if s.tapsBogged p st && !s.reachesBogged p st then s.raiseFor 0x1A fun q => q == p else s

/-- Whether a lane lacks a sample that its interpolator needs, its line not being Bog-listed: the prefetch has run empty
(R313). -/
def State.prefetchEmpty (s : State) (p : PlayerNo) : Bool :=
  let x := s.player[p]
  let st := s.stepOf p
  let need := min (indexAt x.pos + 4) (s.passLength st - 1)
  x.state == .running && st.op == .play && !x.fallback && !s.dramDown && decide (0 < s.passLength st) &&
    (s.txn.live.lanes p).any fun n => !(x.lanes[n]).bogged && decide ((x.lanes[n]).held ≤ need)

/-- The bookkeeping of one frame for a player whose step in force has opcode `o` (R199). A step with opcode `o` that is not
in force, and one whose jump or time-out is due, is left as it is. DEDUCED (log entry 120): a WAIT sees its event while a
LOOP-boundary jump is pending; the watches that R193 disarms are those of EVE. -/
def State.bookkeep (s : State) (p : PlayerNo) (o : Op) : State :=
  let x := s.player[p]
  let g := s.prog p
  let i := x.pc.toNat
  let st := (g.at? i).getD 0
  if x.state ≠ .running ∨ st.op ≠ o ∨ x.jumpDue ∨ x.timeoutDue then s
  else
    let s1 := if x.k = 0 ∧ !st.mke then s.marker p st.mka else s
    let s2 := if x.k = 0 ∧ (o = .tone ∨ o = .chirp) then s1.syncDetectors p else s1
    let s3 := if o = .play then s2.playMarker p st else s2
    let dur := ((g.at? (i + 1)).getD 0).dur
    let wrapped := decide (2 ^ 48 ≤ x.phase.toNat + x.word.toNat)
    let moved (y : Player) : Player :=
      let y1 := { y with phase := y.phase + y.word, unwrapped := y.unwrapped + y.word.toNat, k := y.k + 1 }
      match o with
      | .play => { y1 with pos := y1.pos + BitVec.ofNat 56 st.ratio }
      | .chirp => { y1 with word := BitVec.ofInt 48 ((st.f0.toNat : Int) + (min y1.k (dur - 1) : Nat) * st.df) }
      | _ => y1
    let s4 := s3.onPlayer p fun y => (moved y).record (s.clock.clk + 1)
    let k := x.k + 1
    let ended := match o with
      | .play => decide (s.passLength st * 2 ^ 24 ≤ x.pos.toNat + st.ratio)
      | _ => (g.lastAt i).any (· ≤ k)
    if o = .wait then
      if s.sees p st.evc then (s4.leaveStep p st).proceed p i
      else if st.tmo ≠ 0 ∧ st.tmo ≤ k then s4.onPlayer p fun y => { y with timeoutDue := true }
      else s4
    else
      let seen := x.pend.isNone && st.eve && s.sees p st.evc
      let pend := if seen then some { target := BitVec.ofNat 10 st.evt, bnd := st.bnd, depth := g.depth i } else x.pend
      let s5 := s4.onPlayer p fun y => { y with pend := pend }
      if pend.any (fun d => boundaryMet d st wrapped ended) then
        (s5.leaveStep p st).onPlayer p fun y => { y with jumpDue := true }
      else if ended && !(pend.any Pend.atSegment && (o == .tone || o == .chirp || o == .ramp)) then
        (s5.leaveStep p st).proceed p i
      else if o = .play && !(s5.player[p]).fallback && (s5.reachesBogged p st || s5.tapsBogged p st || s5.dramDown) then
        (s5.meetBogged p st).fallBackNow p st
      else if o = .noise ∧ k % (st.hold + 1) = 0 then s5.onPlayer p Player.drawNoise
      else s5

end Sys2Proof.Machine
end

