-- ==== Sys2Proof/Machine/Fetch.lean ====
section
/-! DEFINITION. The controller's queues and the players' prefetch (R303 to R312, R316, Table 9.7): admission, issue, levels and
Squall. -/

namespace Sys2Proof.Machine

/-! ## Levels and urgency -/

/-- A lane's level (R308): samples beyond I + 4 that are held or admitted; past the segment's end all count as held. -/
def Prefetch.level (f : Prefetch) (index len : Nat) : Nat :=
  if len ≤ f.asked then 96 else f.asked - (index + 5)

/-- The level of a channel's lane in the PLAY in force of its player. -/
def State.laneLevel (s : State) (p : PlayerNo) (n : Chan) : Nat :=
  let x := s.player[p]
  (x.lanes[n]).level (indexAt x.pos) (s.passLength (s.stepOf p))

/-- Whether a player supplies a frame of a PLAY from memory. -/
def State.fetches (s : State) (p : PlayerNo) : Bool :=
  let x := s.player[p]
  x.state == .running && (s.stepOf p).op == .play && !x.fallback && !x.jumpDue && !s.dramDown

/-- Whether some lane of a player that plays a PLAY has a level of 48 or fewer (R310). -/
def State.laneLow (s : State) (p : PlayerNo) : Bool :=
  s.fetches p && (s.txn.live.lanes p).any fun n => decide (s.laneLevel p n ≤ 48)

/-- Whether a request is urgent: a lane read of the present pass of a lane whose level is 48 or fewer (R310). -/
def State.urgent (s : State) (r : MemReq) : Bool :=
  match r.read with
  | some (.lane p _ n pass) => s.fetches p && (s.player[p]).pass == pass && decide (s.laneLevel p n ≤ 48)
  | _ => false

/-- The channel of a lane read, after every channel for another request. -/
def MemReq.chanKey (r : MemReq) : Nat :=
  match r.read with
  | some (.lane _ _ n _) => n.val
  | _ => 64

/-- Whether an urgent read is issued before another command that is not yet issued: the older first, and of one age the lower
channel (R311). -/
def State.issuesBefore (s : State) (a b : MemReq) : Bool :=
  s.urgent a && (!s.urgent b || decide (a.asked < b.asked) || (a.asked == b.asked && decide (a.chanKey < b.chanKey)))

/-- A request put in its place of the order of issue. -/
def State.insertIssue (s : State) (r : MemReq) : List MemReq → List MemReq
  | [] => [r]
  | x :: xs => if s.issuesBefore r x then r :: x :: xs else x :: s.insertIssue r xs

/-- Requests in the order of R311. -/
def State.issueOrder (s : State) (rs : List MemReq) : List MemReq := rs.foldl (fun acc r => s.insertIssue r acc) []

/-! ## Admission -/

/-- Whether a port is of the normal class (Table 9.6). -/
def MemPort.normal (p : MemPort) : Bool := p == .p2 || p == .p3 || p == .p4

/-- Whether a queue admits a request (R305, R306, R311). -/
def Mem.admits (m : Mem) (r : MemReq) : Bool :=
  let sub := subOf r.addr r.owner
  m.awake && !(r.port.normal && m.squall) &&
    (if r.read.isSome then
      decide ((m.reads[sub]).length < Config.readMax) &&
        (!r.port.normal || decide (((m.reads[sub]).filter fun x => x.port.normal).length < Config.normalMax))
    else decide ((m.writes[sub]).length < Config.writeMax))

/-- The order in which waiting requests are admitted (R307): urgent P0, other P0, P1, P3, P2, P4. -/
def State.rank (s : State) (r : MemReq) : Nat :=
  match r.port with
  | .p0 => if s.urgent r then 0 else 1
  | .p1 => 2 | .p3 => 3 | .p2 => 4 | .p4 => 5

/-- The lowest tag that no entry of a read queue carries (R305). -/
def freeTag (q : List MemReq) : BitVec 6 :=
  BitVec.ofNat 6 (((List.range 64).find? fun t => !q.any fun r => r.tag.toNat == t).getD 0)

/-- An admitted request takes its queue entry; under Squall an urgent read stands ahead of what is not yet issued (R311). The
samples of a lane read count toward the levels of the lanes that it serves, in the pass that asked for it (R297, R308). -/
def State.enqueue (s : State) (r : MemReq) : State :=
  let sub := subOf r.addr r.owner
  match r.read with
  | none => { s with mem := { s.mem with writes := s.mem.writes.set sub (s.mem.writes[sub] ++ [r]) } }
  | some kind =>
    let q := s.mem.reads[sub]
    let r1 := { r with tag := freeTag q }
    let s1 := { s with mem := { s.mem with
      reads := s.mem.reads.set sub (if s.mem.squall then s.insertIssue r1 q else q ++ [r1]) } }
    match kind with
    | .lane p _ n pass =>
      if (s.player[p]).pass = pass then
        let serves (m : Chan) : Bool := m == n || !(s.stepOf p).lanes
        s1.onPlayer p fun x =>
          { x with lanes := mapAll (fun m f => if serves m then { f with asked := f.asked + 48 } else f) x.lanes }
      else s1
    | .head | .list | .scrub | .merge | .ring _ | .reread => s1

/-! ## The write queues -/

/-- Whether a read that meets a test stands in a subchannel's queue or waits for it. -/
def Mem.readsOf (m : Mem) (sub : Fin 2) (who : MemReq → Bool) : Bool :=
  (m.reads[sub]).any who || m.waiting.any fun r => r.read.isSome && subOf r.addr r.owner == sub && who r

/-- How many writes of a subchannel are issued now (R311, R312): under Squall, while an urgent read waits, none below 28 entries,
and then down to 24; otherwise all when no read waits, and ahead of reads that are not urgent from 16 entries on. -/
def State.writesToIssue (s : State) (sub : Fin 2) : Nat :=
  let n := (s.mem.writes[sub]).length
  let urgent := s.mem.readsOf sub s.urgent
  if !s.mem.awake then 0
  else if !s.mem.readsOf sub (fun _ => true) then n
  else if s.mem.squall && urgent then (if 28 ≤ n then n - 24 else 0)
  else if urgent then 0
  else if 16 ≤ n then n - 15 else 0

/-- The writes that are issued leave their queues (R305). -/
def State.issueWrites (s : State) : State :=
  { s with mem := { s.mem with writes := mapAll (fun sub q => q.drop (s.writesToIssue sub)) s.mem.writes } }

/-- The queues settle: writes are issued, and the waiting requests that are admissible are admitted, in the order of R307. -/
def State.settleQueues (s : State) : State :=
  if s.mem.waiting.isEmpty then s.issueWrites
  else
    (List.range 6).foldl (fun s k =>
      (s.issueOrder (s.mem.waiting.filter fun r => s.rank r == k)).foldl (fun s r =>
        if s.mem.admits r then
          (State.enqueue { s with mem := { s.mem with waiting := s.mem.waiting.erase r } } r).issueWrites
        else s) s) s.issueWrites

/-- A read is asked of the controller (R307, R317); a scrub read is no request. -/
def State.askRead (s : State) (port : MemPort) (a : LineAddr) (owner : BitVec 16) (kind : ReadKind) : State :=
  let m := if kind == .scrub then s.mem else s.mem.request
  State.settleQueues { s with mem := { m with
    waiting := m.waiting ++ [{ port := port, addr := a, owner := owner, asked := s.clock.clk, read := some kind, tag := 0 }] } }

/-- Whether a read of a port finds an entry of a subchannel's queue: one is admissible, and no waiting request of the subchannel goes
before it (R306, R307). -/
def State.portOpen (s : State) (port : MemPort) (sub : Fin 2) : Bool :=
  let q := s.mem.reads[sub]
  let r : MemReq := { port := port, addr := { page := 0, line := 0 }, owner := 0, asked := s.clock.clk, read := some .scrub, tag := 0 }
  s.mem.awake && !(port.normal && s.mem.squall) && decide (q.length < Config.readMax) &&
    (!port.normal || decide ((q.filter fun x => x.port.normal).length < Config.normalMax)) &&
    !s.mem.waiting.any fun x => subOf x.addr x.owner == sub && decide (s.rank x ≤ s.rank r)

/-! ## Refresh credit and Squall -/

/-- Whether a queued read targets a bank index of a rank and subchannel (R316). -/
def Mem.targets (m : Mem) (rank sub : Fin 2) (b : Nat) : Bool :=
  (m.reads[sub]).any fun r => m.rankOf r.addr == rank && (dramAddr m.density r.addr r.owner).ba == b

/-- The refresh work that is owed is paid with REFsb, for every bank index that no queued read targets (R316). -/
def Mem.payRefresh (m : Mem) : Mem :=
  { m with credit := mapAll (fun i (v : Vector Nat 4) =>
      mapAll (fun b n => if m.targets ⟨i.val / 2, by omega⟩ ⟨i.val % 2, by omega⟩ b.val then n else 0) v) m.credit }

/-- An admitted read leaves its queue, and what waited may enter (R305, R307). Outside Squall the refresh of a bank index that it
alone kept waiting is paid (R316). -/
def State.finishRead (s : State) (r : MemReq) : State :=
  let sub := subOf r.addr r.owner
  let s1 := State.settleQueues { s with mem := { s.mem with reads := s.mem.reads.set sub (s.mem.reads[sub].erase r) } }
  if s1.mem.squall then s1 else { s1 with mem := s1.mem.payRefresh }

/-- Squall as the end of a frame leaves it (R310, Table 9.7). When it rises the urgent reads go ahead (R311); when it clears the
postponed refresh is paid (R316), and what it kept waiting may enter. -/
def State.judgeSquall (s : State) : State :=
  let armed := s.txn.live.mode == 1 || s.txn.live.mode == 2 || s.txn.live.mode == 3
  let now := armed && !s.dramDown && (List.finRange 16).any s.laneLow
  if now = s.mem.squall then { s with mem := { s.mem with squallSeen := s.mem.squallSeen || now } }
  else if now then
    { s with mem := { s.mem with squall := true, squallSeen := true, reads := mapAll (fun _ q => s.issueOrder q) s.mem.reads } }
  else State.settleQueues { s with mem := { s.mem with squall := false }.payRefresh }

/-! ## Heads and lists -/

/-- Head loads for the segments of a shadow that are not yet resident (R304): two lines each. -/
def State.loadHeads (s : State) (c : Configuration) : State :=
  ((segmentsOf [c]).filter fun id => !s.mem.resident.contains (BitVec.ofNat 16 id)).foldl (fun s id =>
    match s.segment id with
    | none => s
    | some g =>
      [0, 1].foldl (fun s o =>
        match g.lineAddr o with
        | some a => if 48 * o < g.len then s.askRead .p0 a g.id .head else s
        | none => s) s) s

/-- The map walker reads the list line that names page index `j` of a segment, when it is not the one cached (R303); at most two such
reads are outstanding (Table 9.6). DESIGN CHOICE (log entry 123): it does so when a lane asks for the first line of the page, and
the lane does not wait for it. -/
def State.walkList (s : State) (g : Segment) (j : Nat) : State :=
  let k := j / 16383
  let l := j % 16383 / 16
  let cached := ((s.mem.listLines.find? fun e => e.1 == g.id).map Prod.snd).getD (0, 0)
  let outstanding := (s.mem.reads[(0 : Fin 2)] ++ s.mem.reads[(1 : Fin 2)] ++ s.mem.waiting).filter fun r => r.read == some .list
  match g.lists[k]? with
  | some p =>
    if cached = (k, l) ∨ 2 ≤ outstanding.length then s
    else s.askRead .p0 { page := p, line := ⟨l % 1024, by omega⟩ } 0 .list
  | none => s

/-- Lane `i` of a player, channel `n`, judges its level and asks for the next line of its pass (R309). A line that counts as
Bog-listed is never asked for: the player raises 0x1A and the pass asks for no more (R221, R338). -/
def State.askLane (s : State) (p : PlayerNo) (st : Step) (i : Nat) (n : Chan) : State :=
  let x := s.player[p]
  let f := x.lanes[n]
  match s.segment (if st.lanes then st.seg + i else st.seg) with
  | none => s
  | some g =>
    if f.bogged || f.outstanding || decide (g.len ≤ f.asked) || decide (48 < s.laneLevel p n) then s
    else
      let o := f.asked / 48
      let serves (m : Chan) : Bool := m == n || !st.lanes
      if s.mem.countsBogged g o then
        (s.onPlayer p fun y => { y with lanes := mapAll (fun m l => if serves m then { l with bogged := true } else l) y.lanes }).raiseFor
          0x1A fun q => q == p
      else
        match g.lineAddr o with
        | none => s
        | some a =>
          let s1 := s.onPlayer p fun y =>
            { y with lanes := mapAll (fun m l => if serves m then { l with outstanding := true } else l) y.lanes }
          let s2 := s1.askRead .p0 a g.id (.lane p i n x.pass)
          if o % 1024 = 0 then s2.walkList g (o / 1024) else s2

/-- The lanes of a player ask for their lines: every lane with LANES = 1, lane 0 for all with LANES = 0 (R297, R309). -/
def State.askLines (s : State) (p : PlayerNo) : State :=
  if s.fetches p then
    let st := s.stepOf p
    let lanes := s.txn.live.lanes p
    let asks := if st.lanes then lanes else lanes.take 1
    asks.zipIdx.foldl (fun s e => s.askLane p st e.2 e.1) s
  else s

end Sys2Proof.Machine
end

