-- ==== Sys2Proof/Machine/LedgerOps.lean ====
section
/-! DEFINITION. The ledger's operations: the value of a counter (R343), bounds (R344), the counters that fall due (R345),
holds (R346), budgets (R37), and what the flash does next (R345, R348). -/

namespace Sys2Proof.Machine

/-- The tally count: one more than the index of the highest counted bit, a counted bit reading 0 (R343). -/
def tallyCount (t : BitVec 1024) : Nat := ((List.range 1024).filter fun j => !t.getLsbD j).getLastD 0 + (if t = BitVec.allOnes 1024 then 0 else 1)

/-- A counter's value V (R343). -/
def Counter.value (c : Counter) : Nat := min (c.base.toNat + tallyCount c.tally * 2 ^ c.grain.toNat) (2 ^ 32 - 1)

/-- The grain exponent of record `i`: 20 for EXC, 10 for DOSE (Table 10.5). -/
def grainOf (i : Fin 128) : Byte := if i.val % 2 = 0 then 20 else 10

/-- The rail of record `i`. -/
def railOfRecord (i : Fin 128) : Fin 64 := ⟨i.val / 2, by omega⟩

/-- The EXC record of a rail. -/
def excRecord (r : Fin 64) : Fin 128 := ⟨2 * r.val, by omega⟩

/-- The DOSE record of a rail. -/
def doseRecord (r : Fin 64) : Fin 128 := ⟨2 * r.val + 1, by omega⟩

/-! ## The region's bytes (R342, Table 10.5) -/

/-- Where counter record `i` begins in its region (Table 10.5). -/
def recordAt (i : Nat) : Nat := 0x100 + 136 * i

/-- Bytes 0 to 7 of a counter record, which HCRC covers (Table 10.5). -/
def Counter.head (c : Counter) : List Byte := leBytes 4 c.base.toNat ++ [c.grain] ++ leBytes 3 c.reserved.toNat

/-- The 136 bytes of a counter record: bit j of the tally is bit j mod 8 of byte j div 8 (Table 10.5). -/
def Counter.bytes (c : Counter) : List Byte := c.head ++ leBytes 128 c.tally.toNat

/-- The bytes that HCRC covers (Table 10.5). -/
def Region.headerBytes (r : Region) : List Byte :=
  leBytes 4 r.magic.toNat ++ leBytes 4 r.seq.toNat ++ leBytes 2 r.rails.toNat ++ leBytes 2 r.reserved.toNat ++
    r.counters.toList.flatMap Counter.head

/-- The byte of a region at an offset (Table 10.5); what no field takes is never programmed. -/
def Region.byteAt (r : Region) (off : Nat) : Byte :=
  if off < 0x10 then (r.headerBytes.take 12 ++ leBytes 4 r.hcrc.toNat).getD off 0xFF
  else if recordAt 0 ≤ off && off < recordAt 128 then
    (((r.counters.toList)[(off - 0x100) / 136]?).elim [] Counter.bytes).getD ((off - 0x100) % 136) 0xFF
  else if 0x7FF0 ≤ off then (leBytes 4 r.marker.toNat ++ leBytes 4 r.copy.toNat).getD (off - 0x7FF0) 0xFF
  else 0xFF

/-- Where the lower and the upper region begin in a flash of a size in bytes: 64 KiB and 32 KiB below its top. -/
def regionStart (flashBytes : Nat) (k : Fin 2) : Nat := flashBytes - (if k = 0 then 0x10000 else 0x8000)

/-- A region that the device programs: its header, its records with these BASEs and erased tallies, and no marker yet (R348). -/
def Region.fresh (seq : BitVec 32) (base : Vector (BitVec 32) 128) : Region :=
  let r : Region :=
    { magic := 0x3147444C, seq := seq, rails := 64, reserved := 0, hcrc := 0, marker := BitVec.allOnes 32, copy := BitVec.allOnes 32
      counters := Vector.ofFn fun i => { base := base[i], grain := grainOf i, reserved := 0, tally := BitVec.allOnes 1024 } }
  { r with hcrc := crc32 r.headerBytes }

/-- A commit marker and SEQ copy programmed (R348, step 4). -/
def Region.commit (r : Region) : Region := { r with marker := 0, copy := r.seq }

/-- Whether an offset of a region lies in its 4 KiB sector `k`. -/
def inSector (k off : Nat) : Bool := off / 4096 == k

/-- Sector `k` of a region erased (R348, step 1): every byte of it reads 0xFF. -/
def Region.eraseSector (r : Region) (k : Fin 8) : Region :=
  let ones (off n : Nat) : BitVec n := if inSector k.val off then BitVec.allOnes n else 0
  { magic := r.magic ||| ones 0 32, seq := r.seq ||| ones 4 32, rails := r.rails ||| ones 8 16, reserved := r.reserved ||| ones 10 16,
    hcrc := r.hcrc ||| ones 12 32, marker := r.marker ||| ones 0x7FF0 32, copy := r.copy ||| ones 0x7FF4 32
    counters := mapAll (fun i c =>
      let at_ := recordAt i.val
      { base := c.base ||| ones at_ 32, grain := c.grain ||| ones at_ 8, reserved := c.reserved ||| ones at_ 24,
        tally := BitVec.ofNat 1024 (leNat ((List.range 128).map fun j =>
          if inSector k.val (at_ + 8 + j) then 0xFF else c.tally.extractLsb' (8 * j) 8)) }) r.counters }

/-- The header of another region taken over (R348, step 3). -/
def Region.putHeader (r new : Region) : Region :=
  { r with magic := new.magic, seq := new.seq, rails := new.rails, reserved := new.reserved, hcrc := new.hcrc }

/-! ## Counts -/

/-- The live region. -/
def Ledger.liveRegion (l : Ledger) : Region := l.region[l.live]

/-- V of record `i` in the live region. -/
def Ledger.value (l : Ledger) (i : Fin 128) : Nat := (l.liveRegion.counters[i]).value

/-- The headroom V − c. -/
def Ledger.room (l : Ledger) (i : Fin 128) : Nat := l.value i - l.count[i]

/-- The bound B of each record when the channels of `leave` may leave nominal (R344). -/
def boundsFor (links : Vector Link 64) (leave : Vector Bool 64) : Vector Nat 128 :=
  Vector.ofFn fun i =>
    if i.val % 2 = 1 then 1
    else 8192 * ((List.finRange 64).filter fun n => leave[n] && (links[n]).rail == railOfRecord i).length

/-- The budget of record `i` under the live configuration (R454). -/
def State.budget (s : State) (i : Fin 128) : BitVec 32 :=
  let b := s.txn.live.image.budgets[railOfRecord i]
  if i.val % 2 = 0 then b.1 else b.2

/-- Whether a budget is reached by a count (R37); 0xFFFFFFFF sets no limit (R454). -/
def budgetReached (budget : BitVec 32) (count : Nat) : Bool := budget != 0xFFFFFFFF && decide (budget.toNat ≤ count)

/-- The rail of a channel under the live link map. -/
def State.railOf (s : State) (n : Chan) : Fin 64 := (s.txn.live.image.links[n]).rail

/-- Whether a rail's budget is reached (R37). -/
def State.railReached (s : State) (r : Fin 64) : Bool := s.ledger.reached[excRecord r] || s.ledger.reached[doseRecord r]

/-- A LEDGER body (R429). -/
def State.ledgerBody (s : State) : List Byte :=
  let rail (r : Fin 64) : List Byte :=
    let b := s.txn.live.image.budgets[r]
    leBytes 4 s.ledger.count[excRecord r] ++ leBytes 4 s.ledger.count[doseRecord r] ++ leBytes 4 b.1.toNat ++ leBytes 4 b.2.toNat
  leBytes 4 s.ledger.liveRegion.seq.toNat ++
    [BitVec.ofNat 8 (bitAt (s.power.fault 27) 0 + bitAt s.ledger.compacting 1), 0, 0, 0] ++ (List.finRange 64).flatMap rail

/-- A LEDGER body is frozen (R429); one that still waits is replaced, and counts as lost (R423). -/
def State.freezeLedger (s : State) : State :=
  let s1 := if s.tel.ledger.isSome then s.bump 4 else s
  { s1 with tel := { s1.tel with ledger := some { epoch := s.clock.epoch, body := s1.ledgerBody } } }

/-- The LEDGER event of record `i` (R37): 0x1B for every player bound to a channel of the rail, EVENT entry 0x06, and a
LEDGER frame (R429). -/
def State.fireLedger (s : State) (i : Fin 128) : State :=
  let r := railOfRecord i
  let s1 := s.raiseFor 0x1B fun p => (List.finRange 64).any fun n => s.boundTo p n && s.railOf n == r
  (s1.logEvent 6 (BitVec.ofNat 8 (i.val % 2)) (BitVec.ofNat 16 r.val)).freezeLedger

/-- Record `i`'s budget is judged afresh; when it becomes reached, and only then, the LEDGER event fires (R37). -/
def State.judgeBudget (s : State) (i : Fin 128) : State :=
  let now := budgetReached (s.budget i) s.ledger.count[i]
  let s1 := { s with ledger := { s.ledger with reached := s.ledger.reached.set i now } }
  if now && !s.ledger.reached[i] then s1.fireLedger i else s1

/-- Whether a rail is to be held: the headroom of either counter is below 2 × B (R346). -/
def Ledger.mustHold (l : Ledger) (r : Fin 64) : Bool :=
  decide (l.room (excRecord r) < 2 * l.bound[excRecord r]) || decide (l.room (doseRecord r) < 2 * l.bound[doseRecord r])

/-- The holds judged afresh (R346). -/
def Ledger.judgeHolds (l : Ledger) : Ledger :=
  { l with held := Vector.ofFn fun r => l.selected && l.mustHold r }

/-- A count rises by one; it never passes V (R346). -/
def State.countUp (s : State) (i : Fin 128) : State :=
  let l := s.ledger
  let c := if l.count[i] < l.value i then l.count[i] + 1 else l.count[i]
  let l1 := { l with count := l.count.set i c }
  let r := railOfRecord i
  State.judgeBudget { s with ledger := { l1 with held := l1.held.set r (l1.selected && l1.mustHold r) } } i

/-- Whether record `i` precedes record `j` in the queue: the least V − c in units of B, at a tie the lower number (R345). -/
def Ledger.precedes (l : Ledger) (bound : Vector Nat 128) (i j : Fin 128) : Bool :=
  let a := l.room i * bound[j]
  let b := l.room j * bound[i]
  decide (a < b) || (a == b && decide (i.val < j.val))

/-- Whether the flash operation that runs is the tally program of record `i`. -/
def Ledger.programs (l : Ledger) (i : Fin 128) : Bool :=
  match l.op with
  | some (.tally j _ _) => i == j
  | _ => false

/-- The counters whose V − c is below 16 × B join the queue; none is queued twice (R345). -/
def Ledger.queueDue (l : Ledger) (bound : Vector Nat 128) : Ledger :=
  if !l.selected then l
  else
    { l with queue := l.queue ++ (List.finRange 128).filter fun i =>
        decide (l.room i < 16 * bound[i]) && !l.queue.contains i && !l.programs i }

/-- The tally count that brings V of record `i` to at least c + 32 × B (R345). -/
def Ledger.tallyGoal (l : Ledger) (bound : Vector Nat 128) (i : Fin 128) : Nat :=
  let c := l.liveRegion.counters[i]
  let goal := l.count[i] + 32 * bound[i] - c.base.toNat
  min 1024 ((goal + 2 ^ c.grain.toNat - 1) / 2 ^ c.grain.toNat)

/-- The front of the queue by `precedes`, none when it is empty. -/
def Ledger.front (l : Ledger) (bound : Vector Nat 128) : Option (Fin 128) :=
  l.queue.foldl (fun best i =>
    match best with
    | none => some i
    | some j => if l.precedes bound i j then some i else some j) none

/-- The page program that takes record `i` toward tally count `goal`: its bits up to `goal`, or up to the end of the 256-byte page
in which the first of them lies (R345). -/
def Ledger.tallyOp (l : Ledger) (i : Fin 128) (goal : Nat) : LedgerOp :=
  let first := tallyCount (l.liveRegion.counters[i]).tally / 8
  let start := recordAt i.val + 8
  let pageEnd := 8 * (256 * ((start + first) / 256 + 1) - start)
  .tally i (min goal pageEnd) goal

/-- The region that is not live. -/
def Ledger.other (l : Ledger) : Fin 2 := if l.live = 0 then 1 else 0

/-- The step of a compaction that follows those done (R348); none when all are. -/
def Ledger.compactionOp (l : Ledger) : Option LedgerOp :=
  if h : l.sectors < 8 then some (.erase ⟨l.sectors, h⟩)
  else if l.filled = 0 then some .header
  else if h : l.filled - 1 < 128 then some (.record ⟨l.filled - 1, h⟩)
  else if l.filled = 129 then some .commit
  else some (.again l.other)

/-- The next flash operation starts when none runs: the queue's front, and otherwise the next step of a compaction (R345,
R348; log entry 85). While the ledger write failure stands, the queue waits (R350). `bound` is the greater of the live bounds and
those of a validated shadow. -/
def Ledger.startNext (l : Ledger) (bound : Vector Nat 128) (failed : Bool) : Ledger :=
  if failed || l.op.isSome || !l.selected then l
  else
    match l.front bound with
    | some i => { l with op := some (l.tallyOp i (l.tallyGoal bound i)), queue := l.queue.filter (· != i) }
    | none => if l.compacting then { l with op := l.compactionOp } else l

/-- Compaction begins when a tally has reached 768 (R348). -/
def Ledger.startCompaction (l : Ledger) : Ledger :=
  if !l.compacting && l.liveRegion.counters.toList.any (fun c => decide (768 ≤ tallyCount c.tally)) then
    { l with compacting := true, sectors := 0, filled := 0, newBase := none }
  else l

/-- The new BASEs (R348, step 2). One stops at 2^32 − 1, as V does (log entry 103). -/
def Ledger.newBases (l : Ledger) (bound : Vector Nat 128) : Vector (BitVec 32) 128 :=
  Vector.ofFn fun i => BitVec.ofNat 32 (min (l.value i + 2 ^ (grainOf i).toNat + 1024 * bound[i]) (2 ^ 32 - 1))

/-- The greater of the live bounds and those of a validated shadow (R345, R348). -/
def State.wideBounds (s : State) : Vector Nat 128 :=
  match s.txn.shadow with
  | some img =>
    if s.txn.validated then
      let cfg := img.configure s.txn.selMode s.txn.selVar
      let other := boundsFor img.links (Vector.ofFn cfg.leaves)
      Vector.ofFn fun i => max s.ledger.bound[i] other[i]
    else s.ledger.bound
  | none => s.ledger.bound

/-- The ledger goes on with its next operation. -/
def State.ledgerNext (s : State) : State :=
  { s with ledger := s.ledger.startCompaction.startNext s.wideBounds (s.power.fault 27) }

/-- What a compaction programs into the other region (R348, step 3): SEQ one greater, and the new BASEs. -/
def Ledger.target (l : Ledger) : Region :=
  Region.fresh (l.liveRegion.seq + 1) (l.newBase.getD (Vector.replicate 128 0))

/-- A step of a compaction leaves the other region as `r`; its next step follows. -/
def Ledger.filledTo (l : Ledger) (r : Region) : Ledger :=
  { l with op := none, filled := l.filled + 1, region := l.region.set l.other r }

/-- The operation that runs is done (R345, R348, R349): tally bits are programmed, the rest of a straddling goal following at once; a
sector is erased, the last leading to the new BASEs; the header, a record, or the marker and copy are programmed; or a marker
is programmed again, which in a compaction makes the other region live. -/
def Ledger.finishOp (l : Ledger) (bound : Vector Nat 128) : Ledger :=
  let old := l.region[l.other]
  match l.op with
  | none => l
  | some (.tally i t goal) =>
    let reg := l.liveRegion
    let c := reg.counters[i]
    let c' := { c with tally := c.tally &&& (BitVec.allOnes 1024 <<< t) }
    { l with
      op := if t < goal then some (.tally i goal goal) else none
      region := l.region.set l.live { reg with counters := reg.counters.set i c' } }
  | some (.erase k) =>
    { l with
      op := none, sectors := l.sectors + 1, region := l.region.set l.other (old.eraseSector k)
      newBase := if l.sectors + 1 = 8 then some (l.newBases bound) else l.newBase }
  | some .header => l.filledTo (old.putHeader l.target)
  | some (.record i) => l.filledTo { old with counters := old.counters.set i l.target.counters[i] }
  | some .commit => l.filledTo old.commit
  | some (.again r) =>
    let l1 := { l with op := none, region := l.region.set r { l.region[r] with marker := 0 } }
    if r = l.live then l1 else { l1 with live := r, compacting := false, filled := 0, sectors := 0, newBase := none }

end Sys2Proof.Machine
end

