-- ==== Sys2Proof/Machine/DriveOps.lean ====
section
/-! DEFINITION. The drive path's arithmetic: range functions (R246), the interpolator (R232), targets (R234, R236) and the
slew limiter (R237), and what a ball shows (R240 to R242). -/

namespace Sys2Proof.Machine

/-! ## Range functions -/

/-- Table 7.3 for a step from gain `from_` to gain `to_`, both as CHn_GAIN encodes them, before its clamp. -/
def rangeRaw (curr : Bool) (from_ to_ : BitVec 1) (c : Code) : Int :=
  let x : Int := c.toNat
  if from_ = to_ then x
  else if to_ = 1 then (if curr then 512 + (x - 512 + 1) / 2 else (x + 1) / 2)
  else (if curr then 512 + 2 * (x - 512) else 2 * x)

/-- Table 7.3, and whether the result was clamped. -/
def rangeMap (curr : Bool) (from_ to_ : BitVec 1) (c : Code) : Code × Bool :=
  let x := rangeRaw curr from_ to_ c
  (clampCode x, decide (x < 0) || decide (1023 < x))

/-- Whether a channel drives a CURR bank. -/
def State.isCurr (s : State) (n : Chan) : Bool := s.power.bankIsCurr (bankOf n)

/-- The parameters of a channel under the live configuration. -/
def State.chanParams (s : State) (n : Chan) : ChanParams := s.txn.live.params.chan[n]

/-- The code that guards, ledger counts and the excursion test judge: the latched code, mapped to the new gain from the
`gain` that the analogue stage holds (R239, R247). -/
def State.judgedCode (s : State) (n : Chan) (gain : BitVec 1) (c : Code) : Code :=
  (rangeMap (s.isCurr n) gain (s.chanParams n).gain c).1

/-- The nominal code of a channel in the codes of a gain (R247). -/
def State.nominalUnder (s : State) (n : Chan) (gain : BitVec 1) : Code :=
  (rangeMap (s.isCurr n) (s.chanParams n).gain gain (s.chanParams n).nom).1

/-- |c − NOM_n|. -/
def offNominal (nom c : Code) : Nat := Int.natAbs ((c.toNat : Int) - nom.toNat)

/-! ## Sources -/

/-- A tap of a coefficient set (R233, Table 7.2). -/
def Image.tap (img : Image) (cset : BitVec 3) (phi t : Nat) : Int :=
  match cset.toNat with
  | 0 => if t = 3 then 16384 - 256 * phi else if t = 4 then 256 * phi else 0
  | 1 => if t = 3 then 16384 else 0
  | k + 2 => ((img.csets.toList[k]?.join).elim 0 fun cs => (cs.getD (8 * phi + t) 0).toInt)

/-- The output of the interpolator for eight taps (R232). -/
def interpolate (tap : Nat → Int) (x : Nat → Int) : Int :=
  satInt (-2048) 2047 (rsh (((List.range 8).map fun t => tap t * x t).sum) 14)

/-- The signed source of a PLAY lane at position `pos` of its segment (R214, R216, R232), from the words that its prefetch holds. -/
def State.playSource (s : State) (p : PlayerNo) (n : Chan) (g : Segment) (pos : BitVec 56) : Int :=
  let i := indexAt pos
  let phi := pos.toNat / 2 ^ 18 % 64
  let wrong := ((s.player[p]).lanes[n]).wrong
  let at_ (t : Nat) : Int :=
    let k := min (i + t - 3) (g.len - 1)
    (wordSample (s.mem.wordOr g wrong (k / 6)) k).toNat - 512
  interpolate (s.txn.live.image.tap (s.txn.live.params.player[p]).cset phi) at_

/-- The 48-bit phase of a lane (R204). -/
def State.lanePhase (s : State) (p : PlayerNo) (n : Chan) : Phase :=
  (s.player[p]).phase + BitVec.ofNat 48 ((s.chanParams n).phase.toNat * 2 ^ 32)

/-- The source value of a RAMP (R208). -/
def rampSource (shape : BitVec 2) (phase : Phase) : Nat :=
  let u := phase.toNat / 2 ^ 38
  let v := phase.toNat / 2 ^ 37
  match shape.toNat with
  | 0 => u
  | 1 => 1023 - u
  | _ => if v < 1024 then v else 2047 - v

/-- The source value of a TONE or CHIRP from tone table `tt` (R205). -/
def State.toneSource (s : State) (tt : Nat) (phase : Phase) : Nat :=
  ((s.txn.live.image.tones.toList[tt]?.join).elim 512 fun tab => (tab.getD (phase.toNat / 2 ^ 36) 512).toNat)

/-! ## Targets -/

/-- The target that the engine forms from a signed source (R234), and whether its clamp changed it. -/
def ChanParams.target (c : ChanParams) (src : Int) : Code × Bool :=
  let q := satInt (-2048) 2047 (rsh (src * c.amp.toNat) c.sha.toNat)
  let raw := (c.nom.toNat : Int) + rsh (q + c.ofs.toInt) c.sho.toNat
  (clampCode raw, decide (raw < 0) || decide (1023 < raw))

/-- The player that the live configuration binds to a channel. -/
def State.playerOf (s : State) (n : Chan) : Option PlayerNo := (List.finRange 16).find? fun p => s.boundTo p n

/-- The target of a lane before any substitution, from the step in force (R205 to R214, R236). `last` is the target of its last
frame step other than WAIT (R198). -/
def State.stepTarget (s : State) (p : PlayerNo) (n : Chan) (last : Code) : Code × Bool :=
  let x := s.player[p]
  let st := s.stepOf p
  let cp := s.chanParams n
  match st.op with
  | .tone => cp.target (s.toneSource st.tt (s.lanePhase p n) - 512)
  | .chirp =>
    let ext := ((s.prog p).at? (x.pc.toNat + 1)).getD 0
    cp.target (s.toneSource ext.extTt (s.lanePhase p n) - 512)
  | .ramp => cp.target (rampSource st.shape (s.lanePhase p n) - 512)
  | .noise => cp.target (x.noiseValue.toNat - 512)
  | .level => (clampCode ((s.txn.live.levelCode st n).getD cp.nom.toNat), false)
  | .wait => (last, false)
  | .play =>
    if x.fallback then (cp.nom, false)
    else
      match s.segment (s.laneSegment p st n) with
      | some g => cp.target (s.playSource p n g x.pos)
      | none => (cp.nom, false)
  | _ => (cp.nom, false)

/-- Whether R37 substitutes LEVEL-at-nominal for a step on a channel: the budget of its rail is reached, and it is a SWEEP
step or a MARGIN step that holds a code beyond the deep threshold. -/
def State.substituted (s : State) (n : Chan) (t : Code) : Bool :=
  let cp := s.chanParams n
  s.railReached (s.railOf n) &&
    (s.txn.live.mode == 2 || (s.txn.live.mode == 1 && decide (cp.deep.toNat < offNominal cp.nom t)))

/-- The target of a channel for the next frame: the target, whether R234's clamp changed it, and whether it is the target
of a frame step other than WAIT (R198, R236, R37). -/
def State.laneTarget (s : State) (n : Chan) (last : Code) : Code × Bool × Bool :=
  let nom := (s.chanParams n).nom
  match s.playerOf n with
  | none => (nom, false, false)
  | some p =>
    if (s.player[p]).state ≠ .running then (nom, false, false)
    else
      let o := (s.stepOf p).op
      let (t, sat) := s.stepTarget p n last
      if s.substituted n t then (nom, false, o != .wait) else (t, sat, o != .wait)

/-! ## The limiter -/

/-- One computation of the slew limiter (R237): the code and m. -/
def limit (step int : BitVec 9) (t : Code) (c : Code) (m : BitVec 9) : Code × BitVec 9 :=
  let m1 : Nat := min (m.toNat + 1) 256
  if t ≠ c ∧ int.toNat ≤ m1 then
    (if c.toNat < t.toNat then c + BitVec.ofNat 10 (min step.toNat (t.toNat - c.toNat))
     else c - BitVec.ofNat 10 (min step.toNat (c.toNat - t.toNat)), 0)
  else (c, BitVec.ofNat 9 m1)

/-- Whether a frame of a switch window is its natural switch frame (R248): `before` and `after` are the codes of the frame
before and of the frame itself, in old-gain terms. -/
def naturalSwitch (curr : Bool) (newGain : BitVec 1) (frame0 : Bool) (before after : Code) : Bool :=
  if curr then
    after == 512 || (decide (before.toNat < 512) && decide (512 < after.toNat)) ||
      (decide (512 < before.toNat) && decide (after.toNat < 512))
  else if newGain = 1 then frame0
  else decide (after.toNat ≤ 511)

/-- The target of a channel for the next frame (R236), and the channel with what its computation notes of it. A held rail
supplies LEVEL-at-nominal in place of every frame step, which a later WAIT holds (R198, R346); a channel without sight stays at
nominal (R22). -/
def State.supply (s : State) (n : Chan) (c : Channel) : Code × Channel :=
  let nom := (s.chanParams n).nom
  let (lane, sat, isStep) := s.laneTarget n c.lastTarget
  let held := s.ledger.held[s.railOf n]
  let atNominal := c.retreated || held || c.heldNominal
  (if atNominal then nom else lane,
   { c with
     satNext := sat && !atNominal, heldNext := held, slotClk := some s.clock.clk
     lastTarget := if !isStep then c.lastTarget else if held then nom else lane })

/-- The computation of a channel's code for the next frame (R227, R237, R247 to R249), from a base code, count, gain and
retreat state. `frame0` says that the next frame is frame 0 of an apply tick. A held rail moves its channels to nominal at
the retreat slope (R346). -/
def State.compute (s : State) (n : Chan) (frame0 : Bool) (c : Channel) : Channel :=
  let cp := s.chanParams n
  let curr := s.isCurr n
  let base := c.code
  let (target, noted) := s.supply n c
  let (t, clip1) := rangeMap curr cp.gain c.gainNext target
  let (c1, m1) :=
    if c.retreated || noted.heldNext then limit cp.retStep cp.retInt t base c.m else limit cp.slewStep cp.slewInt t base c.m
  let switches := c.window && naturalSwitch curr cp.gain frame0 base c1
  let (c2, clip2) := if switches then rangeMap curr c.gainNext cp.gain c1 else (c1, false)
  { noted with
    code := c2, m := m1, mBase := c.m, slotRetreated := c.retreated, gainBase := c.gainNext,
    gainNext := if switches then cp.gain else c.gainNext,
    window := c.window && !switches,
    clipNext := clip1 || clip2 }

/-! ## The DAC and the ball -/

/-- The unit elements that a latched code turns on: those at the first k thermometer positions, k being bits [9:6] (R240). -/
def Channel.unitsOn (c : Channel) : List (Fin 18) := c.positions.take (c.latched.extractLsb' 6 4).toNat

/-- The sum of the weights that a latched code turns on: 64 for each unit element, and the ladder's (R240). -/
def Channel.weight (c : Channel) : Nat := 64 * c.unitsOn.length + (c.latched.extractLsb' 0 6).toNat

/-- What a drive ball shows. -/
inductive Ball where
  /-- the release switch is open (R10) -/
  | isOpen
  /-- a voltage with respect to VSS, in mV (R241) -/
  | volt (mv : Rat)
  /-- a current out of the ball, in µA (R242) -/
  | curr (ua : Rat)
  deriving DecidableEq, Repr

/-- VREF in mV (R245). -/
def Power.vrefMv (p : Power) : Nat := if p.refinMv < 100 then 1250 else p.refinMv

/-- The gain G that an encoded CHn_GAIN stands for. -/
def gainOf (g : BitVec 1) : Nat := g.toNat + 1

/-- The level of R241 for the weight that the DAC turns on, in mV. Above 2.7 V the manual fixes only that it lies from 2.7 V up to
the formula's value: there it is a free value within those bounds. -/
def voltLevel (weight gain vrefMv : Nat) : Rat :=
  let v : Rat := (weight * gain * vrefMv : Nat) / 1024
  if v ≤ 2700 then v else max 2700 (min v (Config.freeVoltLevel weight gain vrefMv))

/-- The current of the RSET_x ball in µA, which the device holds at VREF: 1.0 mA at most, also into a short (R508, Table 17.7). -/
def rsetCurrent (vrefMv rsetOhm : Nat) : Rat :=
  if vrefMv ≤ rsetOhm then (vrefMv * 1000 : Nat) / (rsetOhm : Rat) else 1000

/-- I_FS in µA (R242, R508): G times the current of the RSET_x ball. -/
def fullScale (gain vrefMv rsetOhm : Nat) : Rat := gain * rsetCurrent vrefMv rsetOhm

/-- The current of R242 for the weight that the DAC turns on, in µA; the stage limits it to 440 µA either way (R506, log entry
116). -/
def currLevel (weight : Nat) (ifs : Rat) : Rat := max (-440) (min 440 ((((weight : Int) - 512 : Int) : Rat) * ifs / 512))

/-- RSET_x in Ω: the latest measurement (R244), and before the first one the board's own value, which the block does not know. -/
def Power.rsetOhm (p : Power) (b : Bank) : Nat := (p.rset[b]).getD (Config.boardRset b)

/-- What channel n's ball shows, settled (R10, R240 to R242). -/
def State.ball (s : State) (n : Chan) : Ball :=
  let c := s.chan[n]
  if c.released then .isOpen
  else if s.isCurr n then
    .curr (currLevel c.weight (fullScale (gainOf c.gainHeld) s.power.vrefMv (s.power.rsetOhm (bankOf n))))
  else .volt (voltLevel c.weight (gainOf c.gainHeld) s.power.vrefMv)

end Sys2Proof.Machine
end

