-- ==== Sys2Proof/Machine/Sight.lean ====
section
/-! DEFINITION. Sight (R22 to R26, R276): when a drive channel has it, at validation and in the running machine, and what
its loss does. -/

namespace Sys2Proof.Machine

/-- The entry of an input in the guard table that a configuration selects; none when the table is absent (R271). -/
def Configuration.guard (c : Configuration) (i : Chan) : Option Guard :=
  (c.image.guards.toList[c.params.dev.guardTab.toNat]?.join).map fun tab => tab[i]

/-- The half-width h of an input's rank filter (R261). -/
def Configuration.half (c : Configuration) (i : Chan) : Nat := (c.params.mon[i]).rank.toNat

/-- Whether a value of the guard path lies outside a window (R273). -/
def Guard.isOutside (g : Guard) (v : Nat) : Bool := decide (v < 16 * g.lo.toNat) || decide (16 * (g.hi.toNat + 1) ≤ v)

/-- (d − 1) + h of a guard (R28). -/
def Configuration.guardSpan (c : Configuration) (i : Chan) (g : Guard) : Nat := g.dwell.toNat - 1 + c.half i

/-- Whether a guard can give sight: it is enabled, its window is narrower than the full code range, and its latency meets
R28 (R23, R24). -/
def Configuration.guardGivesSight (c : Configuration) (i : Chan) (g : Guard) : Bool :=
  g.en && !(g.lo == 0 && g.hi == 1023) && decide (c.guardSpan i g ≤ 7)

/-- Whether an input converts and its bank has passed self-test (R23, R260, R358, R528). The front ends need the MON supply and
the references of the REF domain (R45, Table 2.1). -/
def State.converts (s : State) (i : Chan) : Bool :=
  let b := bankOf i
  s.power.locked && s.power.isGood .mon && s.power.isGood .ref && !s.sense.failed[b] && !s.sense.trimming[b]

/-- Whether the latest guard sample of an input lies outside a guard's window, judged afresh (R276). -/
def Input.lastOutside (x : Input) (g : Guard) : Bool :=
  match x.guardHist with
  | [] => false
  | (v, ovr) :: _ => ovr || g.isOutside v

/-- Whether a monitor input gives sight under the live configuration (R23, R276). -/
def State.inputSees (s : State) (i : Chan) : Bool :=
  match s.txn.live.guard i with
  | none => false
  | some g =>
    let x := s.sense.input[i]
    s.txn.live.guardGivesSight i g && s.converts i && !x.trippedSinceApply && !x.outside

/-- Whether a drive channel has sight (R23, R24). -/
def State.hasSight (s : State) (n : Chan) : Bool :=
  match s.linkOf n with
  | none => false
  | some i => s.inputSees i

/-- Whether a drive channel would have sight under a shadow, in the present frame (R25, R276). -/
def State.hasSightUnder (s : State) (c : Configuration) (n : Chan) : Bool :=
  match (c.image.links[n]).mon with
  | none => false
  | some i =>
    match c.guard i with
    | none => false
    | some g => c.guardGivesSight i g && s.converts i && !(s.sense.input[i]).lastOutside g

/-- Whether a channel stands away from its nominal code: each code counts as mapped from its own gain to the new one (R247, R249). -/
def State.awayFromNominal (s : State) (n : Chan) : Bool :=
  let c := s.chan[n]
  let away (gain : BitVec 1) (code : Code) : Bool := s.judgedCode n gain code != (s.chanParams n).nom
  away c.gainNext c.code || away c.gainHeld c.latched || c.delayed.any fun d => away d.2 d.1

/-- What a loss of sight does (R22, R26): a driven channel away from nominal retreats, and one at nominal stays there until
the next apply tick. DESIGN CHOICE: so it does even when sight returns before that tick and no guard tripped (log entry 132). -/
def State.loseSight (s : State) : State :=
  let blind (n : Chan) : Bool := !(s.chan[n]).released && !s.hasSight n
  let s1 := s.retreat fun n => blind n && s.awayFromNominal n
  { s1 with chan := mapAll (fun n c => if blind n && !c.retreated then { c with heldNominal := true } else c) s1.chan }

end Sys2Proof.Machine
end

