-- ==== Sys2Proof/Machine/Apply.lean ====
section
/-! DEFINITION. A configuration takes effect at a tick boundary (R48, R49, R151): what every block does from frame 0, at a
commit, at a roll-back and at the return to the power-up state. -/

namespace Sys2Proof.Machine

/-! ## The resident set and captures -/

/-- Whether self-refresh is allowed: HOLD or SYNTH with no capture active (Table 2.5). -/
def Mem.selfRefreshAllowed (m : Mem) (mode : BitVec 3) : Bool :=
  (mode == 0 || mode == 4) && !m.capture.toList.any (·.active)

/-- A commit that needs DRAM, or self-refresh that is no longer allowed, ends it (R147, Table 9.11). -/
def Mem.wake (m : Mem) : Mem :=
  match m.sr with
  | .awake => m
  | .idleCount | .drain => { m with srCount := 0, sr := .awake }
  | .committed => { m with wakeDue := true }
  | .exit => m

/-- `k` pages taken, each the lowest-numbered free page (R299); fewer when the free pages run out (log 9). -/
def Mem.takePages : Nat → Mem → List Nat × Mem
  | 0, m => ([], m)
  | k + 1, m =>
    match m.takePage with
    | none => ([], m)
    | some (p, m0) =>
      let (ps, m1) := Mem.takePages k m0
      (p :: ps, m1)

/-- One capture stream at an apply tick (R288): it runs or waits for its trigger when its plan entry names inputs, and its
unsent lines stay while the ring keeps its size. A stream whose entry is unchanged and runs continuously goes on. -/
def Mem.armCapture (m : Mem) (k : Fin 8) (old new : Option CapStream) : Mem :=
  let c := m.capture[k]
  let used (e : Option CapStream) : Bool := e.any fun e => e.mask != 0
  let fresh (m : Mem) (pages : List Nat) (lines : List CapLine) : Mem :=
    { m with
      capture := m.capture.set k
        { Capture.initial with
          active := used new, triggered := new.any fun e => e.trig == 0x3F,
          lines := lines, written := if lines.isEmpty then 0 else c.written, gap := c.gap, pages := pages } }
  if used new && old == new && c.active && c.triggered && new.any (fun e => e.trig == 0x3F) then m
  else if used new && used old && old.map (·.ring) == new.map (·.ring) then fresh m c.pages c.lines
  else
    let freed := m.releasePages c.pages
    if used new then
      let (pages, m1) := Mem.takePages (new.elim 0 fun e => e.ring.toNat) freed
      fresh m1 pages []
    else fresh freed [] []

/-- Every capture stream at an apply tick. -/
def Mem.armCaptures (m : Mem) (old new : Option (Vector CapStream 8)) : Mem :=
  (List.finRange 8).foldl (fun m k => m.armCapture k (old.map (·[k])) (new.map (·[k]))) m

/-! ## The sense path -/

/-- The guard of an input at an apply tick: armed, its counted samples judged again against the new window (R275, R277). -/
def Input.armGuard (x : Input) (g : Option Guard) : Input :=
  match g with
  | none => { x with tripped := false, trippedSinceApply := false, tripDue := false, inCount := 0, outCount := 0, outside := false }
  | some g =>
    { x with
      tripped := false, trippedSinceApply := false, tripDue := false, inCount := 0,
      outCount := (((x.guardHist.take x.outCount).takeWhile fun e => e.2 || g.isOutside e.1)).length,
      outside := x.lastOutside g }

/-- Whether an input's decimation filter restarts when its parameters change (R267). -/
def filterRestarts (old new : MonParams) : Bool := old.preset != new.preset || old.phase != new.phase || old.sh != new.sh

/-- One input at an apply tick: range changes (R268), rank and preset changes (R261, R267), the guard, and the detector's
fresh start (R285, R286). -/
def Input.takeEffect (x : Input) (old new : MonParams) (g : Option Guard) (clk : Nat) : Input :=
  let ranged := if old.pgain ≠ new.pgain ∨ old.cofs ≠ new.cofs then
    { x with settling := 2, oldPgain := if x.settling = 0 then old.pgain else x.oldPgain,
             oldCofs := if x.settling = 0 then old.cofs else x.oldCofs }
    else x
  let ranked := if old.rank ≠ new.rank then { ranged with window := [], rawWindow := [] } else ranged
  let set := if filterRestarts old new then { ranked with integ := [], comb := [], fir := [], age := 0 } else ranked
  { (set.armGuard g).restartDetector with met := false, ncoStart := clk }

/-- The words of a capture line that is not whole are dropped for an input whose filter restarts. -/
def Capture.restartInputs (c : Capture) (restarts : Chan → Bool) : Capture :=
  { c with words := c.words.filter fun w => !restarts w.input }

/-! ## The drive path -/

/-- Whether a channel takes part in a HOLD commit's end of release (R13, R17): its bank is fitted and its supply good. -/
def State.mayLeaveRelease (s : State) (n : Chan) : Bool :=
  s.fitted n && !(s.chan[n]).forGood && !s.power.fault (7 + (bankOf n).val)

/-- One channel at the boundary at which a configuration takes effect, the configuration being live already and its players
at their first frames. `hold` says that a HOLD commit applies. -/
def State.channelTakesEffect (s : State) (isCommit hold : Bool) (n : Chan) (c : Channel) : Channel :=
  let cp := s.chanParams n
  if c.released then
    if hold && s.mayLeaveRelease n then
      { c with released := false, retreated := false, heldNominal := !s.hasSight n, code := cp.nom, latched := cp.nom,
               delayed := none, m := 0, mBase := 0, gainHeld := cp.gain, gainNext := cp.gain, gainBase := cp.gain, window := false,
               clipRun := false, satNext := false, clipNext := false, heldNext := false, slotRetreated := false,
               lastTarget := cp.nom, beyond := false, slotClk := none, joinsAt := 0 }
    else
      let base := { c with
        gainHeld := cp.gain, gainNext := cp.gain, gainBase := cp.gain, window := false, code := cp.nom,
        heldNominal := !s.hasSight n, lastTarget := cp.nom }
      { (s.supply n base).2 with slotClk := none }
  else
    -- R527: the frame-0 code is computed from what stood before slot n of the last frame
    let again := c.slotClk == some (s.clock.clk - 1) && decide (0 < s.clock.clk)
    let gain := if again then c.gainBase else c.gainNext
    let base := { c with
      code := if again then c.delayed.elim c.latched Prod.fst else c.code, m := if again then c.mBase else c.m,
      retreated := if again then c.slotRetreated else c.retreated,
      gainNext := gain, window := gain != cp.gain, heldNominal := !s.hasSight n, lastTarget := cp.nom }
    let made := s.compute n true base
    let stays := c.retreated && !(isCommit && s.txn.seen[n])
    -- a retreat that began after that slot makes its first move in the next computation (R238)
    let late := stays && again && !c.slotRetreated
    -- an abandoned calibration connects at this frame-0 latch, unless a retreat that stays has its first code still to come (R363)
    { made with
      retreated := stays, m := if late then cp.retInt else made.m, slotClk := none, joinsAt := if stays then c.joinsAt else 0 }

/-! ## Taking effect -/

/-- Whether the live configuration lets a channel leave nominal, or its code or target stands away from it (R362, third and
fourth conditions). -/
def State.restless (s : State) (n : Chan) : Bool :=
  let c := s.chan[n]
  let nom := (s.chanParams n).nom
  let target := if c.retreated || c.heldNominal || s.ledger.held[s.railOf n] then nom else (s.laneTarget n c.lastTarget).1
  s.txn.leave[n] || c.latched != nom || c.code != nom || target != nom ||
    c.delayed.any fun d => d.1 != nom

/-- Whether a drive channel is eligible for the background rotation (R362). -/
def State.eligible (s : State) (n : Chan) : Bool :=
  s.fitted n && !(s.chan[n]).released && !(s.chan[n]).forGood && !s.restless n && !(s.chan[n]).window

/-- The drive channels that the live link map links to an input of a monitor bank. -/
def State.linkedToBank (s : State) (b : Bank) (n : Chan) : Bool := (s.linkOf n).any fun i => bankOf i == b

/-- Whether every drive channel linked to a monitor bank rests at nominal, and may not leave it (R362). -/
def State.bankRests (s : State) (b : Bank) : Bool := (List.finRange 64).all fun n => !s.linkedToBank b n || !s.restless n

/-- Whether an apply tick abandons the calibration of an item (Table 11.5): its mode runs none, or it makes the item ineligible. The
released channels of a power-up pass or of a returned bank's are not the rotation's to judge. -/
def State.applyDrops (s : State) (it : CalItem) : Bool :=
  let quiet := s.txn.live.mode == 0 || s.txn.live.mode == 1
  !quiet || ((it.kind == .background || it.kind == .full) && !s.eligible it.chan)

/-- Calibration at an apply tick (Table 11.5): a pass of CALIBRATE that runs is over, and a commit of CALIBRATE begins one, which
measures RSET_x afresh (R353, R360). -/
def State.calTakesEffect (s : State) : State :=
  let mode := s.txn.live.mode
  let quiet := mode == 0 || mode == 1
  let drops (n : Chan) : Bool := s.cal.item.any fun it => it.chan == n && s.applyDrops it
  let s1 := s.abandonCal drops
  let pass := if mode = 5 then some (s.newPass .full 0 0) else s1.cal.pass.filter fun p => p.kind != .full
  { s1 with
    chan := mapAll (fun n c => if drops n then { c with fog := false } else c) s.chan
    sense := { s.sense with trimming := mapAll (fun b t => t && quiet && s.bankRests b) s.sense.trimming }
    cal := { s1.cal with
      passDone := false, pass := pass
      rsetDone := if mode = 5 then Vector.replicate 4 false else s1.cal.rsetDone } }

/-- The reference of a drive channel in frame `f` under the live configuration (R204, R279): unwrapped phase, word and a count that
changes with every reset of the phase and with its source. A frame in which the player ran stands in its history, whatever it does
since; one that the history does not reach continues from its latest while the player runs. -/
def State.channelRef (s : State) (n : Chan) (f : Nat) : Nat × Nat × Nat :=
  let offset := (s.chanParams n).phase.toNat * 2 ^ 32
  let fixed := (offset, 0, 0)
  match s.playerOf n with
  | none => fixed
  | some p =>
    let x := s.player[p]
    match x.refs.find? fun r => r.clk == f with
    | some r => (offset + r.phase, r.word.toNat, r.gen + 1)
    | none =>
      if x.state ≠ .running then fixed
      else
        match x.refs.head? with
        | some r => if r.clk < f then (offset + r.phase + (f - r.clk) * r.word.toNat, r.word.toNat, r.gen + 1) else fixed
        | none => fixed

/-- What the detectors keep of frames −1 and −2 across an apply tick (R229, R280). -/
def State.refBefore (s : State) : RefBefore :=
  { clk := s.clock.clk, align := s.txn.live.params.dev.align
    refs := Vector.ofFn fun n => [s.channelRef n (s.clock.clk - 1), s.channelRef n (s.clock.clk - 2)] }

/-- A configuration becomes live and every block takes it up from frame 0 (R49, R151). A commit also ends the retreat of
every channel that had sight when it passed validation (R14), stops driving RTR_N (R175); a HOLD commit ends release (R13) and the
power-up state (R135). -/
def State.takeEffect (s : State) (cfg : Configuration) (isCommit : Bool) : State :=
  let old := s.txn.live
  let leave := Vector.ofFn cfg.leaves
  let s1 := { s with txn := { s.txn with live := cfg, leave := leave, defaultsDue := false } }
  let s2 := s1.startPlayers.clearFault 21
  let s3 := { s2 with
    ledger := { s2.ledger with bound := boundsFor cfg.image.links leave }
    pins := { s2.pins with
      mkLevel := Vector.replicate 8 false, mkPulse := Vector.replicate 8 none,
      mkLevelNext := Vector.replicate 8 none, mkPulseNext := Vector.replicate 8 none,
      rtrDrive := s2.pins.rtrDrive && !isCommit }
    sense := { s2.sense with
      before := some s.refBefore
      input := mapAll (fun i (x : Input) => Input.takeEffect x old.params.mon[i] cfg.params.mon[i] (cfg.guard i) s2.clock.clk)
        s2.sense.input }
    mem := s2.mem.armCaptures old.image.plan cfg.image.plan }
  let restarts (i : Chan) : Bool := filterRestarts old.params.mon[i] cfg.params.mon[i]
  let s3 := { s3 with mem := { s3.mem with capture := mapAll (fun _ (c : Capture) => c.restartInputs restarts) s3.mem.capture } }
  let s4 := (List.finRange 128).foldl State.judgeBudget s3
  let s5 := { s4 with ledger := s4.ledger.judgeHolds }
  let hold := isCommit && cfg.mode == 0
  let s6 := { s5 with
    chan := mapAll (s5.channelTakesEffect isCommit hold) s5.chan
    power := { s5.power with powerUp := s5.power.powerUp && !hold } }
  let s7 := s6.setResident.calTakesEffect.judgeSquall
  if s7.mem.selfRefreshAllowed cfg.mode then s7 else { s7 with mem := s7.mem.wake }

/-- The device returns to the power-up state (R156): the catalogue defaults are live and last-good, probation ends, and
every output is released until a HOLD commit. -/
def State.toPowerUp (s : State) : State :=
  let s1 := s.releaseAll
  let s2 := { s1 with
    txn := { s1.txn with lastGood := none, probation := none, rollbackPending := false }
    chain := { s1.chain with sysProbation := false }
    power := { s1.power with powerUp := true } }
  s2.takeEffect (powerUpConfiguration s.power.straps) false

end Sys2Proof.Machine
end

