-- ==== Sys2Proof/Machine/Validate.lean ====
section
/-! DEFINITION. Validation (R146 to R150, Table 5.3, Table 15.9): the checks 0x10 to 0x1C in order, each naming its first
offending object as R148 orders them. -/

namespace Sys2Proof.Machine

/-! ## Objects (R430) -/

/-- A segment. -/
def objSegment (id : Nat) : Obj := { kind := 1, obj := BitVec.ofNat 32 id }
/-- A drive channel. -/
def objChannel (n : Chan) : Obj := { kind := 3, obj := BitVec.ofNat 32 n.val }
/-- A parameter. -/
def objParam (pid pidx : Nat) : Obj := { kind := 4, obj := BitVec.ofNat 32 (pidx * 65536 + pid) }
/-- A monitor input. -/
def objInput (i : Chan) : Obj := { kind := 5, obj := BitVec.ofNat 32 i.val }
/-- A step. -/
def objStep (p : PlayerNo) (i : Nat) : Obj := { kind := 7, obj := BitVec.ofNat 32 (p.val * 65536 + i) }
/-- A record type. -/
def objRecord (rtype : Nat) : Obj := { kind := 10, obj := BitVec.ofNat 32 rtype }

/-- What a check finds: nothing, or its first offending object. -/
abbrev Finding := Option Obj

/-! ## What the checks share -/

/-- Whether a segment is present (R302). -/
def Segment.present (g : Segment) : Bool :=
  g.state == .ready || (g.state == .quarantined && g.rcvd == g.len && !g.sealHold)

/-- A present segment. -/
def State.presentSegment (s : State) (id : Nat) : Option Segment := (s.segment id).filter Segment.present

/-- The players that run under a configuration, ascending (R526). -/
def Configuration.running (c : Configuration) : List PlayerNo := (List.finRange 16).filter c.runs

/-- The first finding over the reachable steps of every player that runs, by player and step index (R148). -/
def Configuration.firstStep (c : Configuration) (f : PlayerNo → Prog → Nat → Step → Finding) : Finding :=
  c.running.findSome? fun p =>
    let g := c.prog p
    (g.reachable (c.entry p)).findSome? fun i => f p g i ((g.at? i).getD 0)

/-- Whether a drive channel can be driven at all: its bank is fitted and it is not released for good (R150). -/
def State.drivable (s : State) (n : Chan) : Bool := s.fitted n && !(s.chan[n]).forGood

/-- Whether DRAM can be used (R61, R327). -/
def State.dramUsable (s : State) : Bool := s.mem.fitted && !s.dramDown

/-! ## 0x10 to 0x13 -/

/-- The filtered MODE and VAR that a run of samples ends with (R81). -/
def pinLevels (o : PinObs) : Option (BitVec 3 × BitVec 2) :=
  match (filteredCodes (o.modeVar.map Prod.fst)).getLast?, (filteredCodes (o.modeVar.map Prod.snd)).getLast? with
  | some m, some v => some (m, v)
  | _, _ => none

/-- Whether the filtered MODE and VAR stood unchanged in the last 16 frames (R149). -/
def pinsSteady (o : PinObs) : Bool :=
  let ms := lastN 16 (filteredCodes (o.modeVar.map Prod.fst))
  let vs := lastN 16 (filteredCodes (o.modeVar.map Prod.snd))
  ms.length == 16 && vs.length == 16 && ms.all (some · == ms.head?) && vs.all (some · == vs.head?)

/-- Check 0x10: R149. -/
def State.pinsStable (s : State) (o : PinObs) : Bool := pinsSteady o && decide (s.clock.pinsSetAt + 15 ≤ s.clock.clk)

/-- RTR_N is recognised low (R18, R91): by a driver other than this device it retreats every channel. -/
def State.rtrRecognised (s : State) : State := if s.pins.rtrDrive then s else s.retreatAll.logEvent 3 0 0

/-- The pins as the samples leave them: the filtered MODE and VAR (R81), whose invalid codes are a fault cause (R92), and
RTR_N's filtered level, which acts when it becomes low (R91). -/
def State.observe (s : State) (o : PinObs) : State :=
  let levels := (pinLevels o).getD (s.pins.mode, s.pins.var)
  let rtr := ((filtered o.rtrN).getLast?).elim s.pins.rtrLow (!·)
  let s1 := State.judgeMode { s with pins := { s.pins with mode := levels.1, var := levels.2, rtrLow := rtr } }
  if rtr && !s.pins.rtrLow then s1.rtrRecognised else s1

/-! ## 0x14 References -/

/-- The entry step names no step of the program, or a CHIRP extension slot (Table 15.9). -/
def Configuration.badEntry (c : Configuration) (p : PlayerNo) : Bool :=
  let g := c.prog p
  decide (g.steps.length ≤ c.entry p) || g.op (c.entry p) == .extension

/-- A step that names an absent object: its tone table (R205), its margin table (R211), its segments (R215, R302), or that breaks a
rule of its own structure (R182, R189, R191). -/
def State.stepRefs (s : State) (c : Configuration) (p : PlayerNo) (g : Prog) (i : Nat) (st : Step) : Finding :=
  let here := some (objStep p i)
  let ids := st.segments (c.lanes p).length
  let len := (s.presentSegment st.seg).map Segment.len
  let bad (b : Bool) : Finding := if b then here else none
  if g.breaksRefs i then here
  else
    match st.op with
    | .tone => bad (c.image.tones.toList[st.tt]?.join).isNone
    | .chirp => bad (c.image.tones.toList[((g.at? (i + 1)).getD 0).extTt]?.join).isNone
    | .level => bad (st.src && (c.image.margins.toList[st.mtab]?.join).isNone)
    | .play => bad (ids.any fun id => (s.presentSegment id).isNone || (s.presentSegment id).map Segment.len != len)
    | _ => none

/-- The first step of a player's program that check 0x14 refuses: any that names a reserved event code (R163), and a reachable one by
what it names and its structure (DEDUCED, log entry 118). -/
def State.progRefs (s : State) (c : Configuration) (p : PlayerNo) : Finding :=
  let g := c.prog p
  let reachable := g.reachable (c.entry p)
  (List.range g.steps.length).findSome? fun i =>
    if g.op i != .extension && g.namesReserved i then some (objStep p i)
    else if reachable.contains i then s.stepRefs c p g i ((g.at? i).getD 0)
    else none

/-- Check 0x14: entry steps, steps, the coefficient set of every player, and the guard table (R526 excuses no PLn_CSET). -/
def State.checkRefs (s : State) (c : Configuration) : Finding :=
  ((c.running.find? c.badEntry).map fun p => objParam 0x0301 p.val) <|>
  (c.running.findSome? (s.progRefs c)) <|>
  (((List.finRange 16).find? fun p =>
      let k := (c.params.player[p]).cset.toNat
      decide (2 ≤ k) && (c.image.csets.toList[k - 2]?.join).isNone).map fun p => objParam 0x0304 p.val) <|>
  (if (c.image.guards.toList[c.params.dev.guardTab.toNat]?.join).isNone then some (objParam 0x0106 0) else none)

/-! ## 0x15 Quarantine -/

/-- The segments that a running player's entry step names, when it is a PLAY. -/
def Configuration.entrySegments (c : Configuration) (p : PlayerNo) : List Nat :=
  let st := ((c.prog p).at? (c.entry p)).getD 0
  if st.op = .play then st.segments (c.lanes p).length else []

/-- Check 0x15: an entry step that is a PLAY names a quarantined segment (Table 15.9); the lowest-numbered is the object (R148). -/
def State.checkQuarantine (s : State) (c : Configuration) : Finding :=
  let ids := (c.running.flatMap c.entrySegments).foldl (fun acc x => insertSorted x acc) []
  (ids.find? fun id => (s.segment id).any fun g => g.state == .quarantined).map objSegment

/-! ## 0x16 Ranges -/

/-- Whether a channel of a fitted CURR bank breaks R244: its I_FS is above 400 µA, or RSET_x measures above 130 kΩ. DESIGN CHOICE
(log entry 117): a bank whose RSET_x has not been measured yet breaks nothing. -/
def State.breaksIfs (s : State) (c : Configuration) (n : Chan) : Bool :=
  let b := bankOf n
  s.power.bankIsCurr b && s.fitted n &&
    match s.power.rset[b] with
    | none => false
    | some r =>
      decide (130000 < r) || decide (400 < fullScale (gainOf (c.params.chan[n]).gain) s.power.vrefMv r)

/-- Whether a guard entry breaks R271. -/
def Guard.bad (g : Guard) : Bool := decide (g.hi.toNat < g.lo.toNat) || g.dwell == 0 || decide (16 < g.dwell.toNat)

/-- Whether some phase of a coefficient set does not sum to 16,384 (R233). -/
def badCset (cs : List (BitVec 16)) : Bool :=
  (List.range 64).any fun phi => ((List.range 8).map fun t => (cs.getD (8 * phi + t) 0).toInt).sum != 16384

/-- Whether a used capture stream breaks R287, R288 or Table 14.7. -/
def CapStream.bad (st : CapStream) : Bool :=
  st.mask != 0 &&
    (st.ring == 0 || decide (4096 < st.ring.toNat) || (decide (0x1A ≤ st.trig.toNat) && st.trig != 0x3F) ||
     decide (1024 < st.pre.toNat) || decide (2 ^ 24 ≤ st.post.toNat) || (st.trig == 0x3F && st.post != 0))

/-- An input named in two streams, the lowest (R287). -/
def doubleInput (plan : Vector CapStream 8) : Option Chan :=
  (List.finRange 64).find? fun i => decide (1 < (plan.toList.filter fun st => st.mask.getLsbD i.val).length)

/-- Whether a LEVEL gives a lane a code outside 0 to 1023 (R211). -/
def Configuration.levelOut (c : Configuration) (p : PlayerNo) (st : Step) : Bool :=
  st.op == .level && (c.lanes p).any fun n => (c.levelCode st n).any fun x => decide (x < 0) || decide (1023 < x)

/-- Check 0x16: parameters, patches, I_FS, then guard entries, coefficient sets, the capture plan and steps. DEDUCED (log entry
118): a step is judged by R189's depth, R191, R202, R207, R208, R211 and R213 only when it is reachable. DEDUCED (log entry 94): of
the guard tables the selected one alone is judged, and in it every entry, a disabled one too. -/
def State.checkRanges (s : State) (c : Configuration) : Finding :=
  (c.params.firstBad.map fun x => objParam x.1 x.2) <|>
  ((firstUnpatchable (overlayNumber c.mode c.var).val c.image.overlays[overlayNumber c.mode c.var]).map
    fun x => objParam x.1 x.2) <|>
  (((List.finRange 64).find? (s.breaksIfs c)).map objChannel) <|>
  (((List.finRange 64).find? fun i => (c.guard i).any Guard.bad).map objInput) <|>
  (if c.image.csets.toList.any (fun cs => cs.any badCset) then some (objRecord 0x23) else none) <|>
  ((c.image.plan.bind doubleInput).map objInput) <|>
  (if c.image.plan.any (fun plan => plan.toList.any CapStream.bad) then some (objRecord 0x26) else none) <|>
  (c.running.findSome? fun p =>
    let g := c.prog p
    let rs := g.reachable (c.entry p)
    let long := g.firstLongRun (c.entry p) rs
    (rs.find? fun i => g.breaksRange i || c.levelOut p ((g.at? i).getD 0) || long == some i).map (objStep p))

/-! ## 0x17 to 0x1C -/

/-- Check 0x17: a channel in two bindings. -/
def Configuration.checkBinding (c : Configuration) : Finding :=
  ((List.finRange 64).find? fun n =>
    decide (1 < ((List.finRange 16).filter fun p => ((c.params.player[p]).bind).getLsbD n.val).length)).map objChannel

/-- Check 0x18: an opcode that the mode does not permit (R180), and a LEVEL of R212. -/
def Configuration.checkOpcodes (c : Configuration) : Finding :=
  c.firstStep fun p _ i st =>
    let offNominal := c.mode == 1 && st.op == .level && !st.src &&
      (c.lanes p).any fun n => c.levelCode st n != some ((c.params.chan[n]).nom.toNat : Int)
    if !modePermits c.mode st.op || offNominal then some (objStep p i) else none

/-- Whether a channel's retreat slope cannot reach nominal within one tick (R21). -/
def ChanParams.slowRetreat (c : ChanParams) : Bool :=
  let d := max c.nom.toNat (1023 - c.nom.toNat)
  let step := c.retStep.toNat
  decide (16384 < (d + step - 1) / step * c.retInt.toNat)

/-- Check 0x19: R21, R28 and R270. -/
def State.checkEnvelope (s : State) (c : Configuration) : Finding :=
  (((List.finRange 64).find? fun n => (c.params.chan[n]).slowRetreat).map objChannel) <|>
  (((List.finRange 64).find? fun i => (c.guard i).any fun g => decide (7 < c.guardSpan i g)).map objInput) <|>
  (((List.finRange 64).find? fun i =>
    let was := s.txn.live.params.mon[i]
    let now := c.params.mon[i]
    (was.pgain != now.pgain || was.cofs != now.cofs) && (c.guard i).any fun g => decide (5 < c.guardSpan i g)).map objInput)

/-- Check 0x1A: a channel that may leave nominal lacks sight (R25); one that stays released in any case is not refused
(R150). -/
def State.checkSight (s : State) (c : Configuration) : Finding :=
  ((List.finRange 64).find? fun n => c.leaves n && s.drivable n && !s.hasSightUnder c n).map objChannel

/-- The signed sources at the ends of an interpolator's range for stored codes from `lo` to `hi` (R38). -/
def Image.playEnds (img : Image) (cset : BitVec 3) (lo hi : Code) : List Int :=
  let l : Int := lo.toNat - 512
  let h : Int := hi.toNat - 512
  (List.range 64).flatMap fun phi =>
    [interpolate (img.tap cset phi) (fun t => if 0 < img.tap cset phi t then l else h),
     interpolate (img.tap cset phi) (fun t => if 0 < img.tap cset phi t then h else l)]

/-- The codes that bound what a step gives a channel, the ones that R38 counts. -/
def State.stepEnds (s : State) (c : Configuration) (p : PlayerNo) (st : Step) (n : Chan) : List Code :=
  let cp := c.params.chan[n]
  match st.op with
  | .level => (c.levelCode st n).toList.map clampCode
  | .ramp | .noise => [(cp.target (-512)).1, (cp.target 511).1]
  | .play =>
    let lane := (c.lanes p).findIdx (· == n)
    match s.segment (if st.lanes then st.seg + lane else st.seg) with
    | some g => (c.image.playEnds (c.params.player[p]).cset g.peakLo g.peakHi).map fun e => (cp.target e).1
    | none => []
  | _ => []

/-- Whether a rail's budget in a configuration is reached by the counts (R37, R148). -/
def State.railReachedUnder (s : State) (c : Configuration) (r : Fin 64) : Bool :=
  budgetReached (c.image.budgets[r]).1 s.ledger.count[excRecord r] || budgetReached (c.image.budgets[r]).2 s.ledger.count[doseRecord r]

/-- Check 0x1B: R38. -/
def State.checkLedger (s : State) (c : Configuration) : Finding :=
  c.firstStep fun p _ i st =>
    if (c.lanes p).any fun n =>
      s.railReachedUnder c (c.image.links[n]).rail &&
        (s.stepEnds c p st n).any fun t => decide ((c.params.chan[n]).deep.toNat < offNominal (c.params.chan[n]).nom t)
    then some (objStep p i) else none

/-- Check 0x1C: R61, R304. R65 refuses nothing beyond these: the modes that allow self-refresh permit no step that needs a
real-time port, and captures bar self-refresh. -/
def State.checkMemory (s : State) (c : Configuration) : Finding :=
  let segs := segmentsOf (s.txn.live :: s.txn.lastGood.toList ++ [c])
  if !s.dramUsable && (c.mode == 1 || c.mode == 2 || c.mode == 3) then some noObj
  else if !s.dramUsable && c.captures then some (objRecord 0x26)
  else if Config.residentMax < segs.length then
    (c.segments.find? fun id => !s.mem.resident.contains (BitVec.ofNat 16 id)).map objSegment
  else none

/-! ## The whole -/

/-- A check's verdict. -/
def refusal (code : Byte) (f : Finding) : Option Verdict := f.map (Verdict.fail code)

/-- The verdict of Table 5.3 on a configuration, in the present frame (R146, R148). -/
def State.validate (s : State) (c : Configuration) (stable : Bool) : Verdict :=
  let plain (code : Byte) (bad : Bool) : Option Verdict := if bad then some (.fail code noObj) else none
  ((plain 0x10 (!stable)) <|>
   (plain 0x11 (s.power.faults &&& releaseCauses != 0 || s.chain.island)) <|>
   (plain 0x12 (s.power.powerUp && c.mode != 0)) <|>
   (plain 0x13 s.rtrLow) <|>
   (refusal 0x14 (s.checkRefs c)) <|>
   (refusal 0x15 (s.checkQuarantine c)) <|>
   (refusal 0x16 (s.checkRanges c)) <|>
   (refusal 0x17 c.checkBinding) <|>
   (refusal 0x18 c.checkOpcodes) <|>
   (refusal 0x19 (s.checkEnvelope c)) <|>
   (refusal 0x1A (s.checkSight c)) <|>
   (refusal 0x1B (s.checkLedger c)) <|>
   (refusal 0x1C (s.checkMemory c))).getD .pass

end Sys2Proof.Machine
end

