-- ==== Sys2Proof/Machine/MemOps.lean ====
section
/-! DEFINITION. The waveform memory's shared operations: read outcomes (R321, R322), attribution and retirement (R323 to
R328), the Bog list and quarantine (R336 to R341), the merge buffer and remap (R332 to R335), and self-refresh (R317). -/

namespace Sys2Proof.Machine

/-! ## Read outcomes -/

/-- What a read gives: its outcome of Table 10.1, the symbols corrected as errors, and what is left on the data when the
decoder took the wrong codeword (R321). -/
structure ReadResult where
  outcome : Decoded
  residual : List (Fin 80 × Byte)
  deriving DecidableEq, Repr

/-- The outcome of a read whose received word carries the error pattern `flips`, decoded with erasures at `erased`. The code
is linear, so the pattern alone decides it. Correction of erased symbols is no symbol error (R321, R326). -/
def readOutcome (flips : Flips) (erased : List (Fin 80)) : ReadResult :=
  if flips.all fun e => e.2 == 0 then { outcome := .clean, residual := [] }
  else
    match rsDecode (addErrors (List.replicate 80 0) flips) erased with
    | .clean => { outcome := .clean, residual := flips }
    | .uncorrectable => { outcome := .uncorrectable, residual := [] }
    | .corrected errs =>
      let real := errs.filter fun e => !erased.contains e.1
      let left := addErrors (addErrors (List.replicate 80 0) flips) errs
      let residual := ((List.finRange 80).map fun i => (i, left.getD i.val 0)).filter fun e => e.2 != 0
      { outcome := if real.isEmpty then .clean else .corrected real, residual := residual }

/-- The erasures with which a line decodes: the retired device of its rank and subchannel (R326). -/
def Mem.erasures (m : Mem) (a : LineAddr) (owner : BitVec 16) : List (Fin 80) :=
  match m.retired[subOf a owner] with
  | some (rank, lane) => if rank = m.rankOf a then symbolsOf lane else []
  | none => []

/-- Whether a line decodes in erasure mode (R326). -/
def Mem.erasureMode (m : Mem) (a : LineAddr) (owner : BitVec 16) : Bool := !(m.erasures a owner).isEmpty

/-- A line that a remap spare holds is read from the spare, and one that the merge buffer holds whole from there; neither meets
the array's errors (R333, R334). -/
def Mem.onChip (m : Mem) (a : LineAddr) (owner : BitVec 16) : Bool :=
  m.onSpare a owner || (m.merge[subOf a owner]).any fun e => e.addr == a && e.mask == BitVec.allOnes 64

/-- The outcome of a read of a line. -/
def Mem.readResult (m : Mem) (a : LineAddr) (owner : BitVec 16) (flips : Flips) : ReadResult :=
  readOutcome (if m.onChip a owner then [] else flips) (m.erasures a owner)

/-- The data of a line as a decoder that left `residual` on it returns them. -/
def Mem.dataWith (m : Mem) (a : LineAddr) (owner : BitVec 16) (residual : List (Fin 80 × Byte)) : List Byte :=
  (addErrors (m.arrayLine a owner) (residual.filter fun e => e.1.val < 64)).take 64

/-- The words of a line of a data page that a wrong decoding delivers otherwise than they are stored, `first` being the index of
the line's first word (R321). -/
def Mem.wrongWords (m : Mem) (a : LineAddr) (owner : BitVec 16) (first : Nat) (residual : List (Fin 80 × Byte)) :
    List (Nat × BitVec 64) :=
  if residual.isEmpty then []
  else
    let got := m.merged a owner (m.dataWith a owner residual)
    let held := m.dataLine a owner
    (List.range 8).filterMap fun w => if lineWord got w == lineWord held w then none else some (first + w, lineWord got w)

/-- The errors that a read of a line and its verify read meet: those that the command reports, or none for a line that it does not
name; and, where the command reports none at all, free values (log entry 88). -/
def State.errsFor (s : State) (errs : Option (List LineErrs)) (a : LineAddr) : LineErrs × State :=
  match errs with
  | some es => ((es.find? fun e => e.addr == a).getD { addr := a, read := [], verify := [] }, s)
  | none =>
    ({ addr := a, read := Config.freeReadErrors s.freeCount, verify := Config.freeReadErrors (s.freeCount + 1) },
      { s with freeCount := s.freeCount + 2 })

/-- Whether the fitted DRAM holds a line (R292, Table 9.1). -/
def Mem.holds (m : Mem) (a : LineAddr) : Bool := decide (a.page < m.pageCount)

/-! ## The Bog list -/

/-- Bog-list entries that were created or changed since the last BOG frame (R428): the body is rebuilt from the list, so that each
line stands once, as it now is (Table 13.4). -/
def State.noteChanges (s : State) (es : List BogEntry) : State :=
  { s with tel := { s.tel with
      bogChanges := es.foldl (fun l e => l.filter (fun x => x.addr != e.addr) ++ [e]) s.tel.bogChanges } }

/-- An entry put into the history ring, newest first, which drops its oldest (R337). -/
def Mem.toHistory (m : Mem) (e : BogEntry) : Mem :=
  let slot := m.historyCount % Config.historyMax
  { m with history := ({ e with slot := slot } :: m.history).take Config.historyMax, historyCount := m.historyCount + 1 }.noteHistory slot

/-- The active entries that meet a test leave the list with a state (Table 10.4). -/
def State.leaveBog (s : State) (who : BogEntry → Bool) (st : BogState) : State :=
  let gone := (s.mem.bog.filter who).map fun e => { e with state := st, tick := BitVec.ofNat 32 s.clock.tick }
  let m := gone.foldl (fun m e => (m.noteBog e.slot).toHistory e) { s.mem with bog := s.mem.bog.filter fun e => !who e }
  State.noteChanges { s with mem := m } gone

/-- A WANTED frame falls due for a segment (R339); one that still waits is replaced, and counts as lost (R423). -/
def State.wantContent (s : State) (id : BitVec 16) : State :=
  if s.tel.wanted.contains id then s.bump 4 else { s with tel := { s.tel with wanted := s.tel.wanted ++ [id] } }

/-- The page indices that line `l` of a segment's list page `k` names: sixteen entries to a line, the last of a page being
the link to the next (R298). -/
def listEntries (k l : Nat) : List Nat :=
  (((List.range 16).map (16 * l + ·)).filter fun e => decide (e < 16383)).map (16383 * k + ·)

/-- An uncorrectable line of a segment (R336, R337): one active entry, when there is room and none yet, and the segment is
quarantined at once; a data line that finds no room is known to be unreadable, and so is wanted (R340, log 98). `o` is the
line within the segment, and `listed` gives the page indices that the line names, when it is a line of a list page. -/
def State.bogLine (s : State) (g : Segment) (a : LineAddr) (cause : BogCause) (o : Nat) (listed : Option (List Nat)) : State :=
  if (s.mem.bogEntry a).isSome then s
  else
    let room := decide (s.mem.bog.length < Config.bogMax)
    let e : BogEntry :=
      { addr := a, owner := g.id, cause := cause, state := .active, tick := BitVec.ofNat 32 s.clock.tick,
        first := if listed.isSome then 0xFFFFFFFF else BitVec.ofNat 32 (48 * o), born := s.clock.tick,
        slot := lowestFree 0 ((s.mem.bog.map BogEntry.slot).foldl (fun acc x => insertSorted x acc) []) }
    let lost := (listed.getD []).filter fun j => decide (j < g.pages.length)
    let lines := (g.len + 47) / 48
    let newly := lost.flatMap fun j => (List.range 1024).map (1024 * j + ·) |>.filter fun o => decide (o < lines)
    let g' : Segment :=
      { g with
        state := .quarantined, whole := g.whole || listed.isSome || !room, listLost := g.listLost || listed.isSome,
        lostPages := g.lostPages ++ lost.filter fun j => !g.lostPages.contains j
        lostLists := if listed.isSome && !g.lostLists.contains a then g.lostLists ++ [a] else g.lostLists
        wanted := g.wanted ++ (if room || listed.isSome then newly else [o]).filter fun o => !g.wanted.contains o }
    let m := s.mem.putSeg g'
    let s1 := { s with mem := if room then { m with bog := m.bog ++ [e] }.noteBog e.slot else m }
    let s2 := if room then s1.noteChanges [e] else s1
    s2.wantContent g.id

/-- A segment leaves quarantine when no wanted line is left (R341). -/
def State.settleQuarantine (s : State) (id : BitVec 16) : State :=
  match s.mem.seg id with
  | none => s
  | some g =>
    if g.state = .quarantined ∧ g.wanted = [] ∧ g.lostPages = [] ∧ g.lostLists = [] ∧ !(s.mem.bog.any fun e => e.owner == id) then
      let st := if g.rcvd < g.len ∨ g.sealHold then SegState.loading else .ready
      { s with
        mem := s.mem.putSeg { g with state := st, whole := false, listLost := false, readable := [] }
        tel := { s.tel with wanted := s.tel.wanted.filter (· != id) } }
    else s

/-! ## DRAM lost -/

/-- Whether a channel is fed from DRAM: a lane of a player that runs and whose reachable steps include PLAY (R327). -/
def State.fedFromDram (s : State) (n : Chan) : Bool :=
  (List.finRange 16).any fun p =>
    s.boundTo p n && s.txn.live.runs p &&
      (s.txn.live.reachable p).any fun i => ((s.txn.live.prog p).at? i).any fun st => st.op == .play

/-- DRAM service is gone with a fault cause (R327, Table 4.3, Table 16.1): fetch and capture stop, and the channels fed from
DRAM retreat. -/
def State.loseDram (s : State) (cause : Nat) : State :=
  let s1 := (s.beginFault cause).retreat s.fedFromDram
  { s1 with mem := { s1.mem with
      capture := mapAll (fun _ c => { c with active := false, post := [] }) s1.mem.capture, reads := Vector.replicate 2 []
      writes := Vector.replicate 2 [], waiting := [], mapDue := [] } }

/-! ## Attribution -/

/-- The bank of a line, and its key among the lines of the DRAM (R323). -/
def Mem.lineKey (m : Mem) (a : LineAddr) (owner : BitVec 16) : Nat × Nat :=
  let d := dramAddr m.density a owner
  (4 * d.bg + d.ba, 1024 * a.page + a.line.val)

/-- One corrected line charged to a DRAM device: each line counts once in a scrub pass (R323). -/
def chargeDevice (dev : DramDevice) (key : Nat × Nat) :
    List (DramDevice × List (Nat × Nat)) → List (DramDevice × List (Nat × Nat))
  | [] => [(dev, [key])]
  | (d, ks) :: rest =>
    if d = dev then (d, if ks.contains key then ks else key :: ks) :: rest else (d, ks) :: chargeDevice dev key rest

/-- Whether a DRAM device is attributed by its count (R324). -/
def Mem.attributed (m : Mem) (retire : Nat) (dev : DramDevice) : Bool :=
  m.charged.any fun e =>
    e.1 == dev && decide (retire ≤ e.2.length) && decide (4 ≤ ((e.2.map Prod.fst).dedup).length)

/-- The channels of one DRAM device as event 0x12 codes it (Table 13.8): [8] rank, [9] subchannel. -/
def dramObj (d : DramDevice) : BitVec 16 := BitVec.ofNat 16 (256 * d.rank.val + 512 * d.sub.val)

/-- The page indices that a line names when it is a line of a list page. -/
def Mem.listedBy (m : Mem) (a : LineAddr) : List Nat :=
  match m.pageKind a.page with
  | .list _ k => listEntries k a.line.val
  | _ => []

/-- A list-page line can be read again: it is lost no more, and neither are the pages that it names and that have not been taken
anew. -/
def Mem.listRead (m : Mem) (a : LineAddr) : Mem :=
  match m.pageKind a.page with
  | .list id _ =>
    (m.seg id).elim m fun g =>
      let back := (m.listedBy a).filter g.lostPages.contains
      m.putSeg { g with lostPages := g.lostPages.filter (fun j => !back.contains j), lostLists := g.lostLists.filter (· != a),
                        wanted := g.wanted.filter fun o => !back.contains (o / 1024) }
  | _ => m

/-- The first device of a subchannel is retired (R326), and the Bog-listed lines of its rank and subchannel whose entries were
created from tick `since` on are asked for again, through port P4 (R328). -/
def State.retire (s : State) (dev : DramDevice) (since : Nat) : State :=
  let s1 := { s with mem := { s.mem with retired := s.mem.retired.set dev.sub (some (dev.rank, dev.lane)) } }
  let s2 := s1.logEvent 0x12 (BitVec.ofNat 8 dev.lane.val) (dramObj dev)
  let owner (e : BogEntry) : BitVec 16 := (s.mem.pageKind e.addr.page).owner
  let here (e : BogEntry) : Bool :=
    subOf e.addr (owner e) == dev.sub && s.mem.rankOf e.addr == dev.rank && decide (since ≤ e.born)
  (s2.mem.bog.filter here).foldl (fun s e => s.askRead .p4 e.addr (owner e) .reread) s2

/-- A DRAM device is attributed (R326, R327): it is retired when its subchannel has none retired; a second one of the
subchannel loses the DRAM; the retired one changes nothing. -/
def State.attribute (s : State) (dev : DramDevice) (since : Nat) : State :=
  match s.mem.retired[dev.sub] with
  | none => s.retire dev since
  | some (rank, lane) => if rank = dev.rank ∧ lane = dev.lane then s else s.loseDram 14

/-- The corrected symbols of a read charged to their devices, and what they attribute (R323, R324). -/
def State.charge (s : State) (a : LineAddr) (owner : BitVec 16) (errs : List (Fin 80 × Byte)) : State :=
  let dev (e : Fin 80 × Byte) : DramDevice := { sub := subOf a owner, rank := s.mem.rankOf a, lane := laneOf e.1 }
  let devs := (errs.map dev).dedup
  let s1 := { s with mem := { s.mem with charged := devs.foldl (fun acc d => chargeDevice d (s.mem.lineKey a owner) acc) s.mem.charged } }
  devs.foldl (fun s d =>
    if s.mem.attributed s.txn.live.params.dev.devRetire.toNat d then s.attribute d (s.clock.tick - 64) else s) s1

/-- One more uncorrectable line of a rank and subchannel in this tick: each line counts once, and the second calls for a probe (R325,
R328). -/
def Mem.noteBad (m : Mem) (a : LineAddr) (owner : BitVec 16) (tick : Nat) : Mem :=
  let i : Fin 4 := ⟨2 * (m.rankOf a).val + (subOf a owner).val, by omega⟩
  if (m.badLines[i]).contains a then m
  else { m with
    badLines := m.badLines.set i (a :: m.badLines[i])
    badSince := if (m.badLines[i]).length = 1 then m.badSince.set i tick else m.badSince }

/-- What every read does besides its source's own action: corrected symbols are charged, and an uncorrectable line counts toward a
probe (R323, R325). -/
def State.chargeRead (s : State) (a : LineAddr) (owner : BitVec 16) (out : Decoded) : State :=
  match out with
  | .clean => s
  | .corrected errs => s.charge a owner errs
  | .uncorrectable => { s with mem := s.mem.noteBad a owner s.clock.tick }

/-! ## Writes, remap and repair -/

/-- Whether a remap entry of a subchannel is free (R334, R335). -/
def Mem.remapFree (m : Mem) (sub : Fin 2) : Bool := decide ((m.remap[sub]).length < Config.remapMax)

/-- A line moved to a remap spare (R334). -/
def Mem.toSpare (m : Mem) (a : LineAddr) (owner : BitVec 16) (data : List Byte) : Mem :=
  let sub := subOf a owner
  let others := (m.remap[sub]).filter fun r => r.addr != a
  { m with remap := m.remap.set sub (others ++ [{ addr := a, spare := vec64 data }]) }

/-- A persistent line (R329): its content goes to a spare, or the line stays in place with a notice (R334, R335). -/
def State.persistent (s : State) (a : LineAddr) (owner : BitVec 16) (data : List Byte) : State :=
  if s.mem.onSpare a owner then s
  else if s.mem.remapFree (subOf a owner) then { s with mem := s.mem.toSpare a owner data }
  else s.bump 16

/-- A merge buffer entry leaves the buffer. -/
def Mem.dropMerge (m : Mem) (sub : Fin 2) (a : LineAddr) : Mem :=
  { m with merge := m.merge.set sub ((m.merge[sub]).filter fun e => e.addr != a) }

/-- Line `o` of a segment is no longer wanted (R341). -/
def Mem.unwant (m : Mem) (id : BitVec 16) (o : Nat) : Mem :=
  match m.seg id with
  | some g => m.putSeg { g with wanted := g.wanted.filter (· != o) }
  | none => m

/-- The line within its segment of an address of a data page. -/
def Mem.lineOf (m : Mem) (a : LineAddr) : Nat :=
  match m.pageKind a.page with
  | .data _ j => 1024 * j + a.line.val
  | _ => 0

/-- A repair write in place whose verify read shows an error leaves the line listed, with CAUSE 0x04 (R340). -/
def State.repairFailed (s : State) (a : LineAddr) : State :=
  let mark (e : BogEntry) : BogEntry := { e with cause := .repair, tick := BitVec.ofNat 32 s.clock.tick }
  let changed := (s.mem.bog.filter fun e => e.addr == a).map mark
  State.noteChanges { s with
    mem := changed.foldl (fun m e => m.noteBog e.slot)
      { s.mem with bog := s.mem.bog.map fun e => if e.addr == a then mark e else e } } changed

/-- A repaired line is written (R334, R335, R340): one with an active entry, and any of a list page, to a remap spare or in place with
a verify read; another in place. Answers whether it stands repaired. -/
def State.putRepaired (s : State) (a : LineAddr) (owner : BitVec 16) (data : List Byte) (verify : Flips) : Bool × State :=
  let done (m : Mem) : Bool × State := (true, State.leaveBog { s with mem := m } (fun e => e.addr == a) .repaired)
  let guarded := (s.mem.bogEntry a).isSome || (match s.mem.pageKind a.page with
    | .list _ _ => true
    | _ => false)
  if !guarded || s.mem.onSpare a owner then done (s.mem.putLine .p4 a owner data)
  else if s.mem.remapFree (subOf a owner) then done (s.mem.toSpare a owner data)
  else
    let m := s.mem.putLine .p4 a owner data
    match (m.readResult a owner verify).outcome with
    | .clean => done m
    | out => (false, State.repairFailed (State.chargeRead { s with mem := m } a owner out) a)

/-- The state after a repaired line is written. -/
def State.writeRepaired (s : State) (a : LineAddr) (owner : BitVec 16) (data : List Byte) (verify : Flips) : State :=
  (s.putRepaired a owner data verify).2

/-- The uncorrectable lines of a segment's list pages, listed or not, whose page indices are none of them lost are rewritten, to a
remap spare or in place with a verify (R340). -/
def State.rewriteLists (s : State) (id : BitVec 16) (errs : Option (List LineErrs)) : State :=
  match s.mem.seg id with
  | none => s
  | some g =>
    let ready (a : LineAddr) : Bool := (s.mem.listedBy a).all fun j => !g.lostPages.contains j
    (g.lostLists.filter ready).foldl (fun s a =>
      let (le, s1) := s.errsFor errs a
      let (whole, s2) := s1.putRepaired a 0 (s1.mem.arrayLine a 0) le.verify
      if whole then { s2 with mem := s2.mem.listRead a } else s2) s

/-- An uncorrectable line of a segment's data or list page goes on the Bog list (R336); other pages own none. A list line that
names no page in use has none to take anew, and is rewritten at once (R340, log entry 98). -/
def State.badLine (s : State) (a : LineAddr) (cause : BogCause) (errs : Option (List LineErrs)) : State :=
  match s.mem.pageKind a.page with
  | .data id j => (s.mem.seg id).elim s fun g => s.bogLine g a cause (1024 * j + a.line.val) none
  | .list id k =>
    (s.mem.seg id).elim s fun g =>
      ((s.bogLine g a cause 0 (some (listEntries k a.line.val))).rewriteLists id errs).settleQuarantine id
  | .reserved | .probe | .free | .ring _ => s

/-- The peaks widen to the 48 samples of a repaired line (R340). -/
def State.widenPeaks (s : State) (id : BitVec 16) (data : List Byte) : State :=
  match s.mem.seg id with
  | some g =>
    let (hi, lo) := (List.range 48).foldl (fun (acc : Code × Code) k =>
      let x : Code := wordSample (lineWord data (k / 6)) k
      (if acc.1.toNat < x.toNat then x else acc.1, if x.toNat < acc.2.toNat then x else acc.2)) (g.peakHi, g.peakLo)
    { s with mem := s.mem.putSeg { g with peakHi := hi, peakLo := lo } }
  | none => s

/-- A repair line of which all samples are held is written, and its segment may leave quarantine (R340, R341). An entry that the
line had at an address which its page number has lost leaves the list with it. -/
def State.flushRepair (s : State) (sub : Fin 2) (e : Merge) (verify : Flips) : State :=
  let s1 := { s with mem := s.mem.dropMerge sub e.addr }
  let s2 := s1.writeRepaired e.addr e.owner e.data.toList verify
  let o := s2.mem.lineOf e.addr
  let s3 :=
    if (s2.mem.bogEntry e.addr).isSome then s2
    else
      let moved := s2.leaveBog (fun b => b.owner == e.owner && b.first == BitVec.ofNat 32 (48 * o) && b.first != 0xFFFFFFFF) .repaired
      State.widenPeaks { moved with mem := moved.mem.unwant e.owner o } e.owner e.data.toList
  s3.settleQuarantine e.owner

/-! ## The merge buffer -/

/-- The bytes of a line that a segment has received, for a line that is still loading (R332): all beyond RCVD. -/
def Mem.beyondReceived (m : Mem) (e : Merge) : Bool :=
  match m.seg e.owner with
  | some g =>
    g.state == .loading &&
      (match m.pageKind e.addr.page with
       | .data _ j => decide (g.rcvd ≤ 48 * (1024 * j + e.addr.line.val))
       | _ => false)
  | none => false

/-- What a merge buffer entry writes over the data beneath it; one of the maps writes what the maps hold. -/
def Mem.flushData (m : Mem) (e : Merge) (under : List Byte) : List Byte :=
  if e.map then m.arrayLine e.addr e.owner else mergeBytes e under

/-- A merge buffer entry other than a repair flushes (R332). A full mask is one full-line write; a partial one reads the line,
merges and writes. An uncorrectable read zero-fills what it cannot recover and lists the line; of the reserved region, it
loses the DRAM (R327). -/
def State.flushEntry (s : State) (sub : Fin 2) (e : Merge) (errs : Option (List LineErrs)) : State :=
  let m := s.mem.dropMerge sub e.addr
  if e.mask = BitVec.allOnes 64 then
    { s with mem := m.putLine .p2 e.addr e.owner (m.flushData e e.data.toList) }
  else
    let (le, s0) := s.errsFor errs e.addr
    let r := s0.mem.readResult e.addr e.owner le.read
    let wrote (under : List Byte) : State :=
      State.chargeRead { s0 with mem := m.putLine .p2 e.addr e.owner (m.flushData e under) } e.addr e.owner r.outcome
    match r.outcome with
    | .uncorrectable =>
      if m.pageKind e.addr.page = .reserved then { s0 with mem := m }.loseDram 14
      else if s.mem.beyondReceived e then wrote []
      else (wrote []).badLine e.addr .merge errs
    | .clean | .corrected _ => wrote (s0.mem.dataWith e.addr e.owner r.residual)

/-- One entry flushes (R332); a repair entry that is not whole is discarded, and its line stays wanted (R340, log entry 88). -/
def State.flush (s : State) (sub : Fin 2) (e : Merge) (errs : Option (List LineErrs)) : State :=
  if !e.repair then s.flushEntry sub e errs
  else if e.mask = BitVec.allOnes 64 then
    let (le, s1) := s.errsFor errs e.addr
    s1.flushRepair sub e le.verify
  else { s with mem := s.mem.dropMerge sub e.addr }

/-- Whether port P2 finds an entry of both read queues now: its reads are not back-pressured (R306, R307, R311). -/
def State.p2Open (s : State) : Bool := (List.finRange 2).all (s.portOpen .p2)

/-- Whether a write to a subchannel's merge buffer finds room: an entry is free, or the oldest one flushes without a read that would
have to wait (R307, R332). -/
def State.mergeRoom (s : State) (sub : Fin 2) : Bool :=
  decide ((s.mem.merge[sub]).length < Config.mergeMax) || s.portOpen .p2 sub ||
    (s.mem.merge[sub]).head?.any fun e => e.repair || e.mask == BitVec.allOnes 64

/-- A write enters the merge buffer (R332), over what an entry for its line holds; when every entry is in use the oldest flushes
first. -/
def State.throughMerge (s : State) (new : Merge) (errs : Option (List LineErrs)) : State :=
  let sub := subOf new.addr new.owner
  let joined (e : Merge) : Merge :=
    { e with data := vec64 (mergeBytes new e.data.toList), mask := new.mask ||| e.mask }
  if (s.mem.merge[sub]).any fun e => e.addr == new.addr then
    let entries := (s.mem.merge[sub]).map fun e => if e.addr == new.addr then joined e else e
    { s with mem := { s.mem with merge := s.mem.merge.set sub entries } }
  else
    let s1 := match s.mem.merge[sub] with
      | oldest :: _ => if Config.mergeMax ≤ (s.mem.merge[sub]).length then s.flush sub oldest errs else s
      | [] => s
    { s1 with mem := { s1.mem with merge := s1.mem.merge.set sub (s1.mem.merge[sub] ++ [new]) } }

/-- The narrow writes of the maps enter the merge buffer, while it has room for them (R307, R332); the others wait. -/
def State.enterMaps (s : State) (errs : Option (List LineErrs)) : State :=
  s.mem.mapDue.foldl (fun s w =>
    if s.mergeRoom (subOf w.addr 0) then
      s.throughMerge
        { addr := w.addr, owner := 0, data := Vector.replicate 64 0, mask := w.mask, since := s.clock.clk, repair := false, map := true }
        errs
    else { s with mem := { s.mem with mapDue := s.mem.mapDue ++ [w] } }) { s with mem := { s.mem with mapDue := [] } }

/-- At the start of a frame the maps' narrow writes enter the merge buffer, unless Squall or self-refresh keeps port P2 waiting;
the latter ends for them (R311, R317). -/
def State.offerMaps (s : State) : State :=
  if s.mem.mapDue.isEmpty || !s.mem.fitted || s.dramDown then s
  else if !s.mem.awake then { s with mem := s.mem.request }
  else if s.mem.squall then s
  else s.enterMaps none

/-- The read of a partial merge buffer entry that port P2 has asked for: it waits, or it is in flight (R305, R307). -/
def Mem.mergeRead (m : Mem) (e : Merge) : Bool :=
  m.readsOf (subOf e.addr e.owner) fun r => r.read == some .merge && r.addr == e.addr && r.owner == e.owner

/-- The read of a partial merge buffer entry is asked of port P2, unless it is asked already (R307, R332). -/
def State.askMerge (s : State) (e : Merge) : State :=
  if s.mem.mergeRead e then s else s.askRead .p2 e.addr e.owner .merge

/-- A commit fence or the DRAIN stage flushes every entry (R332). The read of a partial entry that finds no entry of its queue, as
under Squall, is asked for and waits (R307, R311; log entry 131). -/
def State.fence (s : State) (errs : Option (List LineErrs)) : State :=
  let s1 := s.enterMaps errs
  (List.finRange 2).foldl (fun s sub =>
    (s.mem.merge[sub]).foldl (fun s e =>
      if e.repair || e.mask == BitVec.allOnes 64 || (s.portOpen .p2 sub && !s.mem.mergeRead e) then s.flush sub e errs
      else s.askMerge e) s) s1

/-- Whether the reads that a commit fence asked for have come (R143, R332). -/
def State.fenceOver (s : State) : Bool :=
  (List.finRange 2).all fun sub => !s.mem.readsOf sub fun r => r.read == some .merge && decide (r.asked ≤ s.txn.closedAt)

/-! ## Pages -/

/-- Pages freed (R299): their remap entries are released and their Bog entries leave the active list (R334, Table 10.4). -/
def State.freePages (s : State) (ps : List Nat) : State :=
  let s1 := s.leaveBog (fun e => ps.contains e.addr.page) .released
  { s1 with mem := s1.mem.releasePages ps }

/-- A segment becomes FREE and its pages are freed (Table 9.5). -/
def State.freeSegment (s : State) (id : BitVec 16) : State :=
  match s.mem.seg id with
  | none => s
  | some g =>
    let s1 := s.freePages (g.pages ++ g.lists)
    { s1 with
      mem := { s1.mem with segs := s1.mem.segs.filter fun x => x.id != id }.noteSeg id
      tel := { s1.tel with wanted := s1.tel.wanted.filter (· != id) } }

/-! ## Self-refresh -/

/-- Whether self-refresh is allowed in the live configuration. -/
def State.srAllowed (s : State) : Bool := s.mem.selfRefreshAllowed s.txn.live.mode

end Sys2Proof.Machine
end

