-- ==== Sys2Proof/Machine/PortOps.lean ====
section
/-! DEFINITION. The content port's shared operations: the record stream in the content buffer (R415 to R417, R432), PAUSE
(R419), and the loss of the link (R409, R417, R62). -/

namespace Sys2Proof.Machine

/-- Bytes of a record from its header: 16 + BLEN, and 32 more when it is tagged (R432). None for less than a header. -/
def recordLength (bs : List Byte) : Option Nat :=
  if bs.length < 12 then none
  else some (16 + fieldAt bs 4 4 + (if (bs.getD 1 0).getLsbD 0 then 32 else 0))

/-- The length of the whole records with which a byte string begins; `fuel` bounds their number. -/
def wholeRecords : Nat → List Byte → Nat
  | 0, _ => 0
  | fuel + 1, bs =>
    match recordLength bs with
    | none => 0
    | some n => if n ≤ bs.length then n + wholeRecords fuel (bs.drop n) else 0

/-- The bytes of the content buffer that make up whole records. -/
def Port.whole (p : Port) : Nat := wholeRecords (p.stream.length / 16 + 1) p.stream

/-- Whether a partial record is in progress. -/
def Port.partialRecord (p : Port) : Bool := decide (p.whole < p.stream.length)

/-! The frames in which the bytes of the stream were accepted (R142). -/

/-- What is left of the marks when the first `n` bytes leave the stream. -/
def dropArrived : Nat → List Arrival → List Arrival
  | _, [] => []
  | n, a :: rest => if n < a.n then { a with n := a.n - n } :: rest else dropArrived (n - a.n) rest

/-- The marks of the first `n` bytes. -/
def takeArrived : Nat → List Arrival → List Arrival
  | _, [] => []
  | n, a :: rest => if n = 0 then [] else if n ≤ a.n then [{ a with n := n }] else a :: takeArrived (n - a.n) rest

/-- The frame, by `clk`, in which the last of the first `n` bytes was accepted. -/
def arrivedAt : Nat → List Arrival → Nat
  | _, [] => 0
  | n, a :: rest => if n ≤ a.n then a.clk else arrivedAt (n - a.n) rest

/-- `n` bytes from offset `off` leave the stream. -/
def Port.cut (p : Port) (off n : Nat) : Port :=
  { p with stream := p.stream.take off ++ p.stream.drop (off + n), arrived := takeArrived off p.arrived ++ dropArrived (off + n) p.arrived }

/-- Whether the transmitter may send a frame: the link is up, and neither Local nor Remote Fault is received (R410). -/
def Port.sends (p : Port) : Bool := p.linkUp && !p.rxFault

/-- What the port sends on CP_TX between frames (R410). -/
inductive PortSignal where
  /-- electrical idle (Table 3.7) -/
  | electricalIdle
  /-- the Remote Fault ordered set -/
  | remoteFault
  /-- idle, with no frame among it -/
  | idleOnly
  /-- idle between frames -/
  | idleBetweenFrames
  deriving DecidableEq, Repr

/-- What CP_TX carries (R410): the Remote Fault ordered set while block lock is absent, no frames while Local or Remote Fault is
received, and idle between frames at all other times. DEDUCED: block lock counts as absent while the link is down (log entry 136). -/
def State.portSignal (s : State) : PortSignal :=
  if s.cpTxIdle then .electricalIdle
  else if !s.port.linkUp then .remoteFault
  else if s.port.rxFault then .idleOnly
  else .idleBetweenFrames

/-- A PAUSE frame with a pause_time (R419, R420); counter 3 counts it. -/
def State.sendPause (s : State) (time : BitVec 16) : State :=
  if s.port.sends then
    let s1 := s.bump 3
    { s1 with port := { s1.port with outPause := some time } }
  else s

/-- The PAUSE state after the fill has changed (R419). -/
def State.settlePause (s : State) : State :=
  let fill := s.port.stream.length
  if !s.port.pausing && decide (Config.pauseAbove < fill) then
    State.sendPause { s with port := { s.port with pausing := true } } 0xFFFF
  else if s.port.pausing && decide (fill ≤ Config.pauseBelow) then
    State.sendPause { s with port := { s.port with pausing := false } } 0
  else s

/-- A partial record is discarded, logged with its SUB and counted (R416, R417, Table 13.8). -/
def State.discardPartial (s : State) (sub : Byte) : State :=
  if s.port.partialRecord then
    let s1 := (s.logEvent 0x11 sub 0).bump 2
    { s1 with port := s1.port.cut s1.port.whole s1.port.stream.length }
  else s

/-- The parser waits for a frame with SOR set (R416, R417, R436). -/
def State.awaitSor (s : State) : State := { s with port := { s.port with expect := none, lastByte := s.clock.clk } }

/-- A partial record is discarded, and the parser then waits for SOR, whether or not one was in progress (R417, log entry 20). -/
def State.dropPartial (s : State) (sub : Byte) : State := ((s.discardPartial sub).awaitSor).settlePause

/-- The link goes down (R409, R417): the loss is counted, and a partial record is discarded. No fault is received over it (R410). -/
def State.linkLost (s : State) : State :=
  let s0 := { s with port := { s.port with rxFault := false } }
  if s.port.linkUp then
    let s1 := s0.bump 5
    State.dropPartial { s1 with port := { s1.port with linkUp := false } } 2
  else s0

/-- Whether the content port runs (R407): strapped on, with its supply good and its loss not present. -/
def State.portRuns (s : State) : Bool := s.power.portOn && s.power.isGood .cport && !s.power.fault 11 && s.coreRuns

end Sys2Proof.Machine
end

