-- ==== Sys2Proof/Machine/Sha.lean ====
section
/-! DEFINITION. SHA-256 of FIPS 180-4 and HMAC of FIPS 198-1, which seal images and records (R459, R460, R464). FIPS 180-4 gives
the constants as the first 32 bits of the fractional parts of roots of primes; here they are computed as such. -/

namespace Sys2Proof.Machine

/-! ## Constants -/

/-- The first 64 primes: those below 312. -/
def smallPrimes : List Nat :=
  ((List.range 312).drop 2).filter fun p => ((List.range 18).drop 2).all fun d => p % d != 0 || p == d

/-- The greatest number made of bits `i` and below, with `r`, whose `k`-th power does not exceed `n`. -/
def rootFrom (k n : Nat) : Nat → Nat → Nat
  | 0, r => if (r + 1) ^ k ≤ n then r + 1 else r
  | i + 1, r => rootFrom k n i (if (r + 2 ^ (i + 1)) ^ k ≤ n then r + 2 ^ (i + 1) else r)

/-- The first 32 bits of the fractional part of the `k`-th root of `p`. -/
def rootFraction (k p : Nat) : BitVec 32 := BitVec.ofNat 32 (rootFrom k (p * 2 ^ (32 * k)) 36 0)

/-- The constants of the 64 rounds: cube roots. -/
def roundKeys : List (BitVec 32) := smallPrimes.map (rootFraction 3)

/-! ## The compression function -/

/-- The chaining value as the eight words H0 to H7, or the working variables a to h: the four of each half, in order. A round shifts
either half by one place, so what it makes is one new word for each. -/
structure Halves where
  upper : List (BitVec 32)
  lower : List (BitVec 32)
  deriving DecidableEq, Repr

/-- The initial chaining value: square roots of the first eight primes. -/
def Halves.initial : Halves :=
  { upper := (smallPrimes.take 4).map (rootFraction 2), lower := ((smallPrimes.drop 4).take 4).map (rootFraction 2) }

/-- The exclusive or of a word rotated right by each of some distances. -/
def spin (distances : List Nat) (x : BitVec 32) : BitVec 32 :=
  (distances.map x.rotateRight).foldl (· ^^^ ·) 0

/-- Where the bits of `p` are 1 those of `x`, elsewhere those of `y`. -/
def choose (p x y : BitVec 32) : BitVec 32 := y ^^^ (p &&& (x ^^^ y))

/-- A round with its key and its message word. -/
def Halves.round (s : Halves) (key word : BitVec 32) : Halves :=
  let up (k : Nat) := s.upper.getD k 0
  let low (k : Nat) := s.lower.getD k 0
  let t := key + word + low 3 + spin [6, 11, 25] (low 0) + choose (low 0) (low 1) (low 2)
  -- the majority of three words chooses by where the first two agree
  let major := choose (up 0 ^^^ up 1) (up 2) (up 0)
  { upper := (t + spin [2, 13, 22] (up 0) + major) :: s.upper.take 3, lower := (up 3 + t) :: s.lower.take 3 }

/-- Sixteen words of the message schedule, oldest first, moved on by one word. -/
def slideWords (ws : List (BitVec 32)) : List (BitVec 32) :=
  let at_ (k : Nat) := ws.getD k 0
  ws.drop 1 ++ [at_ 0 + at_ 9 + (spin [7, 18] (at_ 1) ^^^ (at_ 1 >>> 3)) + (spin [17, 19] (at_ 14) ^^^ (at_ 14 >>> 10))]

/-- A block of sixteen words enters the chaining value. -/
def Halves.absorb (h : Halves) (block : List (BitVec 32)) : Halves :=
  let (_, s) := roundKeys.foldl (fun (acc : List (BitVec 32) × Halves) key =>
    (slideWords acc.1, acc.2.round key (acc.1.headD 0))) (block, h)
  { upper := List.zipWith (· + ·) h.upper s.upper, lower := List.zipWith (· + ·) h.lower s.lower }

/-! ## Messages -/

/-- The message with its padding: a one bit, zeros, and its length in bits, to whole blocks. -/
def padMessage (msg : List Byte) : List Byte :=
  let tail := 0x80 :: List.replicate ((119 - msg.length % 64) % 64) 0
  msg ++ tail ++ (leBytes 8 (8 * msg.length)).reverse

/-- The big-endian word `k` of a byte string. -/
def beWordAt (bs : List Byte) (k : Nat) : BitVec 32 := BitVec.ofNat 32 (beNat (slice bs (4 * k) 4))

/-- SHA-256. -/
def sha256 (msg : List Byte) : List Byte :=
  let padded := padMessage msg
  let h := (List.range (padded.length / 64)).foldl (fun (h : Halves) b =>
    h.absorb ((List.range 16).map fun k => beWordAt padded (16 * b + k))) Halves.initial
  (h.upper ++ h.lower).flatMap fun w => (leBytes 4 w.toNat).reverse

/-- HMAC-SHA-256 under a key of at most 64 bytes; the key of R459 has 32. -/
def hmac (key msg : List Byte) : List Byte :=
  let mask (pad : Byte) : List Byte := (List.range 64).map fun i => key.getD i 0 ^^^ pad
  sha256 (mask 0x5c ++ sha256 (mask 0x36 ++ msg))

/-- The 12 ASCII bytes "PLO-6410 KCV" (R464). -/
def kcvText : List Byte := [0x50, 0x4C, 0x4F, 0x2D, 0x36, 0x34, 0x31, 0x30, 0x20, 0x4B, 0x43, 0x56]

/-- The key check value of a key (R464). -/
def kcvOf (key : List Byte) : List Byte := (hmac key kcvText).take 8

end Sys2Proof.Machine
end

