-- ==== Sys2Proof/Machine/BringUp.lean ====
section
/-! DEFINITION. Bring-up (Tables 4.1 to 4.3): power-on reset, the supplies, RST_N, the stages from STRAP to DRAM, and the
bounds of the waits. -/

namespace Sys2Proof.Machine

/-! ## Dips and pulses -/

/-- Whether a supply monitor acts on a dip (R500). -/
def State.dipActs (s : State) (ns : Nat) : Bool × State :=
  if ns < 500 then (false, s) else if 1000 ≤ ns then (true, s) else s.freeChoice

/-- Whether the RST_N filter accepts a low pulse (R89). -/
def State.resetActs (s : State) (ns : Nat) : Bool × State :=
  if ns < 100 then (false, s) else if 300 ≤ ns then (true, s) else s.freeChoice

/-- One supply's state set. -/
def Power.setGood (p : Power) (d : Domain) (good : Bool) : Power := { p with good := p.good.set (domainIndex d) good }

/-- One supply's state set. -/
def State.setGood (s : State) (d : Domain) (good : Bool) : State := { s with power := s.power.setGood d good }

/-! ## Power-on reset and the AON domain -/

/-- POWER_ON_RESET (R104): every domain except LINK leaves reset, and the straps are sensed. -/
def execPowerOnReset (s : State) : Host.Outcome State Fault Refusal :=
  if s.power.stage = .reset then .next (((s.powerReset.setGood .aon true).setGood .vddio true).enterStage .strap)
  else .next s

/-- AON or VDDIO falls (R105): every output is released and the device waits for power-on reset; bit 5 is present until
then (Table 16.1). -/
def State.loseAon (s : State) (d : Domain) : State :=
  let s1 := (s.setGood d false).powerReset
  { s1 with power := { s1.power with faults := 1#64 <<< 5 } }

/-- AON_BROWN_OUT (R105, R500). -/
def execAonBrownOut (which : AonSupply) (dipNs : Nat) (s : State) : Host.Outcome State Fault Refusal :=
  let (acts, s1) := s.dipActs dipNs
  if acts then
    .next (s1.loseAon (match which with
      | .vddAon => .aon
      | .vddIo => .vddio))
  else .next s1

/-! ## Self-tests and the MON supply -/

/-- The expected code of a self-test level at PG = 1 (R260): 0.125 V, 0.625 V and 1.125 V. -/
def testLevel (level : Nat) : Nat :=
  match level with
  | 0 => 102 | 1 => 512 | _ => 921

/-- Whether a bank passes its self-test (R260): no code departs from its expected value by more than 4. -/
def testPasses (t : SelfTest) : Bool :=
  (List.finRange 48).all fun i => decide (offNominal (BitVec.ofNat 10 (testLevel (i.val % 3))) t[i] ≤ 4)

/-- The guards of a bank resume with a count of 0 (R488). -/
def Input.resumeGuard (x : Input) : Input :=
  { x with outCount := 0, inCount := 0, outside := false, tripDue := false, rawWindow := [], fast := [], guardHist := [] }

/-- The inputs of some banks changed. -/
def State.onBankInputs (s : State) (who : Bank → Bool) (f : Input → Input) : State :=
  { s with sense := { s.sense with input := mapAll (fun i x => if who (bankOf i) then f x else x) s.sense.input } }

/-- The sense path while its front ends have no supply or no references (R488, Table 2.1): its guards are suspended and resume with a
count of 0, and no bank is under trim. -/
def State.suspendSense (s : State) : State :=
  State.onBankInputs { s with sense := { s.sense with trimming := Vector.replicate 4 false } } (fun _ => true) Input.resumeGuard

/-- Whether the live link map links a channel to an input of a bank. -/
def State.bankLinked (s : State) (b : Bank) (n : Chan) : Bool := (s.linkOf n).any fun i => bankOf i == b

/-- A bank's self-test ends (R260, R488): its cause, bits 22 to 25, begins or clears. On a failure the drive channels that are
linked to the bank retreat (R18, Table 1.2; log entry 111). -/
def State.bankTested (s : State) (b : Bank) (t : SelfTest) : State :=
  let pass := testPasses t
  let s0 := { s with sense := { s.sense with failed := s.sense.failed.set b (!pass) } }
  let s1 := if s.sense.failed[b] || !pass then s0.onBankInputs (· == b) Input.resumeGuard else s0
  if pass then s1.clearFault (22 + b.val) else (s1.retreat (s.bankLinked b)).beginFault (22 + b.val)

/-- Bit 6 clears when the MON supply is good and the banks have passed (Table 16.1). -/
def State.settleMon (s : State) : State :=
  if s.power.isGood .mon && !s.sense.failed.toList.any id then s.clearFault 6 else s

/-- All four banks tested. -/
def State.testBanks (s : State) (tests : Vector SelfTest 4) : State :=
  ((List.finRange 4).foldl (fun s b => s.bankTested b tests[b]) s).settleMon

/-! ## The return to the power-up state -/

/-- A cause of a device-wide release has cleared (R156): with none left, the device is in the power-up state, which is last-good
too. The catalogue defaults become live at the next tick boundary (R46). -/
def State.settleRelease (s : State) : State :=
  if s.isUp && s.power.locked && s.power.faults &&& releaseCauses == 0 then
    let s1 := s.releaseAll
    { s1 with
      power := { s1.power with powerUp := true }
      txn := { s1.txn with lastGood := none, probation := none, rollbackPending := false, defaultsDue := true } }
  else s

/-- The thermal rules judge the junction from the frame after the reading that formed it (R523): at 125 °C every output is released,
and the cause clears below 120 °C (R16, Table 1.1). -/
def State.settleThermal (s : State) : State :=
  let t := s.power.junction
  if s.power.junctionActs = t then s
  else
    let s1 := { s with power := { s.power with junctionActs := t } }
    if 500 ≤ t then (s1.beginFault 15).releaseAll
    else if t < 480 ∧ s.power.fault 15 then (s1.clearFault 15).settleRelease
    else s1

/-! ## Supplies -/

/-- The loss of the reference after bring-up, or its return to CLOCK before (R57, R116, R383). -/
def State.loseReference (s : State) : State :=
  if s.power.stage.afterClock then s.returnToClock
  else
    let s1 := { s with power := { s.power with refValid := false } }
    if s.isUp || s.power.clocked then (s1.beginFault 0).releaseAll else s1

/-- REF, PLL or CORE falls below its threshold (Table 4.3): with bit 2, 3 or 4. Every output is released, and without REF the sense
path is suspended (R45, Table 2.1). -/
def State.loseCoreSupply (s : State) (d : Domain) (bit : Nat) : State :=
  let s1 := s.setGood d false
  if s.power.stage.runs && s.power.stage != .strap then (s1.beginFault bit).restartAtSupply
  else if s.power.stage = .reset ∨ s.power.stage = .rstLow then s1
  else
    let s2 := (s1.beginFault bit).releaseAll
    if d = .ref then s2.suspendSense else s2

/-- MON falls (Table 4.3, R488): bring-up returns to SUPPLY; after bring-up all 64 channels retreat. -/
def State.loseMon (s : State) : State :=
  let s1 := s.setGood .mon false
  if s.power.stage.runs && s.power.stage != .strap then (s1.beginFault 6).restartAtSupply
  else if s.isUp then
    (((s1.beginFault 6).retreatAll).suspendSense).loseSight
  else if s.power.stage = .reset ∨ s.power.stage = .rstLow then s1
  else s1.beginFault 6

/-- DPHY falls (Table 4.3): bring-up fails with 0xA3 once the SUPPLY stage has found it; after bring-up DRAM is lost. -/
def State.loseDphy (s : State) : State :=
  let s1 := s.setGood .dphy false
  if !s.mem.fitted then s1
  else if s.isUp then s1.loseDram 13
  else if s.power.stage = .clock || s.power.stage.afterClock then s1.failBringUp 0xA3
  else s1

/-- CPORT falls with the port strapped on (R62, Table 4.3). -/
def State.loseCport (s : State) : State :=
  let s0 := s.setGood .cport false
  let s1 := { s0 with port := { s0.port with rxFault := false } }
  if !s.power.portOn || s.power.stage == .reset || s.power.stage == .rstLow || s.power.stage == .strap then s1
  else
    let s2 := s1.linkLost.beginFault 11
    if !s.power.bootsFromFlash && (s.power.stage == .clock || s.power.stage.afterClock) then s2.failBringUp 0x86 else s2

/-- What the LINK domain holds is lost with its supply: the ports' alignment, the delay samples and the Causeway's count. -/
def Chain.dropLink (c : Chain) : Chain :=
  { c with
    connected := Vector.replicate 3 false, delays := [], measureSeq := 0, measureOut := false, measureAt := none,
    echoMisses := 0, returns := Vector.replicate 2 none, line := Vector.replicate 3 [], wayBase := none, wayDepth := 0 }

/-- LINK falls (R486, Table 4.3). -/
def State.loseLink (s : State) : State :=
  let s1 := s.setGood .link false
  let s2 := { s1 with chain := s1.chain.dropLink }
  if s.power.role == .standalone || s.power.stage == .reset || s.power.stage == .rstLow || s.power.stage == .strap then s2
  else
    let s3 := s2.beginFault 12
    if s.power.refIsPortA then s3.loseReference else s3

/-- A DAC supply falls (Table 4.3, R60): a fitted bank is released, with its cause, and owes a calibration. -/
def State.loseDac (s : State) (d : Domain) (b : Bank) : State :=
  let s1 := s.setGood d false
  if !s.power.fitted[b] then s1
  else
    let s2 := (s1.beginFault (7 + b.val)).release fun n => bankOf n == b
    let pass := s2.cal.pass.filter fun p => !(p.kind == .bankReturn && p.nextBank == b.val)
    { s2 with cal := { s2.cal with owed := s2.cal.owed.set b true, pass := pass.map fun p => p.miss b } }

/-- SUPPLY_BROWN_OUT (R134, R500, Table 4.3). A supply that is already low falls no further. -/
def execSupplyBrownOut (d : Domain) (dipNs : Nat) (s : State) : Host.Outcome State Fault Refusal :=
  let (acts, s1) := s.dipActs dipNs
  if !acts || !s.power.isGood d then .next s1
  else
    match d with
    | .aon | .vddio => .next (s1.loseAon d)
    | .ref => .next (s1.loseCoreSupply .ref 2)
    | .pll => .next (s1.loseCoreSupply .pll 3)
    | .core => .next (s1.loseCoreSupply .core 4)
    | .mon => .next s1.loseMon
    | .dphy => .next s1.loseDphy
    | .cport => .next s1.loseCport
    | .link => .next s1.loseLink
    | .daca => .next (s1.loseDac .daca 0)
    | .dacb => .next (s1.loseDac .dacb 1)
    | .dacc => .next (s1.loseDac .dacc 2)
    | .dacd => .next (s1.loseDac .dacd 3)

/-- A good REF, PLL or CORE supply clears its cause, and after bring-up restarts it at SUPPLY (Table 4.3, Table 16.1). -/
def State.returnCoreSupply (s : State) (bit : Nat) : State :=
  if s.power.fault bit then
    let s1 := s.clearFault bit
    if s.isUp then s1.restartAtSupply else s1
  else s

/-- SUPPLY_GOOD (R134, Table 4.3, Table 16.1). -/
def execSupplyGood (d : Domain) (tests : Vector SelfTest 4) (s : State) : Host.Outcome State Fault Refusal :=
  let s1 := s.setGood d true
  match d with
  | .ref => .next (s1.returnCoreSupply 2)
  | .pll => .next (s1.returnCoreSupply 3)
  | .core => .next (s1.returnCoreSupply 4)
  | .mon => .next (if s.isUp && s.power.fault 6 && !s.power.isGood .mon then s1.testBanks tests else s1)
  | .link => .next (s1.clearFault 12)
  | .cport => .next (if s.power.isGood .cport then s else { s1 with port := { s1.port with goodAt := s.clock.clk } })
  | .aon | .vddio | .dphy | .daca | .dacb | .dacc | .dacd => .next s1

/-! ## RST_N -/

/-- RST_N_LOW (R89, R90, R175): every domain except LINK is reset, every output is released, and RTR_N is let go. -/
def execRstNLow (widthNs : Nat) (s : State) : Host.Outcome State Fault Refusal :=
  let (acts, s1) := s.resetActs widthNs
  if acts && s.power.stage != .reset then
    let s2 := s1.coreReset.enterStage .rstLow
    .next { s2 with
      power := { s2.power with drifted := Vector.replicate 8 false }
      tap := s2.tap.settle true, pins := { s2.pins with rtrDrive := false } }
  else .next s1

/-- RST_N_RISE (R133): bring-up begins at SUPPLY with the straps latched, and fails at once on a latched drift fault. Only a
power-on reset senses the straps (R96, R98): codes that it did not latch, because they stood too near a threshold or because
RST_N fell in STRAP before they were latched, fail with 0x88 (DESIGN CHOICE, log entry 47). -/
def execRstNRise (s : State) : Host.Outcome State Fault Refusal :=
  if s.power.stage = .rstLow then
    let s := { s with tap := s.tap.settle false }
    if !s.power.strapsLatched then .next (s.failBringUp 0x88)
    else if s.power.driftLatched then .next (s.failBringUp 0x8A)
    else if !s.power.strapsValid then .next (s.failBringUp 0x89)
    else .next (s.enterStage .supply)
  else .next s

/-! ## STRAP -/

/-- The thresholds of Table 3.9, in 10^-5 of the strap reference. -/
def strapThresholds : List Nat :=
  [4545, 12244, 18452, 24834, 31528, 38294, 45244, 52372, 59386, 66075, 72644, 78940, 84693, 89918, 96183]

/-- The code of a strap whose `n` conversions sum to `sum`, in 10^-7 (R95). -/
def strapCode (n sum : Nat) : BitVec 4 :=
  BitVec.ofNat 4 (strapThresholds.filter fun t => decide (t * 100 * n ≤ sum)).length

/-- Whether a mean lies at 0.010 or less from a threshold (R96). -/
def strapNear (n sum : Nat) : Bool :=
  strapThresholds.any fun t => decide (Int.natAbs ((sum : Int) - (t * 100 * n : Nat)) ≤ 100000 * n)

/-- STRAP_STAGE_END (R96, R99, R100): the straps are latched. -/
def execStrapStageEnd (sums : Vector Nat 8) (s : State) : Host.Outcome State Fault Refusal :=
  if s.power.stage = .strap then
    if sums.toList.any (strapNear 64) then .next (s.failBringUp 0x88)
    else
      let power := { s.power with straps := mapAll (fun _ x => strapCode 64 x) sums, strapsLatched := true }
      let s1 := { s with power := power, txn := Txn.initial (defaultImage power.straps) }
      if power.strapsValid then .next (s1.enterStage .supply) else .next (s1.failBringUp 0x89)
  else .next s

/-! ## SUPPLY -/

/-- The banks and DRAM that the end of SUPPLY finds (R60, R108). -/
def State.judgeSupplies (s : State) : State :=
  let p := s.power
  let fitted := Vector.ofFn fun b : Bank => p.isGood (dacDomain b) && (!p.judged || p.fitted[b])
  let causes := (List.finRange 4).foldl (fun m b => if fitted[b] then m else m &&& ~~~(1#64 <<< (7 + b.val))) p.faults
  { s with
    power := { p with fitted := fitted, judged := true, faults := causes }
    mem := { s.mem with fitted := p.isGood .dphy } }

/-- SUPPLY_STAGE_END (R108): the optional domains are judged. -/
def execSupplyStageEnd (s : State) : Host.Outcome State Fault Refusal :=
  if s.power.stage = .supply && s.power.mandatoryGood then
    let s1 := s.judgeSupplies
    let absent := s.power.portOn && !s.power.isGood .cport
    let s2 := if absent then s1.beginFault 11 else s1
    if s.power.role != .standalone && !s.power.isGood .link then .next (s2.failBringUp 0x85)
    else if absent && !s.power.bootsFromFlash then .next (s2.failBringUp 0x86)
    else .next (s2.enterStage .clock)
  else .next s

/-- SUPPLY_STAGE_TIMEOUT (R106, Table 4.2): the first of REF, PLL, CORE and MON that is not good gives the code. -/
def execSupplyStageTimeout (s : State) : Host.Outcome State Fault Refusal :=
  if s.power.stage = .supply && !s.power.mandatoryGood then
    if !s.power.isGood .ref then .next (s.failBringUp 0x81)
    else if !s.power.isGood .pll then .next (s.failBringUp 0x82)
    else if !s.power.isGood .core then .next (s.failBringUp 0x83)
    else if !s.power.isGood .mon then .next (s.failBringUp 0x84)
    else .next s
  else .next s

/-! ## CLOCK -/

/-- Whether a qualification passes (R53, R114). -/
def Power.qualifies (p : Power) (edges cleanChars : Nat) : Bool :=
  if p.refIsPortA then decide (1024 ≤ cleanChars) else decide (51200 ≤ edges)

/-- REFERENCE_VALID (R114, R156). -/
def execReferenceValid (edges cleanChars : Nat) (s : State) : Host.Outcome State Fault Refusal :=
  if s.power.qualifies edges cleanChars && !s.power.refValid then
    let s1 := { s with power := { s.power with refValid := true } }
    if s.power.stage = .clock then .next ((s1.clearFault 29).enterStage .clock)
    else if s.isUp then .next (s1.clearFault 0).settleRelease
    else if s.power.clocked then .next (s1.clearFault 0)
    else .next s
  else .next s

/-- REFERENCE_WAIT_TIMEOUT (R114): the wait is reported, and goes on. -/
def execReferenceWaitTimeout (s : State) : Host.Outcome State Fault Refusal :=
  if s.power.stage = .clock && !s.power.refValid then
    let s1 := s.beginFault 29
    .next { s1 with power := { s1.power with mkCode := 0x8C } }
  else .next s

/-- REFERENCE_LOST (R57, R116, R383). -/
def execReferenceLost (edges : Nat) (aligned : Bool) (s : State) : Host.Outcome State Fault Refusal :=
  let lost := if s.power.refIsPortA then !aligned else decide (edges < 51200)
  if lost && s.power.refValid then .next s.loseReference else .next s

/-- A REFIN reading (R245): below 0.10 V and from 1.10 V to below 1.40 V it is taken; otherwise it is a brown-out of the
REF domain, which stands until REF is good. -/
def State.measureRefin (s : State) (mv : Nat) : State :=
  if mv < 100 ∨ (1100 ≤ mv ∧ mv < 1400) then { s with power := { s.power with refinMv := mv } }
  else s.loseCoreSupply .ref 2

/-- The sense path starts again empty at a lock, in frame `clk` (R528); what STATUS counts and calibration has set stands. DESIGN
CHOICE: the free NCO's phase is 0 in that frame and advances from there until the next apply tick (log entry 138). -/
def Input.restart (clk : Nat) (x : Input) : Input :=
  { Input.initial with
    ncoStart := clk, replaced := x.replaced, discards := x.discards, trimMissed := x.trimMissed, selection := x.selection }

/-- The main PLL locks (R55, R83, R115, R528): frame 0 of tick 0. The pins are sampled in this frame and the two after it, and the
third sets their levels. -/
def State.lock (s : State) (samples : Vector PinSample 3) : State :=
  { s with
    power := { s.power with locked := true }
    clock := { s.clock with epoch := 0 }
    pins := { s.pins with locking := some (s.clock.clk + 2, samples), txHigh := Vector.replicate 3 none }
    sense := { s.sense with input := mapAll (fun _ x => x.restart s.clock.clk) s.sense.input, carry := Vector.replicate 4 false }
    chain := { s.chain with aligned := false } }

/-- PLL_LOCK (R83, R97, R115): CLOCK ends, or the lock returns after it, be bring-up complete (R156), failed or over in PROVISION. -/
def execPllLock (pins : Vector PinSample 3) (refinMv : Nat) (s : State) : Host.Outcome State Fault Refusal :=
  if !s.power.refValid || s.power.locked then .next s
  else if s.power.stage = .clock then
    let s1 := s.lock pins
    .next ((State.enterStage { s1 with power := { s1.power with clocked := true } } .core).measureRefin refinMv)
  else if s.isUp || s.power.clocked then .next (((s.lock pins).clearFault 1).measureRefin refinMv).settleRelease
  else .next s

/-- PLL_LOCK_TIMEOUT (R109, Table 4.1). -/
def execPllLockTimeout (s : State) : Host.Outcome State Fault Refusal :=
  if s.power.stage = .clock && s.power.refValid && !s.power.locked then .next (s.failBringUp 0x90) else .next s

/-- PLL_LOCK_LOST (R116). -/
def execPllLockLost (s : State) : Host.Outcome State Fault Refusal :=
  if !s.power.locked then .next s
  else if s.power.stage.afterClock then .next s.returnToClock
  else
    .next (State.beginFault { s with power := { s.power with locked := false } } 1).releaseAll

/-! ## CORE -/

/-- Whether the seal state agrees with the OTP cells (R466, Table 3.10): a key counts as programmed when its KCV cells are
not blank, and one that does not reproduce them makes SEAL and PROVISION invalid. -/
def Power.sealAgrees (p : Power) : Bool :=
  if p.sealOn then (match p.key, p.kcv with
    | some k, some v => kcvOf k == v
    | _, _ => false)
  else if p.provisions then p.kcv.isNone
  else true

/-- CORE_STAGE_END (R111): the boundary of tick 1, when power-up calibration starts. -/
def execCoreStageEnd (sramOk : Bool) (tests : Vector SelfTest 4) (cportLocked : Bool) (s : State) :
    Host.Outcome State Fault Refusal :=
  if s.power.stage = .core && decide (1 ≤ s.clock.tick) then
    if !sramOk then .next (s.failBringUp 0x94)
    else if !s.power.sealAgrees then .next (s.failBringUp 0x89)
    else if !s.power.bootsFromFlash && (!s.power.isGood .cport || !cportLocked) then .next (s.failBringUp 0x86)
    else
      let s1 := s.testBanks tests
      .next (State.enterStage { s1 with
        power := { s1.power with coreEnded := true }
        cal := { s1.cal with pass := some (s1.newPass .powerUp 0 0), sinceCore := 0,
                             powerUpDone := false, rsetDone := Vector.replicate 4 false }
        txn := { s1.txn with due := { s1.txn.due with calibration := decide (s.clock.frame = 0) } } } .flash)
  else .next s

/-! ## FLASH -/

/-- Whether the flash meets R117, its signature apart. -/
def SfdpReport.meets (r : SfdpReport) : Bool :=
  decide (128 ≤ r.densityMbit) && decide (r.densityMbit ≤ 2048) && r.fastRead114 && r.erase4k &&
    (decide (r.densityMbit ≤ 128) || r.dedicated4Byte || r.enter4Byte) &&
    [0, 1, 2, 4, 5].contains r.quadEnable.toNat

/-- How the device addresses a flash (R118): by dedicated 4-byte instructions whenever the flash offers them. -/
def SfdpReport.chosen (r : SfdpReport) : FourByte :=
  if r.dedicated4Byte then .dedicated else if r.enter4Byte then .enterMode else .none

/-- SFDP_DISCOVERY_DONE (R117, R118, R127). -/
def execSfdpDiscoveryDone (r : SfdpReport) (s : State) : Host.Outcome State Fault Refusal :=
  if s.power.stage = .flash then
    if !r.signature then .next (s.failBringUp 0x98)
    else if !SfdpReport.meets r then .next (s.failBringUp 0x99)
    else
      let s1 := { s with power := { s.power with flashAddr := some (SfdpReport.chosen r), flashMbit := r.densityMbit } }
      .next (s1.enterStage (if s.power.provisions then .provision else .ledger))
  else .next s

/-! ## LEDGER -/

/-- The bytes that a counter record gives HCRC (Table 10.5): bytes 0 to 7. -/
def counterHead (c : CounterRead) : List Byte :=
  leBytes 4 c.base.toNat ++ leBytes 1 c.grain.toNat ++ leBytes 3 c.reserved.toNat

/-- The bytes that HCRC covers (Table 10.5). -/
def RegionRead.headerBytes (r : RegionRead) : List Byte :=
  leBytes 4 r.magic.toNat ++ leBytes 4 r.seq.toNat ++ leBytes 2 r.rails.toNat ++ leBytes 2 r.reserved.toNat ++
    r.counters.toList.flatMap counterHead

/-- Whether a region is valid (R349). The magic's bytes 4C 44 47 31 read 0x3147444C. -/
def RegionRead.valid (r : RegionRead) : Bool :=
  !r.erased && r.magic == 0x3147444C && r.rails == 64 && r.hcrc == crc32 (RegionRead.headerBytes r) &&
    r.seqCopy == r.seq && r.marker.toList.all (· == 0)

/-- A region as the device takes it: a tally bit counts when either read shows 0 (R343); of a marker that its reads show
differently, the bits that any of them shows erased stand as erased (log entry 78). -/
def regionOf (r : RegionRead) : Region :=
  if r.erased then Region.erasedRegion
  else
    { magic := r.magic, seq := r.seq, rails := r.rails, reserved := r.reserved, hcrc := r.hcrc, copy := r.seqCopy
      marker := r.marker[0] ||| r.marker[1] ||| r.marker[2]
      counters := Vector.ofFn fun i =>
        { base := (r.counters[i]).base, grain := (r.counters[i]).grain, reserved := (r.counters[i]).reserved,
          tally := (r.counters[i]).tally1 &&& (r.counters[i]).tally2 } }

/-- A region formatted with SEQ 1, BASE 0 and zero counts (R119, Table 10.6). -/
def formattedRegion : Region := (Region.fresh 1 (Vector.replicate 128 0)).commit

/-- A region becomes live: the counts start at its values, and the holds are judged (R346, R347). `ahead` says that its SEQ exceeds
the other's, and then its marker is programmed again (R349). -/
def Ledger.select (l : Ledger) (k : Fin 2) (ahead : Bool) : Ledger :=
  let l1 := { l with live := k, selected := true, op := if ahead then some (.again k) else none }
  Ledger.judgeHolds { l1 with count := Vector.ofFn fun i => l1.value i }

/-- What follows LEDGER (R108, Table 4.1). -/
def State.afterLedger (s : State) : State := s.enterStage (if s.mem.fitted then .dram else .image)

/-- LEDGER_SELECTED (R119, R349, Table 10.6). A region that is invalid has no SEQ to exceed (log entry 78). -/
def execLedgerSelected (lower upper : RegionRead) (formatOk : Bool) (s : State) : Host.Outcome State Fault Refusal :=
  if s.power.stage = .ledger then
    let base := { s.ledger with region := Vector.ofFn fun k : Fin 2 => if k = 0 then regionOf lower else regionOf upper }
    let took (l : Ledger) (k : Fin 2) (ahead : Bool) : State := State.afterLedger { s with ledger := l.select k ahead }
    match RegionRead.valid lower, RegionRead.valid upper with
    | true, true =>
      if lower.seq = upper.seq + 1 then .next (took base 0 true)
      else if upper.seq = lower.seq + 1 then .next (took base 1 true)
      else .next (s.failBringUp 0x9C)
    | true, false => .next (took base 0 false)
    | false, true => .next (took base 1 false)
    | false, false =>
      if lower.erased && upper.erased then
        if formatOk then .next (took { base with region := base.region.set 0 formattedRegion } 0 false)
        else .next (s.failBringUp 0x9D)
      else .next (s.failBringUp 0x9C)
  else .next s

/-! ## DRAM -/

/-- Whether identification fails (R120, R293). Unequal rank counts of the two subchannels, which R120 forbids without naming
a failure, count as a failed identification (log entry 113). -/
def TrainReport.unidentified (r : TrainReport) : Bool :=
  !r.identified || r.refreshManagement || !r.allX8 || !r.answered.toList.all id ||
    r.ranks[0] != r.ranks[1] || r.ranks[0] == 0 || decide (r.densities.dedup.length ≠ 1) ||
    !r.densities.all [16, 24, 32].contains

/-- DRAM_TRAINING_DONE (R120 to R122, R298): the maps start empty. -/
def execDramTrainingDone (r : TrainReport) (s : State) : Host.Outcome State Fault Refusal :=
  if s.power.stage = .dram then
    if TrainReport.unidentified r then .next (s.failBringUp 0xA0)
    else
      let failed (sub : Fin 2) : List DramDevice := r.failed.dedup.filter fun d => d.sub == sub
      if (List.finRange 2).any fun sub => decide (2 ≤ (failed sub).length) then .next (s.failBringUp 0xA1)
      else
        let m := { Mem.initial with
          cells := s.mem.cells, fitted := true, density := r.densities.headD 0, ranks := (r.ranks[0]).val }
        let s1 := (r.failed.dedup).foldl (fun s d => s.retire d 0) { s with mem := m }
        .next (s1.enterStage .image)
  else .next s

/-- DRAM_STAGE_TIMEOUT (R109, Table 4.1). -/
def execDramStageTimeout (s : State) : Host.Outcome State Fault Refusal :=
  if s.power.stage = .dram then .next (s.failBringUp 0xA2) else .next s

/-! ## The later stages' waits -/

/-- IMAGE_WAIT_TIMEOUT (R123): the wait is reported, and goes on. -/
def execImageWaitTimeout (s : State) : Host.Outcome State Fault Refusal :=
  if s.power.stage = .image && !s.power.bootsFromFlash then
    let s1 := s.beginFault 30
    .next { s1 with power := { s1.power with mkCode := 0xAD } }
  else .next s

/-- JOIN_WAIT_TIMEOUT (R128): likewise. -/
def execJoinWaitTimeout (s : State) : Host.Outcome State Fault Refusal :=
  if s.power.stage = .join then
    let s1 := s.beginFault 31
    .next { s1 with power := { s1.power with mkCode := 0xB0 } }
  else .next s

/-- TRIM_WAIT_TIMEOUT (R110, Table 4.1): power-up calibration has exceeded its bound of 256 ticks from the end of CORE. -/
def execTrimWaitTimeout (s : State) : Host.Outcome State Fault Refusal :=
  if s.power.stage = .trimWait && !s.trimmed && decide (256 ≤ s.cal.sinceCore) then .next (s.failBringUp 0x95) else .next s

/-- IMAGE ends (R109): JOIN follows, or TRIM-WAIT in a STANDALONE device. -/
def State.endImage (s : State) : State :=
  let s1 := s.clearFault 30
  if s1.power.role == .standalone then s1.enterTrimWait else s1.enterStage .join

/-- JOIN ends (R128). -/
def State.endJoin (s : State) : State := (s.clearFault 31).enterTrimWait

end Sys2Proof.Machine
end

