-- ==== Sys2Proof/Machine/Drive.lean ====
section
/-! DEFINITION. The drive engine's slot (R227, R237, R239, R346) and the forced range switch (R248, R249). -/

namespace Sys2Proof.Machine

/-- What the latched frame counts (R235, R250, R346); the first clamped frame of a run raises CLIP. -/
def State.countFrame (s : State) (n : Chan) : State :=
  let c := s.chan[n]
  let one (b : Bool) : BitVec 16 := if b then 1 else 0
  let c1 := { c with
    saturated := c.saturated + one c.satNext, clipped := c.clipped + one c.clipNext,
    ledgerHeld := c.ledgerHeld + one c.heldNext, clipRun := c.clipNext }
  let s1 := { s with chan := s.chan.set n c1 }
  if c.clipNext && !c.clipRun then
    (s1.raiseFor 0x1D fun p => s1.boundTo p n).logEvent 7 0 (BitVec.ofNat 16 n.val)
  else s1

/-- The excursion test and the deep-dose mark on the latched code, under the gain that latched with it (R36, R239). -/
def State.judgeExcursion (s : State) (n : Chan) (gain : BitVec 1) : State :=
  let c := s.chan[n]
  let cp := s.chanParams n
  let off := offNominal cp.nom (s.judgedCode n gain c.latched)
  let beyond := decide (cp.shallow.toNat < off)
  let r := s.railOf n
  let s1 := { s with chan := s.chan.set n { c with beyond := beyond } }
  let s2 := if cp.deep.toNat < off then { s1 with ledger := { s1.ledger with deep := s1.ledger.deep.set r true } } else s1
  if beyond && !c.beyond then s2.countUp (excRecord r) else s2

/-- A code latches, under the gain that the analogue stage takes with it (R228, R249), and is judged. -/
def State.putCode (s : State) (n : Chan) (code : Code) (gain : BitVec 1) : State :=
  State.judgeExcursion
    { s with chan := s.chan.set n { s.chan[n] with latched := code, gainHeld := gain, delayed := none } } n gain

/-- The latch of a frame's code in slot n (R228): with ALIGN on it waits for slot 0 of the next frame. -/
def State.latch (s : State) (n : Chan) : State :=
  let c := s.chan[n]
  let s1 := if s.txn.live.params.dev.align = 1 then
      { s with chan := s.chan.set n { c with delayed := some (c.code, c.gainNext) } }
    else s.putCode n c.code c.gainNext
  s1.countFrame n

/-- Slot 0 of a frame: every code that ALIGN held from the frame before latches (R228, R229). -/
def State.latchAligned (s : State) : State :=
  if s.chan.toList.any fun c => c.delayed.isSome then
    (List.finRange 64).foldl (fun s n =>
      match (s.chan[n]).delayed with
      | some d => s.putCode n d.1 d.2
      | none => s) s
  else s

/-- What the end of a frame does in the waveform memory: Squall is judged (R310), the maps' narrow writes enter the merge buffer
(R332), and the controller's queues settle (R307, R312). -/
def State.endFrame (s : State) : State :=
  let s1 := s.judgeSquall.offerMaps
  let idle := s1.mem.waiting.isEmpty && s1.mem.writes.toList.all List.isEmpty
  if idle then s1 else s1.settleQueues

/-- The scrubber's schedule over frames in which the DRAM is awake (R330, R331): 64 DDR5 clocks in each, and the time of the pass. -/
def State.scrubTime (s : State) (frames : Nat) : State :=
  if s.mem.fitted && s.mem.awake then
    { s with mem := { s.mem with
        scrubDue := s.mem.scrubDue + 64 * frames, scrubFrames := s.mem.scrubFrames + frames } }
  else s

/-- One frame of a tick passes. -/
def State.passFrame (s : State) : State :=
  let s1 := State.latchAligned { ((s.scrubTime 1).endFrame).beginFrame with clock := s.clock.pass 1 }
  State.settleThermal (State.settlePins { s1 with pins := s1.pins.showMarkers })

/-- One frame passes with no command. While the core does not run, the main PLL out of lock or VDD_CORE low, no frame of a tick is
counted (R115): the time that the model counts passes, the LINK domain lives on, and ST[2:0] shows the state. The frame count
stays within its tick: TICK_BOUNDARY alone begins the next. -/
def State.idleFrame (s : State) : State :=
  if !s.coreRuns then
    (State.showSt { s with clock := { s.clock with clk := s.clock.clk + 1 }, chain := s.chain.passFrame }).settleThermal
  else if s.clock.frame + 1 < Config.framesPerTick then s.passFrame
  else s

/-- Whether channel n's slot of the present frame has run. -/
def State.slotDone (s : State) (n : Chan) : Bool := (s.chan[n]).slotClk == some s.clock.clk

/-- Whether a channel's DAC is disconnected for a calibration, or awaits the latch at which it connects again (R352, R363). -/
def State.disconnected (s : State) (n : Chan) : Bool := (s.chan[n]).fog || decide (s.clock.clk < (s.chan[n]).joinsAt)

/-- ENGINE_SLOT (R227, R228, R237): the latch of this frame, and the computation of the next frame's code. For a released channel
the engine forms the targets and latches nothing (R252), and for one under calibration it computes, counts and latches nothing
(R250, R353). A slot runs once in a frame. -/
def execEngineSlot (n : Chan) (s : State) : Host.Outcome State Fault Refusal :=
  let c := s.chan[n]
  if !s.coreRuns || s.slotDone n then .next s
  else if c.released then
    let s1 := s.countFrame n
    .next { s1 with chan := s1.chan.set n (s1.supply n s1.chan[n]).2 }
  else
    let s1 := if s.disconnected n then s.countFrame n else s.latch n
    .next { s1 with chan := s1.chan.set n (s1.compute n false s1.chan[n]) }

/-- RANGE_SWITCH_FORCED (R248, R249): at frame 16,383 of the apply tick the window that is still open closes, and the code
for that frame is mapped to the new gain. -/
def execRangeSwitchForced (n : Chan) (s : State) : Host.Outcome State Fault Refusal :=
  let c := s.chan[n]
  let f := s.clock.frame
  let here := (f == 16382 && s.slotDone n) || (f == 16383 && !s.slotDone n)
  if s.coreRuns && c.window && !c.released && here then
    let cp := s.chanParams n
    let (code, clip) := rangeMap (s.isCurr n) c.gainNext cp.gain c.code
    let c1 := { c with code := code, gainNext := cp.gain, window := false, clipNext := c.clipNext || clip }
    .next { s with chan := s.chan.set n c1 }
  else .next s

end Sys2Proof.Machine
end

