-- ==== Sys2Proof/Machine/Status.lean ====
section
/-! DEFINITION. STATUS frames (R424, Tables 13.5 to 13.7): the body, and row 9 of Table 2.2, which freezes it and LEDGER's. -/

namespace Sys2Proof.Machine

/-- The state code of a channel record (Table 13.6). -/
def State.chanCode (s : State) (n : Chan) : Nat :=
  let c := s.chan[n]
  if !s.fitted n then 4
  else if c.forGood then 5
  else if c.fog then 6
  else if c.released then
    if s.power.fault (7 + (bankOf n).val) then 3
    else if s.power.powerUp || !s.isUp || s.power.faults &&& releaseCauses != 0 then 2
    else 3
  else if c.retreated then 1
  else 0

/-- A channel record (Table 13.6). -/
def State.chanRecord (s : State) (n : Chan) : List Byte :=
  let c := s.chan[n]
  let bad := ((List.range 18).filter fun i => c.badUnits.getLsbD i).length
  [BitVec.ofNat 8 (s.chanCode n + bitAt c.inl 3 + bitAt (s.hasSight n) 4), BitVec.ofNat 8 (18 - bad)] ++
    leBytes 2 c.saturated.toNat ++ leBytes 2 c.clipped.toNat ++ leBytes 2 c.ledgerHeld.toNat

/-- An input record (Table 13.5). -/
def State.inputRecord (s : State) (i : Chan) : List Byte :=
  let x := s.sense.input[i]
  leBytes 2 x.replaced.toNat ++ [x.discards, BitVec.ofNat 8 (bitAt s.sense.failed[bankOf i] 0 + bitAt x.trimMissed 1)]

/-- The code of a player's state (Table 13.5). -/
def PlayerState.code (p : PlayerState) : Nat :=
  match p with
  | .idle => 0 | .running => 1 | .ended => 2 | .stopped => 3

/-- A player record (Table 13.5). -/
def State.playerRecord (s : State) (p : PlayerNo) : List Byte :=
  let x := s.player[p]
  [BitVec.ofNat 8 x.state.code, BitVec.ofNat 8 x.cause.val] ++ leBytes 2 x.badMarkers.toNat

/-- A subchannel's retirement byte (Table 13.5). -/
def State.retiredByte (s : State) (sub : Fin 2) : Byte :=
  match s.mem.retired[sub] with
  | some (rank, lane) => BitVec.ofNat 8 (128 + 64 * rank.val + lane.val)
  | none => 0

/-- The code of the transaction state (Table 13.5). -/
def TxnState.code (t : TxnState) : Nat :=
  match t with
  | .idle => 0 | .opened => 1 | .pending => 2

/-- Bytes 0 to 31 of a STATUS body (Table 13.5). -/
def State.statusHead (s : State) : List Byte :=
  let bits (f : Bank → Bool) : Nat := ((List.finRange 4).map fun b => bitAt (f b) b.val).sum
  let probation := s.txn.probation.elim 0 fun n => s.txn.live.params.dev.probation.toNat - n
  [ if s.isUp then 0 else s.power.mkCode,
    BitVec.ofNat 8 (s.pins.st.toNat + bitAt s.rdyLow 3 + bitAt s.fltLow 4 + bitAt s.alrt 5 + bitAt s.stale 6 + bitAt s.rtrLow 7),
    BitVec.ofNat 8 (bitAt s.pins.rtrDrive 0 + bitAt s.chain.island 1 + bitAt s.power.powerUp 2 +
      bitAt (s.txn.probation.isSome || s.chain.sysProbation) 3 + 16 * s.txn.state.code + bitAt s.cal.passDone 6),
    BitVec.ofNat 8 (s.txn.live.mode.toNat + 8 * s.txn.live.var.toNat) ] ++
  leBytes 2 s.devid ++ leBytes 2 (if s.power.role == .standalone then 0 else s.chain.enumcnt.toNat) ++
  leBytes 8 s.power.faults.toNat ++ leBytes 2 probation ++ leBytes 2 s.txn.count.toNat ++
  [ BitVec.ofNat 8 (bits (fun b => !s.power.fitted[b]) + 16 * bits fun b => s.power.fault (7 + b.val)),
    BitVec.ofNat 8 (bitAt s.mem.fitted 0 + bitAt (s.mem.sr == .committed) 1 + bitAt s.dramDown 2 + bitAt s.mem.squallSeen 3),
    s.retiredByte 0, s.retiredByte 1,
    BitVec.ofNat 8 (s.mem.remap[0]).length, BitVec.ofNat 8 (s.mem.remap[1]).length ] ++
  leBytes 4 s.mem.bog.length ++ leBytes 2 (BitVec.ofInt 16 s.power.junction).toNat

/-- A STATUS body (Table 13.5): 944 bytes. The boundary error, held in thirds of a ps, is shown to the nearest ps (log entry 128). -/
def State.statusBody (s : State) : List Byte :=
  let boundary : BitVec 16 := if s.power.role == .standalone || s.isRoot then 0 else BitVec.ofInt 16 (roundDiv s.chain.boundaryErr 3)
  s.statusHead ++ (List.finRange 64).flatMap s.chanRecord ++ (List.finRange 64).flatMap s.inputRecord ++
    (List.finRange 16).flatMap s.playerRecord ++ s.port.counter.toList.flatMap (fun c => leBytes 4 c.toNat) ++
    leBytes 2 boundary.toNat ++ List.replicate 6 0

/-- A STATUS body is frozen (R424); one that still waits is replaced, and counts as lost (R423). -/
def State.freezeStatus (s : State) : State :=
  let s1 := if s.tel.status.isSome then s.bump 4 else s
  { s1 with
    tel := { s1.tel with status := some { epoch := s.clock.epoch, body := s1.statusBody } }
    mem := { s1.mem with squallSeen := s1.mem.squall } }

/-- Row 9 of Table 2.2 is taken once row 8 has been (R50): the STATUS and LEDGER frames that are due are frozen at the boundary
(R424, R429). -/
def State.closeNine (s : State) : State :=
  let d := s.txn.due
  if d.calibration then s
  else
    let s1 := if d.status then s.freezeStatus else s
    let s2 := if d.ledger then s1.freezeLedger else s1
    { s2 with txn := { s2.txn with due := { s2.txn.due with status := false, ledger := false } } }

end Sys2Proof.Machine
end

