-- ==== Sys2Proof/Machine/Calibration.lean ====
section
/-! DEFINITION. Self-trim (R352 to R366): what calibration takes next, unit selection, the ladder trim, and the monitor banks'
trims. -/

namespace Sys2Proof.Machine

/-! ## Selection of units -/

/-- A unit with its weight in converter codes. -/
abbrev Weighed := Fin 18 × Int

/-- The good units of a measurement (R354): from 960 to 1,088 codes, and not found bad before. -/
def goodUnits (r : CalReadings) (bad : BitVec 18) : List Weighed :=
  ((List.finRange 18).map fun u => (u, r.items[u.val + 2] - r.items[1])).filter fun x =>
    !bad.getLsbD x.1.val && decide (960 ≤ x.2) && decide (x.2 ≤ 1088)

/-- The lower median of the weights (R355): the (n div 2)-th smallest, counting from 1. -/
def lowerMedian (ws : List Int) : Int := (sortAsc ws).getD (ws.length / 2 - 1) 0

/-- The member with the greatest score; at a tie the first. -/
def greatestBy (f : Weighed → Nat) : List Weighed → Option Weighed
  | [] => none
  | x :: xs => some (xs.foldl (fun best y => if f best < f y then y else best) x)

/-- The member with the least score; at a tie the first. -/
def leastBy (f : Weighed → Nat) : List Weighed → Option Weighed
  | [] => none
  | x :: xs => some (xs.foldl (fun best y => if f y < f best then y else best) x)

/-- Units dropped until 15 are left (R355); `fuel` is the number to drop. -/
def keepFifteen : Nat → List Weighed → List Weighed
  | 0, l => l
  | fuel + 1, l =>
    let m := lowerMedian (l.map Prod.snd)
    match greatestBy (fun x => (x.2 - m).natAbs) l with
    | some x => keepFifteen fuel (l.filter fun y => y.1 != x.1)
    | none => l

/-- The order of the thermometer positions (R355): `e` is 15 times the running error and `sum` the sum of the weights. -/
def orderUnits : Nat → Int → Int → List Weighed → List (Fin 18)
  | 0, _, _, _ => []
  | fuel + 1, sum, e, l =>
    match leastBy (fun x => (e + 15 * x.2 - sum).natAbs) l with
    | some x => x.1 :: orderUnits fuel sum (e + 15 * x.2 - sum) (l.filter fun y => y.1 != x.1)
    | none => []

/-- The ladder trim before its clamp (R355): one step moves the item-22 weight by 2 codes, and the goal is 63/64 of the mean
unit. A tie goes to the lower trim. -/
def ladderTrim (trim sum w22 : Int) : Int := -((960 - (1920 * trim + 63 * sum - 960 * w22)) / 1920)

/-- The selection and trim that a measurement gives a channel, or its release for good below 15 good units (R354, R355,
R366). -/
def Channel.calibrated (gain : BitVec 1) (r : CalReadings) (c : Channel) : Channel :=
  let good := goodUnits r c.badUnits
  let bad := (List.finRange 18).foldl (fun (m : BitVec 18) u => if good.any (fun x => x.1 == u) then m else m ||| (1#18 <<< u.val)) 0
  if good.length < 15 then { c.release gain with forGood := true, badUnits := bad, fog := false }
  else
    let keep := keepFifteen (good.length - 15) good
    let sum := (keep.map Prod.snd).sum
    let t := ladderTrim c.ladder sum (r.items[22] - r.items[1])
    { c with
      fog := false, badUnits := bad, positions := orderUnits 15 sum 0 keep
      ladder := satInt (-16) 15 t, inl := decide (t < -16) || decide (15 < t) }

/-! ## What may be taken -/

/-- Whether a pass takes a channel (R360, Table 4.3): those of unfitted banks, of a bank without its supply, and those released
for good are skipped. -/
def State.takeable (s : State) (p : CalPass) (n : Chan) : Bool :=
  let b := bankOf n
  s.power.fitted[b] && !(s.chan[n]).forGood && s.power.isGood (dacDomain b) &&
    (p.kind != .bankReturn || b.val == p.nextBank)

/-- The next channel of a pass. -/
def State.nextOfPass (s : State) (p : CalPass) : Option Chan :=
  (List.finRange 64).find? fun n => decide (p.nextChan ≤ n.val) && s.takeable p n

/-- Whether a pass has monitor banks left to take. -/
def CalPass.banksLeft (p : CalPass) : Bool := p.kind != .bankReturn && decide (p.nextBank < 4)

/-- Whether a monitor bank is eligible (R362). -/
def State.bankEligible (s : State) (b : Bank) : Bool := s.power.isGood .mon && s.power.isGood .ref && s.bankRests b

/-- Whether a pass may take the sight of a monitor bank's channels (R27): none that is driven stands away from nominal. -/
def State.sightSpares (s : State) (b : Bank) : Bool :=
  (List.finRange 64).all fun n => !s.linkedToBank b n || (s.chan[n]).released || !s.awayFromNominal n

/-! ## Starting -/

/-- A drive channel's calibration starts (R352, R357): its Fog flag rises, with event 0x1C. -/
def State.startChannel (s : State) (n : Chan) (kind : CalKind) : State :=
  let s1 := { s with
    chan := s.chan.set n { s.chan[n] with fog := true }
    cal := { s.cal with item := some { chan := n, kind := kind, ticks := 0, checked := false }, since := 0 } }
  s1.raiseFor 0x1C fun p => s1.boundTo p n

/-- A monitor bank's trim starts (R358): its inputs are out of sight, and its detectors discard. Its one tick counts from the
boundary. -/
def State.startBank (s : State) (b : Bank) : State :=
  let s1 := State.onBankInputs { s with
    sense := { s.sense with
      trimming := s.sense.trimming.set b true, trimSince := s.sense.trimSince.set b (s.clock.clk - s.clock.frame) }
    cal := { s.cal with since := 0 } }
    (· == b) Input.restartDetector
  s1.loseSight

/-- Whether the mode allows a pass to go on (Table 11.3): power-up, CALIBRATE, and a returned bank's in HOLD, MARGIN and
CALIBRATE. -/
def State.passRuns (s : State) (p : CalPass) : Bool :=
  p.kind != .bankReturn || s.txn.live.mode == 0 || s.txn.live.mode == 1 || s.txn.live.mode == 5

/-- A pass takes its next channel (R360), which it does not repeat if it is abandoned (R364). -/
def State.passChannel (s : State) (p : CalPass) : State :=
  if s.cal.item.isSome then s else
  match s.nextOfPass p with
  | some n => State.startChannel { s with cal := { s.cal with pass := some { p with nextChan := n.val + 1 } } } n p.kind
  | none => { s with cal := { s.cal with pass := some { p with nextChan := 64 } } }

/-- A pass takes its next monitor bank (R360), once no channel linked to it stands away from nominal (R27, log entry 129). -/
def State.passBank (s : State) (p : CalPass) : State :=
  if h : p.banksLeft = true ∧ p.nextBank < 4 then
    let b : Bank := ⟨p.nextBank, h.2⟩
    let s1 := { s with cal := { s.cal with pass := some { p with nextBank := p.nextBank + 1 } } }
    if s.sense.trimming.toList.any id then s
    else if !s.power.isGood .mon then s1
    else if s.sightSpares b then s1.startBank b
    else s
  else s

/-- A pass goes on at a boundary (R360). -/
def State.passStart (s : State) (p : CalPass) : State :=
  let s1 := s.passChannel p
  match s1.cal.pass with
  | some q => s1.passBank q
  | none => s1

/-- Whether a drive bank still awaits a calibration after a pass (R110, Table 4.3): a pass that took it all leaves it nothing, a
CALIBRATE pass asks for none anew, and another bank's pass does not concern it. -/
def CalPass.owes (p : CalPass) (b : Bank) (before : Bool) : Bool :=
  match p.kind with
  | .full => before && p.missed[b]
  | .bankReturn => if p.nextBank = b.val then p.missed[b] else before
  | .powerUp | .background => p.missed[b]

/-- A pass that has taken everything ends (R360, Table 16.1): the banks that owe nothing clear their causes. Power-up calibration is
complete when no fitted bank owes one, and TRIM-WAIT ends with it (R110, R112, log entry 67). -/
def State.settlePass (s : State) : State :=
  match s.cal.pass with
  | some p =>
    if s.cal.item.isSome || p.banksLeft || s.sense.trimming.toList.any id || (s.nextOfPass p).isSome then s
    else
      let owed : Vector Bool 4 := Vector.ofFn fun b => p.owes b s.cal.owed[b]
      let whole := (List.finRange 4).all fun b => !s.power.fitted[b] || !owed[b]
      let s1 := { s with cal := { s.cal with
          pass := none, owed := owed, passDone := s.cal.passDone || p.kind == .full
          powerUpDone := s.cal.powerUpDone || (p.kind != .full && whole) } }
      let s2 : State := (List.finRange 4).foldl
        (fun s b => if s.power.isGood (dacDomain b) && !owed[b] then s.clearFault (7 + b.val) else s) s1
      if s2.trimmed ∧ s2.power.stage = .trimWait then s2.completeBringUp else s2
  | none => s

/-- The fitted bank whose supply has returned and that owes a calibration (Table 4.3), the lowest first. -/
def State.returnedBank (s : State) : Option Bank :=
  (List.finRange 4).find? fun b => s.cal.owed[b] && s.power.fitted[b] && s.power.isGood (dacDomain b)

/-- The items of the rotation after the last one started, in order (R361): 0 to 63 channels, 64 to 67 banks. -/
def State.rotation (s : State) : List (Fin 68) :=
  let items := (List.finRange 68).filter fun k => k.val < 64 || s.txn.live.params.dev.calMon == 1
  (items.filter fun k => decide (s.cal.last < k.val)) ++ items.filter fun k => decide (k.val ≤ s.cal.last)

/-- Whether an item of the rotation is eligible. -/
def State.itemEligible (s : State) (k : Fin 68) : Bool :=
  if h : k.val < 64 then s.eligible ⟨k.val, h⟩ else s.bankEligible ⟨(k.val - 64) % 4, Nat.mod_lt _ (by decide)⟩

/-- The background rotation (R361): the next eligible item starts; each that was passed over is counted (counter 9). A new
cycle measures RSET_x afresh (R353). The power-up state, in which no mode has been commanded, runs none (R360). -/
def State.rotate (s : State) : State :=
  let interval := s.txn.live.params.dev.calInterval.toNat
  let quiet := s.txn.live.mode == 0 || s.txn.live.mode == 1
  if !s.isUp || s.power.powerUp || !quiet || interval = 0 || decide (s.cal.since < interval) || s.cal.item.isSome ||
      s.sense.trimming.toList.any id then s
  else
    let items := s.rotation
    let s1 := (items.takeWhile fun k => !s.itemEligible k).foldl (fun s _ => s.bump 9) s
    match items.find? s.itemEligible with
    | some k =>
      let fresh := if k.val ≤ s.cal.last then Vector.replicate 4 false else s.cal.rsetCycle
      let s2 := { s1 with cal := { s1.cal with last := k.val, rsetCycle := fresh } }
      if h : k.val < 64 then s2.startChannel ⟨k.val, h⟩ .background
      else s2.startBank ⟨(k.val - 64) % 4, Nat.mod_lt _ (by decide)⟩
    | none => s1

/-- Row 8 of Table 2.2 (R360, R361): a pass goes on; otherwise a returned bank's begins, or the background rotation takes its turn.
Without the references of the REF domain nothing begins (R45). -/
def State.takeCalibration (s : State) : State :=
  let s0 := { s with txn := { s.txn with due := { s.txn.due with calibration := false } } }
  if !s.power.isGood .ref then s0
  else
    match s0.cal.pass with
    | some p => if s0.passRuns p then (s0.passStart p).settlePass else s0
    | none =>
      match s0.returnedBank with
      | some b =>
        let p := s0.newPass .bankReturn (16 * b.val) b.val
        let s1 := { s0 with cal := { s0.cal with pass := some p, rsetDone := Vector.replicate 4 false } }
        if s1.passRuns p then (s1.passStart p).settlePass else s1
      | none => s0.rotate

/-- CALIBRATION_START (R50, R352): row 8 is taken at the boundary itself, and row 9 follows it. -/
def execCalibrationStart (s : State) : Host.Outcome State Fault Refusal :=
  if s.takesNow s.txn.due.calibration then .next s.takeCalibration.closeNine else .next s

/-! ## Ending -/

/-- RSET of a bank has been measured, in a cycle of the rotation or in a pass. -/
def Cal.noteRset (c : Cal) (kind : CalKind) (b : Bank) : Cal :=
  match kind with
  | .background => { c with rsetCycle := c.rsetCycle.set b true }
  | .powerUp | .full | .bankReturn => { c with rsetDone := c.rsetDone.set b true }

/-- Whether RSET of a bank has been measured in the pass, or cycle of the rotation, that takes an item. -/
def Cal.rsetNoted (c : Cal) (kind : CalKind) (b : Bank) : Bool :=
  match kind with
  | .background => c.rsetCycle[b]
  | .powerUp | .full | .bankReturn => c.rsetDone[b]

/-- The measured RSET_x of a CURR bank, once in each pass or rotation cycle (R244, R353). -/
def State.noteRset (s : State) (kind : CalKind) (b : Bank) (ohm : Nat) : State :=
  if s.power.bankIsCurr b && !s.cal.rsetNoted kind b then
    { s with
      power := { s.power with rset := s.power.rset.set b (some ohm) }
      cal := s.cal.noteRset kind b }
  else s

/-- CALIBRATION_DONE (R352, R354, R355): after two ticks the staged selection and trim take effect, or the channel is released
for good (R366). -/
def execCalibrationDone (r : CalReadings) (s : State) : Host.Outcome State Fault Refusal :=
  match s.cal.item with
  | some it =>
    if it.checked && decide (2 ≤ it.ticks) then
      let n := it.chan
      let c := (s.chan[n]).calibrated (s.chanParams n).gain r
      let s1 := { s with chan := s.chan.set n c, cal := { s.cal with item := none } }
      .next (s1.noteRset it.kind (bankOf n) r.rsetOhm).settlePass
    else .next s
  | none => .next s

/-- Whether the tick that a monitor bank's trim occupies has passed (R358). -/
def State.trimOver (s : State) (b : Bank) : Bool :=
  s.sense.trimming[b] && decide (s.sense.trimSince[b] + Config.framesPerTick ≤ s.clock.clk)

/-- MONITOR_TRIM_DONE (R358, R359): at the boundary that ends the trim the selections are those that reach the goals or come nearest,
and the self-test alone decides whether the bank passes. -/
def execMonitorTrimDone (b : Bank) (test : SelfTest) (missed : BitVec 16) (s : State) : Host.Outcome State Fault Refusal :=
  if s.trimOver b then
    let at_ (i : Chan) (k : Fin 3) : BitVec 16 := Config.freeSelection (s.freeCount + 3 * (i.val % 16) + k.val)
    let trimmed (i : Chan) (x : Input) : Input :=
      if bankOf i = b then { x with selection := Vector.ofFn (at_ i), trimMissed := missed.getLsbD (i.val % 16) } else x
    let s1 := { s with
      freeCount := s.freeCount + 48
      sense := { s.sense with trimming := s.sense.trimming.set b false, input := mapAll trimmed s.sense.input } }
    .next (((s1.bankTested b test).settleMon).loseSight).settlePass
  else .next s

/-- CONVERTER_CHECK_DONE (R363, R365): a check within ±8 codes clears the converter fault; another abandons the calibration, and the
DAC connects again at the next frame's latch. -/
def execConverterCheckDone (error : Int) (s : State) : Host.Outcome State Fault Refusal :=
  match s.cal.item with
  | some it =>
    if it.checked then .next s
    else if error.natAbs ≤ 8 then
      .next (State.clearFault { s with cal := { s.cal with item := some { it with checked := true } } } 26)
    else
      let s1 := { s with
        chan := s.chan.set it.chan { s.chan[it.chan] with fog := false, joinsAt := s.clock.clk + 1 }
        cal := s.cal.abandon it.chan }
      .next (s1.beginFault 26).settlePass
  | none => .next s

end Sys2Proof.Machine
end

