-- ==== Sys2Proof/Machine/Sense.lean ====
section
/-! DEFINITION. The sense path: the scan (R256 to R261), the filters (R263 to R267), guards (R271 to R276), detectors (R278
to R286) and captures (R287 to R289). -/

namespace Sys2Proof.Machine

/-! ## Conversion -/

/-- The pre-gain factor of a code (R290). -/
def pregain (code : BitVec 2) : Nat :=
  match code.toNat with
  | 0 => 1 | 1 => 4 | _ => 16

/-- 1,024 × PG × (V_in − V_ofs) in units of 1.25 nV, and so the code times 1,250,000,000 (R256); voltages in nV. -/
def convNumerator (m : MonParams) (vIn : Int) : Int :=
  (pregain m.pgain : Int) * (1024 * vIn - 4 * (m.cofs.toNat : Int) * 1250000000)

/-- One conversion (R256, R258): the code, clamped, and whether it is overranged. -/
def convert (m : MonParams) (vIn : Int) : Code × Bool :=
  let y := convNumerator m vIn
  (clampCode (y / 1250000000), decide (y < -1250000000) || decide (1025 * 1250000000 < y))

/-- A conversion of a ball at `ball` nV with respect to VSS, against `mong` (R256, R258, R510): outside −0.10 V to 1.50 V it is
overranged whatever V_in − V_ofs gives. -/
def convertBall (m : MonParams) (ball mong : Int) : Code × Bool :=
  if 1500000000 < ball then (1023, true) else if ball < -100000000 then (0, true) else convert m (ball - mong)

/-- The last valid sample rescaled into a new range (R268), and whether it had to be clamped. -/
def rescale (x : Code) (oldP : BitVec 2) (oldC : BitVec 8) (new : MonParams) : Code × Bool :=
  let p : Int := pregain oldP
  let y := (pregain new.pgain : Int) * ((x.toNat : Int) + 4 * p * ((oldC.toNat : Int) - new.cofs.toNat)) / p
  (clampCode y, decide (y < 0) || decide (1023 < y))

/-- The median of an odd number of codes (R261). -/
def medianCode (cs : List Code) : Code :=
  BitVec.ofNat 10 ((sortAsc (cs.map fun c => (c.toNat : Int))).getD (cs.length / 2) 0).toNat

/-- A rank window with one more sample: filled with its first sample (R261, R528). -/
def pushWindow {α : Type} (h : Nat) (x : α) (w : List α) : List α :=
  if w.length = 2 * h + 1 then (x :: w).take (2 * h + 1) else List.replicate (2 * h + 1) x

/-! ## The decimation filter -/

/-- The width of a preset's integrators: 10 + N log2 R (R263). -/
def presetWidth (preset : Nat) : Nat :=
  match preset with
  | 0 => 19 | 1 => 34 | 2 => 46 | 3 => 58 | _ => 18

/-- Whether a preset has the FIR (Table 8.2). -/
def presetFir (preset : Nat) : Bool := decide (preset < 4)

/-- The impulse length in input samples (Table 8.4). -/
def impulseLength (preset : Nat) : Nat :=
  let r := presetR preset
  presetOrder preset * (r - 1) + 1 + (if presetFir preset then 6 * r else 0)

/-- The FIR coefficients (Table 8.3). -/
def firCoeffs (phase : BitVec 1) : List Int :=
  if phase = 0 then [-512, 1536, -4608, 72704, -4608, 1536, -512] else [70656, -6144, 1536, -512, 0, 0, 0]

/-- The integrators with one more input: each adds the one before it, modulo its width (R263). -/
def integrate (w : Nat) : Int → List Int → List Int
  | _, [] => []
  | x, a :: as =>
    let a' := (a + x) % 2 ^ w
    a' :: integrate w a' as

/-- The combs: each subtracts what it held and shifts. The values stay modulo the width that the shifts so far leave, 14
bits after the last (R263, R264). Answers the output and what the combs hold. -/
def combs : Nat → Int → List Int → List Nat → Int × List Int
  | _, v, [], _ => (v, [])
  | w, v, l :: ls, ks =>
    let k := ks.headD 0
    let d := (v - l) % 2 ^ w
    let out := rsh d k % 2 ^ (w - k)
    let (y, rest) := combs (w - k) out ls ks.tail
    (y, v :: rest)

/-- One rank output enters the decimation filter; a word comes out at every R-th input (R262, R263, R266). -/
def Input.decimate (x : Input) (m : MonParams) (out : Sample) : Input × Option (BitVec 16) :=
  let preset := m.preset.toNat
  let n := presetOrder preset
  let w := presetWidth preset
  let held (l : List Int) : List Int := if l.length = n then l else List.replicate n 0
  let integ := integrate w out.code.toNat (held x.integ)
  let aged (a : Option Nat) (flag : Bool) : Option Nat := if flag then some 0 else a.map (· + 1)
  let x1 := { x with integ := integ, age := x.age + 1, ovrAge := aged x.ovrAge out.ovr, trAge := aged x.trAge out.tr }
  if x1.age % presetR preset = 0 then
    let (y, comb) := combs w (integ.getLastD 0) (held x.comb) m.shifts
    let fir := (y :: x.fir).take 7
    let z := if presetFir preset then rsh ((List.zipWith (· * ·) (firCoeffs m.phase) fir).sum) 16 else y
    let value := (satInt 0 16383 z).toNat
    let span := impulseLength preset
    let ovr := x1.ovrAge.any (· < span)
    let tr := x1.trAge.any (· < span) || decide (x1.age < span)
    let word := BitVec.ofNat 16 (4 * value + (if ovr then 2 else 0) + (if tr then 1 else 0))
    ({ x1 with comb := comb, fir := fir, word := word }, some word)
  else (x1, none)

/-! ## The detector -/

/-- The slot, from the start of the scan, at which an input samples (R257): 8 j + 2 b. -/
def sampleSlot (i : Chan) : Nat := 8 * (i.val % 16) + 2 * (i.val / 16)

/-- The reference of a drive channel in frame `f` (R279), which for a frame before the apply tick is that of the configuration of
that time (R280). -/
def State.refAt (s : State) (n : Chan) (f : Nat) : Nat × Nat × Nat :=
  match s.sense.before with
  | some b => if f < b.clk then ((b.refs[n])[b.clk - 1 - f]?).getD (s.channelRef n f) else s.channelRef n f
  | none => s.channelRef n f

/-- The slot at which frame `f`'s code of a channel reaches its ball, counted from the start of that frame (R228, R280): 32 slots
after the latch, under the ALIGN with which the frame's code latches (R229). -/
def State.ballSlot (s : State) (n : Chan) (f : Nat) : Nat :=
  let align := match s.sense.before with
    | some b => if f < b.clk then b.align else s.txn.live.params.dev.align
    | none => s.txn.live.params.dev.align
  (if align = 1 then 64 else n.val) + 32

/-- θ for the sample of an input in the scan that begins in frame `clk`, unwrapped, with its reset count (R278, R280): from the last
frame whose code has reached the ball. -/
def State.theta (s : State) (i : Chan) : Nat × Nat :=
  let slot := sampleSlot i
  let f0 := s.clock.clk
  match s.txn.live.detChan i with
  | none =>
    let freq := (s.txn.live.params.mon[i]).detFreq.toNat
    let frames := f0 + slot / 64 - (s.sense.input[i]).ncoStart
    (frames * freq + freq * (slot % 64) / 64, 0)
  | some n =>
    let at_ := 64 * f0 + slot
    let reached (f : Nat) : Bool := decide (64 * f + s.ballSlot n f ≤ at_)
    let f := (([f0 + 1, f0, f0 - 1].find? reached)).getD (f0 - 2)
    let delta := at_ - 64 * f - s.ballSlot n f
    let (phase, word, gen) := s.refAt n f
    (phase + word * delta / 64, gen)

/-- One rank output enters the detector (R281, R282, R284): an integration may close, and this sample then begins the
next. DEDUCED: one that holds 2^26 samples has the time-out flag, also where this sample counts its last pass (log entry 140). -/
def Input.detect (x : Input) (m : MonParams) (out : Sample) (theta : Nat × Nat) (epoch : BitVec 48) : Input :=
  let h := m.rank.toNat
  let thetas := (theta :: x.thetas).take 4
  let th := (thetas[h]?).getD (thetas.getLastD theta)
  let crossed := match x.prevTheta with
    | some (p, g) => if g = th.2 ∧ p ≤ th.1 then th.1 / 2 ^ 48 - p / 2 ^ 48 else 0
    | none => 0
  let passes := if x.n = 0 then 0 else x.passes + crossed
  let full := decide (m.detCyc.toNat ≤ passes) && decide (0 < x.n)
  let capped := decide (2 ^ 26 ≤ x.n)
  let closes := full || capped
  let e : Int := (out.code.toNat : Int) - 512
  let a := th.1 / 2 ^ 36 % 4096
  let base : Input := if closes then { x with iAcc := 0, qAcc := 0, n := 0, taint := false, passes := 0 } else { x with passes := passes }
  { base with
    thetas := thetas, prevTheta := some th,
    iAcc := base.iAcc + e * ctab a, qAcc := base.qAcc - e * stab a, n := base.n + 1,
    taint := base.taint || out.ovr || out.tr,
    closing := if closes then
        some { iAcc := x.iAcc, qAcc := x.qAcc, n := x.n, taint := x.taint, timeout := capped, epoch := epoch }
      else x.closing }

/-! ## Guards -/

/-- One guard sample (R272 to R275): g on the guard path's own rank window, judged against the live entry. -/
def Input.guardSample (x : Input) (g : Option Guard) (h : Nat) (code : Code) (ovr : Bool) : Input :=
  let raw := pushWindow h code x.rawWindow
  let r := medianCode raw
  let fast := pushWindow 1 r x.fast
  let v := 8 * (fast.getD 0 0).toNat + 6 * (fast.getD 1 0).toNat + 2 * (fast.getD 2 0).toNat
  let out := g.any fun g => ovr || g.isOutside v
  let outCount := if out then x.outCount + 1 else 0
  let dwell := g.elim 0 fun g => g.dwell.toNat
  let trips := g.any Guard.en && out && decide (dwell ≤ outCount) && !x.tripped
  { x with
    rawWindow := raw, fast := fast, guardHist := ((v, ovr) :: x.guardHist).take 16,
    outside := out, outCount := outCount, inCount := if out then 0 else x.inCount + 1,
    tripDue := x.tripDue || trips }

/-! ## The scan -/

/-- What one input's turn in a scan gives: its new state, its sample for the rank filter, and whether its conversion was
overranged. `replace` says that the conversion before it in its bank was (R259).
DESIGN CHOICE, where the input has no valid sample yet: a replacement is the actual code with TR (log entry 125), and a bank under
trim feeds code 512 with TR (log entry 127). DESIGN CHOICE: a replacement after a range change and before a valid conversion in
the new range is the old range's sample as it was, not rescaled (log entry 126). -/
def State.scanInput (s : State) (v : ScanIn) (i : Chan) (replace : Bool) : Input × Sample × Bool :=
  let x := s.sense.input[i]
  let m := s.txn.live.params.mon[i]
  let b := bankOf i
  if s.sense.trimming[b] then (x, { code := x.lastValid.getD 512, ovr := false, tr := true }, false)
  else
    let suspended := s.sense.failed[b] || !s.power.isGood .mon || !s.power.isGood .ref
    let (code, ovr) := convertBall m v.mon[i] v.mong[b]
    let fromOld := rescale (x.lastValid.getD code) x.oldPgain x.oldCofs m
    let old := if x.lastValid.isSome then fromOld else (code, ovr)
    let settling := decide (0 < x.settling)
    let judged := if settling then old else (code, ovr)
    let sample : Sample :=
      if settling then { code := old.1, ovr := old.2, tr := true }
      else if replace then { code := x.lastValid.getD code, ovr := false, tr := true }
      else { code := code, ovr := ovr, tr := false }
    let valid := !settling && !replace && !ovr
    let x1 := { x with
      settling := x.settling - 1,
      lastValid := if valid then some code else x.lastValid,
      replaced := if replace && !settling then x.replaced + 1 else x.replaced }
    let h := m.rank.toNat
    let x2 := if suspended then { x1 with outCount := 0, inCount := 0, outside := false, tripDue := false, rawWindow := [], fast := [] }
      else x1.guardSample (s.txn.live.guard i) h judged.1 judged.2
    (x2, { sample with tr := sample.tr || suspended }, ovr)

/-- The frame in which the code of an input's turn reaches the monitor engine, 24 slots after it was sampled (R257). -/
def State.arrivalEpoch (s : State) (i : Chan) : BitVec 48 := s.clock.epoch + BitVec.ofNat 48 ((sampleSlot i + 24) / 64)

/-- A filter word enters the streams of the live plan, through port P1 (R287, R289). -/
def State.captureWord (s : State) (i : Chan) (word : BitVec 16) : State :=
  match s.plan with
  | none => s
  | some plan =>
    if plan.toList.any (fun st => st.mask.getLsbD i.val) && s.mem.capture.toList.any Capture.takes then
      let preset := (s.txn.live.params.mon[i]).preset
      s.setCaptures fun k c => c.take plan[k] i word preset (s.arrivalEpoch i) s.clock.clk
    else s

/-- One input's turn, through every path. -/
def State.scanOne (v : ScanIn) (acc : State × Bool) (i : Chan) : State × Bool :=
  let (s, replace) := acc
  let m := s.txn.live.params.mon[i]
  let (x, sample, ovr) := s.scanInput v i replace
  let window := pushWindow m.rank.toNat sample x.window
  let out : Sample :=
    { code := medianCode (window.map Sample.code), ovr := window.any Sample.ovr, tr := window.any Sample.tr }
  let (x1, word) := ({ x with window := window } : Input).decimate m out
  let x2 := x1.detect m out (s.theta i) (s.arrivalEpoch i)
  let s1 := { s with sense := { s.sense with input := s.sense.input.set i x2 } }
  (match word with
   | some w => s1.captureWord i w
   | none => s1, ovr)

/-- The inputs of a bank, in order. -/
def bankInputs (b : Bank) : List Chan := (List.finRange 64).filter fun i => bankOf i = b

/-- One bank's turn in a scan: the overrange of input 15 replaces input 0 of the scan that follows (R259). -/
def State.scanBank (v : ScanIn) (s : State) (b : Bank) : State :=
  let (s1, carry) := (bankInputs b).foldl (State.scanOne v) (s, s.sense.carry[b])
  { s1 with sense := { s1.sense with carry := s1.sense.carry.set b (carry && !s.sense.trimming[b]) } }

/-- MONITOR_SCAN (R257): every input converts, in an even frame, and feeds its paths; a channel away from nominal that has
lost sight retreats (R26). -/
def execMonitorScan (v : ScanIn) (s : State) : Host.Outcome State Fault Refusal :=
  if s.coreRuns && decide (s.clock.frame % 2 = 0) then .next ((List.finRange 4).foldl (State.scanBank v) s).loseSight
  else .next s

/-! ## Trips -/

/-- The channels that a guard's scope retreats (Table 8.5). -/
def State.scopeOf (s : State) (i : Chan) (scope : BitVec 2) (n : Chan) : Bool :=
  match scope.toNat with
  | 0 => s.linked n i
  | 1 => (List.finRange 64).any fun m => s.linked m i && bankOf m == bankOf n
  | _ => true

/-- An urgent RETREAT frame of the device (R375). -/
def urgentFrame (id : BitVec 12) : List Byte :=
  let body := [1] ++ leBytes 2 id.toNat
  body ++ [crc8 body]

/-- An urgent frame goes out on every live port but one (R31, R403, R404). -/
def State.sendUrgent (s : State) (frame : List Byte) (butPort : Option LinkPort) : State :=
  let goes (k : Fin 3) : Bool := s.portLive (linkPortOf k) && butPort.map portIndex != some k
  { s with chain := { s.chain with
      outUrgent := mapAll (fun k old => if goes k then some frame else old) s.chain.outUrgent
      line := mapAll (fun k l => if goes k then insertSet (.urgent frame) l else l) s.chain.line } }

/-- GUARD_TRIP (R29 to R31, R33, R274, R400): the scope retreats, RTR_N goes low for device and system scope, a system
scope sends an urgent frame, and a trip in probation calls for a roll-back. -/
def execGuardTrip (i : Chan) (s : State) : Host.Outcome State Fault Refusal :=
  let x := s.sense.input[i]
  match s.txn.live.guard i with
  | some g =>
    if !x.tripDue then .next s
    else
      let x1 := { x with tripDue := false, tripped := true, trippedSinceApply := true, inCount := 0 }
      let s1 := { s with sense := { s.sense with input := s.sense.input.set i x1 } }
      let s2 := (s1.retreat (s1.scopeOf i g.scope)).logEvent 1 (g.scope.zeroExtend 8) (BitVec.ofNat 16 i.val)
        (s1.txn.live.params.dev.guardTab.zeroExtend 48)
      let s3 := s2.raiseFor 0x18 fun p => (List.finRange 64).any fun n => s2.boundTo p n && s2.scopeOf i g.scope n
      let s4 := s3.fireCaptures fun st => st.trig == 0x18 && st.mask.getLsbD i.val
      let wide := decide (2 ≤ g.scope.toNat)
      let s5 := if wide then { s4 with pins := { s4.pins with rtrDrive := true } } else s4
      let s6 := if g.scope == 3 && s5.power.role != .standalone then
          let sent := s5.sendUrgent (urgentFrame (s5.deviceId.getD 0)) none
          { sent with chain := { sent.chain with urgentLeft := 2, urgentAt := s.clock.clk } }
        else s5
      let s7 := if s6.joined then
          (if s6.chain.sysProbation then { s6 with chain := { s6.chain with probtrip := 2 } } else s6)
        else if s6.txn.probation.isSome then { s6 with txn := { s6.txn with rollbackPending := true } }
        else s6
      .next s7.loseSight
  | none => .next s

/-- GUARD_REARM (R275): a tripped guard is armed again after DWELL consecutive samples inside. -/
def execGuardRearm (i : Chan) (s : State) : Host.Outcome State Fault Refusal :=
  let x := s.sense.input[i]
  match s.txn.live.guard i with
  | some g =>
    if x.tripped && decide (g.dwell.toNat ≤ x.inCount) then
      .next { s with sense := { s.sense with input := s.sense.input.set i { x with tripped := false } } }
    else .next s
  | none => .next s

/-! ## Results -/

/-- A result of a closed integration (R283, R284). -/
def Closing.result (c : Closing) (i : Chan) (met : Bool) : DetResult :=
  let den := c.n * 32767
  let sat := satInt (-8388608) 8388607
  let iv := sat (roundDiv (128 * c.iAcc) den)
  let qv := sat (roundDiv (128 * c.qAcc) den)
  { input := i, taint := c.taint, timeout := c.timeout, met := met, i := iv, q := qv,
    mag := sqrtRound (iv * iv + qv * qv).toNat, ph := phaseOf iv qv, n := c.n, epoch := c.epoch }

/-- A result enters the queue, whose oldest is dropped and counted when it is full (R423, R426). -/
def State.pushResult (s : State) (r : DetResult) : State :=
  let grown := s.tel.results ++ [r]
  if grown.length ≤ 4096 then { s with tel := { s.tel with results := grown } }
  else
    { s.bump 4 with tel := { s.tel with
        results := grown.drop 1, resultsDue := s.tel.resultsDue - 1, resultsLost := s.tel.resultsLost + 1 } }

/-- A closed integration is reported (R283, R285): event 0x19 when the result meets the condition and the one before it did
not. -/
def State.reportClosing (s : State) (i : Chan) (c : Closing) : State :=
  let x := s.sense.input[i]
  let m := s.txn.live.params.mon[i]
  let plain := c.result i false
  let above := decide (m.detThr.toNat ≤ plain.mag)
  let met := !c.taint && !c.timeout && (if m.detTdir = 0 then above else !above)
  let x1 := { x with closing := none, met := if c.taint || c.timeout then x.met else met }
  let s1 := State.pushResult { s with sense := { s.sense with input := s.sense.input.set i x1 } } { plain with met := met }
  if met && !x.met then
    let s2 := s1.raiseFor 0x19 fun p => (List.finRange 64).any fun n => s1.boundTo p n && s1.linked n i
    (s2.fireCaptures fun st => st.trig == 0x19 && st.mask.getLsbD i.val).logEvent 5 0 (BitVec.ofNat 16 i.val)
  else s1

/-- DETECTOR_CLOSE (R282, R283): an integration that closed after DETn_CYC passes is reported. -/
def execDetectorClose (i : Chan) (s : State) : Host.Outcome State Fault Refusal :=
  match (s.sense.input[i]).closing with
  | some c => if c.timeout then .next s else .next (s.reportClosing i c)
  | none => .next s

/-- DETECTOR_TIMEOUT (R282): one that closed at 2^26 samples is reported with the time-out flag. -/
def execDetectorTimeout (i : Chan) (s : State) : Host.Outcome State Fault Refusal :=
  match (s.sense.input[i]).closing with
  | some c => if c.timeout then .next (s.reportClosing i c) else .next s
  | none => .next s

end Sys2Proof.Machine
end

