-- ==== Sys2Proof/Machine/Records.lean ====
section
/-! DEFINITION. The records of the content image (R432 to R456): their header, their framing, the structure of each type's
body, and what a configuration record does to an image. -/

namespace Sys2Proof.Machine

/-! ## The header (Table 14.1) -/

/-- RTYPE. -/
def rtype (rec : List Byte) : Nat := fieldAt rec 0 1
/-- TAGGED. -/
def tagged (rec : List Byte) : Bool := (rec.getD 1 0).getLsbD 0
/-- BLEN. -/
def blen (rec : List Byte) : Nat := fieldAt rec 4 4
/-- INDEX. -/
def recIndex (rec : List Byte) : Nat := fieldAt rec 8 2
/-- The body. -/
def recBody (rec : List Byte) : List Byte := slice rec 12 (blen rec)
/-- The record tag, when there is one (R460). -/
def recTag (rec : List Byte) : List Byte := slice rec (12 + blen rec) 32

/-- The record types that are not reserved (Table 14.2). -/
def knownTypes : List Nat :=
  [0x01, 0x02, 0x03, 0x10, 0x11, 0x20, 0x21, 0x22, 0x23, 0x24, 0x25, 0x26, 0x27, 0x30]

/-- Whether a type is a configuration record (R434). -/
def isConfigType (t : Nat) : Bool := decide (0x10 ≤ t) && decide (t ≤ 0x27)

/-- The values of BLEN that Table 14.2 gives a type; `sealedImage` is IFLAGS[0] of the image's HEADER, none outside an image. -/
def blenOk (sealedImage : Option Bool) (t n : Nat) : Bool :=
  match t with
  | 0x01 => n == 24
  | 0x02 => match sealedImage with
    | some b => n == (if b then 32 else 0)
    | none => n == 0 || n == 32
  | 0x03 => n == 48
  | 0x10 => n % 12 == 0 && decide (12 ≤ n) && decide (n ≤ 12 * 5462)
  | 0x11 => n % 12 == 0 && decide (n ≤ 12 * 5462)
  | 0x20 => n % 16 == 0 && decide (n ≤ 16 * 1024)
  | 0x21 | 0x22 => n == 0 || n == 8192
  | 0x23 => n == 0 || n == 1024
  | 0x24 => n == 0 || n == 256
  | 0x25 => n == 0 || n == 128
  | 0x26 => n == 0 || n == 192
  | 0x27 => n == 520
  | 0x30 => n % 8 == 0 && decide (16 ≤ n) && decide (n ≤ 16 + 8 * 8192)
  | _ => false

/-- Row 1 of Table 14.3: the framing that the 12 bytes of a header show. -/
def framingOk (inImage : Bool) (sealedImage : Option Bool) (rec : List Byte) : Bool :=
  let t := rtype rec
  knownTypes.contains t && fieldAt rec 2 1 == 1 && decide (fieldAt rec 1 1 < 2) && fieldAt rec 3 1 == 0 &&
    fieldAt rec 10 2 == 0 && blenOk sealedImage t (blen rec) && !(tagged rec && (inImage || t == 0x03))

/-- Row 2 of Table 14.3: the CRC over every byte before it (R433). -/
def crcOk (rec : List Byte) : Bool :=
  let n := rec.length - 4
  fieldAt rec n 4 == (crc32 (rec.take n)).toNat

/-! ## Seals -/

/-- The HMAC-SHA-256 under the device's key; none for a blank key (R459, R460). -/
def Power.tagOf (p : Power) (msg : List Byte) : Option (List Byte) := p.key.map fun k => hmac k msg

/-- Row 3 of Table 14.3, after bring-up (R460, R461, R463). -/
def State.tagOk (s : State) (rec : List Byte) : Bool :=
  !s.power.sealOn || (tagged rec && s.power.tagOf (rec.take (12 + blen rec)) == some (recTag rec))

/-! ## Bodies -/

/-- The entries of a BASE or OVERLAY body (Table 14.5). -/
def patchesOf (body : List Byte) : List Patch :=
  (List.range (body.length / 12)).map fun k =>
    { pid := BitVec.ofNat 16 (fieldAt body (12 * k) 2), pidx := BitVec.ofNat 8 (fieldAt body (12 * k + 2) 1)
      value := BitVec.ofNat 64 (fieldAt body (12 * k + 4) 8) }

/-- Whether an entry keeps structure (R445). -/
def patchOk (body : List Byte) (k : Nat) : Bool :=
  fieldAt body (12 * k + 3) 1 == 0 &&
    match paramRow (fieldAt body (12 * k) 2) with
    | some r => decide (fieldAt body (12 * k + 2) 1 < r.instances) && decide (fieldAt body (12 * k + 4) 8 < 2 ^ r.width)
    | none => false

/-- The steps of a PROGRAM body (R447). -/
def stepsOf (body : List Byte) : List Step :=
  (List.range (body.length / 16)).map fun k => BitVec.ofNat 128 (fieldAt body (16 * k) 16)

/-- The 16-bit entries of a body. -/
def wordsOf (body : List Byte) : List (BitVec 16) :=
  (List.range (body.length / 2)).map fun k => BitVec.ofNat 16 (fieldAt body (2 * k) 2)

/-- The 10-bit entries of a TONE TABLE or MARGIN TABLE body (R448, R449). -/
def codesOf (body : List Byte) : List Code := (wordsOf body).map fun w => w.extractLsb' 0 10

/-- A guard entry (Table 14.6). -/
def guardOf (w : BitVec 32) : Guard :=
  { lo := w.extractLsb' 0 10, hi := w.extractLsb' 10 10, dwell := w.extractLsb' 20 5, scope := w.extractLsb' 25 2
    en := w.getLsbD 27 }

/-- The word of guard entry `j`. -/
def guardWord (body : List Byte) (j : Nat) : BitVec 32 := BitVec.ofNat 32 (fieldAt body (4 * j) 4)

/-- A drive channel's entry of the LINK MAP body (R452). -/
def linkOfBody (body : List Byte) (n : Chan) : Link :=
  let mon := fieldAt body (2 * n.val) 1
  { mon := if h : mon < 64 then some ⟨mon, h⟩ else none, rail := ⟨fieldAt body (2 * n.val + 1) 1 % 64, by omega⟩ }

/-- Whether a LINK MAP entry keeps structure. -/
def linkOk (body : List Byte) (n : Nat) : Bool :=
  let mon := fieldAt body (2 * n) 1
  (decide (mon < 64) || mon == 0xFF) && decide (fieldAt body (2 * n + 1) 1 < 64)

/-- A stream of the CAPTURE PLAN body (Table 14.7). -/
def streamOf (body : List Byte) (k : Nat) : CapStream :=
  { mask := BitVec.ofNat 64 (fieldAt body (24 * k) 8), ring := BitVec.ofNat 16 (fieldAt body (24 * k + 8) 2)
    trig := BitVec.ofNat 8 (fieldAt body (24 * k + 10) 1), pre := BitVec.ofNat 16 (fieldAt body (24 * k + 12) 2)
    post := BitVec.ofNat 32 (fieldAt body (24 * k + 16) 4) }

/-- Whether a stream keeps structure (R453). -/
def streamOk (body : List Byte) (k : Nat) : Bool :=
  let e := slice body (24 * k) 24
  fieldAt e 11 1 == 0 && fieldAt e 14 2 == 0 && fieldAt e 20 4 == 0 && (fieldAt e 0 8 != 0 || allZero e)

/-- The budgets of a rail in a BUDGETS body (R454). -/
def budgetOf (body : List Byte) (r : Nat) : BitVec 32 × BitVec 32 :=
  (BitVec.ofNat 32 (fieldAt body (8 + 8 * r) 4), BitVec.ofNat 32 (fieldAt body (12 + 8 * r) 4))

/-- Whether a BUDGETS body keeps structure, against the budgets that it would replace, when there are any (R454, R455). -/
def budgetsOk (body : List Byte) (cur : Option Image) : Bool :=
  let flags := fieldAt body 0 4
  let raises := match cur with
    | none => false
    | some img => (List.finRange 64).any fun r =>
        decide ((img.budgets[r]).1.toNat < (budgetOf body r.val).1.toNat) ||
        decide ((img.budgets[r]).2.toNat < (budgetOf body r.val).2.toNat)
  decide (flags < 2) && fieldAt body 4 4 == 0 && (flags == 1 || !raises)

/-- Whether a chunk body keeps structure (R457). -/
def chunkOk (body : List Byte) : Bool :=
  let start := fieldAt body 0 1
  let off := fieldAt body 4 4
  let len := fieldAt body 8 4
  let ns := fieldAt body 12 4
  let w := (ns + 5) / 6
  let last := lineWord (body.drop 16) (w - 1)
  let used := ns - 6 * (w - 1)
  decide (start < 2) && allZero (slice body 1 3) && off % 48 == 0 &&
    (if start = 1 then off == 0 && len != 0 else len == 0) &&
    body.length == 16 + 8 * w && decide (ns ≤ 49152) &&
    (ns == 0 || (last.extractLsb' 0 60 >>> (10 * used)) == 0)

/-- Row 5 of Table 14.3 for a record other than HEADER and END: INDEX and the body's own rules. `cur` gives the budgets that
a BUDGETS record is compared with. -/
def structureOk (rec : List Byte) (cur : Option Image) : Bool :=
  let i := recIndex rec
  let body := recBody rec
  match rtype rec with
  | 0x03 => i == 0 && !allZero (slice body 0 32) && fieldAt body 40 8 == 0
  | 0x10 => i == 0 && (List.range (body.length / 12)).all (patchOk body)
  | 0x11 => decide (i < 24) && (List.range (body.length / 12)).all (patchOk body)
  | 0x20 => decide (i < 16) && (stepsOf body).all Step.sound
  | 0x21 => decide (i < 8) && (wordsOf body).all fun w => w.toNat < 1024
  | 0x22 => decide (i < 16) && (wordsOf body).all fun w => w.toNat < 1024
  | 0x23 => decide (2 ≤ i) && decide (i < 8)
  | 0x24 => decide (i < 8) && (List.range (body.length / 4)).all fun j => (guardWord body j).toNat < 2 ^ 28
  | 0x25 => i == 0 && (List.range (body.length / 2)).all (linkOk body)
  | 0x26 => i == 0 && (List.range (body.length / 24)).all (streamOk body)
  | 0x27 => i == 0 && budgetsOk body cur
  | 0x30 => decide (1 ≤ i) && chunkOk body
  | _ => i == 0

/-! ## What configuration records do (R437, R438, R446 to R454) -/

/-- BASE (R446): the listed parameters are set. -/
def Image.takeBase (img : Image) (body : List Byte) : Image := { img with params := img.params.patched (patchesOf body) }

/-- OVERLAY (R446): the overlay's patch list is replaced. -/
def Image.takeOverlay (img : Image) (i : Nat) (body : List Byte) : Image :=
  { img with overlays := mapAll (fun k (o : List Patch) => if k.val = i then patchesOf body else o) img.overlays }

/-- PROGRAM (R447); an empty body deletes the program (R438). -/
def Image.takeProgram (img : Image) (i : Nat) (body : List Byte) : Image :=
  { img with programs := mapAll (fun k (o : List Step) => if k.val = i then stepsOf body else o) img.programs }

/-- TONE TABLE (R448). -/
def Image.takeTone (img : Image) (i : Nat) (body : List Byte) : Image :=
  let tab := if body.isEmpty then none else some (codesOf body)
  { img with tones := mapAll (fun k (o : Option (List Code)) => if k.val = i then tab else o) img.tones }

/-- MARGIN TABLE (R449). -/
def Image.takeMargin (img : Image) (i : Nat) (body : List Byte) : Image :=
  let tab := if body.isEmpty then none else some (codesOf body)
  { img with margins := mapAll (fun k (o : Option (List Code)) => if k.val = i then tab else o) img.margins }

/-- COEFFICIENT SET (R450): sets 2 to 7. -/
def Image.takeCset (img : Image) (i : Nat) (body : List Byte) : Image :=
  let set := if body.isEmpty then none else some (wordsOf body)
  { img with csets := mapAll (fun k (o : Option (List (BitVec 16))) => if k.val + 2 = i then set else o) img.csets }

/-- GUARD TABLE (R451). -/
def Image.takeGuards (img : Image) (i : Nat) (body : List Byte) : Image :=
  let tab : Option (Vector Guard 64) :=
    if body.isEmpty then none else some (Vector.ofFn fun j => guardOf (guardWord body j.val))
  { img with guards := mapAll (fun k (o : Option (Vector Guard 64)) => if k.val = i then tab else o) img.guards }

/-- LINK MAP (R452); an empty body restores the default map (R438). -/
def Image.takeLinks (img : Image) (body : List Byte) : Image :=
  { img with links := if body.isEmpty then defaultLinks else Vector.ofFn (linkOfBody body) }

/-- CAPTURE PLAN (R453); an empty body removes the plan (R438). -/
def Image.takePlan (img : Image) (body : List Byte) : Image :=
  { img with plan := if body.isEmpty then none else some (Vector.ofFn fun k => streamOf body k.val) }

/-- BUDGETS (R454). -/
def Image.takeBudgets (img : Image) (body : List Byte) : Image :=
  { img with budgets := Vector.ofFn fun r => budgetOf body r.val }

/-- What a configuration record does to the image that it reaches (R437). -/
def Image.take (img : Image) (rec : List Byte) : Image :=
  let i := recIndex rec
  let body := recBody rec
  match rtype rec with
  | 0x10 => img.takeBase body
  | 0x11 => img.takeOverlay i body
  | 0x20 => img.takeProgram i body
  | 0x21 => img.takeTone i body
  | 0x22 => img.takeMargin i body
  | 0x23 => img.takeCset i body
  | 0x24 => img.takeGuards i body
  | 0x25 => img.takeLinks body
  | 0x26 => img.takePlan body
  | 0x27 => img.takeBudgets body
  | _ => img

/-! ## The shadow (R141, R142) -/

/-- The shadow that configuration records patch: that of an open transaction. -/
def State.openImage (s : State) : Option Image := if s.txn.state = .opened then s.txn.shadow else none

/-- The shadow patched by a record whose last byte was accepted in frame `arrived`. One of the present frame is undone when the
transaction closes in this frame (R142). -/
def Txn.patch (t : Txn) (img : Image) (rec : List Byte) (arrived now : Nat) : Txn :=
  let fresh := if arrived < now then t.fresh
    else match t.fresh with
      | some f => if f.clk = now then some { f with refused := f.refused ++ [objRecord (rtype rec)] }
        else some { clk := now, image := img, refused := [objRecord (rtype rec)] }
      | none => some { clk := now, image := img, refused := [objRecord (rtype rec)] }
  { t with shadow := some (img.take rec), fresh := fresh }

/-- A record of the content port after bring-up other than a chunk, sound in rows 1 and 2: rows 3 to 6 of Table 14.3 (R141). -/
def State.takeConfig (s : State) (rec : List Byte) (arrived : Nat) : State :=
  let t := rtype rec
  let obj := BitVec.ofNat 16 t
  if !s.tagOk rec then s.logEvent 0x0F 0 obj
  else if !isConfigType t || !structureOk rec s.openImage then s.logEvent 0x0E 0 obj
  else
    match s.openImage with
    | some img => { s with txn := s.txn.patch img rec arrived s.clock.clk }
    | none => s.outcome 6 (objRecord t)

/-- The configuration records that stand whole in the content buffer from offset `off` on, and whose last bytes were accepted before
this frame, patch the shadow before it is frozen (R142). A chunk that waits before them is passed over, and a record that rows 1
and 2 of Table 14.3 refuse, after which the parser trusts nothing, ends them (R436). `fuel` bounds their number. -/
def State.drainRecords : Nat → State → Nat → State
  | 0, s, _ => s
  | fuel + 1, s, off =>
    match recordLength (s.port.stream.drop off) with
    | none => s
    | some n =>
      let one := slice s.port.stream off n
      if s.port.stream.length < off + n ∨ s.clock.clk ≤ arrivedAt (off + n) s.port.arrived ∨
          !framingOk false none one ∨ !crcOk one then s
      else if rtype one = 0x30 then State.drainRecords fuel s (off + n)
      else
        let s1 := State.settlePause { s with port := s.port.cut off n }
        State.drainRecords fuel (s1.takeConfig one 0) off

/-- The shadow as the closing command freezes it (R142): with every record accepted before this frame, and without those accepted in
it, which are refused. -/
def State.freezeShadow (s : State) : State :=
  if s.txn.state ≠ .opened then s
  else
    let s1 := match s.txn.fresh with
      | some f =>
        if f.clk = s.clock.clk then
          f.refused.foldl (fun (s : State) o => s.outcome 6 o) { s with txn := { s.txn with shadow := some f.image } }
        else s
      | none => s
    let s2 := if s1.portRuns then State.drainRecords (s1.port.stream.length / 16 + 1) s1 0 else s1
    { s2 with txn := { s2.txn with fresh := none } }

end Sys2Proof.Machine
end

