-- ==== Sys2Proof/Machine/Txn.lean ====
section
/-! DEFINITION. Transactions (Tables 5.2, 12.6): opening, closing and validating, the apply, the roll-back and probation. -/

namespace Sys2Proof.Machine

/-! ## Shared steps -/

/-- The base and overlays that a shadow copies: the live ones, and in the power-up state those that the boot image built
(R124, R140, R469). -/
def State.baseImage (s : State) : Image := if s.power.powerUp then s.txn.boot else s.txn.live.image

/-- A transaction opens (R140): the shadow is a copy, and the time-out count starts at 0 (R145). -/
def State.openShadow (s : State) : State :=
  { s with txn := { s.txn with
      state := .opened, shadow := some s.baseImage, fresh := none, verdict := none, validated := false, count := 0,
      limit := s.txn.live.params.dev.txnTimeout } }

/-- A transaction closes and its validation begins (R143, R146, R147): the shadow is frozen, an open one fences the merge
buffer, DRAM that the configuration needs is woken, the state of this frame is judged, sight included (R14), and the heads of
segments that are not yet resident are asked for (R304). -/
def State.closeShadow (s : State) (mode : BitVec 3) (var : BitVec 2) (stable : Bool) (fence : List LineErrs) : State :=
  let frozen := s.freezeShadow
  let img := frozen.txn.shadow.getD frozen.baseImage
  let cfg := img.configure mode var
  let s1 := if frozen.txn.state = .opened then frozen.fence (some fence) else frozen
  let s2 := if cfg.needsDram then { s1 with mem := s1.mem.wake } else s1
  let s3 := { s2 with txn := { s2.txn with
      state := .pending, shadow := some img, selMode := modeTaken mode, selVar := var,
      verdict := some (s2.validate cfg stable), validated := false, closedAt := s2.clock.clk
      seen := Vector.ofFn (s2.hasSightUnder cfg) } }
  if s3.dramUsable then s3.loadHeads cfg else s3

/-- The next TXID (R430, Table 12.3). -/
def State.raiseTxid (s : State) : State := { s with txn := { s.txn with txid := s.txn.txid + 1 } }

/-! ## TX pulses -/

/-- The frames for which a pin's filtered level was high at the end of its filtered levels, given newest first (R84): a level
that a lock set high, and that they do not show to have been low since, counts from that frame (R83). `now` is the frame
after the last of them. -/
def Pins.highFrames (p : Pins) (pin : TxPin) (newest : List Bool) (now : Nat) : Nat :=
  let run := (newest.takeWhile id).length
  match p.txHigh[txIndex pin] with
  | some c => if run = newest.length then now - c else run
  | none => run

/-- The frames for which a pin's filtered level has been high, the present frame included (R85). -/
def State.txHighFor (s : State) (pin : TxPin) (samples : List Bool) : Nat :=
  s.pins.highFrames pin (filtered samples).reverse (s.clock.clk + 1)

/-- The width of the pulse that a pin's samples end in the present frame (R84); 0 where its filtered level does not fall in
it. -/
def State.txWidth (s : State) (pin : TxPin) (samples : List Bool) : Nat :=
  match (filtered samples).reverse with
  | false :: before => s.pins.highFrames pin before s.clock.clk
  | _ => 0

/-- Whether a TX pulse is recognised and acted on at all (R84, R85, R113). -/
def State.hears (s : State) (pin : TxPin) (samples : List Bool) : Bool :=
  s.isUp && s.watchesPins && !s.pins.stuck[txIndex pin] && decide (3 ≤ s.txWidth pin samples) &&
    decide (s.txWidth pin samples ≤ 65535)

/-- A pin whose filtered level the samples show low no longer counts from a lock (R83). -/
def State.txFalls (s : State) (pin : TxPin) (samples : List Bool) : State :=
  if s.watchesPins && (filtered samples).getLast? == some false then
    { s with pins := { s.pins with txHigh := s.pins.txHigh.set (txIndex pin) none } }
  else s

/-- A TX pulse is ignored, with outcome 0x05 naming the pin (R87, R430). -/
def State.ignorePulse (s : State) (pin : TxPin) : State := s.outcome 5 noObj (BitVec.ofNat 8 ((txIndex pin).val + 1))

/-- Whether the pin's pulse gives way to another of the same frame: TXA, TXC, TXB in that order (R87). -/
def givesWay (pin : TxPin) (others : List TxPin) : Bool :=
  match pin with
  | .txa => false
  | .txc => others.contains .txa
  | .txb => others.contains .txa || others.contains .txc

/-- Whether the device ignores its own TXB and TXC: it is joined and not the root (R157). An island, too, is joined in this
sense (log entry 82). -/
def State.followsRoot (s : State) : Bool := s.joined && !s.isRoot

/-- Whether a system transaction is open or voting, as far as the device knows (R160): from the root's own pulse, and elsewhere
from TXOPEN and PREPARE. -/
def State.sysRuns (s : State) : Bool := s.joined && (s.chain.txopen || s.chain.voting || s.txn.state != .idle)

/-! ## The pulses -/

/-- TXB (R140, R143, R158). The root opens the system transaction and its own shadow with the sync frame of the next
boundary; a system transaction that it has vetoed stays open until its ABORT is sent (log entry 108). -/
def execTxb (samples : List Bool) (others : List TxPin) (s : State) : Host.Outcome State Fault Refusal :=
  let t := s.txFalls .txb samples
  if !s.hears .txb samples then .next t
  else if givesWay .txb others || t.followsRoot || t.txn.state != .idle || t.chain.openDue ||
      t.chain.rootCmd == .sendAbort then
    .next (t.ignorePulse .txb)
  else
    let s1 := t.raiseTxid
    if s1.isRoot then .next { s1 with chain := { s1.chain with txopen := true, openDue := true } }
    else .next s1.openShadow

/-- TXC (R143, R146, R159): the transaction closes, or an implicit one of the live configuration begins. The root's OPEN that
is due goes out first, at the next boundary (R158, log entry 114). -/
def execTxc (samples : List Bool) (others : List TxPin) (obs : PinObs) (s : State) : Host.Outcome State Fault Refusal :=
  let t := s.txFalls .txc samples
  if !s.hears .txc samples then .next t
  else if givesWay .txc others || t.followsRoot || t.txn.state == .pending ||
      t.chain.rootCmd == .sendAbort then .next (t.ignorePulse .txc)
  else
    let s1 := t.observe obs
    let s2 := if s1.txn.state = .opened ∨ s1.chain.openDue then s1 else s1.raiseTxid
    .next (s2.closeShadow s2.pins.mode s2.pins.var (s2.pinsStable obs) obs.fence)

/-- TXA (R143, R160): the shadow is discarded with outcome 0x01; in a joined system that vetoes the system transaction that is
open or voting, even where this device's own shadow is gone. The root's ABORT takes the place of an OPEN that is due. -/
def execTxa (samples : List Bool) (_others : List TxPin) (s : State) : Host.Outcome State Fault Refusal :=
  let t := s.txFalls .txa samples
  if !s.hears .txa samples then .next t
  else if t.sysRuns && !t.chain.island then
    let s1 := if t.txn.state = .idle then t.outcome 1 else t.discard 1
    .next (State.holdVeto { s1 with chain := { s1.chain with openDue := false } } 1)
  else if t.txn.state = .idle then .next (t.ignorePulse .txa)
  else .next ((t.discard 1).holdVeto 1)

/-! ## Validation completes -/

/-- VALIDATION_DONE (R148, R345): a shadow that passed is validated, its segments become resident and the counters that its
bounds make due are queued; the root then sends PREPARE. One that failed is discarded with the check's code and object, and
in a joined system vetoes. Validation begins when the commit fence is over (R143). -/
def execValidationDone (s : State) : Host.Outcome State Fault Refusal :=
  if !s.fenceOver then .next s else
  match s.txn.state, s.txn.verdict with
  | .pending, some .pass =>
    let s1 := { s with txn := { s.txn with verdict := none, validated := true } }
    let s2 := s1.setResident
    let s3 := { s2 with ledger := s2.ledger.queueDue s2.wideBounds }
    let s4 := s3.ledgerNext
    if s4.joined && s4.isRoot && !s4.chain.voting then .next { s4 with chain := { s4.chain with rootCmd := .sendPrepare } }
    else .next s4
  | .pending, some (.fail code obj) => .next ((s.discard code obj).holdVeto code)
  | _, _ => .next s

/-! ## The boundary's rows 3 to 6 -/

/-- The channels that outcome 0x00 marks: held at nominal for want of sight (R151), or bound and left released (R150). -/
def State.markedChannels (s : State) : BitVec 64 :=
  (List.finRange 64).foldl (fun m n =>
    let c := s.chan[n]
    let bound := (List.finRange 16).any fun p => s.boundTo p n
    if (s.txn.leave[n] && !c.released && c.heldNominal) || (bound && c.released) then m ||| (1#64 <<< n.val) else m) 0

/-- The transaction is over, and with it the vote and the veto of its TXID. A COMMIT that the root has sent stays noted until its
boundary (R398). -/
def State.endTxn (s : State) : State :=
  let s1 := s.closeTxn
  { s1 with chain := { s1.chain with txopen := false, voting := false, sincePrepare := none, veto := none } }

/-- The validated shadow becomes live and probation starts, in a joined system the system's own (R151, R153, R154). -/
def State.takeApply (s : State) : State :=
  let s0 := { s with txn := { s.txn with due := { s.txn.due with apply := false } } }
  match s.txn.shadow with
  | some img =>
    let s1 := s0.takeEffect (img.configure s.txn.selMode s.txn.selVar) true
    let s2 := { s1 with
      txn := { s1.txn with probation := if s1.followsRoot then none else some 0, rollbackPending := false }
      chain := { s1.chain with sysProbation := s1.joined, diverged := false } }
    (s2.outcome 0 noObj 0 s2.markedChannels).endTxn.setResident
  | none => s0

/-- Last-good becomes live with outcome 0x08 (R33 to R35, R155): an open or pending transaction is discarded with 0x04, and no
probation starts. -/
def State.takeRollback (s : State) : State :=
  let s0 := (s.discard 4).endTxn
  let s1 := { s0 with txn := { s0.txn with due := { s0.txn.due with rollback := false }, rollbackPending := false, probation := none } }
  let s2 := match s1.txn.lastGood with
    | some cfg => s1.takeEffect cfg false
    | none => s1.toPowerUp
  State.outcome { s2 with chain := { s2.chain with sysProbation := false, rollbackDue := false, diverged := false } } 8

/-- The live configuration becomes last-good (R152, R153). -/
def State.endProbation (s : State) : State :=
  State.setResident { s with
    txn := { s.txn with
      lastGood := some s.txn.live, probation := none, due := { s.txn.due with probationEnd := false } }
    chain := { s.chain with sysProbation := false } }

/-- The open transaction is discarded with outcome 0x02 (R145); the root then sends ABORT, in the sync frame of this same
boundary (R161, log entry 115). -/
def State.timeOutTxn (s : State) : State :=
  let s1 := s.discard 2
  let s2 := if s1.joined then s1.holdVeto 2 else s1
  { s2 with txn := { s2.txn with due := { s2.txn.due with txnTimeout := false } } }

end Sys2Proof.Machine
end

