-- ==== Sys2Proof/Machine/Chain.lean ====
section
/-! DEFINITION. The Bolnos chain (R367 to R406): sync, return, urgent, measure and echo frames, enumeration, alignment,
islands, the system transaction at the root, and the Causeway. -/

namespace Sys2Proof.Machine

/-! ## Duties -/

/-- Whether JOIN lies behind the device (R128). -/
def State.pastJoin (s : State) : Bool :=
  s.power.role != .standalone && (s.power.stage == .trimWait || s.isUp) && s.coreRuns

/-- Whether the core is live on the chain (R405). -/
def State.coreLive (s : State) : Bool := s.pastJoin && s.power.mandatoryGood

/-- Whether the device is a ROOT in its JOIN stage: its own core sends the sync frames (R382) and it counts itself (R381). Log
entry 100. -/
def State.rootJoins (s : State) : Bool := s.isRoot && s.power.stage == .join && s.coreRuns

/-- Whether the device counts in LIVE (R381). -/
def State.countsLive (s : State) : Bool := s.rootJoins || (s.chain.id.isSome && !s.chain.island && s.coreLive)

/-- Whether the Causeway carries the chain duties: the core is not live (R405), and no ROOT in its JOIN stage drives them
itself. -/
def State.wayCarries (s : State) : Bool := s.chain.causeway && !s.rootJoins

/-! ## Reception -/

/-- The bytes of a frame as received: inserted sets are removed (R371). -/
def rxBytes (items : List RxItem) : List Byte :=
  items.filterMap fun x => match x with
    | .byte b => some b
    | .inserted _ | .codeError => none

/-- Whether a frame came with no code error (R370, R372). -/
def rxClean (items : List RxItem) : Bool := !items.contains .codeError

/-- A frame or set is discarded for its CRC, its length or a code error, and counted while the core runs (R370, R372). -/
def State.countBad (s : State) : State := if s.coreRuns then s.bump 6 else s

/-! ## Sync frames -/

/-- The bytes of a sync frame. -/
def SyncRx.bytes (f : SyncRx) : List Byte := rxBytes f.items

/-- Whether a sync frame passes R372. -/
def SyncRx.sound (f : SyncRx) : Bool :=
  rxClean f.items && (SyncRx.bytes f).length == 28 && fieldAt (SyncRx.bytes f) 24 4 == (crc32 ((SyncRx.bytes f).take 24)).toNat

/-- KIND of a sync frame (Table 12.3). -/
def SyncRx.kind (f : SyncRx) : BitVec 2 := BitVec.ofNat 2 (fieldAt (SyncRx.bytes f) 16 1)

/-- EPOCH of a sync frame. -/
def SyncRx.epoch (f : SyncRx) : BitVec 48 := BitVec.ofNat 48 (fieldAt (SyncRx.bytes f) 2 6)

/-- CMD of a sync frame. -/
def SyncRx.cmd (f : SyncRx) : Nat := fieldAt (SyncRx.bytes f) 8 1

/-- TXID of a sync frame. -/
def SyncRx.txid (f : SyncRx) : Byte := BitVec.ofNat 8 (fieldAt (SyncRx.bytes f) 9 1)

/-- PROB, flag 0, and TXOPEN, flag 1. -/
def SyncRx.flag (f : SyncRx) (k : Nat) : Bool := ((SyncRx.bytes f).getD 1 0).getLsbD k

/-- ACC of a sync frame. -/
def SyncRx.acc (f : SyncRx) : Nat := fieldAt (SyncRx.bytes f) 18 4

/-- Frame count at the device's own boundary of the present tick. -/
def State.boundaryEpoch (s : State) : BitVec 48 := s.clock.epoch - BitVec.ofNat 48 s.clock.frame

/-- Whether a sync frame is valid for the present boundary (R390): FTYPE and KIND are defined, it arrives within 256 frames of the
boundary, and after JOIN its EPOCH is the device's. An island accepts any EPOCH (R392). In JOIN, a device that has not aligned yet
has no boundary of the root's to judge by (log entry 54). -/
def State.syncValid (s : State) (f : SyncRx) : Bool :=
  let unplaced := s.power.stage == .join && !s.chain.aligned
  SyncRx.sound f && fieldAt (SyncRx.bytes f) 0 1 == 1 && SyncRx.kind f != 3 &&
    (unplaced || (decide (0 ≤ f.arrivalPs) && decide (f.arrivalPs ≤ 20971520))) &&
    (!s.pastJoin || s.chain.island || SyncRx.epoch f == s.boundaryEpoch)

/-- d_A: the mean of the latest 16 samples, valid once 16 exist (R385). -/
def Chain.delayA (c : Chain) : Option Int := if c.delays.length = 16 then some (c.delays.sum / 32) else none

/-- The bytes of a sync frame (Table 12.3). -/
def syncBytes (flags : Nat) (epoch : BitVec 48) (cmd : Nat) (txid mv se : Byte) (enumcnt : BitVec 16)
    (spine tooth kind : Nat) (acc : Nat) : List Byte :=
  let body := leBytes 1 1 ++ leBytes 1 flags ++ leBytes 6 epoch.toNat ++ leBytes 1 cmd ++ [txid, mv, se] ++
    leBytes 2 enumcnt.toNat ++ leBytes 1 spine ++ leBytes 1 tooth ++ leBytes 1 kind ++ leBytes 1 0 ++ leBytes 4 acc ++
    leBytes 2 0
  body ++ leBytes 4 (crc32 body).toNat

/-- A received sync frame with the sender's own position and ACC (R380, R386); the CRC of a frame whose CRC failed is the
complement (R372). -/
def resend (f : SyncRx) (spine tooth kind acc : Nat) : List Byte :=
  let body := (SyncRx.bytes f).take 14 ++ leBytes 1 spine ++ leBytes 1 tooth ++ leBytes 1 kind ++ slice (SyncRx.bytes f) 17 1 ++
    leBytes 4 acc ++ slice (SyncRx.bytes f) 22 2
  let crc := crc32 body
  body ++ leBytes 4 (if SyncRx.sound f then crc else ~~~crc).toNat

/-- A sync frame forwarded on B and C (R380, R386, R405): by the core with its own indices, by the Causeway with those that
KIND lets it infer. The Causeway keeps its frame count and its depth from the sound frames that it forwards. -/
def State.forwardSync (s : State) (f : SyncRx) : State :=
  let way := s.wayCarries
  let spineLike := if way then SyncRx.kind f == 0 else s.power.role == .spine
  let spine := if way then fieldAt (SyncRx.bytes f) 14 1 + (if spineLike then 1 else 0) else s.chain.spine.toNat
  let tooth := if way then (if spineLike then 0 else fieldAt (SyncRx.bytes f) 15 1 + 1) else s.chain.tooth.toNat
  let bound : Nat := if way then 6000 else 40000
  let wait : Int := (s.chain.delayA).getD (Config.freeDelay s.freeCount)
  let acc (k : Nat) : Nat := ((SyncRx.acc f : Int) + wait + (min (Config.freeDelay (s.freeCount + k)) bound : Nat)).toNat % 2 ^ 32
  let onB := resend f (spine % 256) (tooth % 256) (if spineLike then 0 else 2) (acc 1)
  let onC := resend f (spine % 256) 0 1 (acc 2)
  let sendB := s.portLive .b
  let sendC := s.portLive .c && spineLike
  let out : Vector (Option (List Byte)) 2 := Vector.ofFn fun k =>
    if k = 0 then (if sendB then some onB else s.chain.outSync[0]) else if sendC then some onC else s.chain.outSync[1]
  let count := SyncRx.epoch f + BitVec.ofNat 48 (((SyncRx.acc f : Int) + wait) / 81920).toNat
  let keeps := way && SyncRx.sound f
  { s with
    freeCount := s.freeCount + 3
    chain := { s.chain with
      outSync := out
      wayBase := if keeps then some (count - BitVec.ofNat 48 s.clock.clk) else s.chain.wayBase
      wayDepth := if keeps then spine % 64 + tooth % 64 else s.chain.wayDepth } }

/-! ## Enumeration -/

/-- The indices that Table 12.5 derives; none where enumeration refuses the device (R378). -/
def deriveIndex (role : Role) (v spine tooth : Nat) (kind : BitVec 2) : Option (Nat × Nat) :=
  let next (received : Nat) : Option Nat :=
    if v = 0 then some (received + 1) else if received < v then some v else none
  let made : Option (Nat × Nat) := match role with
    | .spine => if kind = 0 then (next spine).map fun i => (i, 0) else none
    | .tooth => if kind = 1 ∨ kind = 2 then (next tooth).map fun j => (spine, j) else none
    | _ => none
  made.filter fun x => decide (x.1 ≤ 63) && decide (x.2 ≤ 63)

/-- The index fields of a valid sync frame in JOIN (R377, R378): two that agree in a row give the ID. -/
def State.judgeIndex (s : State) (f : SyncRx) : State :=
  let spine := BitVec.ofNat 8 (fieldAt (SyncRx.bytes f) 14 1)
  let tooth := BitVec.ofNat 8 (fieldAt (SyncRx.bytes f) 15 1)
  let now := (spine, tooth, SyncRx.kind f)
  if s.chain.id.isSome then s
  else if s.chain.lastIndex = some now then
    match deriveIndex s.power.role s.power.idOverride spine.toNat tooth.toNat (SyncRx.kind f) with
    | some (i, j) =>
      { s with chain := { s.chain with
          spine := BitVec.ofNat 8 i, tooth := BitVec.ofNat 8 j, id := some (BitVec.ofNat 12 (i * 64 + j)) } }
    | none => s.failBringUp 0xB1
  else { s with chain := { s.chain with lastIndex := some now } }

/-! ## Alignment -/

/-- The boundary error that a sync frame shows (R387): the root's boundary after the device's, in ps. -/
def boundaryError (f : SyncRx) (dA : Int) : Int := f.arrivalPs - dA - SyncRx.acc f

/-- The frame count that a sync frame gives the instant of its arrival: the root's boundary lies d_A + ACC before it (R387). -/
def SyncRx.count (f : SyncRx) (dA : Int) : BitVec 48 := SyncRx.epoch f + BitVec.ofNat 48 ((dA + SyncRx.acc f) / 81920).toNat

/-- Alignment in one step (R388): the frame count becomes `count`. The error is zero, and an alignment fault over (R389). -/
def State.stepAlign (s : State) (count : BitVec 48) : State :=
  State.clearFault { s with
    clock := { s.clock with epoch := count }
    chain := { s.chain with aligned := true, boundaryErr := 0, errTicks := 0 } } 28

/-- The error, in thirds of a ps, that a tick's move leaves (R387, R388): whole phase steps of 1/64 VCO period, which is
10/3 ps, the number nearest to the error and at most three, 10 ps. -/
def slewLeft (e : Int) : Int := 3 * e - 10 * satInt (-3) 3 (roundDiv (3 * e) 10)

/-- One tick's move (R388), and what the alignment fault's count and clearing make of the error that is left (R389). -/
def State.slewAlign (s : State) (f : SyncRx) (dA : Int) : State :=
  let left := slewLeft (boundaryError f dA)
  let s1 := { s with chain := { s.chain with
      boundaryErr := left, errTicks := if 3000 < left.natAbs then s.chain.errTicks + 1 else 0 } }
  if left.natAbs < 1500 then s1.clearFault 28 else s1

/-- Alignment by a valid sync frame (R387, R388): in JOIN in one step, and otherwise by the tick's move. An island keeps what the
frame places until it rejoins. -/
def State.align (s : State) (f : SyncRx) : State :=
  match s.chain.delayA with
  | none => { s with chain := { s.chain with rxBase := none } }
  | some dA =>
    let s1 := { s with chain := { s.chain with rxBase := some (SyncRx.count f dA - BitVec.ofNat 48 s.clock.clk) } }
    if s.chain.island then s1
    else if s.power.stage = .join then s1.stepAlign (SyncRx.count f dA)
    else s1.slewAlign f dA

/-! ## What a valid sync frame carries -/

/-- A TXID that is new to the device ends the veto and the PREPARE of the one before (R160). -/
def State.noteTxid (s : State) (t : Byte) : State :=
  if s.txn.txid = t then s
  else { s with
    txn := { s.txn with txid := t }
    chain := { s.chain with veto := none, preparedId := none } }

/-- PROB 0 after the device's apply makes its live configuration last-good (R399). -/
def State.promote (s : State) (prob : Bool) : State :=
  if s.chain.sysProbation && !prob then
    State.setResident { s with
      txn := { s.txn with lastGood := some s.txn.live, probation := none }, chain := { s.chain with sysProbation := false } }
  else s

/-- A device that took part in a PREPARE and sees PROB at or after the boundary of its apply, with no command seen that ended the
vote, has missed the commit that the root sent (R398), whatever has become of its shadow. One that holds a veto judges so only
while no earlier commit of its own is in probation, which would set PROB too (log entry 144). -/
def State.noteMissedCommit (s : State) (prob : Bool) : State :=
  let late := s.chain.sincePrepare.any fun n => decide (3 ≤ n)
  if prob && late && !s.chain.commitDue && (s.chain.veto.isNone || !s.chain.sysProbation) then
    { s with chain := { s.chain with diverged := true, sincePrepare := none } }
  else s

/-- A device that sees TXOPEN in IDLE, has seen no PREPARE of the TXID and holds no veto of it, opens late (R396). -/
def State.openLate (s : State) (f : SyncRx) : State :=
  if SyncRx.flag f 1 && s.txn.state == .idle && s.chain.preparedId != some (SyncRx.txid f) && s.chain.veto.isNone then
    s.openShadow
  else s

/-- The fields of a valid sync frame that every command carries (R377, R387, R390, R392, R399, R402). -/
def State.takeSync (s : State) (f : SyncRx) : State :=
  let run := if s.chain.island then s.chain.validRun + 1 else 0
  let s1 := { s with chain := { s.chain with
      synced := true, validRun := run, rxEpoch := SyncRx.epoch f, txopen := SyncRx.flag f 1,
      enumcnt := BitVec.ofNat 16 (fieldAt (SyncRx.bytes f) 12 2), seNext := BitVec.ofNat 8 (fieldAt (SyncRx.bytes f) 11 1) } }
  let s2 := s1.align f
  if s.power.stage = .join then
    let s3 := s2.judgeIndex f
    if s3.power.stage = .join ∧ s3.chain.id.isSome ∧ s3.chain.aligned then s3.endJoin else s3
  else if s.pastJoin && !s.chain.island then
    ((s2.noteTxid (SyncRx.txid f)).promote (SyncRx.flag f 0)).noteMissedCommit (SyncRx.flag f 0)
  else s2

/-- Whether the device hears sync frames: SPINE and TOOTH, on port A, and any device before its straps are latched. -/
def State.hearsSync (s : State) : Bool :=
  s.portLive .a && (!s.power.strapsLatched || s.power.role == .spine || s.power.role == .tooth)

/-- Whether the core takes sync frames: in JOIN and after it. -/
def State.takesSync (s : State) : Bool := s.coreRuns && (s.power.stage == .join || s.pastJoin)

/-- A sync frame with a command that `is` names (R390, R395): the frame is forwarded; an unsound one is discarded and
counted whenever the core runs (R372); a valid one marks its boundary, a reserved command is counted (Table 12.6), and the command
acts on a device past JOIN that is no island (log entry 58). -/
def State.receiveSync (s : State) (f : SyncRx) (is : Nat → Bool) (act : State → State) : State :=
  if !s.hearsSync then s
  else if SyncRx.sound f && !is (SyncRx.cmd f) then s
  else
    let s1 := s.forwardSync f
    if !SyncRx.sound f then
      let s2 := s1.countBad
      { s2 with chain := { s2.chain with lastIndex := none } }
    else if !s1.takesSync then s1
    else if !s1.syncValid f then { s1 with chain := { s1.chain with lastIndex := none, validRun := 0 } }
    else
      let s2 := s1.takeSync f
      let s3 := if 6 ≤ SyncRx.cmd f then s2.bump 8 else s2
      if s3.pastJoin && !s3.chain.island then act s3 else s3

/-- SYNC_NONE (R390). -/
def execSyncNone (f : SyncRx) (s : State) : Host.Outcome State Fault Refusal :=
  .next (s.receiveSync f (· == 0) fun s => s.openLate f)

/-- SYNC_OPEN (R158): the device opens its shadow. -/
def execSyncOpen (f : SyncRx) (s : State) : Host.Outcome State Fault Refusal :=
  .next (s.receiveSync f (· == 1) fun s => if s.chain.veto.isNone then s.openShadow else s)

/-- A device whose bring-up is not complete vetoes (R129, R160): it discards its shadow, and for a reason that the manual gives no
code (log entry 130). -/
def State.vetoUnready (s : State) : State :=
  if s.isUp then s else (s.discard Config.unstatedVetoCode).holdVeto Config.unstatedVetoCode

/-- SYNC_PREPARE (R129, R395): the shadow, or an implicit one of the live configuration, is frozen and validated with MV, unless a
veto of this TXID is held. -/
def execSyncPrepare (f : SyncRx) (obs : PinObs) (s : State) : Host.Outcome State Fault Refusal :=
  .next (s.receiveSync f (· == 2) fun s =>
    let mv := BitVec.ofNat 8 (fieldAt (SyncRx.bytes f) 10 1)
    let s1 := (State.observe s obs).vetoUnready
    let s2 := { s1 with
      chain := { s1.chain with preparedId := some (SyncRx.txid f), voting := true, sincePrepare := some 0 } }
    if s2.chain.veto.isSome then s2
    else s2.closeShadow (mv.extractLsb' 0 3) (mv.extractLsb' 3 2) true obs.fence)

/-- SYNC_COMMIT (R395): the validated shadow applies at the next boundary; a device that holds none has diverged (R398). -/
def execSyncCommit (f : SyncRx) (s : State) : Host.Outcome State Fault Refusal :=
  .next (s.receiveSync f (· == 3) fun s =>
    let s1 := s.openLate f
    { s1 with chain := { s1.chain with commitDue := true, voting := false } })

/-! ## The merged return of the tick before -/

/-- EPOCH[37:14] of a frame count (Table 12.4). -/
def tickOf (epoch : BitVec 48) : BitVec 24 := BitVec.ofNat 24 (epoch.toNat / Config.framesPerTick)

/-- EPOCH[37:14] of the tick that has just ended; ticks count modulo their width (R373). -/
def State.lastTick (s : State) : BitVec 24 := tickOf (s.clock.epoch - BitVec.ofNat 48 (s.clock.frame + Config.framesPerTick))

/-- The merged return of the tick that has just ended. -/
def State.lastMerged (s : State) : Option Return := s.chain.merged.filter fun r => r.tick == s.lastTick

/-- The device that vetoed, as the return that this device merged in the tick before names it (R160, R430); no object where that names
none (log entry 145). -/
def State.vetoObj (s : State) : Obj :=
  match s.lastMerged with
  | some r => if r.vetoId = 0xFFFF then noObj else { kind := 9, obj := BitVec.ofNat 32 (r.vetoId.toNat % 4096) }
  | none => noObj

/-! ## The commands that end a vote -/

/-- SYNC_ABORT (R160, R395): the transaction is discarded with outcome 0x07. -/
def execSyncAbort (f : SyncRx) (s : State) : Host.Outcome State Fault Refusal :=
  .next (s.receiveSync f (· == 4) fun s => (s.discard 7 s.vetoObj).endTxn)

/-- SYNC_ROLLBACK (R395, R400): last-good applies at the next boundary. -/
def execSyncRollback (f : SyncRx) (s : State) : Host.Outcome State Fault Refusal :=
  .next (s.receiveSync f (· == 5) fun s =>
    let s1 := s.openLate f
    { s1 with chain := { s1.chain with rollbackDue := true, voting := false } })

/-- SYNC_RESERVED_COMMAND (R395): ignored and counted; the frame still marks its boundary. -/
def execSyncReservedCommand (f : SyncRx) (s : State) : Host.Outcome State Fault Refusal :=
  .next (s.receiveSync f (fun c => decide (6 ≤ c)) fun s => s.openLate f)

/-! ## Islands and the alignment fault -/

/-- The device becomes an island, at the fourth consecutive missed tick (R391). -/
def State.takeIsland (s : State) : State :=
  let s1 := (s.retreatAll.discard 4).endTxn
  let s2 := s1.takeEffect (s1.txn.live.image.configure 0 0) false
  let s3 := { s2 with
    txn := { s2.txn with due := { s2.txn.due with island := false } }
    chain := { s2.chain with island := true, validRun := 0, missed := 0, sysProbation := false, rollbackDue := false } }
  s3.logEvent 0x0A 0 0

/-- ISLAND_REJOIN (R388, R392): at the boundary that follows two consecutive valid sync frames. The device aligns in one step to what
the latter placed, for which it needs d_A (log entry 130); the tick of that frame, when the step leads back into it, has had its
sync frame. -/
def execIslandRejoin (s : State) : Host.Outcome State Fault Refusal :=
  match s.chain.rxBase with
  | some base =>
    if s.chain.island && decide (2 ≤ s.chain.validRun) && decide (s.clock.frame = 0) then
      let s1 := s.stepAlign (base + BitVec.ofNat 48 s.clock.clk)
      let s2 := { s1 with chain := { s1.chain with
          island := false, validRun := 0, missed := 0
          synced := s1.clock.tick == s.chain.rxEpoch.toNat / Config.framesPerTick } }
      .next (s2.logEvent 0x0B 0 0)
    else .next s
  | none => .next s

/-- ALIGNMENT_FAULT (R389): an error above 1 ns for 16 consecutive ticks. -/
def execAlignmentFault (s : State) : Host.Outcome State Fault Refusal :=
  if s.pastJoin && decide (16 ≤ s.chain.errTicks) then .next (s.beginFault 28) else .next s

/-! ## Returns -/

/-- Whether a return frame passes R372. -/
def returnSound (items : List RxItem) (ended : Bool) : Bool :=
  let bytes := rxBytes items
  ended && rxClean items && bytes.length == 20 && fieldAt bytes 16 4 == (crc32 (bytes.take 16)).toNat

/-- A return frame's content (Table 12.4). -/
def readReturn (bytes : List Byte) : Return :=
  let flags := bytes.getD 1 0
  { ready := flags.getLsbD 0, probtrip := flags.getLsbD 1, diverged := flags.getLsbD 2, retreat := flags.getLsbD 3,
    missing := flags.getLsbD 4, alignf := flags.getLsbD 5, tick := BitVec.ofNat 24 (fieldAt bytes 2 3),
    live := BitVec.ofNat 16 (fieldAt bytes 6 2), faults := BitVec.ofNat 16 (fieldAt bytes 8 2),
    vetoId := BitVec.ofNat 16 (fieldAt bytes 10 2), vetoCode := bytes.getD 12 0 }

/-- The bytes of a return frame (Table 12.4). -/
def Return.bytes (r : Return) : List Byte :=
  let bit (b : Bool) (k : Nat) : Nat := if b then 2 ^ k else 0
  let flags := bit r.ready 0 + bit r.probtrip 1 + bit r.diverged 2 + bit r.retreat 3 + bit r.missing 4 + bit r.alignf 5
  let body := leBytes 1 2 ++ leBytes 1 flags ++ leBytes 3 r.tick.toNat ++ leBytes 1 0 ++ leBytes 2 r.live.toNat ++
    leBytes 2 r.faults.toNat ++ leBytes 2 r.vetoId.toNat ++ [r.vetoCode] ++ leBytes 3 0
  body ++ leBytes 4 (crc32 body).toNat

/-- The frame count by which returns are timed: the core's epoch, or the count that the Causeway keeps, none before it has
forwarded a sync frame (R394, R405). -/
def State.returnCount (s : State) : Option (BitVec 48) :=
  if s.wayCarries then s.chain.wayBase.map (· + BitVec.ofNat 48 s.clock.clk) else some s.clock.epoch

/-- The depth k by which returns are timed (R394), which the Causeway infers (R405). -/
def State.returnDepth (s : State) : Nat :=
  if s.wayCarries then s.chain.wayDepth else s.chain.spine.toNat + s.chain.tooth.toNat

/-- The device's own contribution to the return of tick `t` (R393); the Causeway's (R405). -/
def State.ownReturn (s : State) (t : BitVec 24) : Return :=
  if s.wayCarries then
    { ready := true, probtrip := false, diverged := false, retreat := false, missing := false, alignf := false,
      tick := t, live := 0, faults := 0, vetoId := 0xFFFF, vetoCode := 0 }
  else
    let ready := s.txn.state == .pending && s.txn.validated && s.chain.preparedId == some s.txn.txid && s.isUp &&
      s.chain.veto.isNone && !s.power.fault 28
    let vetoes := !ready && s.chain.voting
    let code := s.chain.veto.getD (if s.power.fault 28 then 0x11 else Config.unstatedVetoCode)
    { ready := ready, probtrip := decide (0 < s.chain.probtrip), diverged := s.chain.diverged, retreat := s.anyRetreated,
      missing := false, alignf := s.power.fault 28, tick := t,
      live := if s.countsLive then 1 else 0, faults := if s.fltLow then 1 else 0,
      vetoId := if vetoes then BitVec.ofNat 16 ((s.deviceId).getD 0).toNat else 0xFFFF
      vetoCode := if vetoes then code else 0 }

/-- Two returns merged (Table 12.4). -/
def Return.merge (a b : Return) : Return :=
  { ready := a.ready && b.ready, probtrip := a.probtrip || b.probtrip, diverged := a.diverged || b.diverged,
    retreat := a.retreat || b.retreat, missing := a.missing || b.missing, alignf := a.alignf || b.alignf, tick := a.tick,
    live := a.live + b.live, faults := a.faults + b.faults,
    vetoId := if b.vetoId.toNat < a.vetoId.toNat then b.vetoId else a.vetoId
    vetoCode := if b.vetoId.toNat < a.vetoId.toNat then b.vetoCode else a.vetoCode }

/-- RETURN_FRAME (R372, R394): a return of the present tick from a downstream port is held; one of another tick is
ignored. -/
def execReturnFrame (port : LinkPort) (items : List RxItem) (ended : Bool) (s : State) : Host.Outcome State Fault Refusal :=
  if !s.portLive port || port == .a then .next s
  else if !returnSound items ended then .next s.countBad
  else
    let r := readReturn (rxBytes items)
    match s.returnCount.map tickOf with
    | some t =>
      if fieldAt (rxBytes items) 0 1 = 2 ∧ r.tick = t ∧ s.chain.returnedTick ≠ some t then
        .next { s with chain := { s.chain with returns := s.chain.returns.set ((if port = .b then 0 else 1 : Fin 2)) (some r) } }
      else .next s
    | none => .next s

/-- The downstream ports from which a return is expected. -/
def State.downstream (s : State) : List (Fin 2) :=
  (List.finRange 2).filter fun k => s.portLive (if k = 0 then .b else .c)

/-- The return of tick `t` that is held from a downstream port. -/
def State.heldReturn (s : State) (t : BitVec 24) (k : Fin 2) : Option Return := (s.chain.returns[k]).filter fun r => r.tick == t

/-- The merged return of tick `t` (R394). The Causeway sets no flag of its own (R405). -/
def State.mergedReturn (s : State) (t : BitVec 24) : Return :=
  let late := !s.wayCarries && s.downstream.any fun k => (s.heldReturn t k).isNone
  let all := (s.downstream.filterMap (s.heldReturn t)).foldl Return.merge (s.ownReturn t)
  { all with missing := all.missing || late }

/-- The LIVE values that consecutive merged returns have held (R382). -/
def noteLive (run : Option (BitVec 16 × Nat)) (live : BitVec 16) : Option (BitVec 16 × Nat) :=
  match run with
  | some (v, n) => if v = live then some (v, n + 1) else some (live, 1)
  | none => some (live, 1)

/-- Whether the merged return of the tick may be sent (R394): from frame 8,192 on, once every expected return has come, and by
frame 12,288 − 2k in any case. -/
def State.returnReady (s : State) (count : BitVec 48) : Bool :=
  let f := count.toNat % Config.framesPerTick
  s.chain.returnedTick != some (tickOf count) && decide (8192 ≤ f) &&
    (s.downstream.all (fun k => (s.heldReturn (tickOf count) k).isSome) || decide (12288 - 2 * s.returnDepth ≤ f))

/-- Whether the device takes part in returns: it has a role in a chain, or its straps are not latched; LINK is good; and it is no
island, which sends none of its own (R391). -/
def State.sendsReturns (s : State) : Bool :=
  s.power.isGood .link && (!s.power.strapsLatched || s.power.role != .standalone) && !(s.chain.island && !s.wayCarries)

/-- RETURN_SEND (R394, R405). A core holds the return that it merged, and the root sends it no further. -/
def execReturnSend (s : State) : Host.Outcome State Fault Refusal :=
  match s.returnCount with
  | some count =>
    if s.sendsReturns && s.returnReady count then
      let t := tickOf count
      let r := s.mergedReturn t
      let sent := { s.chain with returnedTick := some t }
      let held := { sent with merged := if s.wayCarries then s.chain.merged else some r }
      if s.isRoot && !s.wayCarries then .next { s with chain := { held with liveRun := noteLive s.chain.liveRun r.live } }
      else .next { s with chain := { held with outReturn := if s.portLive .a then some r.bytes else s.chain.outReturn } }
    else .next s
  | none => .next s

/-! ## Enumeration at the root -/

/-- ENUMCNT takes a value; counter 10 counts every change. -/
def State.setEnumcnt (s : State) (v : BitVec 16) : State :=
  let s1 := if s.chain.enumcnt = v then s else s.bump 10
  { s1 with chain := { s1.chain with enumcnt := v } }

/-- ROOT_ENUMERATION (R382): ENUMCNT has been 0 for 16 ticks, and the boundary after them has taken the LIVE of the 16th tick's
merged return; at that boundary JOIN ends. -/
def execRootEnumeration (s : State) : Host.Outcome State Fault Refusal :=
  if s.power.stage == .join && s.isRoot && decide (17 ≤ s.chain.joinTicks) && decide (s.clock.frame = 0) then
    .next (State.endJoin { s with chain := { s.chain with id := some 0, aligned := true } })
  else .next s

/-- ENUMCNT_UPDATE (R382): after JOIN. -/
def execEnumcntUpdate (s : State) : Host.Outcome State Fault Refusal :=
  match s.chain.liveRun with
  | some (v, n) =>
    if s.isRoot && s.pastJoin && decide (64 ≤ n) && v != s.chain.enumcnt && s.txn.state == .idle && !s.chain.txopen &&
        s.chain.rootCmd == .none && s.txn.probation.isNone then .next (s.setEnumcnt v)
    else .next s
  | none => .next s

/-! ## The root's boundary -/

/-- Whether the merged return of the tick before meets R397. -/
def State.voteMet (s : State) : Bool :=
  s.lastMerged.any fun r => r.ready && !r.missing && !r.probtrip && r.live == s.chain.enumcnt

/-- Whether the ending tick calls for a system roll-back (R400): the merged return carries PROBTRIP or DIVERGED, or the root
itself tripped in probation. -/
def State.rollbackCalled (s : State) : Bool :=
  decide (s.chain.probtrip = 2) || s.lastMerged.any fun r => r.probtrip || r.diverged

/-- Whether the root may send PREPARE at this boundary (R147, R159). -/
def State.mayPrepare (s : State) : Bool :=
  s.txn.state == .pending && s.txn.validated && decide (s.txn.closedAt + 4096 ≤ s.clock.clk) &&
    (match s.txn.shadow with
     | some img => !(img.configure s.txn.selMode s.txn.selVar).needsDram || s.mem.awake
     | none => false)

/-- The command that the root sends at this boundary, and what it does to the root itself (R395 to R401). The root's time-out
counts from the boundary that sends OPEN, at which its own shadow opens (R145, R161, log entry 115). -/
def State.rootCommand (s : State) : Nat × State :=
  let set (c : Chain) : State := { s with chain := c }
  if s.isUp && s.rollbackCalled then
    (5, set { s.chain with rollbackDue := true, rootCmd := .none, openDue := false, sincePrepare := none, voting := false })
  else if s.chain.rootCmd = .sendAbort then
    (4, State.endTxn ((set { s.chain with rootCmd := .none }).discard 7))
  else if s.chain.openDue then
    let s1 := set { s.chain with openDue := false }
    (1, if s.txn.state = .idle then s1.openShadow else s1)
  else if s.chain.rootCmd = .sendPrepare ∧ s.mayPrepare then
    (2, set { s.chain with rootCmd := .none, preparedId := some s.txn.txid, voting := true, sincePrepare := some 0, voteGood := false })
  else
    match s.chain.sincePrepare with
    | some 0 => (0, set { s.chain with sincePrepare := some 1, voteGood := s.voteMet })
    | some _ =>
      if s.chain.voteGood && s.voteMet then
        (3, set { s.chain with sincePrepare := none, voting := false, commitDue := true })
      else (4, State.endTxn ((set { s.chain with sincePrepare := none }).discard 7 s.vetoObj))
    | none => (0, s)

/-- The root sends its sync frame at a boundary, once the rows above have been taken (R382, R386, R402), its SE events of the
ending tick with it. ACC is 0 unless a set inserted on the port in this frame or the one before delays /S/ (log entry 10). -/
def State.rootBoundary (s : State) : State :=
  let s0 := if s.power.stage = .join ∧ 16 ≤ s.chain.joinTicks then s.lastMerged.elim s fun r => s.setEnumcnt r.live else s
  let (cmd, s1) := s0.rootCommand
  let flags := (if s1.txn.probation.isSome then 1 else 0) + (if s1.chain.txopen then 2 else 0)
  let mv := BitVec.ofNat 8 (s1.txn.selMode.toNat + 8 * s1.txn.selVar.toNat)
  let acc (k : Fin 2) : Nat :=
    if (s1.chain.line[k.val + 1]).isEmpty && (s1.chain.lineBefore[k.val + 1]).isEmpty then 0 else Config.freeDelay (s1.freeCount + k.val) % 2 ^ 32
  let frame (k : Fin 2) : List Byte :=
    syncBytes flags s1.boundaryEpoch cmd s1.txn.txid mv s1.chain.seQueue s1.chain.enumcnt 0 0 k.val (acc k)
  let out : Vector (Option (List Byte)) 2 := Vector.ofFn fun k =>
    if s1.power.isGood .link then some (frame k) else s1.chain.outSync[k]
  { s1 with
    freeCount := s1.freeCount + 2
    chain := { s1.chain with
      outSync := out, seNext := s1.chain.seQueue, seQueue := 0,
      joinTicks := if s1.power.stage = .join ∧ (s1.chain.joinTicks < 16 ∨ s0.lastMerged.isSome) then s1.chain.joinTicks + 1
        else s1.chain.joinTicks } }

/-- A chain device at a boundary, before the root sends (R390, R393, R400, R402): what the ending tick held is over. -/
def State.chainBoundary (s : State) : State :=
  { s with chain := { s.chain with
      synced := false, validRun := if s.chain.synced then s.chain.validRun else 0,
      returns := if s.wayCarries then s.chain.returns else Vector.replicate 2 none,
      seRaise := s.chain.seNext, seNext := 0,
      sincePrepare := if s.isRoot then s.chain.sincePrepare else s.chain.sincePrepare.map (· + 1) } }

/-- The tick of a probation trip is over (R400). -/
def State.probtripBoundary (s : State) : State := { s with chain := { s.chain with probtrip := s.chain.probtrip - 1 } }

/-! ## Urgent frames -/

/-- URGENT_RETREAT (R375, R404): the frame is forwarded; a sound one retreats every channel of a live core. One that a code error
mars is discarded and counted (R370). -/
def execUrgentRetreat (port : LinkPort) (frame : UrgentRx) (s : State) : Host.Outcome State Fault Refusal :=
  let bs := frame.bytes.toList
  let sound := crc8 (bs.take 3) == bs.getD 3 0
  if !s.portLive port then .next s
  else if !frame.clean then .next s.countBad
  else if bs.getD 0 0 != 1 then .next s
  else
    let out := if sound then bs else bs.take 3 ++ [~~~(crc8 (bs.take 3))]
    let s1 := s.sendUrgent out (some port)
    if sound && s.coreLive && !s.chain.causeway then
      .next (s1.retreatAll.logEvent 2 0 (BitVec.ofNat 16 (fieldAt bs 1 2 % 4096)))
    else .next s1

/-- URGENT_REPEAT (R403): the same frame again, one frame and two frames after the first. -/
def execUrgentRepeat (s : State) : Host.Outcome State Fault Refusal :=
  if 0 < s.chain.urgentLeft ∧ s.chain.urgentAt < s.clock.clk then
    let s1 := s.sendUrgent (urgentFrame ((s.deviceId).getD 0)) none
    .next { s1 with chain := { s1.chain with urgentLeft := s1.chain.urgentLeft - 1, urgentAt := s.clock.clk } }
  else .next s

/-! ## Delay measurement -/

/-- MEASURE_SEND (R385): once every 1,024 frames. A set that no echo answered counts as a miss, and 16 in a row make d_A
invalid. -/
def execMeasureSend (s : State) : Host.Outcome State Fault Refusal :=
  if s.hearsSync && s.chain.measureAt.all fun t => decide (t + 1024 ≤ s.clock.clk) then
    let misses := if s.chain.measureOut then s.chain.echoMisses + 1 else s.chain.echoMisses
    let c := s.chain.insert 0 (.measure s.chain.measureSeq)
    .next { s with chain := { c with
        outMeasure := some [s.chain.measureSeq], measureSeq := s.chain.measureSeq + 1, measureOut := true,
        measureAt := some s.clock.clk, echoMisses := misses, delays := if misses = 16 then [] else s.chain.delays } }
  else .next s

/-- MEASURE_REQUEST (R385): an echo set with the same SEQ on the same link. -/
def execMeasureRequest (port : LinkPort) (set : SetRx) (turnPs : BitVec 16) (s : State) : Host.Outcome State Fault Refusal :=
  if !s.portLive port then .next s
  else if !set.clean then .next s.countBad
  else
    let c := s.chain.insert (portIndex port) (.echo set.seq turnPs)
    .next { s with chain := { c with
        outEcho := s.chain.outEcho.set (portIndex port) (some (set.seq :: leBytes 2 turnPs.toNat)) } }

/-- MEASURE_ECHO (R385): one sample of the link delay, from an echo that comes within 1,024 frames. -/
def execMeasureEcho (set : SetRx) (turnPs : BitVec 16) (rttPs : Nat) (s : State) : Host.Outcome State Fault Refusal :=
  if !s.hearsSync then .next s
  else if !set.clean then .next s.countBad
  else if s.chain.measureOut && set.seq + 1 == s.chain.measureSeq && s.chain.measureAt.any fun t => decide (s.clock.clk ≤ t + 1024) then
    .next { s with chain := { s.chain with
        delays := (((rttPs : Int) - turnPs.toNat) :: s.chain.delays).take 16, measureOut := false, echoMisses := 0 } }
  else .next s

/-! ## Ports and the Causeway -/

/-- CAUSEWAY_HANDOVER (R405, R406): the Causeway carries the chain duties exactly while the core is not live. -/
def execCausewayHandover (s : State) : Host.Outcome State Fault Refusal :=
  .next { s with chain := { s.chain with causeway := !s.coreLive } }

/-- PORT_CONNECTED (R367). -/
def execPortConnected (port : LinkPort) (s : State) : Host.Outcome State Fault Refusal :=
  if s.power.isGood .link then
    .next { s with chain := { s.chain with connected := s.chain.connected.set (portIndex port) true } }
  else .next s

/-- PORT_DISCONNECTED (R367). -/
def execPortDisconnected (port : LinkPort) (s : State) : Host.Outcome State Fault Refusal :=
  .next { s with chain := { s.chain with connected := s.chain.connected.set (portIndex port) false } }

end Sys2Proof.Machine
end

