-- ==== Sys2Proof/Machine/MemCmds.lean ====
section
/-! DEFINITION. The commands of the waveform memory: line reads (R322), the scrubber (R329 to R331), probes (R325), DRAM lost
(R484), the merge buffer (R332), refresh (R316), self-refresh (R317, R318) and abandoned loads (R301). -/

namespace Sys2Proof.Machine

/-- Whether the controller serves DRAM: it is fitted, trained and not lost, and the core runs. -/
def State.dramRuns (s : State) : Bool := s.coreRuns && s.mem.fitted && decide (0 < s.mem.ranks) && !s.dramDown

/-! ## Line reads -/

/-- The lanes that a returned lane line serves: those of the player's PLAY that wait for exactly this line, in the pass that asked
for it (R297, R309). -/
def State.laneWaits (s : State) (r : MemReq) (p : PlayerNo) (lane : Nat) (chan : Chan) (pass : Nat) (n : Chan) : Bool :=
  let x := s.player[p]
  let st := s.stepOf p
  let f := x.lanes[n]
  let id := if st.lanes then st.seg + lane else st.seg
  x.state == .running && st.op == .play && x.pass == pass && (s.txn.live.lanes p).contains n && (n == chan || !st.lanes) &&
    f.outstanding && (s.segment id).any fun g => g.id == r.owner && g.lineAddr (f.held / 48) == some r.addr

/-- A lane line returns with the words that it delivers otherwise than they are stored: its samples are held. None: its pass has met
a bad line, whose samples count toward the lane's level no more, and the player raises 0x1A (R221, R308, R309). -/
def State.deliver (s : State) (p : PlayerNo) (waits : Chan → Bool) (good : Option (List (Nat × BitVec 64))) : State :=
  let take (n : Chan) (f : Prefetch) : Prefetch :=
    if waits n then
      match good with
      | some wrong => { f with held := f.held + 48, outstanding := false, wrong := f.wrong ++ wrong }
      | none => { f with asked := f.held, bogged := true, outstanding := false }
    else f
  let s1 := s.onPlayer p fun x => { x with lanes := mapAll take x.lanes }
  if good.isNone && (List.finRange 64).any waits then s1.raiseFor 0x1A fun q => q == p else s1

/-- The admitted read of a port for a line. -/
def Mem.admitted (m : Mem) (port : MemPort) (a : LineAddr) (owner : BitVec 16) : Option MemReq :=
  (m.reads[subOf a owner]).find? fun r => r.port == port && r.addr == a

/-- A line of a segment's head is in the cache (R303): its first two lines. -/
def Mem.takeHead (m : Mem) (a : LineAddr) (id : BitVec 16) (wrong : List (Nat × BitVec 64)) : Mem :=
  let o := m.lineOf a
  { m with headWrong := (m.headWrong.filter fun e => !(e.1 == id && e.2.1 / 8 == o)) ++ wrong.map fun e => (id, e.1, e.2) }

/-- A list line of a segment is in the cache in place of the one that was (R303). -/
def Mem.takeList (m : Mem) (a : LineAddr) : Mem :=
  match m.pageKind a.page with
  | .list id k =>
    if m.resident.contains id then
      { m with listLines := (id, k, a.line.val) :: m.listLines.filter fun e => e.1 != id }
    else m
  | _ => m

/-- Whether the cache takes the head of a segment: it is resident, or a shadow in validation names it (R303, R304). -/
def State.cachesHead (s : State) (id : BitVec 16) : Bool :=
  s.mem.resident.contains id || (segmentsOf (s.shadowIf s.txn.verdict.isSome)).contains id.toNat

/-- What a fetch does with its line (Table 10.1): a lane read, a head load, or a list read by the map walker (R303, R309). -/
def State.fetched (s : State) (r : MemReq) (flips verify : Flips) : State :=
  let res := s.mem.readResult r.addr r.owner flips
  let wrong := s.mem.wrongWords r.addr r.owner (8 * s.mem.lineOf r.addr) res.residual
  let bad := res.outcome == .uncorrectable
  let s1 := match r.read with
    | some (.lane p lane chan pass) =>
      s.deliver p (s.laneWaits r p lane chan pass) (if bad then none else some wrong)
    | some .head => if bad || !s.cachesHead r.owner then s else { s with mem := s.mem.takeHead r.addr r.owner wrong }
    | some .list => if bad then s else { s with mem := s.mem.takeList r.addr }
    | some .scrub | some .merge | some (.ring _) | some .reread | none => s
  let s2 := s1.chargeRead r.addr r.owner res.outcome
  if bad then s2.badLine r.addr .fetch (some [{ addr := r.addr, read := flips, verify := verify }]) else s2

/-- What the map walker and the cache may read on their own account (R303, Table 9.6): a line of a list page, or one of a segment's
first two lines. -/
def Mem.freeFetch (m : Mem) (a : LineAddr) : Option ReadKind :=
  match m.pageKind a.page with
  | .list _ _ => some .list
  | .data _ j => if j == 0 && decide (a.line.val < 2) then some .head else none
  | .reserved | .probe | .free | .ring _ => none

/-- One more in the present pass's counts (R331). -/
def Mem.countScrub (m : Mem) (corrected persistent bad : Nat) : Mem :=
  let c := m.scrubStats
  { m with scrubStats := (c.1 + corrected, c.2.1 + persistent, c.2.2 + bad) }

/-- The unsent capture line at an address is changed, or lost as a gap (Table 10.1, Table 10.3). -/
def Mem.ringLine (m : Mem) (k : Fin 8) (a : LineAddr) (f : CapLine → Option CapLine) : Mem :=
  let c := m.capture[k]
  match c.lineAt a with
  | none => m
  | some l =>
    let c' := match f l with
      | some l' => { c with lines := c.lines.map fun x => if x == l then l' else x }
      | none => { c with lines := c.lines.filter (· != l), gap := c.gap + 1 }
    { m with capture := m.capture.set k c' }

/-- A capture line with the words that 64 bytes spell. -/
def CapLine.withData (l : CapLine) (data : List Byte) : CapLine :=
  { l with words := (List.range 32).map fun i => BitVec.ofNat 16 (fieldAt data (2 * i) 2) }

/-- The scrubber writes a line back as it decoded it (R329, R331). -/
def Mem.writeBack (m : Mem) (a : LineAddr) (owner : BitVec 16) (data : List Byte) : Mem :=
  let m1 := m.putLine .p4 a owner data
  match m.pageKind a.page with
  | .ring k => m1.ringLine k a fun l => some (l.withData data)
  | _ => m1

/-- An uncorrectable scrub read, by page kind (Table 10.3). -/
def State.scrubBad (s : State) (a : LineAddr) (owner : BitVec 16) (errs : Option (List LineErrs)) : State :=
  match s.mem.pageKind a.page with
  | .data _ _ | .list _ _ => s.badLine a .scrub errs
  | .free => { s with mem := s.mem.putLine .p4 a owner [] }
  | .ring k => { s with mem := (s.mem.ringLine k a fun _ => none).putLine .p4 a owner [] }
  | .reserved | .probe => s.loseDram 14

/-- What the scrubber does with its line (R329, R331). In erasure mode it only rewrites it. Otherwise a corrected line is written back
and read again; a verify read with any error, which is charged as any read is, makes it persistent. -/
def State.scrubbed (s : State) (a : LineAddr) (owner : BitVec 16) (flips verify : Flips) : State :=
  let r := s.mem.readResult a owner flips
  let data := s.mem.dataWith a owner r.residual
  match r.outcome with
  | .clean =>
    if s.mem.erasureMode a owner && !s.mem.onSpare a owner then { s with mem := s.mem.writeBack a owner data } else s
  | .corrected errs =>
    let charged := State.charge { s with mem := (s.mem.writeBack a owner data).countScrub 1 0 0 } a owner errs
    if charged.mem.erasureMode a owner then charged
    else
      match (charged.mem.readResult a owner verify).outcome with
      | .clean => charged
      | out =>
        let s1 := charged.chargeRead a owner out
        State.persistent { s1 with mem := s1.mem.countScrub 0 1 0 } a owner data
  | .uncorrectable =>
    State.scrubBad { s with mem := (s.mem.noteBad a owner s.clock.tick).countScrub 0 0 1 } a owner (some [{ addr := a, read := flips, verify := verify }])

/-- What a read of the reserved region does (Table 10.1): a corrected line is charged and its scrub brought forward; an
uncorrectable one loses the DRAM (R327). -/
def State.reservedRead (s : State) (a : LineAddr) (flips : Flips) : State :=
  match (s.mem.readResult a 0 flips).outcome with
  | .clean => s
  | .corrected errs => (s.charge a 0 errs).askRead .p4 a 0 .scrub
  | .uncorrectable => s.loseDram 14

/-- What a capture read does (Table 10.1): an uncorrectable line is sent as a gap, and a wrong decoding is sent as it is. -/
def State.captureRead (s : State) (k : Fin 8) (a : LineAddr) (flips : Flips) : State :=
  let r := s.mem.readResult a 0 flips
  let read (l : CapLine) : CapLine :=
    if r.residual.isEmpty then { l with got := true } else { l.withData (s.mem.dataWith a 0 r.residual) with got := true }
  let m := match r.outcome with
    | .uncorrectable => s.mem.ringLine k a fun _ => none
    | .clean | .corrected _ => s.mem.ringLine k a fun l => some (read l)
  State.chargeRead { s with mem := m } a 0 r.outcome

/-- A Bog-listed line is read again in erasure mode at a retirement (R328): it is rewritten whole as it decodes, and its entry is
cleared. -/
def State.rereadDone (s : State) (a : LineAddr) (owner : BitVec 16) (flips : Flips) : State :=
  let r := s.mem.readResult a owner flips
  match s.mem.bogEntry a, r.outcome with
  | some e, .clean | some e, .corrected _ =>
    let s1 := { s with mem := (s.mem.putLine .p4 a owner (s.mem.dataWith a owner r.residual)).listRead a }
    State.settleQuarantine ((s1.chargeRead a owner r.outcome).leaveBog (fun x => x.addr == a) .retirement) e.owner
  | _, _ => s.chargeRead a owner r.outcome

/-- Whether a merge buffer entry must flush (R332): its mask is full, it has been held for one tick, or every entry of its
buffer is in use. -/
def State.flushDue (s : State) (sub : Fin 2) (e : Merge) : Bool :=
  e.mask == BitVec.allOnes 64 || decide (e.since + Config.framesPerTick ≤ s.clock.clk) ||
    decide (Config.mergeMax ≤ (s.mem.merge[sub]).length)

/-- The read of a partial merge buffer entry returns, and the entry flushes (R332); an entry that has left the buffer asks nothing of
it. -/
def State.mergeReadDone (s : State) (r : MemReq) (flips verify : Flips) : State :=
  let sub := subOf r.addr r.owner
  let s1 := s.finishRead r
  match (s1.mem.merge[sub]).find? fun e => e.addr == r.addr && !e.repair with
  | some e => s1.flush sub e (some [{ addr := e.addr, read := flips, verify := verify }])
  | none => s1

/-- An entry of the merge buffer flushes as a command of the controller: a whole one, or one of a repair, at once. A partial one
asks port P2 for its line, and flushes with the data of that read (R306, R307, R332). -/
def State.flushNow (s : State) (sub : Fin 2) (e : Merge) (flips verify : Flips) : State :=
  if e.mask = BitVec.allOnes 64 ∨ e.repair then
    State.flush { s with mem := s.mem.request } sub e (some [{ addr := e.addr, read := flips, verify := verify }])
  else
    match s.mem.admitted .p2 e.addr e.owner with
    | some r => s.mergeReadDone r flips verify
    | none => s.askMerge e

/-! ## The scrubber -/

/-- The lines of the fitted DRAM. -/
def Mem.lineCount (m : Mem) : Nat := 1024 * m.pageCount

/-- The scrub interval in core cycles (R330). -/
def State.scrubInterval (s : State) : Nat := s.txn.live.params.dev.scrubPass.toNat * 2 ^ 36 / s.mem.lineCount

/-- A pass's length in whole seconds, a frame being 81.92 ns (Table 13.7, log 14). -/
def passSeconds (frames : Nat) : BitVec 32 := BitVec.ofNat 32 (frames * 8192 / 100000000000)

/-- A scrub pass is complete (R331, Table 13.7): its time and counts are reported, and the charges of R323 begin afresh. -/
def State.endPass (s : State) : State :=
  let (c, p, u) := s.mem.scrubStats
  let n := s.port.counter
  let counter := ((((n.set 11 (n[11] + 1)).set 12 (passSeconds s.mem.scrubFrames)).set 13 (BitVec.ofNat 32 c)).set 14
    (BitVec.ofNat 32 p)).set 15 (BitVec.ofNat 32 u)
  { s with
    port := { s.port with counter := counter }
    mem := { s.mem with scrubPos := 0, scrubFrames := 0, scrubStats := (0, 0, 0), charged := [] } }

/-- Whether a scrub read waits or is in flight. -/
def Mem.scrubbing (m : Mem) : Bool :=
  (m.waiting ++ m.reads[(0 : Fin 2)] ++ m.reads[(1 : Fin 2)]).any fun r => r.read == some .scrub

/-- The pass ends when its last line has been read (R331). -/
def State.passOver (s : State) : State :=
  if s.mem.lineCount ≤ s.mem.scrubPos && !s.mem.scrubbing then s.endPass else s

/-- The line at the scrubber's position. -/
def lineAt (pos : Nat) : LineAddr := { page := pos / 1024, line := ⟨pos % 1024, by omega⟩ }

/-- The interval of the scrub schedule in which the present frame lies, and the lines issued in it (R331). -/
def State.scrubIssued (s : State) : Nat × Nat :=
  let k := 64 * s.clock.clk / s.scrubInterval
  if s.mem.scrubSlot.1 = k then s.mem.scrubSlot else (k, 0)

/-- Whether the scrubber may issue a line (R330, R331): the schedule has reached it, the present interval has fewer than eight, and
the pass has one left. -/
def State.scrubReady (s : State) : Bool :=
  decide ((s.scrubInterval : Int) ≤ s.mem.scrubDue) && decide (s.scrubIssued.2 < 8) &&
    decide (s.mem.scrubPos < s.mem.lineCount)

/-- SCRUB_READ (R330, R331): the next line in ascending order is asked for when the schedule reaches it. Squall and
self-refresh suspend it. -/
def execScrubRead (s : State) : Host.Outcome State Fault Refusal :=
  if s.dramRuns && s.mem.awake && !s.mem.squall && s.scrubReady then
    let a := lineAt s.mem.scrubPos
    let slot := s.scrubIssued
    let s1 := { s with mem := { s.mem with
      scrubPos := s.mem.scrubPos + 1, scrubDue := s.mem.scrubDue - s.scrubInterval, scrubSlot := (slot.1, slot.2 + 1) } }
    if s.mem.isProbeLine a then .next s1.passOver else .next (s1.askRead .p4 a (s.mem.pageKind a.page).owner .scrub)
  else .next s

/-- LINE_READ_DONE (R322, Table 10.1). A read of a line that the fitted DRAM does not hold faults. -/
def execLineReadDone (src : ReadSource) (a : LineAddr) (flips verify : Flips) (s : State) :
    Host.Outcome State Fault Refusal :=
  if !s.dramRuns || !s.mem.awake then .next s
  else if !s.mem.holds a then .fault .noSuchLine
  else
    let kind := s.mem.pageKind a.page
    let owner := kind.owner
    match src with
    | .fetch =>
      match s.mem.admitted .p0 a owner, s.mem.freeFetch a with
      | some r, _ => .next ((s.finishRead r).fetched r flips verify)
      | none, some k =>
        if s.portOpen .p0 (subOf a owner) then
          let r : MemReq := { port := .p0, addr := a, owner := owner, asked := s.clock.clk, read := some k, tag := 0 }
          .next (State.fetched { s with mem := s.mem.request } r flips verify)
        else .next s
      | none, none => .next s
    | .scrub =>
      match s.mem.admitted .p4 a owner with
      | some r =>
        if r.read = some .reread then .next ((s.finishRead r).rereadDone a owner flips)
        else .next ((s.finishRead r).scrubbed a owner flips verify).passOver
      | none => .next s
    | .merge =>
      match s.mem.admitted .p2 a owner with
      | some r => .next (s.mergeReadDone r flips verify)
      | none => .next s
    | .capture =>
      match s.mem.admitted .p3 a 0, kind with
      | some r, .ring k => .next ((s.finishRead r).captureRead k a flips)
      | some r, _ => .next (s.finishRead r)
      | none, _ => .next s
    | .reserved =>
      if kind == .reserved && !s.mem.isProbeLine a && s.portOpen .p0 (subOf a 0) then
        .next (State.reservedRead { s with mem := s.mem.request } a flips)
      else .next s

/-! ## Probes -/

/-- The index of a rank and subchannel. -/
def rankSub (rank sub : Fin 2) : Fin 4 := ⟨2 * rank.val + sub.val, by omega⟩

/-- Whether a rank and subchannel is to be probed (R325). -/
def Mem.probeDue (m : Mem) (rank sub : Fin 2) : Bool :=
  let i := rankSub rank sub
  decide (2 ≤ (m.badLines[i]).length) || ((m.retired[sub]).any (fun d => d.1 == rank) && decide (64 ≤ m.probeTicks[i]))

/-- The tick of the trigger of a probe (R325, R328): that of the second uncorrectable line, and otherwise the 64th of erasure mode
since the last probe. -/
def State.probeTrigger (s : State) (i : Fin 4) : Nat :=
  if 2 ≤ (s.mem.badLines[i]).length then s.mem.badSince[i] else s.clock.tick - (s.mem.probeTicks[i] - 64)

/-- PROBE_START (R325); counter 17 counts the run. -/
def execProbeStart (rank sub : Fin 2) (s : State) : Host.Outcome State Fault Refusal :=
  if s.dramRuns && s.mem.awake && s.mem.probe.isNone && decide (rank.val < s.mem.ranks) && s.mem.probeDue rank sub then
    let s1 := s.bump 17
    let i := rankSub rank sub
    .next { s1 with mem := { s1.mem with
      probe := some (rank, sub, s.probeTrigger i), badLines := s1.mem.badLines.set i [], probeTicks := s1.mem.probeTicks.set i 0 } }
  else .next s

/-- The page of a rank's probe lines (R325). -/
def Mem.probePage (m : Mem) (rank : Fin 2) : Nat := if rank = 0 then 63 else m.pageCount - 1

/-- The DRAM devices of a rank and subchannel whose bytes differ from the pattern in both read-backs (R325). -/
def ProbeRead.failing (r : ProbeRead) : List (Fin 5) :=
  let differs (v : Vector Byte 80) (pattern : Byte) (lane : Fin 5) : Bool := (symbolsOf lane).any fun i => v[i] != pattern
  (List.finRange 5).filter fun lane => differs r.after55 0x55 lane && differs r.afterAA 0xAA lane

/-- PROBE_DONE (R325 to R328): the probe line holds the last pattern; a device that fails is attributed, and two that fail
lose the DRAM. -/
def execProbeDone (r : ProbeRead) (s : State) : Host.Outcome State Fault Refusal :=
  match s.dramRuns, s.mem.probe with
  | true, some (rank, sub, t) =>
    let line : LineAddr := { page := s.mem.probePage rank, line := if sub = 0 then 1022 else 1023 }
    let s1 := { s with mem := { s.mem.writeLine line 0 (List.replicate 64 0xAA) with probe := none } }
    match ProbeRead.failing r with
    | [] => .next s1
    | [lane] => .next (s1.attribute { sub := sub, rank := rank, lane := lane } (t - 64))
    | _ :: _ :: _ => .next (s1.loseDram 14)
  | _, _ => .next s

/-- DDR_ALERT_FAULT (R484, Table 16.1): outside training, the effect of DRAM lost. -/
def execDdrAlertFault (s : State) : Host.Outcome State Fault Refusal :=
  if s.coreRuns && s.mem.fitted && s.power.stage != .dram && !s.power.fault 33 then .next (s.loseDram 33) else .next s

/-! ## The merge buffer -/

/-- MERGE_FLUSH (R332): the oldest entry of the subchannel that must flush. Squall lets no new command of port P2 in (R311). -/
def execMergeFlush (sub : Fin 2) (flips verify : Flips) (s : State) : Host.Outcome State Fault Refusal :=
  if s.dramRuns && s.mem.awake && !s.mem.squall then
    match (s.mem.merge[sub]).find? (s.flushDue sub) with
    | some e => .next (s.flushNow sub e flips verify)
    | none => .next s
  else .next s

/-! ## Refresh -/

/-- REFRESH_DUE (R316): a tREFI begins, with one REFsb of each bank index owed. What the one before it left unpaid is postponed, and
where that would pass 4 REFab is issued, which pays one of each index. Outside Squall every index that no queued read targets is
then paid, postponed work included. `busy` names the indices that a command in flight outside the model's queues holds. -/
def execRefreshDue (rank sub : Fin 2) (busy : BitVec 4) (s : State) : Host.Outcome State Fault Refusal :=
  if s.dramRuns && s.mem.awake && decide (rank.val < s.mem.ranks) then
    let i := rankSub rank sub
    let all := (s.mem.credit[i]).toList.any (decide <| 4 < ·)
    let left : Vector Nat 4 := if all then mapAll (fun _ n => n - 1) s.mem.credit[i] else s.mem.credit[i]
    let waits (b : Fin 4) : Bool := s.mem.squall || busy.getLsbD b.val || s.mem.targets rank sub b.val
    .next { s with mem := { s.mem with
      credit := s.mem.credit.set i (mapAll (fun b n => if waits b then n + 1 else 0) left)
      refab := if all then s.mem.refab.set i (s.mem.refab[i] + 1) else s.mem.refab } }
  else .next s

/-! ## Self-refresh -/

/-- SELF_REFRESH_DRAIN (R317, Table 9.11): the merge buffer flushes, what it meets being free (log entry 88), and the postponed
refresh is paid. -/
def execSelfRefreshDrain (s : State) : Host.Outcome State Fault Refusal :=
  let reached := decide (s.txn.live.params.dev.srIdle.toNat ≤ s.mem.srCount)
  if s.dramRuns && s.srAllowed && s.mem.sr == .idleCount && reached then
    let s1 := s.fence none
    -- the flush, and the reads it waits for, are the drain's own work, and no port's request
    let s2 := { s1 with mem := { s1.mem with
      sr := .drain, srCount := s.mem.srCount, requested := s.mem.requested, credit := Vector.replicate 4 (Vector.replicate 4 0) } }
    .next s2.settleQueues
  else .next s

/-- SELF_REFRESH_ENTRY (R317): DRAIN is complete, with nothing in the merge buffer and no command in flight or waiting. -/
def execSelfRefreshEntry (s : State) : Host.Outcome State Fault Refusal :=
  let m := s.mem
  let quiet := m.reads.toList.all List.isEmpty && m.writes.toList.all List.isEmpty && m.merge.toList.all List.isEmpty &&
    m.waiting.isEmpty && m.mapDue.isEmpty
  if s.dramRuns && s.srAllowed && s.mem.sr == .drain && quiet then
    .next { s with mem := { s.mem with sr := .committed, wakeDue := false } }
  else .next s

/-- SELF_REFRESH_EXIT (R317, R318). -/
def execSelfRefreshExit (s : State) : Host.Outcome State Fault Refusal :=
  if s.dramRuns && s.mem.sr == .committed && (s.mem.wakeDue || !s.srAllowed) then
    .next { s with mem := { s.mem with sr := .exit, wakeDue := false } }
  else .next s

/-- SELF_REFRESH_EXIT_DONE (R318): the controller is AWAKE, and what waited is admitted. -/
def execSelfRefreshExitDone (s : State) : Host.Outcome State Fault Refusal :=
  if s.dramRuns && s.mem.sr == .exit then
    .next (State.settleQueues { s with mem := { s.mem with sr := .awake, srCount := 0 } })
  else .next s

/-! ## Loads -/

/-- A load is abandoned (Table 9.5): its pages are freed, the segment is FREE, and event 0x0C says why. -/
def State.abandonLoad (s : State) (id : BitVec 16) (sub : Byte) : State := (s.freeSegment id).logEvent 0x0C sub id

/-- SEGMENT_LOAD_TIMEOUT (R301): the latest boundary lies 4,096 ticks or more after the last chunk. -/
def execSegmentLoadTimeout (id : BitVec 16) (s : State) : Host.Outcome State Fault Refusal :=
  match s.mem.seg id with
  | some g =>
    let open_ := g.state == .loading || (g.state == .quarantined && decide (g.rcvd < g.len))
    if s.coreRuns && open_ && decide (g.lastChunk + 4096 * Config.framesPerTick + s.clock.frame ≤ s.clock.clk) then .next (s.abandonLoad id 2) else .next s
  | none => .next s

end Sys2Proof.Machine
end

