-- ==== Sys2Proof/Machine/Chunks.lean ====
section
/-! DEFINITION. Segment chunks (R300, R301, R456 to R458, Table 9.5): a load's samples, and the repair of a quarantined
segment (R339 to R341). -/

namespace Sys2Proof.Machine

/-- A chunk (Table 14.8). -/
structure Chunk where
  id : BitVec 16
  start : Bool
  offset : Nat
  len : Nat
  ns : Nat
  words : List Byte
  deriving DecidableEq, Repr

/-- The chunk that a record carries. -/
def chunkOf (rec : List Byte) : Chunk :=
  let body := recBody rec
  { id := BitVec.ofNat 16 (recIndex rec), start := fieldAt body 0 1 == 1, offset := fieldAt body 4 4
    len := fieldAt body 8 4, ns := fieldAt body 12 4, words := body.drop 16 }

/-- Sample `k` of a chunk (R456). -/
def Chunk.sample (c : Chunk) (k : Nat) : Code := (lineWord c.words (k / 6)).extractLsb' (10 * (k % 6)) 10

/-- The 64-bit word of a line from six samples and a marker field (Table 9.2). -/
def packWord (samples : List Code) (marker : BitVec 4) : Nat :=
  ((List.range 6).map fun f => (samples.getD f 0).toNat * 2 ^ (10 * f)).sum + marker.toNat * 2 ^ 60

/-- The data of a line whose samples begin at sample `first` of the chunk, `count` of them: the fields beyond copy the last
sample, and the marker field of a word that holds none is cleared (R295). -/
def Chunk.line (c : Chunk) (first count : Nat) : List Byte :=
  (List.range 8).flatMap fun w =>
    let samples := (List.range 6).map fun f => c.sample (first + min (6 * w + f) (count - 1))
    let marker : BitVec 4 := if 6 * w < count then (lineWord c.words (first / 6 + w)).extractLsb' 60 4 else 0
    leBytes 8 (packWord samples marker)

/-! ## Loading -/

/-- A data page joins a segment: its entry of the list page is to be written (R298). -/
def Mem.addPage (m : Mem) (g : Segment) (p : Nat) : Mem × Segment :=
  let n := g.pages.length
  (m.noteList (g.lists.getLastD 0) (n % 16383), { g with pages := g.pages ++ [p] })

/-- A list page joins a segment: the one before it, when there is one, is to name it (R298). -/
def Mem.addList (m : Mem) (g : Segment) (p : Nat) : Mem × Segment :=
  (match g.lists.getLast? with
   | some q => m.noteList q 16383
   | none => m, { g with lists := g.lists ++ [p] })

/-- The pages that a segment needs to hold `n` data pages: a list page before each 16,383 of them (Table 9.4, log 15). -/
def Mem.grow : Nat → Mem → Segment → Nat → Option (Mem × Segment)
  | 0, m, g, n => if n ≤ g.pages.length then some (m, g) else none
  | fuel + 1, m, g, n =>
    if n ≤ g.pages.length then some (m, g)
    else
      match m.takePage with
      | none => none
      | some (p, m1) =>
        let (m2, g2) := if g.lists.length * 16383 ≤ g.pages.length then m1.addList g p else m1.addPage g p
        m2.grow fuel g2 n

/-- The greatest and least of `count` samples of a chunk from sample `first` on, with the peaks so far (Table 9.5). -/
def Chunk.peaks (c : Chunk) (first count : Nat) (hi lo : Code) : Code × Code :=
  (List.range count).foldl (fun (acc : Code × Code) k =>
    let x := c.sample (first + k)
    (if acc.1.toNat < x.toNat then x else acc.1, if x.toNat < acc.2.toNat then x else acc.2)) (hi, lo)

/-- The lines of a chunk enter the merge buffer whole, from its offset on (R294, R295, R332). -/
def State.storeLines (s : State) (g : Segment) (c : Chunk) (errs : List LineErrs) : State :=
  (List.range ((c.ns + 47) / 48)).foldl (fun s i =>
    match g.lineAddr (c.offset / 48 + i) with
    | some a =>
      s.throughMerge
        { addr := a, owner := g.id, data := vec64 (c.line (48 * i) (min 48 (c.ns - 48 * i))), mask := BitVec.allOnes 64,
          since := s.clock.clk, repair := false, map := false } (some errs)
    | none => s) s

/-- Whether a chunk continues a load as R458 and Table 9.5 ask. -/
def Segment.continues (g : Segment) (c : Chunk) : Bool :=
  c.offset == g.rcvd && decide (c.offset + c.ns ≤ g.len) && (c.ns % 48 == 0 || c.offset + c.ns == g.len)

/-- The samples of a chunk are stored (Table 9.5); none when no page is free for them. -/
def State.storeChunk (s : State) (g : Segment) (c : Chunk) (errs : List LineErrs) : Option State :=
  let need := (c.offset + c.ns + 49151) / 49152
  let grown := if c.ns = 0 then some (s.mem, g) else if s.dramUsable then s.mem.grow 8 g need else none
  match grown with
  | none => none
  | some (m, g1) =>
    let (hi, lo) := c.peaks 0 c.ns g1.peakHi g1.peakLo
    let rcvd := g1.rcvd + c.ns
    let g2 := { g1 with
      rcvd := rcvd, peakHi := hi, peakLo := lo, lastChunk := s.clock.clk,
      state := if rcvd = g1.len ∧ !g1.sealHold then SegState.ready else .loading }
    some (State.storeLines { s with mem := m.putSeg g2 } g2 c errs)

/-- A segment that a Start begins (Table 9.5). `held` says that its boot image's tag is not yet verified (R462). DESIGN
CHOICE: before its first sample PEAKHI is 0 and PEAKLO 1,023, which any sample replaces (log entry 143). -/
def beginSegment (c : Chunk) (held : Bool) : Segment :=
  { id := c.id, state := .loading, whole := false, listLost := false, len := c.len, rcvd := 0, lists := [], peakHi := 0,
    peakLo := 1023, pages := [], lastChunk := 0, sealHold := held, lostPages := [], wanted := [],
    readable := [], lostLists := [] }

/-- A chunk of a segment that loads: it is stored, or the load is abandoned (Table 9.5, R458). Here and below the first
component says that no page was free. -/
def State.loadChunk (s : State) (g : Segment) (c : Chunk) (errs : List LineErrs) : Bool × State :=
  if g.continues c then
    match s.storeChunk g c errs with
    | some s1 => (false, s1)
    | none => (true, s.abandonLoad g.id 3)
  else (false, s.abandonLoad g.id 1)

/-- A Start for a FREE segment. -/
def State.startLoad (s : State) (c : Chunk) (held : Bool) (errs : List LineErrs) : Bool × State :=
  let g := beginSegment c held
  State.loadChunk { s with mem := s.mem.putSeg g } g c errs

/-! ## Repair -/

/-- The cause that the model gives the entry of a line that a repair chunk's read finds uncorrectable: free (log 12). -/
def repairReadCause : BogCause :=
  match Config.unstatedBogCause with
  | 0 => .fetch | 1 => .scrub | 2 => .merge | 3 => .repair

/-- A new page for a data page whose number was lost (R340): none when no page is free. Its entry of the list page is written with
its line, once none of the line's pages is lost. -/
def State.retakePage (s : State) (id : BitVec 16) (j : Nat) (errs : List LineErrs) : Option State :=
  match s.mem.seg id, s.mem.takePage with
  | some g, some (p, m) =>
    let g1 := { g with pages := g.pages.set j p, lostPages := g.lostPages.filter (· != j) }
    some (State.rewriteLists { s with mem := m.putSeg g1 } id (some errs))
  | _, _ => none

/-- Whether line `o` of a segment has an active entry: at its present address, or at one that its page number has lost (R340). -/
def Mem.lineListed (m : Mem) (g : Segment) (o : Nat) : Bool :=
  (g.lineAddr o).any (fun a => (m.bogEntry a).isSome) ||
    m.bog.any fun e => e.owner == g.id && e.first == BitVec.ofNat 32 (48 * o) && e.first != 0xFFFFFFFF

/-- A segment's entry changed by a function, when it has one. -/
def Mem.updateSeg (m : Mem) (id : BitVec 16) (f : Segment → Segment) : Mem := (m.seg id).elim m fun g => m.putSeg (f g)

/-- Whether the samples of line `o` of a quarantined segment are kept (R340), and the state after the read that judges a
line of a wholly quarantined one. A line that the repair has read and found readable is not read again. -/
def State.wantsLine (s : State) (g : Segment) (o : Nat) (errs : List LineErrs) : Bool × State :=
  if g.wanted.contains o || s.mem.lineListed g o then (true, s)
  else
    match g.lineAddr o with
    | none => (false, s)
    | some a =>
      if g.whole && !g.readable.contains o then
        let (le, s0) := s.errsFor (some errs) a
        let out := (s0.mem.readResult a g.id le.read).outcome
        let s1 := State.chargeRead { s0 with mem := s0.mem.request } a g.id out
        if out = .uncorrectable then (true, s1.bogLine g a repairReadCause o none)
        else (false, { s1 with mem := s1.mem.updateSeg g.id fun x => { x with readable := x.readable ++ [o] } })
      else (false, s)

/-- One line of a repair chunk: `count` samples from sample `first` of the chunk, which enter the merge buffer when the line is
wanted (R332, R340). None when no page is free. -/
def State.repairLine (s : State) (c : Chunk) (errs : List LineErrs) (first count : Nat) : Option State :=
  match s.mem.seg c.id with
  | none => some s
  | some g =>
    let o := (c.offset + first) / 48
    let (keep, s1) := s.wantsLine g o errs
    if !keep then some s1
    else
      let ready := if g.lostPages.contains (o / 1024) then s1.retakePage c.id (o / 1024) errs else some s1
      match ready with
      | none => none
      | some s2 =>
        match (s2.mem.seg c.id).bind (·.lineAddr o) with
        | none => some s2
        | some a =>
          let full := decide (min 48 (g.len - 48 * o) ≤ count)
          let mask : BitVec 64 := if full then BitVec.allOnes 64 else byteMask 0 (8 * (count / 6))
          some (s2.throughMerge
            { addr := a, owner := c.id, data := vec64 (c.line first count), mask := mask, since := s2.clock.clk, repair := true, map := false }
            (some errs))

/-- A repair chunk (R340), line by line; its arrival counts (R301). The lines of list pages that name no lost page are rewritten. -/
def State.repairChunk (s : State) (g : Segment) (c : Chunk) (errs : List LineErrs) : Bool × State :=
  let ns := min c.ns (g.len - c.offset)
  let s1 := State.rewriteLists { s with mem := s.mem.putSeg { g with lastChunk := s.clock.clk } } c.id (some errs)
  let lines := List.range ((ns + 47) / 48)
  match lines.foldl (fun (acc : Option State) i =>
      acc.bind fun s => s.repairLine c errs (48 * i) (min 48 (ns - 48 * i))) (some s1) with
  | some s2 => (false, s2.settleQuarantine c.id)
  | none => (true, s.abandonLoad c.id 3)

/-! ## The table -/

/-- Whether a segment is resident (R303). -/
def State.isResident (s : State) (id : BitVec 16) : Bool := s.mem.resident.contains id

/-- Table 9.5: what a chunk does. `held` says that it belongs to a boot image whose tag is not yet verified. -/
def State.takeChunk (s : State) (c : Chunk) (held : Bool) (errs : List LineErrs) : Bool × State :=
  match s.mem.seg c.id with
  | none => if c.start then s.startLoad c held errs else (false, s.logEvent 0x0C 1 c.id)
  | some g =>
    match g.state with
    | .loading => if c.start then (s.abandonLoad c.id 1).startLoad c held errs else s.loadChunk g c errs
    | .ready =>
      if s.isResident c.id then (false, s.logEvent 0x0D 1 c.id)
      else if c.start then (s.freeSegment c.id).startLoad c held errs
      else (false, s.logEvent 0x0D 2 c.id)
    | .quarantined => s.repairChunk g c errs

end Sys2Proof.Machine
end

