-- ==== Sys2Proof/Machine/Content.lean ====
section
/-! DEFINITION. The acceptance of records (R435 to R443, Table 14.3): in a boot image, on the content port and in PROVISION;
the boot image (R439 to R443, R459 to R462) and the key (R464, R465). -/

namespace Sys2Proof.Machine

/-- Where a record is taken from and what it belongs to (Table 14.3). -/
inductive Place where
  /-- a boot image in the flash -/
  | flashImage
  /-- a boot image on the content port -/
  | portImage
  /-- the content port in PROVISION -/
  | provisioning
  /-- the content port after bring-up -/
  | afterBringUp
  deriving DecidableEq, Repr

/-- The place in which a record is judged now, none where the device takes no record. -/
def State.place (s : State) : Option Place :=
  if !s.coreRuns then none
  else
    match s.power.stage with
    | .image =>
      if s.port.image.complete then none
      else if s.power.bootsFromFlash then some .flashImage
      else if s.portRuns then some .portImage
      else none
    | .provision | .provisioned => if s.portRuns then some .provisioning else none
    | .done => if s.portRuns then some .afterBringUp else none
    | _ => none

/-- Whether a place is a boot image. -/
def Place.inImage (pl : Place) : Bool := pl == .flashImage || pl == .portImage

/-- Whether the records of a place come from the content port. -/
def Place.onPort (pl : Place) : Bool := pl != .flashImage

/-- A record leaves the content buffer. -/
def State.takeOff (s : State) (pl : Place) (n : Nat) : State :=
  if pl.onPort then State.settlePause { s with port := s.port.cut 0 n } else s

/-- After a refusal at row 1 or 2 the parser trusts no byte until a frame with SOR (R436): what lies before the next such frame that
has been accepted is dropped, and with none the parser awaits one (log entry 137). -/
def State.distrust (s : State) : State :=
  let rest := (s.port.arrived.drop 1).dropWhile fun a => !a.sor
  let kept := (rest.map Arrival.n).sum
  State.settlePause { s with port := { s.port with
    stream := s.port.stream.drop (s.port.stream.length - kept), arrived := rest
    expect := if rest.isEmpty then none else s.port.expect, lastByte := s.clock.clk } }

/-- The image stage fails (R126): its pages are freed and its records discarded. -/
def State.failImage (s : State) (cause : Byte) : State :=
  let s1 := s.port.image.segments.foldl State.freeSegment s
  State.failBringUp { s1 with port := { s1.port with image := ImageRead.initial } } cause

/-- FLASH_TIMEOUT (R93, R350, Tables 3.8, 4.1 and 4.2). While a stage reads the flash, bring-up fails with one of the stage's codes.
Table 4.1 offers two for FLASH and for LEDGER, and their meanings choose: a flash that does not answer is 0x98, a ledger that
cannot be read 0x9C and one that cannot be written 0x9D (log entry 112). In IMAGE one of 0xA8 to 0xAC (log entry 8). Any other
operation is the ledger write failure fault. -/
def execFlashTimeout (op : FlashOp) (s : State) : Host.Outcome State Fault Refusal :=
  let background := State.beginFault { s with ledger := { s.ledger with retryTicks := 0 } } 27
  match s.power.stage, op with
  | .reset, _ | .rstLow, _ | .strap, _ | .supply, _ | .clock, _ | .core, _ => .next s
  | .flash, _ => .next (s.failBringUp 0x98)
  | .ledger, .read => .next (s.failBringUp 0x9C)
  | .ledger, _ => .next (s.failBringUp 0x9D)
  | .image, .read =>
    if s.power.bootsFromFlash then .next (s.failImage (BitVec.ofNat 8 (0xA8 + Config.imageReadTimeoutCode.val)))
    else .next background
  | _, _ => .next background

/-- The image that the records so far build (R124, R443): the defaults, and each record in its order. -/
def State.builtImage (s : State) : Image :=
  s.port.image.held.foldl Image.take (s.port.image.built.getD (defaultImage s.power.straps))

/-! ## The boot image -/

/-- What the HEADER's body gives fails with, none when it is good (R440, R441). In the flash the ledger regions begin 64 KiB
below the top (R119). -/
def State.headerFault (s : State) (pl : Place) (rec : List Byte) : Option Byte :=
  let b := recBody rec
  let ilen := fieldAt b 12 4
  if recIndex rec ≠ 0 then some 0xAC
  else if fieldAt b 0 4 ≠ 0x3158524C ∨ fieldAt b 4 2 ≠ 1 ∨ fieldAt b 6 2 ≠ 0x6410 ∨ 0x11 < fieldAt b 8 1 ∨
      2 ≤ fieldAt b 9 1 ∨ fieldAt b 10 2 ≠ 0 then some 0xA8
  else if pl = .flashImage ∧ s.power.flashMbit * 131072 < ilen + 65536 then some 0xAB
  else if s.power.sealOn ∧ fieldAt b 9 1 = 0 then some 0xAA
  else if ilen ≤ rec.length then some 0xA8
  else none

/-- A HEADER starts the image (R439, R440). -/
def State.startImage (s : State) (rec : List Byte) : State :=
  let b := recBody rec
  { s with port := { s.port with image :=
      { ImageRead.initial with
        started := true, ilen := fieldAt b 12 4, nrec := fieldAt b 16 4, sealedFlag := fieldAt b 9 1 == 1
        bytes := rec, records := 1, built := some (defaultImage s.power.straps) } } }

/-- The image has been read one record further. -/
def ImageRead.step (i : ImageRead) (rec : List Byte) : ImageRead :=
  { i with bytes := i.bytes ++ rec, records := i.records + 1 }

/-- The records act: what the image built becomes the base, the overlays and the objects, its segments are READY, and IMAGE
ends (R124, R443, R462). -/
def State.imageActs (s : State) : State :=
  let img := s.builtImage
  let free (g : Segment) : Segment :=
    let g1 := { g with sealHold := false }
    if g.state = .loading ∧ g.rcvd = g.len then { g1 with state := .ready } else g1
  let mem := s.mem.segs.foldl (fun m g => m.putSeg (free g)) s.mem
  let s1 := { s with
    txn := { s.txn with boot := img }
    mem := mem
    port := { s.port with image := { s.port.image with built := some img, held := [] } } }
  s1.endImage

/-- The END record (R441 to R443): the count, the segments begun, and with SEAL set the wait for the tag (R462). -/
def State.takeEnd (s : State) (rec : List Byte) : State :=
  let i := s.port.image.step rec
  let s1 := { s with port := { s.port with image := { i with complete := true } } }
  if recIndex rec ≠ 0 then s.failImage 0xAC
  else if i.records ≠ i.nrec then s.failImage 0xA8
  else if i.segments.any (fun id => (s.mem.seg id).elim true fun g => g.rcvd != g.len) then s.failImage 0xAC
  else if s.power.sealOn then s1
  else s1.imageActs

/-- A configuration record of the image (R124): it builds the base, or with SEAL set is held aside (R462). -/
def State.takeImageConfig (s : State) (rec : List Byte) : State :=
  let i := s.port.image.step rec
  let i1 := if s.power.sealOn then { i with held := i.held ++ [rec] } else { i with built := i.built.map fun b => b.take rec }
  { s with port := { s.port with image := i1 } }

/-- A chunk of the image (R124, Table 9.5): with no DRAM, or no page for it, the device lacks what the image needs (0xAB). -/
def State.takeImageChunk (s : State) (rec : List Byte) (errs : List LineErrs) : State :=
  let c := chunkOf rec
  let i := s.port.image.step rec
  let i1 := if c.start && !i.segments.contains c.id then { i with segments := i.segments ++ [c.id] } else i
  let s1 := { s with port := { s.port with image := i1 } }
  if !s.dramUsable then s1.failImage 0xAB
  else
    let (noPage, s2) := s1.takeChunk c s.power.sealOn errs
    if noPage then s2.failImage 0xAB else s2

/-- A record after the HEADER, sound in rows 1 and 2 (R441, R442, rows 4 and 5). -/
def State.takeInImage (s : State) (rec : List Byte) (errs : List LineErrs) : State :=
  let t := rtype rec
  let i := s.port.image
  let past := i.bytes.length + rec.length
  if t = 1 ∨ t = 3 then s.failImage 0xAC
  else if t = 2 ∧ past < i.ilen then s.failImage 0xAC
  else if t = 2 then s.takeEnd rec
  else if i.ilen ≤ past then s.failImage 0xA8
  else if !structureOk rec (some s.builtImage) then s.failImage 0xAC
  else if t = 0x30 then s.takeImageChunk rec errs
  else s.takeImageConfig rec

/-- A record of a boot image before its HEADER: the first in the flash must be one; on the port others are discarded (R439,
R441). -/
def State.takeFirst (s : State) (pl : Place) (rec : List Byte) : State :=
  if rtype rec = 1 then
    match s.headerFault pl rec with
    | some code => s.failImage code
    | none => s.startImage rec
  else if pl = .flashImage then s.failImage 0xA8
  else s

/-- Rows 1 and 2 fail in a boot image (R441, Table 14.3). -/
def State.damagedInImage (s : State) (pl : Place) : State :=
  if s.port.image.started then s.failImage 0xA9
  else if pl = .flashImage then s.failImage 0xA8
  else s.distrust

/-! ## PROVISION and the port after bring-up -/

/-- The PROVISION record (R464, R465): the cells are programmed and read back. -/
def State.takeKey (s : State) (rec readBack : List Byte) : State :=
  let body := recBody rec
  if kcvOf (slice body 0 32) ≠ slice body 32 8 then s.logEvent 0x0F 0 (BitVec.ofNat 16 (rtype rec))
  else
    let key := slice readBack 0 32
    let kcv := slice readBack 32 8
    let s1 := { s with power := { s.power with key := some key, kcv := some kcv } }
    if kcvOf key = kcv then s1.enterStage .provisioned else s1.failBringUp 0x89

/-- A record in PROVISION, sound in rows 1 and 2 (R418, R465, Table 14.3). -/
def State.takeInProvision (s : State) (rec readBack : List Byte) : State :=
  let obj := BitVec.ofNat 16 (rtype rec)
  if rtype rec ≠ 3 ∨ s.power.stage = .provisioned then s.logEvent 0x10 0 obj
  else if !structureOk rec none then s.logEvent 0x0E 0 obj
  else s.takeKey rec readBack

/-- A record on the content port after bring-up, sound in rows 1 and 2: rows 3 to 6 of Table 14.3. `arrived` is the frame in which
its last byte was accepted. -/
def State.takeOnPort (s : State) (rec : List Byte) (errs : List LineErrs) (arrived : Nat) : State :=
  if rtype rec ≠ 0x30 then s.takeConfig rec arrived
  else if !s.tagOk rec then s.logEvent 0x0F 0 0x30
  else if !structureOk rec none then s.logEvent 0x0E 0 0x30
  else (s.takeChunk (chunkOf rec) false errs).2

/-! ## Any record -/

/-- Whether a chunk waits, in the content buffer (R419) or in the flash: port P2 is back-pressured, by Squall, a sleeping DRAM or full
read queues (R307, R311, R318). -/
def State.chunkWaits (s : State) (t : Nat) : Bool :=
  t == 0x30 && s.dramUsable && !s.p2Open

/-- The IFLAGS[0] of the image's HEADER, by which Table 14.2 judges an END. -/
def State.sealedImage (s : State) (pl : Place) : Option Bool :=
  if pl.inImage && s.port.image.started then some s.port.image.sealedFlag else none

/-- Whether a record of the image would end beyond byte ILEN − 1, which the device does not read (R441, R442). -/
def State.pastEnd (s : State) (pl : Place) (rec : List Byte) : Bool :=
  let i := s.port.image
  pl.inImage && i.started && decide (i.ilen < i.bytes.length + (recordLength rec).getD 0)

/-- A whole record, sound in row 1. -/
def State.takeWhole (s : State) (pl : Place) (rec : List Byte) (errs : List LineErrs) (readBack : List Byte) : State :=
  let after := s.takeOff pl rec.length
  match crcOk rec, pl with
  | false, .flashImage | false, .portImage => s.damagedInImage pl
  | false, .provisioning | false, .afterBringUp => (s.logEvent 0x0E 0 (BitVec.ofNat 16 (rtype rec))).distrust
  | true, .flashImage | true, .portImage => if s.port.image.started then after.takeInImage rec errs else after.takeFirst pl rec
  | true, .provisioning => after.takeInProvision rec readBack
  | true, .afterBringUp => after.takeOnPort rec errs (arrivedAt rec.length s.port.arrived)

/-- A record of type `t` is taken (R435). On the content port `rec` must stand at the front of the stream; row 1 is judged on
its header alone, and the rows after it on the whole record. A header whose RTYPE names another command's record is not
this command's; one whose RTYPE is reserved is refused under any. -/
def State.takeRecord (s : State) (t : Nat) (rec : List Byte) (errs : List LineErrs) (readBack : List Byte) : State :=
  match s.place with
  | none => s
  | some pl =>
    let mine := rtype rec == t || !knownTypes.contains (rtype rec)
    let here := !pl.onPort || rec.isPrefixOf s.port.stream
    if rec.length < 12 ∨ !mine ∨ !here then s
    else if !framingOk pl.inImage (s.sealedImage pl) rec then
      if pl.inImage then s.damagedInImage pl
      else (s.logEvent 0x0E 0 (BitVec.ofNat 16 (rtype rec))).distrust
    else if s.pastEnd pl rec then s.failImage (if t = 1 ∨ t = 3 then 0xAC else 0xA8)
    else if recordLength rec ≠ some rec.length then s
    else if s.chunkWaits t then { s with mem := s.mem.request }
    else
      let s1 := if t = 0x30 ∧ s.dramUsable then { s with mem := s.mem.request } else s
      s1.takeWhole pl rec errs readBack

/-- HEADER (R439 to R441). -/
def execHeader (rec : List Byte) (s : State) : Host.Outcome State Fault Refusal := .next (s.takeRecord 0x01 rec [] [])

/-- END (R441 to R443). -/
def execEndRecord (rec : List Byte) (s : State) : Host.Outcome State Fault Refusal := .next (s.takeRecord 0x02 rec [] [])

/-- PROVISION (R464, R465). -/
def execProvision (rec readBack : List Byte) (s : State) : Host.Outcome State Fault Refusal :=
  .next (s.takeRecord 0x03 rec [] readBack)

/-- BASE (R444 to R446). -/
def execBase (rec : List Byte) (s : State) : Host.Outcome State Fault Refusal := .next (s.takeRecord 0x10 rec [] [])

/-- OVERLAY (R444 to R446). -/
def execOverlay (rec : List Byte) (s : State) : Host.Outcome State Fault Refusal := .next (s.takeRecord 0x11 rec [] [])

/-- PROGRAM (R447). -/
def execProgram (rec : List Byte) (s : State) : Host.Outcome State Fault Refusal := .next (s.takeRecord 0x20 rec [] [])

/-- TONE TABLE (R448). -/
def execToneTable (rec : List Byte) (s : State) : Host.Outcome State Fault Refusal := .next (s.takeRecord 0x21 rec [] [])

/-- MARGIN TABLE (R449). -/
def execMarginTable (rec : List Byte) (s : State) : Host.Outcome State Fault Refusal := .next (s.takeRecord 0x22 rec [] [])

/-- COEFFICIENT SET (R450). -/
def execCoefficientSet (rec : List Byte) (s : State) : Host.Outcome State Fault Refusal :=
  .next (s.takeRecord 0x23 rec [] [])

/-- GUARD TABLE (R451). -/
def execGuardTable (rec : List Byte) (s : State) : Host.Outcome State Fault Refusal := .next (s.takeRecord 0x24 rec [] [])

/-- LINK MAP (R452). -/
def execLinkMap (rec : List Byte) (s : State) : Host.Outcome State Fault Refusal := .next (s.takeRecord 0x25 rec [] [])

/-- CAPTURE PLAN (R453). -/
def execCapturePlan (rec : List Byte) (s : State) : Host.Outcome State Fault Refusal := .next (s.takeRecord 0x26 rec [] [])

/-- BUDGETS (R454, R455). -/
def execBudgets (rec : List Byte) (s : State) : Host.Outcome State Fault Refusal := .next (s.takeRecord 0x27 rec [] [])

/-- SEGMENT CHUNK (R300, R340, R456 to R458). -/
def execSegmentChunk (rec : List Byte) (errs : List LineErrs) (s : State) : Host.Outcome State Fault Refusal :=
  .next (s.takeRecord 0x30 rec errs [])

/-- SEAL_VERIFY_DONE (R125, R459, R461, R462): the tag over the whole image is compared, and on a match the image acts. -/
def execSealVerifyDone (s : State) : Host.Outcome State Fault Refusal :=
  let i := s.port.image
  if s.power.stage = .image && s.power.sealOn && i.complete then
    if s.power.tagOf (i.bytes.take (i.ilen - 36)) = some (slice i.bytes (i.ilen - 36) 32) then .next s.imageActs
    else .next (s.failImage 0xAA)
  else .next s

end Sys2Proof.Machine
end

