-- ==== Sys2Proof/Machine/LedgerCmds.lean ====
section
/-! DEFINITION. The commands of the ledger's flash: programs, erases and retries (R345, R348, R350). -/

namespace Sys2Proof.Machine

/-- The operation that runs has ended well (R345 to R348): the flash holds its result, the holds are judged afresh (R346), a
completed compaction freezes a LEDGER frame (R429), and the next operation starts. -/
def State.ledgerDone (s : State) : State :=
  let compacted := s.ledger.op == some (.again s.ledger.other)
  let s1 := { s with ledger := (s.ledger.finishOp s.wideBounds).judgeHolds }
  let s2 := if compacted then s1.freezeLedger else s1
  s2.ledgerNext

/-- Whether an operation is a page program, and not an erase. -/
def LedgerOp.isProgram (o : LedgerOp) : Bool :=
  match o with
  | .tally _ _ _ | .header | .record _ | .commit | .again _ => true
  | .erase _ => false

/-- LEDGER_PROGRAM_DONE (R345, R348). -/
def execLedgerProgramDone (s : State) : Host.Outcome State Fault Refusal :=
  if s.coreRuns && !s.power.fault 27 && s.ledger.op.any LedgerOp.isProgram then .next s.ledgerDone else .next s

/-- LEDGER_ERASE_DONE (R348): a sector of the other region is erased; after the eighth the region is programmed. -/
def execLedgerEraseDone (s : State) : Host.Outcome State Fault Refusal :=
  if s.coreRuns && !s.power.fault 27 && s.ledger.op.any (!·.isProgram) then .next s.ledgerDone else .next s

/-- LEDGER_RETRY (R350): every 64 ticks the failed operation is repeated, and the first that succeeds clears the fault. -/
def execLedgerRetry (ok : Bool) (s : State) : Host.Outcome State Fault Refusal :=
  if s.coreRuns && s.power.fault 27 && s.ledger.op.isSome && decide (64 ≤ s.ledger.retryTicks) then
    let s1 := { s with ledger := { s.ledger with retryTicks := 0 } }
    if ok then .next (s1.clearFault 27).ledgerDone else .next s1
  else .next s

end Sys2Proof.Machine
end

