-- ==== Sys2Proof/Machine/Pins.lean ====
section
/-! DEFINITION. The control pins (R81 to R92), events (R88, R163, R164, R402) and the marker pins' pulses (R167). -/

namespace Sys2Proof.Machine

/-- TX_STUCK_PIN (R85): a level high for 65,536 frames is a fault, and the pin is ignored. -/
def execTxStuckPin (pin : TxPin) (samples : List Bool) (s : State) : Host.Outcome State Fault Refusal :=
  if s.watchesPins && !s.pins.stuck[txIndex pin] && decide (65536 ≤ s.txHighFor pin samples) then
    let s1 := { s with pins := { s.pins with stuck := s.pins.stuck.set (txIndex pin) true } }
    .next (s1.beginFault (18 + (txIndex pin).val))
  else .next s

/-- TX_STUCK_PIN_CLEAR (R86): 16 frames low clear the fault. -/
def execTxStuckPinClear (pin : TxPin) (samples : List Bool) (s : State) : Host.Outcome State Fault Refusal :=
  let last := lastN 16 (filtered samples)
  if s.watchesPins && s.pins.stuck[txIndex pin] && decide (last.length = 16) && !last.contains true then
    let s1 := { s with pins := { s.pins with
      stuck := s.pins.stuck.set (txIndex pin) false, txHigh := s.pins.txHigh.set (txIndex pin) none } }
    .next (s1.clearFault (18 + (txIndex pin).val))
  else .next s

/-- MODE_INVALID (R92): the filtered code is 0b110 or 0b111. -/
def execModeInvalid (samples : List (BitVec 3)) (s : State) : Host.Outcome State Fault Refusal :=
  match (filteredCodes samples).getLast? with
  | some m =>
    if s.watchesPins && modeInvalid m then .next (State.beginFault { s with pins := { s.pins with mode := m } } 17)
    else .next s
  | none => .next s

/-- MODE_VALID_CLEAR (R92): the filtered code has been valid for 16 frames. -/
def execModeValidClear (samples : List (BitVec 3)) (s : State) : Host.Outcome State Fault Refusal :=
  let last := lastN 16 (filteredCodes samples)
  if s.watchesPins && s.power.fault 17 && decide (last.length = 16) && !last.any modeInvalid then
    .next (State.clearFault { s with pins := { s.pins with mode := last.getLastD s.pins.mode } } 17)
  else .next s

/-- One bit of a byte set to a value. -/
def setBit (v : Byte) (k : Nat) (b : Bool) : Byte := if b then v ||| (1#8 <<< k) else v &&& ~~~(1#8 <<< k)

/-- EV_DEBOUNCED (R88, R163, R164): the filtered level has held a new value for N frames. A rising edge of a pin whose bit
of SE_MASK is set is queued at the root for the next sync frame. -/
def execEvDebounced (k : Fin 8) (samples : List Bool) (s : State) : Host.Outcome State Fault Refusal :=
  let n := (s.txn.live.params.pin[k]).evDeb.toNat
  let new := !s.pins.ev.getLsbD k.val
  let last := lastN n (filtered samples)
  if s.watchesPins && decide (0 < n) && decide (last.length = n) && last.all (· == new) then
    let s1 := { s with pins := { s.pins with ev := setBit s.pins.ev k.val new } }
    let s2 := s1.raisePin (if new then k.val else 8 + k.val)
    if new && s2.isRoot && s2.txn.live.params.dev.seMask.getLsbD k.val then
      .next { s2 with chain := { s2.chain with seQueue := setBit s2.chain.seQueue k.val true } }
    else .next s2
  else .next s

/-- SYSTEM_EVENT (R402): the SE events of this tick are raised in frame 0. -/
def execSystemEvent (s : State) : Host.Outcome State Fault Refusal :=
  if s.coreRuns && s.power.role != .standalone && decide (s.clock.frame = 0) then
    let s1 := (List.range 8).foldl (fun s k => if s.chain.seRaise.getLsbD k then s.raisePin (0x10 + k) else s) s
    .next { s1 with chain := { s1.chain with seRaise := 0 } }
  else .next s

/-- RTR_N_LOW (R18, R91): RTR_N is recognised low, by a driver other than this device: every channel retreats. Samples that end
high let the recognised level rise again (log entry 74). -/
def execRtrNLow (samples : List Bool) (s : State) : Host.Outcome State Fault Refusal :=
  let levels := filtered samples
  if !s.watchesPins then .next s
  else
    match levels.getLast? with
    | some true => .next { s with pins := { s.pins with rtrLow := false } }
    | some false =>
      if s.pins.rtrLow && !levels.contains true then .next s
      else
        .next (State.rtrRecognised { s with pins := { s.pins with rtrLow := true } })
    | none => .next s

/-- MK_PULSE_END (R167): the pulse of a marker pin has run its width. -/
def execMkPulseEnd (k : Fin 8) (s : State) : Host.Outcome State Fault Refusal :=
  match s.pins.mkPulse[k] with
  | some t =>
    if t ≤ s.clock.clk then .next { s with pins := { s.pins with mkPulse := s.pins.mkPulse.set k none } } else .next s
  | none => .next s

end Sys2Proof.Machine
end

