-- ==== Sys2Proof/Machine/Players.lean ====
section
/-! DEFINITION. The commands of the players: the frame steps (R199 to R216), the control steps (R185 to R191), jumps (R194,
R197) and stops (R225). -/

namespace Sys2Proof.Machine

/-- Whether players run at all: bring-up is complete and the core runs. -/
def State.plays (s : State) : Bool := s.isUp && s.coreRuns

/-- One frame of a frame step other than PLAY: the bookkeeping of R199. -/
def State.runFrame (s : State) (p : PlayerNo) (o : Op) : State := if s.plays then s.bookkeep p o else s

/-! ## Frame steps -/

/-- TONE (R200, R201, R205). -/
def execTone (p : PlayerNo) (s : State) : Host.Outcome State Fault Refusal := .next (s.runFrame p .tone)

/-- CHIRP (R206). -/
def execChirp (p : PlayerNo) (s : State) : Host.Outcome State Fault Refusal := .next (s.runFrame p .chirp)

/-- RAMP (R208). -/
def execRamp (p : PlayerNo) (s : State) : Host.Outcome State Fault Refusal := .next (s.runFrame p .ramp)

/-- NOISE (R209, R210). -/
def execNoise (p : PlayerNo) (s : State) : Host.Outcome State Fault Refusal := .next (s.runFrame p .noise)

/-- LEVEL (R211). -/
def execLevel (p : PlayerNo) (s : State) : Host.Outcome State Fault Refusal := .next (s.runFrame p .level)

/-- WAIT (R197, R198). -/
def execWait (p : PlayerNo) (s : State) : Host.Outcome State Fault Refusal := .next (s.runFrame p .wait)

/-! ## PLAY -/

/-- PLAY (R214, R221, R308, R309): the bookkeeping of the frame, then the lanes' requests. The end of the frame judges Squall
(R310). -/
def execPlay (p : PlayerNo) (s : State) : Host.Outcome State Fault Refusal :=
  if s.plays && (s.player[p]).state == .running && (s.stepOf p).op == .play then
    .next ((s.bookkeep p .play).askLines p)
  else .next s

/-! ## Control steps -/

/-- Whether a player stands at a control step with an opcode, to be settled in this frame (R185). -/
def State.standsAt (s : State) (p : PlayerNo) (o : Op) : Bool :=
  s.plays && (s.player[p]).state == .running && (s.stepOf p).op == o

/-- LOOP (R190). -/
def execLoop (p : PlayerNo) (s : State) : Host.Outcome State Fault Refusal :=
  if s.standsAt p .loop then .next (s.settleLoop p) else .next s

/-- NEXT (R190, R194). -/
def execNext (p : PlayerNo) (s : State) : Host.Outcome State Fault Refusal :=
  if s.standsAt p .next then .next (s.settleNext p) else .next s

/-- JUMP (R191). -/
def execJump (p : PlayerNo) (s : State) : Host.Outcome State Fault Refusal :=
  if s.standsAt p .jump then .next (s.settleJump p) else .next s

/-- END (R187). -/
def execEndStep (p : PlayerNo) (s : State) : Host.Outcome State Fault Refusal :=
  if s.standsAt p .finish then .next (s.settleEnd p) else .next s

/-! ## Jumps and stops -/

/-- EVENT_JUMP (R194): the pending jump whose boundary this frame met. -/
def execEventJump (p : PlayerNo) (s : State) : Host.Outcome State Fault Refusal :=
  let x := s.player[p]
  match s.plays && x.state == .running && x.jumpDue, x.pend with
  | true, some d => .next (s.jumpTo p d.target.toNat)
  | _, _ => .next s

/-- WAIT_TIMEOUT (R197, R219): the WAIT is left at its last frame, for TOT. -/
def execWaitTimeout (p : PlayerNo) (s : State) : Host.Outcome State Fault Refusal :=
  let x := s.player[p]
  if s.plays && x.state == .running && x.timeoutDue then
    let st := s.stepOf p
    .next ((s.leaveStep p st).jumpTo p st.tot)
  else .next s

/-- A player stops (R225): it loses its place, its loops and its phase, its lanes retreat, and bit 21 stands until the next
apply tick. -/
def State.stopPlayer (s : State) (p : PlayerNo) (cause : Fin 4) : State :=
  let s1 := s.onPlayer p fun x => { x.fresh with state := .stopped, cause := cause }
  let s2 := s1.logEvent 4 (BitVec.ofNat 8 cause.val) (BitVec.ofNat 16 p.val)
  (s2.beginFault 21).retreat (s.boundTo p)

/-- PLAYER_STOP (R225, R313): causes 1 and 2 are errors that the player has found; cause 3 holds only when a lane's prefetch
is empty. -/
def execPlayerStop (p : PlayerNo) (cause : Fin 4) (s : State) : Host.Outcome State Fault Refusal :=
  let finds := cause == 1 || cause == 2 || (cause == 3 && s.prefetchEmpty p)
  if s.plays && (s.player[p]).state == .running && finds then .next (s.stopPlayer p cause) else .next s

end Sys2Proof.Machine
end

