-- ==== Sys2Proof/Machine/PortCmds.lean ====
section
/-! DEFINITION. The content port's link and the frames that it receives (R407 to R417, R419 to R421, R485). -/

namespace Sys2Proof.Machine

/-! ## The link -/

/-- CPORT_RECOVER (R485): VDD_CPORT has been good for 1 tick, and the port is enabled again. -/
def execCportRecover (s : State) : Host.Outcome State Fault Refusal :=
  if s.coreRuns && s.power.isGood .cport && s.power.fault 11 && decide (s.port.goodAt + Config.framesPerTick ≤ s.clock.clk) then .next (s.clearFault 11) else .next s

/-- LINK_UP (R409): block lock has held and hi_ber has been false for 1 tick. -/
def execLinkUp (s : State) : Host.Outcome State Fault Refusal :=
  if s.portRuns then .next { s with port := { s.port with linkUp := true } } else .next s

/-- LINK_DOWN (R409, R417). -/
def execLinkDown (s : State) : Host.Outcome State Fault Refusal := .next (if s.portRuns then s.linkLost else s)

/-- LINK_FAULT_RECEIVED (R410): the port sends no frames. -/
def execLinkFaultReceived (s : State) : Host.Outcome State Fault Refusal :=
  if s.portRuns then .next { s with port := { s.port with rxFault := true } } else .next s

/-- LINK_FAULT_CLEARED (R410). -/
def execLinkFaultCleared (s : State) : Host.Outcome State Fault Refusal :=
  .next { s with port := { s.port with rxFault := false } }

/-- The frames that a pause_time takes (R421): Annex 31B counts it in units of 512 bit times, 51.2 ns at 10 Gb/s, of which eight make
five frames. -/
def pauseFrames (time : BitVec 16) : Nat := (5 * time.toNat + 7) / 8

/-- PAUSE_TIMER_EXPIRED (R421): the pause_time is over, and the device sends telemetry again (log entry 43). -/
def execPauseTimerExpired (s : State) : Host.Outcome State Fault Refusal :=
  if s.port.pauseEnd ≤ s.clock.clk then .next { s with port := { s.port with paused := false } } else .next s

/-! ## Addresses (R411, R412) -/

/-- The group address, 03-54-46-5F-00-00. -/
def groupMac : List Byte := [0x03, 0x54, 0x46, 0x5F, 0x00, 0x00]

/-- The broadcast address. -/
def broadcastMac : List Byte := List.replicate 6 0xFF

/-- The device's address: 02-54-46-5F-0i-ii with its ID, and the provisional address before it holds one. -/
def State.mac (s : State) : List Byte :=
  match s.deviceId with
  | some i => [0x02, 0x54, 0x46, 0x5F, BitVec.ofNat 8 (i.toNat / 256), BitVec.ofNat 8 (i.toNat % 256)]
  | none => [0x02, 0x54, 0x46, 0x5F, 0x1F, 0xFF]

/-- A MAC address as a number, its first octet in bits [7:0] (R468). -/
def macNumber (octets : List Byte) : BitVec 48 := BitVec.ofNat 48 (leNat octets)

/-! ## Received frames -/

/-- The decision of Table 13.1 on a frame: the row that matches first. -/
inductive FrameRow where
  | malformed | notForUs | pause (time : BitVec 16) | otherControl | otherType | badHeader | overflow | accept
  deriving DecidableEq, Repr

/-- PLEN of a content frame (Table 13.2). -/
def framePlen (bytes : List Byte) : Nat := fieldAt bytes 22 2

/-- The payload of a content frame. -/
def framePayload (bytes : List Byte) : List Byte := slice bytes 26 (framePlen bytes)

/-- Whether a content frame's header breaks row 6: VER, TYPE, FLAGS, the reserved bytes, PLEN. -/
def frameHeaderBad (bytes : List Byte) : Bool :=
  fieldAt bytes 14 1 != 1 || fieldAt bytes 15 1 != 0 || decide (2 ≤ fieldAt bytes 16 1) || fieldAt bytes 17 1 != 0 ||
    fieldAt bytes 24 2 != 0 || decide (bytes.length < 26 + framePlen bytes)

/-- The row of Table 13.1 that decides on a frame (R414). Its FCS adds four bytes to its length. -/
def State.frameRow (s : State) (bytes : List Byte) (fcsOk : Bool) : FrameRow :=
  let n := bytes.length + 4
  let dst := bytes.take 6
  let etherType := beNat (slice bytes 12 2)
  if !fcsOk || decide (n < 64) || decide (9216 < n) then .malformed
  else if !(dst == s.mac || dst == groupMac || dst == broadcastMac) then .notForUs
  else if etherType = 0x8808 then
    if beNat (slice bytes 14 2) = 1 then .pause (BitVec.ofNat 16 (beNat (slice bytes 16 2))) else .otherControl
  else if etherType ≠ 0x88B5 then .otherType
  else if frameHeaderBad bytes then .badHeader
  else if Config.bufferSize < s.port.stream.length + framePlen bytes then .overflow
  else .accept

/-- A frame accepted into the content buffer (R413, R416). -/
def State.acceptFrame (s : State) (bytes : List Byte) : State :=
  let sor := fieldAt bytes 16 1 == 1
  let off := BitVec.ofNat 32 (fieldAt bytes 18 4)
  let payload := framePayload bytes
  let s1 := { s with port := { s.port with host := some (macNumber (slice bytes 6 6)) } }
  if sor || s1.port.expect == some off then
    let s2 := if sor then s1.discardPartial 5 else s1
    State.settlePause { s2 with port := { s2.port with
      stream := s2.port.stream ++ payload, expect := some (off + BitVec.ofNat 32 (framePlen bytes))
      arrived := s2.port.arrived ++ [{ n := payload.length, clk := s.clock.clk, sor := sor }]
      lastByte := if payload.isEmpty then s2.port.lastByte else s.clock.clk } }
  else (((s1.discardPartial 4).bump 1).awaitSor).settlePause

/-- What the device does with a received frame (R414, Table 13.1). -/
def State.receiveFrame (s : State) (bytes : List Byte) (fcsOk : Bool) : State :=
  match s.frameRow bytes fcsOk with
  | .malformed | .otherControl | .otherType | .badHeader => s.bump 0
  | .notForUs => s
  | .pause time => { s with port := { s.port with paused := time != 0, pauseEnd := s.clock.clk + pauseFrames time } }
  | .overflow => (s.bump 0).dropPartial 3
  | .accept => s.acceptFrame bytes

/-- CONTENT_FRAME (R414 to R416). -/
def execContentFrame (bytes : List Byte) (fcsOk : Bool) (s : State) : Host.Outcome State Fault Refusal :=
  if s.portRuns && s.port.linkUp then .next (s.receiveFrame bytes fcsOk) else .next s

/-- PAUSE (R421): a received frame of that kind, which Table 13.1 judges like any other; it pauses the device for its
pause_time, and a pause_time of 0 ends a pause. -/
def execPause (bytes : List Byte) (fcsOk : Bool) (s : State) : Host.Outcome State Fault Refusal :=
  if s.portRuns && s.port.linkUp then .next (s.receiveFrame bytes fcsOk) else .next s

/-- PARTIAL_RECORD_TIMEOUT (R417, R123): 64 ticks without a payload byte. -/
def execPartialRecordTimeout (s : State) : Host.Outcome State Fault Refusal :=
  if s.portRuns && s.port.partialRecord && decide (s.port.lastByte + 64 * Config.framesPerTick ≤ s.clock.clk) then .next (s.dropPartial 1) else .next s

end Sys2Proof.Machine
end

