-- ==== Sys2Proof/Machine/Tap.lean ====
section
/-! DEFINITION. The test access port (R101 to R103), the thermal sensor (R523) and the strap windows (R97). -/

namespace Sys2Proof.Machine

/-! ## Boundary scan -/

/-- Whether RST_N is low. -/
def State.rstLow (s : State) : Bool := s.power.stage == .rstLow

/-- An instruction is in force, with the data register that it captured (R101, R102). -/
def State.putIr (s : State) (ir : TapInstr) (dr : BitVec 32) : State :=
  { s with tap := Tap.settle { s.tap with ir := ir, dr := dr } s.rstLow }

/-- An instruction that moves the boundary cells while RST_N is low, and acts as BYPASS otherwise (R101). -/
def State.driveCells (s : State) (ir : TapInstr) (cells : List Bool) : State :=
  let s1 := s.putIr ir 0
  if s.rstLow then { s1 with tap := { s1.tap with cells := cells } } else s1

/-- BYPASS (R102). -/
def execBypass (s : State) : Host.Outcome State Fault Refusal := .next (s.putIr .bypass 0)

/-- IDCODE (R102): 0x1641016B. -/
def execIdcode (s : State) : Host.Outcome State Fault Refusal := .next (s.putIr .idcode 0x1641016B)

/-- SAMPLE/PRELOAD (R102): the cells take what was sampled or shifted in. -/
def execSamplePreload (cells : List Bool) (s : State) : Host.Outcome State Fault Refusal :=
  let s1 := s.putIr .samplePreload 0
  .next { s1 with tap := { s1.tap with cells := cells } }

/-- EXTEST (R101). -/
def execExtest (cells : List Bool) (s : State) : Host.Outcome State Fault Refusal := .next (s.driveCells .extest cells)

/-- EXTEST_PULSE (R101): on the AC-coupled pairs. -/
def execExtestPulse (cells : List Bool) (s : State) : Host.Outcome State Fault Refusal :=
  .next (s.driveCells .extestPulse cells)

/-- EXTEST_TRAIN (R101): likewise. -/
def execExtestTrain (cells : List Bool) (s : State) : Host.Outcome State Fault Refusal :=
  .next (s.driveCells .extestTrain cells)

/-- CLAMP (R101): the boundary outputs hold what the cells hold. -/
def execClamp (s : State) : Host.Outcome State Fault Refusal := .next (s.putIr .clamp 0)

/-- HIGHZ (R101). -/
def execHighz (s : State) : Host.Outcome State Fault Refusal := .next (s.putIr .highz 0)

/-- TRST_N_LOW (R103): the test logic is reset, and no instruction acts on the outputs. -/
def execTrstNLow (s : State) : Host.Outcome State Fault Refusal := .next (s.putIr .idcode 0x1641016B)

/-! ## The sensor and the straps -/

/-- The mean of the latest readings, in 0.25 °C (R523). -/
def junctionOf (readings : List Int) : Int := if readings.isEmpty then 0 else readings.sum / readings.length

/-- Whether a reading of the sensor may complete now (R523): while frames are counted only in those whose index is a multiple of
1,024, before that at any instant. -/
def State.sensorReads (s : State) : Bool := s.power.stage != .reset && (!s.coreRuns || s.clock.frame % 1024 == 0)

/-- THERMAL_READING (R523): the device forms the junction temperature, which the thermal rules judge from the next frame on. -/
def execThermalReading (quarterDeg : Int) (s : State) : Host.Outcome State Fault Refusal :=
  if !s.sensorReads then .next s
  else
    let readings := (quarterDeg :: s.power.thermal).take 16
    .next { s with power := { s.power with thermal := readings, junction := junctionOf readings } }

/-- Whether the present frame holds the last conversion of a strap's window: place k + 120 of a round of 128 (R97). DEDUCED:
the rounds go with the frame count, also where an alignment moves it, so that every tick holds whole rounds (log entry 139). -/
def State.endsWindow (s : State) (k : Fin 8) : Bool := decide (s.clock.frame % 128 = k.val + 120)

/-- STRAP_WINDOW (R97): a window whose mean decodes to another code than the latched one marks the drift. It ends in its own
place of a round and in no other frame. -/
def execStrapWindow (k : Fin 8) (sum : Nat) (s : State) : Host.Outcome State Fault Refusal :=
  if s.coreRuns && s.endsWindow k && strapCode 16 sum != s.power.straps[k] then
    .next { s with power := { s.power with drifted := s.power.drifted.set k true } }
  else .next s

end Sys2Proof.Machine
end

