-- ==== Sys2Proof/Machine/Telemetry.lean ====
section
/-! DEFINITION. Telemetry (R413, R422 to R431, Tables 13.3 to 13.8): the bodies of the frames, their priority, and the
commands that send them. -/

namespace Sys2Proof.Machine

/-! ## Sending -/

/-- Whether only STATUS frames are sent: in PROVISION (R418). -/
def State.statusOnly (s : State) : Bool := s.power.stage == .provision || s.power.stage == .provisioned

/-- Whether EVENT entries that were pending at the latest boundary wait (R427). -/
def State.eventReady (s : State) : Bool := decide (0 < s.tel.eventsDue) && !s.tel.events.isEmpty

/-- Whether DETECTOR results that were queued at the latest boundary wait, or 382 are queued (R426). -/
def State.detectorReady (s : State) : Bool :=
  decide (382 ≤ s.tel.results.length) || (decide (0 < s.tel.resultsDue) && !s.tel.results.isEmpty)

/-- Whether the partner's pause holds telemetry back (R421): until its pause_time is over. -/
def State.isPaused (s : State) : Bool := s.port.paused && decide (s.clock.clk < s.port.pauseEnd)

/-- Whether a frame of a priority of Table 13.4 is ready or due: 1 OUTCOME, 2 WANTED, 3 BOG, 4 STATUS, 5 EVENT, 6 LEDGER,
7 DETECTOR. -/
def State.telReady (s : State) (prio : Nat) : Bool :=
  match prio with
  | 1 => !s.statusOnly && !s.tel.outcomes.isEmpty
  | 2 => !s.statusOnly && !s.tel.wanted.isEmpty
  | 3 => !s.statusOnly && !s.tel.bogChanges.isEmpty
  | 4 => s.tel.status.isSome
  | 5 => !s.statusOnly && s.eventReady
  | 6 => !s.statusOnly && s.tel.ledger.isSome
  | 7 => !s.statusOnly && s.detectorReady
  | _ => false

/-- Whether the transmitter takes a frame of a priority now: the link sends, the partner has not paused the device (R421),
and no frame of a higher priority is ready (R423). -/
def State.mayEmit (s : State) (prio : Nat) : Bool :=
  s.portRuns && s.port.sends && !s.isPaused && s.power.coreEnded &&
    (prio == 4 || !s.statusOnly) && (List.range prio).all fun k => !s.telReady k

/-- The destination of a telemetry frame (R413): TEL_DST, the source of the latest content frame, or the group address. -/
def State.telDst (s : State) : BitVec 48 :=
  let d := s.txn.live.params.dev.telDst
  if d = 0 then s.port.host.getD (macNumber groupMac) else d

/-- The telemetry header (Table 13.3). -/
def State.telHeader (s : State) (type : Byte) (epoch : BitVec 48) (blen : Nat) : List Byte :=
  [0x01, type] ++ leBytes 2 s.devid ++ leBytes 4 s.tel.seq.toNat ++ leBytes 6 epoch.toNat ++ leBytes 2 blen

/-- A frame as it leaves the port, without its FCS: the Ethernet header in the order of IEEE 802.3, each address by its first octet
first and the EtherType by its high octet first, and what follows (R8, R413, R422). -/
def TelFrame.bytes (f : TelFrame) : List Byte :=
  leBytes 6 f.dst.toNat ++ leBytes 6 f.src.toNat ++ (leBytes 2 f.etherType.toNat).reverse ++ f.payload

/-- A frame goes out (R413, R422): SEQ rises, and the frame is padded to 64 bytes. -/
def State.emit (s : State) (type : Byte) (epoch : BitVec 48) (body : List Byte) : State :=
  let bytes := s.telHeader type epoch body.length ++ body
  let frame : TelFrame := { dst := s.telDst, src := macNumber s.mac, etherType := 0x88B5, payload := bytes ++ List.replicate (46 - bytes.length) 0 }
  { s with tel := { s.tel with seq := s.tel.seq + 1, sent := some frame } }

/-! ## STATUS (R424) -/

/-- STATUS (R424): frozen at row 9 of its boundary, and sent when the line takes it. -/
def execStatus (s : State) : Host.Outcome State Fault Refusal :=
  match s.tel.status, s.mayEmit 4 with
  | some f, true => .next ({ s with tel := { s.tel with status := none } }.emit 0x01 f.epoch f.body)
  | _, _ => .next s

/-! ## CAPTURE (R425) -/

/-- A line of a CAPTURE frame: 72 bytes. -/
def CapLine.encode (l : CapLine) : List Byte :=
  [BitVec.ofNat 8 l.input.val, BitVec.ofNat 8 l.preset.toNat] ++ leBytes 6 l.epoch.toNat ++
    l.words.flatMap fun w => leBytes 2 w.toNat

/-- Whether a stream has a frame to send: 127 lines, or an oldest line of one tick. -/
def State.captureReady (s : State) (k : Fin 8) : Bool :=
  let lines := (s.mem.capture[k]).lines
  decide (127 ≤ lines.length) || lines.head?.any fun l => decide (l.born + Config.framesPerTick ≤ s.clock.clk)

/-- The lines of the next CAPTURE frame of a stream: the oldest 127 that are unsent. -/
def Capture.next (c : Capture) : List CapLine := c.lines.take 127

/-- The frame of a stream is whole: every line of it has been read from the ring. -/
def Capture.allRead (c : Capture) : Bool := c.next.all CapLine.got

/-- Where a line of a capture ring lies; in the first page for a ring without pages (R289). -/
def Capture.addrOf (c : Capture) (l : CapLine) : LineAddr :=
  let place := l.index % (1024 * c.pages.length)
  { page := (c.pages[place / 1024]?).getD 0, line := ⟨place % 1024, by omega⟩ }

/-- The lines of the next frame that are not read are asked of port P3, each once (R306, R307, R425). -/
def State.askRing (s : State) (k : Fin 8) : State :=
  let c := s.mem.capture[k]
  c.next.foldl (fun s l =>
    let a := c.addrOf l
    if l.got || s.mem.readsOf (subOf a 0) (fun r => r.read == some (.ring k) && r.addr == a) then s else s.askRead .p3 a 0 (.ring k)) s

/-- CAPTURE (R306, R311, R317, R425): the lines of the frame are read through P3, and the frame goes out when they have come. -/
def execCapture (k : Fin 8) (s : State) : Host.Outcome State Fault Refusal :=
  if !s.mayEmit 8 || !s.captureReady k || s.dramDown then .next s
  else
    let c := s.mem.capture[k]
    if c.allRead then
      let body := [BitVec.ofNat 8 k.val, 0] ++ leBytes 2 c.next.length ++ leBytes 4 c.gap ++ c.next.flatMap CapLine.encode
      let s1 := { s with mem := { s.mem with capture := s.mem.capture.set k { c with lines := c.lines.drop 127, gap := 0 } } }
      .next (s1.emit 0x02 s.clock.epoch body)
    else .next (s.askRing k)

/-! ## DETECTOR (R426) -/

/-- An entry of a DETECTOR frame: 24 bytes. -/
def DetResult.encode (r : DetResult) : List Byte :=
  [BitVec.ofNat 8 r.input.val, BitVec.ofNat 8 (bitAt r.taint 0 + bitAt r.timeout 1 + bitAt r.met 2)] ++
    leBytes 3 (BitVec.ofInt 24 r.i).toNat ++ leBytes 3 (BitVec.ofInt 24 r.q).toNat ++ leBytes 3 r.mag ++
    leBytes 2 r.ph.toNat ++ leBytes 4 r.n ++ leBytes 6 r.epoch.toNat ++ [0]

/-- DETECTOR (R426). -/
def execDetector (s : State) : Host.Outcome State Fault Refusal :=
  if s.mayEmit 7 && s.detectorReady then
    let sent := s.tel.results.take 382
    let body := leBytes 4 s.tel.resultsLost.toNat ++ leBytes 2 sent.length ++ [0, 0] ++ sent.flatMap DetResult.encode
    .next ({ s with tel := { s.tel with results := s.tel.results.drop 382, resultsDue := s.tel.resultsDue - 382 } }.emit 0x03 s.clock.epoch body)
  else .next s

/-! ## EVENT (R427) -/

/-- An entry of an EVENT frame: 16 bytes. -/
def EventEntry.encode (e : EventEntry) : List Byte :=
  [e.code, e.sub] ++ leBytes 2 e.obj.toNat ++ leBytes 6 e.epoch.toNat ++ leBytes 6 e.data.toNat

/-- EVENT (R427). -/
def execEvent (s : State) : Host.Outcome State Fault Refusal :=
  if s.mayEmit 5 && s.eventReady then
    let sent := s.tel.events.take 573
    let body := leBytes 2 sent.length ++ List.replicate 6 0 ++ sent.flatMap EventEntry.encode
    .next ({ s with tel := { s.tel with events := s.tel.events.drop 573, eventsDue := s.tel.eventsDue - 573 } }.emit 0x04 s.clock.epoch body)
  else .next s

/-! ## BOG (R428) -/

/-- BOG (R428). -/
def execBog (s : State) : Host.Outcome State Fault Refusal :=
  if s.mayEmit 3 && !s.tel.bogChanges.isEmpty then
    let sent := s.tel.bogChanges.take 573
    let body := leBytes 2 sent.length ++ [0, 0] ++ leBytes 4 s.mem.bog.length ++ sent.flatMap BogEntry.encode
    .next ({ s with tel := { s.tel with bogChanges := s.tel.bogChanges.drop 573 } }.emit 0x05 s.clock.epoch body)
  else .next s

/-! ## LEDGER (R429) -/

/-- LEDGER (R429): frozen at its occasion, and sent when the line takes it. -/
def execLedger (s : State) : Host.Outcome State Fault Refusal :=
  match s.tel.ledger, s.mayEmit 6 with
  | some f, true => .next ({ s with tel := { s.tel with ledger := none } }.emit 0x06 f.epoch f.body)
  | _, _ => .next s

/-! ## OUTCOME (R430) -/

/-- An entry of an OUTCOME frame: 24 bytes. -/
def OutcomeEntry.encode (e : OutcomeEntry) : List Byte :=
  [e.code, e.txid, e.obj.kind, 0] ++ leBytes 4 e.obj.obj.toNat ++ leBytes 6 e.epoch.toNat ++ [e.pin, 0] ++
    leBytes 8 e.mask.toNat

/-- OUTCOME (R430). -/
def execOutcome (s : State) : Host.Outcome State Fault Refusal :=
  if s.mayEmit 1 && !s.tel.outcomes.isEmpty then
    let sent := s.tel.outcomes.take 382
    let body := leBytes 2 sent.length ++ List.replicate 6 0 ++ sent.flatMap OutcomeEntry.encode
    .next ({ s with tel := { s.tel with outcomes := s.tel.outcomes.drop 382 } }.emit 0x07 s.clock.epoch body)
  else .next s

/-! ## WANTED (R339, R431) -/

/-- The runs of listed lines as ranges of FIRST and count: `start` is the first line of the run that is open. Counts stop at
the segment's length. -/
def wantedRanges (len : Nat) : Nat → Option Nat → List Nat → List (Nat × Nat)
  | last, some a, [] => [(48 * a, min len (48 * (last + 1)) - 48 * a)]
  | _, none, [] => []
  | last, some a, o :: os =>
    if o = last + 1 then wantedRanges len o (some a) os
    else (48 * a, min len (48 * (last + 1)) - 48 * a) :: wantedRanges len o (some o) os
  | _, none, o :: os => wantedRanges len o (some o) os

/-- The ranges of a WANTED frame: the first 32 in ascending order (R431). -/
def Mem.ranges (m : Mem) (g : Segment) : List (Nat × Nat) :=
  if g.whole then [(0, g.len)]
  else
    let lines := (m.bog.filter fun e => e.owner == g.id && e.first != 0xFFFFFFFF).map fun e => e.first.toNat / 48
    (wantedRanges g.len 0 none (lines.foldl (fun acc o => insertSorted o acc) [])).take 32

/-- WANTED (R339, R431): the request for a quarantined segment that is due. -/
def execWanted (id : BitVec 16) (s : State) : Host.Outcome State Fault Refusal :=
  match s.mem.seg id with
  | some g =>
    if s.mayEmit 2 && s.tel.wanted.contains id && g.state == .quarantined then
      let rs := s.mem.ranges g
      let body := leBytes 2 id.toNat ++ [BitVec.ofNat 8 (bitAt g.whole 0), BitVec.ofNat 8 rs.length] ++ leBytes 4 g.len ++
        List.replicate 4 0 ++ rs.flatMap fun r => leBytes 4 r.1 ++ leBytes 4 r.2
      .next ({ s with tel := { s.tel with wanted := s.tel.wanted.filter (· != id) } }.emit 0x08 s.clock.epoch body)
    else .next s
  | none => .next s

end Sys2Proof.Machine
end

