-- ==== Sys2Proof/Machine/Tick.lean ====
section
/-! DEFINITION. The tick boundary (R50, Table 2.2): the rows in their order, and the other things that a boundary counts
or measures. The actions of rows 2 to 6, 8 and 9 that are commands of their own are left due. -/

namespace Sys2Proof.Machine

/-- The clock at frame 0 of the next tick (R48). The frames that no command named pass with it, the first of them in full; a marker
edge of frame −1 that is due at the ball in frame 0 waits for the rows that may drop it (R169). -/
def State.toBoundary (s : State) : State :=
  let s := if s.clock.frame + 1 < Config.framesPerTick then s.passFrame else s
  let left := Config.framesPerTick - s.clock.frame
  let s0 := ((s.scrubTime left).endFrame).beginFrame
  let s1 := if left = 1 then s0 else { s0.beginFrame with pins := s0.beginFrame.pins.showMarkers }
  ((State.settlePins { s1 with clock := s.clock.pass left }).latchAligned).settleThermal

/-- Row 1 (R97, Table 2.2): a strap that drifted in a window of the ending tick is a fault, releases every output and discards the
transaction, which vetoes a system transaction as a fault does; during bring-up it fails it with 0x8A (Table 4.2). Answers whether
the check failed. -/
def State.strapCheck (s : State) : Bool × State :=
  let bad := s.power.drifted.toList.any id
  let s1 := { s with power := { s.power with drifted := Vector.replicate 8 false } }
  if !bad then (false, s1)
  else
    let s2 := { s1 with power := { s1.power with driftLatched := true } }
    let s3 := if s2.txn.state = .pending ∨ (s2.txn.state = .opened ∧ s2.isRoot) then (s2.discard 4).holdVeto 4 else s2.discard 4
    let s4 := (s3.beginFault 16).releaseAll
    (true, if s.power.stage.runs then s4.failBringUp 0x8A else s4)

/-- Row 2 (R390, R391, R402): a tick without a valid sync frame is missed, and the system events of that frame with it. The
fourth in a row makes the device an island. Answers whether it does. -/
def State.missedTick (s : State) : Bool × State :=
  if !s.pastJoin || s.isRoot then (false, s)
  else if s.chain.synced then (false, { s with chain := { s.chain with missed := 0 } })
  else
    let s1 := s.bump 7
    if s.chain.island then (false, s1)
    else
      let n := s.chain.missed + 1
      let falls := decide (4 ≤ n)
      (falls, { s1 with chain := { s1.chain with missed := n },
                        txn := { s1.txn with due := { s1.txn.due with island := falls } } })

/-- Whether a roll-back is due (row 3, R33, R395). -/
def State.rollbackDue (s : State) : Bool := if s.joined then s.chain.rollbackDue else s.txn.rollbackPending

/-- Whether the commit applies at this boundary (row 4, R147, R395). -/
def State.applyDue (s : State) : Bool :=
  s.txn.state == .pending && s.txn.validated &&
    (if s.joined then s.chain.commitDue
     else decide (s.txn.closedAt + 4096 ≤ s.clock.clk) &&
       (match s.txn.shadow with
        | some img => !(img.configure s.txn.selMode s.txn.selVar).needsDram || s.mem.awake
        | none => false))

/-- Rows 3 and 4: what is due, `skip` saying that row 1 or 2 has taken the boundary; what they skip is not done later (R51). A
commit that the root sent and that does not apply leaves the device diverged (R398). -/
def State.rows34 (s : State) (skip : Bool) : State :=
  let back := !skip && s.rollbackDue
  let apply := !skip && !back && s.applyDue
  { s with
    txn := { s.txn with rollbackPending := s.txn.rollbackPending && !skip, due := { s.txn.due with rollback := back, apply := apply } }
    chain := { s.chain with
      commitDue := false, rollbackDue := false, diverged := s.chain.diverged || (s.chain.commitDue && !apply) } }

/-- The power-up state that has returned takes its configuration (R46, R156), unless another one takes effect. -/
def State.rowDefaults (s : State) : State :=
  let d := s.txn.due
  if s.txn.defaultsDue && !d.rollback && !d.apply && !d.island then
    s.takeEffect (powerUpConfiguration s.power.straps) false
  else s

/-- Row 5 (R145, R161): the time-out count, in a joined system the root's alone. -/
def State.row5 (s : State) : State :=
  let d := s.txn.due
  if s.txn.state = .opened ∧ !d.rollback ∧ !d.island ∧ !s.followsRoot then
    let n := s.txn.count + 1
    { s with txn := { s.txn with count := n, due := { d with txnTimeout := n == s.txn.limit } } }
  else { s with txn := { s.txn with due := { d with txnTimeout := false } } }

/-- Row 6 (R153): the probation count; an apply, a roll-back or an island at this boundary ends it otherwise. -/
def State.row6 (s : State) : State :=
  let d := s.txn.due
  match s.txn.probation with
  | some n =>
    if d.apply || d.rollback || d.island then { s with txn := { s.txn with due := { d with probationEnd := false } } }
    else
      { s with txn := { s.txn with
          probation := some (n + 1), due := { d with probationEnd := decide (s.txn.live.params.dev.probation.toNat ≤ n + 1) } } }
  | none => { s with txn := { s.txn with due := { d with probationEnd := false } } }

/-- Row 7 (R36, R345, R348): the deep-dose count of every rail that lay beyond a deep threshold in the ending tick; then the
counters that fall due, and the flash's next operation. -/
def State.row7 (s : State) : State :=
  let s1 := (List.finRange 64).foldl (fun s r => if s.ledger.deep[r] then s.countUp (doseRecord r) else s) s
  let s2 := { s1 with ledger := { s1.ledger with deep := Vector.replicate 64 false, retryTicks := s1.ledger.retryTicks + 1 } }
  let s3 := { s2 with ledger := s2.ledger.queueDue s2.ledger.bound }
  s3.ledgerNext

/-- Row 8 (R361): the calibration's ticks; what begins is CALIBRATION_START's to choose. In a bring-up that has failed nothing begins,
and what runs completes (R497). -/
def State.row8 (s : State) : State :=
  { s with
    cal := { s.cal with
      since := s.cal.since + 1, sinceCore := s.cal.sinceCore + 1,
      item := s.cal.item.map fun it => { it with ticks := it.ticks + 1 } }
    txn := { s.txn with due := { s.txn.due with calibration := s.power.stage.pastCore } } }

/-- Row 9 (R424, R426, R427, R429): the STATUS and LEDGER frames that are due, and what EVENT and DETECTOR frames have to send. -/
def State.row9 (s : State) : State :=
  let t := s.clock.tick
  let status := s.power.coreEnded && s.power.portOn && decide (t % s.power.statusInterval = 0)
  let ledger := s.ledger.selected && decide (t % 4096 = 0)
  { s with
    txn := { s.txn with due := { s.txn.due with status := status, ledger := ledger } }
    tel := { s.tel with eventsDue := s.tel.events.length, resultsDue := s.tel.results.length } }

/-! ## What else a boundary does -/

/-- Self-refresh at a boundary (R317, Table 9.11): the idle count rises when no request arrived in the ending tick. -/
def State.srBoundary (s : State) : State :=
  let m := s.mem
  let quiet := m.fitted && !s.dramDown && s.srAllowed && !m.requested
  let m1 := match m.sr with
    | .awake => if quiet then { m with sr := SrStage.idleCount, srCount := 1 } else m
    | .idleCount => if quiet then { m with srCount := m.srCount + 1 } else m
    | .drain | .committed | .exit => m
  { s with mem := { m1 with requested := false } }

/-- The waveform memory's counts at a boundary (R315, R325, R330): MR4's rate, the uncorrectable lines of the ended tick unless
they call for a probe that has not begun, and the ticks since each probe. -/
def State.memBoundary (s : State) (hotRank : Vector Bool 2) : State :=
  let m := s.mem
  let hot := hotRank[0] || (m.ranks == 2 && hotRank[1])
  { s with mem := { m with
      hot := hot, badLines := mapAll (fun _ l => if 2 ≤ l.length then l else []) m.badLines, probeTicks := mapAll (fun _ (t : Nat) => t + 1) m.probeTicks } }

/-- The content port's counts at a boundary (R419, R339): a PAUSE is repeated while the fill stays above 64 KiB, and
WANTED frames fall due again every 4,096 ticks. -/
def State.portBoundary (s : State) : State :=
  let s2 := if s.port.pausing && decide (Config.pauseBelow < s.port.stream.length) then s.sendPause 0xFFFF else s
  let quarantined := (s2.mem.segs.filter fun g => g.state == .quarantined).map Segment.id
  if 4096 ≤ s2.tel.wantedTicks + 1 then
    quarantined.foldl State.wantContent { s2 with tel := { s2.tel with wantedTicks := 0 } }
  else { s2 with tel := { s2.tel with wantedTicks := s2.tel.wantedTicks + 1 } }

/-! ## The rows in their order -/

/-- Whether an action of rows 2 to 6 is due and not yet taken. -/
def State.rowsDue (s : State) : Bool :=
  let d := s.txn.due
  d.island || d.rollback || d.apply || d.txnTimeout || d.probationEnd

/-- Rows 7 to 9, on the state that the rows above them left (R50), with what else the boundary sends and counts: the root's sync
frame while its core is live (R405), self-refresh and the content port; and the marker edges that no apply has dropped (R169). In a
bring-up that has failed a calibration that runs completes, and the content port and telemetry go on (R130, R132, R419, R497). Row 9
waits for row 8 (R50). -/
def State.takeRest (s : State) : State :=
  let s1 := { s with
    txn := { s.txn with due := { s.txn.due with rest := false } }, pins := s.pins.showMarkers }
  match s.power.stage with
  | .failed _ => (((s1.row8).row9).portBoundary).closeNine
  | _ =>
    let s2 := if s1.isRoot && (s1.rootJoins || s1.coreLive) then s1.rootBoundary else s1
    ((((((s2.probtripBoundary.row7).row8).row9).srBoundary).portBoundary)).closeNine

/-- Rows 7 to 9 follow as soon as nothing of the rows above them is left to take. -/
def State.closeBoundary (s : State) : State := if s.txn.due.rest && !s.rowsDue then s.takeRest else s

/-- The actions of rows 2 to 6 and 8 that are still due, in their order, and the rows below them: a frame never passes over them. -/
def State.settleDue (s : State) : State :=
  let s1 := if s.txn.due.island then s.takeIsland else s
  let s2 := if s1.txn.due.rollback then s1.takeRollback else s1
  let s3 := if s2.txn.due.apply then s2.takeApply else s2
  let s4 := if s3.txn.due.txnTimeout then s3.timeOutTxn else s3
  let s5 := if s4.txn.due.probationEnd then s4.endProbation else s4
  let s6 := s5.closeBoundary
  if s6.txn.due.calibration then s6.takeCalibration.closeNine else s6

/-- The rows of Table 2.2 from row 2 on: rows 2 to 6 leave their actions due, and the rest follows them. -/
def State.settleRows (s : State) (strapFailed : Bool) : State :=
  let (falls, s2) := s.missedTick
  let s6 := (((s2.rows34 (strapFailed || falls)).rowDefaults).row5).row6
  let s7 := s6.chainBoundary
  State.closeBoundary { s7 with txn := { s7.txn with due := { s7.txn.due with rest := true } } }

/-- TICK_BOUNDARY (R50): what the last boundary left due is settled, the boundary is reached, REFIN is measured (R245), and the rows
are settled in their order. -/
def execTickBoundary (obs : TickObs) (s : State) : Host.Outcome State Fault Refusal :=
  if !s.coreRuns then .next s
  else
    let s0 := (s.settleDue.toBoundary).measureRefin obs.refinMv
    if !s0.coreRuns then .next s0
    else
      let (failed, s1) := s0.strapCheck
      if !s1.coreRuns then .next s1
      else .next ((s1.memBoundary obs.hotRank).settleRows failed)

/-- ISLAND (R391): row 2. -/
def execIsland (s : State) : Host.Outcome State Fault Refusal :=
  if s.takesNow s.txn.due.island then .next s.takeIsland.closeBoundary else .next s

/-- ROLLBACK_APPLY (R33 to R35, R155): row 3. -/
def execRollbackApply (s : State) : Host.Outcome State Fault Refusal :=
  if s.takesNow s.txn.due.rollback then .next s.takeRollback.closeBoundary else .next s

/-- COMMIT_APPLY (R151, R153, R154): row 4. -/
def execCommitApply (s : State) : Host.Outcome State Fault Refusal :=
  if s.takesNow s.txn.due.apply then .next s.takeApply.closeBoundary else .next s

/-- TXN_TIMEOUT (R145, R161): row 5. -/
def execTxnTimeout (s : State) : Host.Outcome State Fault Refusal :=
  if s.takesNow s.txn.due.txnTimeout then .next s.timeOutTxn.closeBoundary else .next s

/-- PROBATION_END (R152, R153): row 6. -/
def execProbationEnd (s : State) : Host.Outcome State Fault Refusal :=
  if s.takesNow s.txn.due.probationEnd then .next s.endProbation.closeBoundary else .next s

/-- With no command waiting one frame passes (log entry 7), once what the boundary left due has been taken. -/
def State.idleStep (s : State) : State := s.settleDue.idleFrame

end Sys2Proof.Machine
end

