-- ==== Sys2Proof/Machine/Dispatch.lean ====
section
/-! DEFINITION. Which meaning each command has: one arm for each constructor of `Instr`. -/

namespace Sys2Proof.Machine

def exec (i : Instr) (s : State) : Host.Outcome State Fault Refusal :=
  match i with
  | .powerOnReset => Sys2Proof.Machine.execPowerOnReset s
  | .aonBrownOut which dipNs => Sys2Proof.Machine.execAonBrownOut which dipNs s
  | .supplyBrownOut d dipNs => Sys2Proof.Machine.execSupplyBrownOut d dipNs s
  | .supplyGood d tests => Sys2Proof.Machine.execSupplyGood d tests s
  | .rstNLow widthNs => Sys2Proof.Machine.execRstNLow widthNs s
  | .rstNRise => Sys2Proof.Machine.execRstNRise s
  | .strapStageEnd sums => Sys2Proof.Machine.execStrapStageEnd sums s
  | .supplyStageEnd => Sys2Proof.Machine.execSupplyStageEnd s
  | .supplyStageTimeout => Sys2Proof.Machine.execSupplyStageTimeout s
  | .referenceValid edges cleanChars => Sys2Proof.Machine.execReferenceValid edges cleanChars s
  | .referenceWaitTimeout => Sys2Proof.Machine.execReferenceWaitTimeout s
  | .referenceLost edges aligned => Sys2Proof.Machine.execReferenceLost edges aligned s
  | .pllLock pins refinMv => Sys2Proof.Machine.execPllLock pins refinMv s
  | .pllLockTimeout => Sys2Proof.Machine.execPllLockTimeout s
  | .pllLockLost => Sys2Proof.Machine.execPllLockLost s
  | .coreStageEnd sramOk tests cportLocked => Sys2Proof.Machine.execCoreStageEnd sramOk tests cportLocked s
  | .sfdpDiscoveryDone r => Sys2Proof.Machine.execSfdpDiscoveryDone r s
  | .flashTimeout op => Sys2Proof.Machine.execFlashTimeout op s
  | .ledgerSelected lower upper formatOk => Sys2Proof.Machine.execLedgerSelected lower upper formatOk s
  | .dramTrainingDone r => Sys2Proof.Machine.execDramTrainingDone r s
  | .dramStageTimeout => Sys2Proof.Machine.execDramStageTimeout s
  | .imageWaitTimeout => Sys2Proof.Machine.execImageWaitTimeout s
  | .sealVerifyDone => Sys2Proof.Machine.execSealVerifyDone s
  | .joinWaitTimeout => Sys2Proof.Machine.execJoinWaitTimeout s
  | .rootEnumeration => Sys2Proof.Machine.execRootEnumeration s
  | .enumcntUpdate => Sys2Proof.Machine.execEnumcntUpdate s
  | .trimWaitTimeout => Sys2Proof.Machine.execTrimWaitTimeout s
  | .txb width others => Sys2Proof.Machine.execTxb width others s
  | .txc width others obs => Sys2Proof.Machine.execTxc width others obs s
  | .txa width others => Sys2Proof.Machine.execTxa width others s
  | .txStuckPin pin highFrames => Sys2Proof.Machine.execTxStuckPin pin highFrames s
  | .txStuckPinClear pin lowFrames => Sys2Proof.Machine.execTxStuckPinClear pin lowFrames s
  | .modeInvalid samples => Sys2Proof.Machine.execModeInvalid samples s
  | .modeValidClear samples => Sys2Proof.Machine.execModeValidClear samples s
  | .evDebounced k samples => Sys2Proof.Machine.execEvDebounced k samples s
  | .systemEvent => Sys2Proof.Machine.execSystemEvent s
  | .rtrNLow samples => Sys2Proof.Machine.execRtrNLow samples s
  | .validationDone => Sys2Proof.Machine.execValidationDone s
  | .tickBoundary obs => Sys2Proof.Machine.execTickBoundary obs s
  | .commitApply => Sys2Proof.Machine.execCommitApply s
  | .rollbackApply => Sys2Proof.Machine.execRollbackApply s
  | .probationEnd => Sys2Proof.Machine.execProbationEnd s
  | .txnTimeout => Sys2Proof.Machine.execTxnTimeout s
  | .island => Sys2Proof.Machine.execIsland s
  | .islandRejoin => Sys2Proof.Machine.execIslandRejoin s
  | .alignmentFault => Sys2Proof.Machine.execAlignmentFault s
  | .syncNone f => Sys2Proof.Machine.execSyncNone f s
  | .syncOpen f => Sys2Proof.Machine.execSyncOpen f s
  | .syncPrepare f obs => Sys2Proof.Machine.execSyncPrepare f obs s
  | .syncCommit f => Sys2Proof.Machine.execSyncCommit f s
  | .syncAbort f => Sys2Proof.Machine.execSyncAbort f s
  | .syncRollback f => Sys2Proof.Machine.execSyncRollback f s
  | .syncReservedCommand f => Sys2Proof.Machine.execSyncReservedCommand f s
  | .returnFrame port bytes clean => Sys2Proof.Machine.execReturnFrame port bytes clean s
  | .returnSend => Sys2Proof.Machine.execReturnSend s
  | .urgentRetreat port bytes => Sys2Proof.Machine.execUrgentRetreat port bytes s
  | .urgentRepeat => Sys2Proof.Machine.execUrgentRepeat s
  | .measureSend => Sys2Proof.Machine.execMeasureSend s
  | .measureRequest port seq turnPs => Sys2Proof.Machine.execMeasureRequest port seq turnPs s
  | .measureEcho seq turnPs rttPs => Sys2Proof.Machine.execMeasureEcho seq turnPs rttPs s
  | .causewayHandover => Sys2Proof.Machine.execCausewayHandover s
  | .monitorScan v => Sys2Proof.Machine.execMonitorScan v s
  | .guardTrip inp => Sys2Proof.Machine.execGuardTrip inp s
  | .guardRearm inp => Sys2Proof.Machine.execGuardRearm inp s
  | .detectorClose inp => Sys2Proof.Machine.execDetectorClose inp s
  | .detectorTimeout inp => Sys2Proof.Machine.execDetectorTimeout inp s
  | .engineSlot n => Sys2Proof.Machine.execEngineSlot n s
  | .rangeSwitchForced n => Sys2Proof.Machine.execRangeSwitchForced n s
  | .play p => Sys2Proof.Machine.execPlay p s
  | .tone p => Sys2Proof.Machine.execTone p s
  | .chirp p => Sys2Proof.Machine.execChirp p s
  | .ramp p => Sys2Proof.Machine.execRamp p s
  | .noise p => Sys2Proof.Machine.execNoise p s
  | .level p => Sys2Proof.Machine.execLevel p s
  | .wait p => Sys2Proof.Machine.execWait p s
  | .waitTimeout p => Sys2Proof.Machine.execWaitTimeout p s
  | .loop p => Sys2Proof.Machine.execLoop p s
  | .next p => Sys2Proof.Machine.execNext p s
  | .jump p => Sys2Proof.Machine.execJump p s
  | .endStep p => Sys2Proof.Machine.execEndStep p s
  | .eventJump p => Sys2Proof.Machine.execEventJump p s
  | .mkPulseEnd k => Sys2Proof.Machine.execMkPulseEnd k s
  | .playerStop p cause => Sys2Proof.Machine.execPlayerStop p cause s
  | .lineReadDone src a flips verify => Sys2Proof.Machine.execLineReadDone src a flips verify s
  | .scrubRead => Sys2Proof.Machine.execScrubRead s
  | .probeStart rank sub => Sys2Proof.Machine.execProbeStart rank sub s
  | .probeDone r => Sys2Proof.Machine.execProbeDone r s
  | .ddrAlertFault => Sys2Proof.Machine.execDdrAlertFault s
  | .mergeFlush sub flips verify => Sys2Proof.Machine.execMergeFlush sub flips verify s
  | .refreshDue rank sub busy => Sys2Proof.Machine.execRefreshDue rank sub busy s
  | .selfRefreshDrain => Sys2Proof.Machine.execSelfRefreshDrain s
  | .selfRefreshEntry => Sys2Proof.Machine.execSelfRefreshEntry s
  | .selfRefreshExit => Sys2Proof.Machine.execSelfRefreshExit s
  | .selfRefreshExitDone => Sys2Proof.Machine.execSelfRefreshExitDone s
  | .segmentLoadTimeout id => Sys2Proof.Machine.execSegmentLoadTimeout id s
  | .ledgerProgramDone => Sys2Proof.Machine.execLedgerProgramDone s
  | .ledgerEraseDone => Sys2Proof.Machine.execLedgerEraseDone s
  | .ledgerRetry ok => Sys2Proof.Machine.execLedgerRetry ok s
  | .calibrationStart => Sys2Proof.Machine.execCalibrationStart s
  | .calibrationDone r => Sys2Proof.Machine.execCalibrationDone r s
  | .monitorTrimDone b test missed => Sys2Proof.Machine.execMonitorTrimDone b test missed s
  | .thermalReading quarterDeg => Sys2Proof.Machine.execThermalReading quarterDeg s
  | .strapWindow k sum => Sys2Proof.Machine.execStrapWindow k sum s
  | .cportRecover => Sys2Proof.Machine.execCportRecover s
  | .linkUp => Sys2Proof.Machine.execLinkUp s
  | .linkDown => Sys2Proof.Machine.execLinkDown s
  | .contentFrame bytes fcsOk => Sys2Proof.Machine.execContentFrame bytes fcsOk s
  | .pause bytes fcsOk => Sys2Proof.Machine.execPause bytes fcsOk s
  | .partialRecordTimeout => Sys2Proof.Machine.execPartialRecordTimeout s
  | .header rec => Sys2Proof.Machine.execHeader rec s
  | .endRecord rec => Sys2Proof.Machine.execEndRecord rec s
  | .provision rec readBack => Sys2Proof.Machine.execProvision rec readBack s
  | .base rec => Sys2Proof.Machine.execBase rec s
  | .overlay rec => Sys2Proof.Machine.execOverlay rec s
  | .program rec => Sys2Proof.Machine.execProgram rec s
  | .toneTable rec => Sys2Proof.Machine.execToneTable rec s
  | .marginTable rec => Sys2Proof.Machine.execMarginTable rec s
  | .coefficientSet rec => Sys2Proof.Machine.execCoefficientSet rec s
  | .guardTable rec => Sys2Proof.Machine.execGuardTable rec s
  | .linkMap rec => Sys2Proof.Machine.execLinkMap rec s
  | .capturePlan rec => Sys2Proof.Machine.execCapturePlan rec s
  | .budgets rec => Sys2Proof.Machine.execBudgets rec s
  | .segmentChunk rec flips => Sys2Proof.Machine.execSegmentChunk rec flips s
  | .status => Sys2Proof.Machine.execStatus s
  | .capture k => Sys2Proof.Machine.execCapture k s
  | .detector => Sys2Proof.Machine.execDetector s
  | .event => Sys2Proof.Machine.execEvent s
  | .bog => Sys2Proof.Machine.execBog s
  | .ledger => Sys2Proof.Machine.execLedger s
  | .outcome => Sys2Proof.Machine.execOutcome s
  | .wanted id => Sys2Proof.Machine.execWanted id s
  | .bypass => Sys2Proof.Machine.execBypass s
  | .idcode => Sys2Proof.Machine.execIdcode s
  | .samplePreload cells => Sys2Proof.Machine.execSamplePreload cells s
  | .extest cells => Sys2Proof.Machine.execExtest cells s
  | .extestPulse cells => Sys2Proof.Machine.execExtestPulse cells s
  | .extestTrain cells => Sys2Proof.Machine.execExtestTrain cells s
  | .clamp => Sys2Proof.Machine.execClamp s
  | .highz => Sys2Proof.Machine.execHighz s
  | .portConnected port => Sys2Proof.Machine.execPortConnected port s
  | .portDisconnected port => Sys2Proof.Machine.execPortDisconnected port s
  | .pauseTimerExpired => Sys2Proof.Machine.execPauseTimerExpired s
  | .linkFaultReceived => Sys2Proof.Machine.execLinkFaultReceived s
  | .linkFaultCleared => Sys2Proof.Machine.execLinkFaultCleared s
  | .converterCheckDone error => Sys2Proof.Machine.execConverterCheckDone error s
  | .trstNLow => Sys2Proof.Machine.execTrstNLow s

end Sys2Proof.Machine
end

