-- ==== Sys2Proof/Safety.lean ====
section
/-! DEFINITION. What the statements speak of: the parts of the state for frames, and the conditions under which the outputs
of the block are safe. -/

namespace Sys2Proof.Machine

/-- The parts of the state, one for each of its fields. -/
inductive Part where
  | power | clock | pins | txn | chan | sense | player | mem | ledger | cal | chain | port | tel | tap | freeCount
  | pending
  deriving DecidableEq, Repr

/-- Two states hold the same in one part. -/
def State.agree (s t : State) (p : Part) : Prop :=
  match p with
  | .power => t.power = s.power
  | .clock => t.clock = s.clock
  | .pins => t.pins = s.pins
  | .txn => t.txn = s.txn
  | .chan => t.chan = s.chan
  | .sense => t.sense = s.sense
  | .player => t.player = s.player
  | .mem => t.mem = s.mem
  | .ledger => t.ledger = s.ledger
  | .cal => t.cal = s.cal
  | .chain => t.chain = s.chain
  | .port => t.port = s.port
  | .tel => t.tel = s.tel
  | .tap => t.tap = s.tap
  | .freeCount => t.freeCount = s.freeCount
  | .pending => t.pending = s.pending

/-- From `s` to `t` nothing changes outside the named parts. -/
def State.onlyMoves (s t : State) (ps : List Part) : Prop := ∀ p, p ∉ ps → s.agree t p

/-- Every drive output is released (R10). -/
def State.allReleased (s : State) : Prop := ∀ n : Chan, (s.chan[n]).released = true

/-- Every drive output that is not released is retreated (R11, R12). -/
def State.allRetreated (s : State) : Prop := ∀ n : Chan, (s.chan[n]).released = true ∨ (s.chan[n]).retreated = true

/-- The memory of the block is in its canonical form. -/
def State.memoryCanonical (s : State) : Prop := Memory.wf s.mem.cells = true

end Sys2Proof.Machine
end

