-- ==== Sys2Proof/WellFormed.lean ====
section
/-! DEFINITION. Which commands are well formed: the shapes of the operands that the spec gives and the types do not say. The
meanings are total, so that an ill-formed command has a next state too; a sender that follows the spec sends none. -/

namespace Sys2Proof

/-- The supplies whose fall is SUPPLY_BROWN_OUT (R134): VDD_AON and VDDIO have a row of their own (R105). -/
def Domain.hasOwnRow (d : Domain) : Bool := d == .aon || d == .vddio

/-- The pins recognised in the frame of a pulse of `pin` are other pins, each named once. -/
def othersOk (pin : TxPin) (others : List TxPin) : Bool := !others.contains pin && decide others.Nodup

/-- A run of samples that the majority filter can judge: three or more (R81). -/
def enoughSamples {α : Type} (l : List α) : Bool := decide (3 ≤ l.length)

/-- A set inserted in a frame has its own length: an urgent frame has 4 bytes (R375). -/
def LineSet.shaped (x : LineSet) : Bool :=
  match x with
  | .urgent bytes => bytes.length == 4
  | .echo _ _ | .measure _ => true

/-- What comes in a frame: each inserted set has its length. -/
def RxItem.shaped (x : RxItem) : Bool :=
  match x with
  | .inserted s => s.shaped
  | .byte _ | .codeError => true

/-- An error pattern names each symbol once, with what it adds, which is not 0. -/
def flipsOk (f : Flips) : Bool := decide (f.map Prod.fst).Nodup && f.all fun e => e.2 != 0

/-- The errors that a command reports name each line once. -/
def lineErrsOk (es : List LineErrs) : Bool :=
  decide (es.map LineErrs.addr).Nodup && es.all fun e => flipsOk e.read && flipsOk e.verify

/-- The samples of a closing command: enough of them to judge, and the reads of its fence. -/
def PinObs.shaped (o : PinObs) : Bool := enoughSamples o.modeVar && enoughSamples o.rtrN && lineErrsOk o.fence

/-- A record runs from its 12-byte header to its 4-byte CRC (R432). -/
def recordShaped (rec : List Byte) : Bool := decide (16 ≤ rec.length)

/-- Whether a command's operands have the shape that the spec gives them. -/
def Instr.wellFormed (i : Instr) : Bool :=
  match i with
  | .supplyBrownOut d _ | .supplyGood d _ => !d.hasOwnRow
  | .strapStageEnd sums => sums.toList.all fun x => decide (x ≤ 64 * 10000000)
  | .strapWindow _ sum => decide (sum ≤ 16 * 10000000)
  | .dramTrainingDone r => decide r.failed.Nodup
  | .txb l others => enoughSamples l && othersOk .txb others
  | .txc l others obs => enoughSamples l && othersOk .txc others && obs.shaped
  | .txa l others => enoughSamples l && othersOk .txa others
  | .txStuckPin _ l | .txStuckPinClear _ l => enoughSamples l
  | .modeInvalid l | .modeValidClear l => enoughSamples l
  | .evDebounced _ l | .rtrNLow l => enoughSamples l
  | .syncNone f | .syncOpen f | .syncCommit f | .syncAbort f | .syncRollback f | .syncReservedCommand f => f.items.all RxItem.shaped
  | .syncPrepare f obs => f.items.all RxItem.shaped && obs.shaped
  | .returnFrame _ items _ => items.all RxItem.shaped
  | .lineReadDone _ _ flips verify | .mergeFlush _ flips verify => flipsOk flips && flipsOk verify
  | .segmentChunk rec errs => recordShaped rec && lineErrsOk errs
  | .provision rec readBack => recordShaped rec && readBack.length == 40
  | .header rec | .endRecord rec | .base rec | .overlay rec | .program rec | .toneTable rec | .marginTable rec
  | .coefficientSet rec | .guardTable rec | .linkMap rec | .capturePlan rec | .budgets rec => recordShaped rec
  | .powerOnReset | .aonBrownOut .. | .rstNLow _ | .rstNRise | .supplyStageEnd | .supplyStageTimeout
  | .referenceValid .. | .referenceWaitTimeout | .referenceLost .. | .pllLock .. | .pllLockTimeout | .pllLockLost
  | .coreStageEnd .. | .sfdpDiscoveryDone _ | .flashTimeout _ | .ledgerSelected .. | .dramStageTimeout
  | .imageWaitTimeout | .sealVerifyDone | .joinWaitTimeout | .rootEnumeration | .enumcntUpdate | .trimWaitTimeout
  | .systemEvent | .validationDone | .tickBoundary _ | .commitApply
  | .rollbackApply | .probationEnd | .txnTimeout | .island | .islandRejoin | .alignmentFault | .returnSend
  | .urgentRetreat .. | .urgentRepeat | .measureSend | .measureRequest .. | .measureEcho .. | .causewayHandover
  | .monitorScan _ | .guardTrip _ | .guardRearm _ | .detectorClose _ | .detectorTimeout _ | .engineSlot _
  | .rangeSwitchForced _ | .play _ | .tone _ | .chirp _ | .ramp _ | .noise _ | .level _ | .wait _ | .waitTimeout _
  | .loop _ | .next _ | .jump _ | .endStep _ | .eventJump _ | .mkPulseEnd _ | .playerStop .. | .scrubRead
  | .probeStart .. | .probeDone _ | .ddrAlertFault | .refreshDue .. | .selfRefreshDrain | .selfRefreshEntry
  | .selfRefreshExit | .selfRefreshExitDone | .segmentLoadTimeout _ | .ledgerProgramDone | .ledgerEraseDone
  | .ledgerRetry _ | .calibrationStart | .calibrationDone _ | .monitorTrimDone .. | .thermalReading _ | .cportRecover
  | .linkUp | .linkDown | .contentFrame .. | .pause .. | .partialRecordTimeout | .status | .capture _ | .detector
  | .event | .bog | .ledger | .outcome | .wanted _ | .bypass | .idcode | .samplePreload _ | .extest _
  | .extestPulse _ | .extestTrain _ | .clamp | .highz | .portConnected _ | .portDisconnected _ | .pauseTimerExpired
  | .linkFaultReceived | .linkFaultCleared | .converterCheckDone _ | .trstNLow => true

end Sys2Proof
end

