-- ==== Sys2Proof/Certificates/Slice0/Obligations.lean ====
section
/-! DEFINITION. The statements for the provers: what the numbered rules of the spec say a command or the block does. -/

open Sys2Proof Sys2Proof.Machine

/-! ## What several statements share -/

/-- The waveform memory as it was, but for what the end of a transaction touches (R304): the resident set, and what the cache holds
of segments that leave it. -/
def memoryStands (s t : State) : Prop :=
  t.mem = { s.mem with resident := t.mem.resident, headWrong := t.mem.headWrong, listLines := t.mem.listLines }

/-- Nothing of the shadow or of the memory waits on the way to it: no record was accepted in the present frame, the content
buffer and the merge buffer are empty, and no update of the maps waits. -/
def settled (s : State) : Prop :=
  s.txn.fresh = none ∧ s.port.stream = [] ∧ s.mem.merge = Vector.replicate 2 [] ∧ s.mem.mapDue = []

/-- The code of the latest outcome. -/
def lastOutcome (s : State) : Option Byte := s.tel.outcomes.getLast?.map OutcomeEntry.code

/-! ## The block as a whole -/

/-- A command at the front of the queue is run on the state with the rest of the queue; with no command waiting, the step
is the passing of one frame, once what the boundary left due has been taken (log 7). -/
def Obligations.StepRunsFrontCommand : Prop :=
  (∀ (s : State) (c : Instr) (rest : List Instr), s.pending = c :: rest → step s = exec c { s with pending := rest }) ∧
  (∀ s : State, s.pending = [] → step s = .next s.idleStep)

/-- No command touches the queue: what waits behind it is what waited before. -/
def Obligations.CommandsLeaveTheQueue : Prop :=
  ∀ (c : Instr) (s t : State), exec c s = .next t → t.pending = s.pending

/-- R15, R104, R112, Table 3.7: at reset every output is released, the power-up state holds, ST[2:0] reads 0b000, RDY_N and
FLT_N are not driven, ALRT and STALE are low, no transaction is open, every segment is FREE, every player is IDLE and no
command waits. -/
def Obligations.ResetState : Prop :=
  State.reset.allReleased ∧ State.reset.power.powerUp = true ∧ State.reset.pins.st = 0 ∧
  State.reset.rdyLow = false ∧ State.reset.fltLow = false ∧ State.reset.alrt = false ∧ State.reset.stale = false ∧
  State.reset.txn.state = .idle ∧ State.reset.txn.shadow = none ∧ State.reset.txn.lastGood = none ∧
  State.reset.mem.segs = [] ∧ (∀ p : PlayerNo, (State.reset.player[p]).state = .idle) ∧ State.reset.pending = []

/-- The memory at reset is in canonical form. -/
def Obligations.ResetMemoryCanonical : Prop := State.reset.memoryCanonical

/-- Every step keeps the memory in canonical form: from every state, not only from those that a run reaches. -/
def Obligations.StepKeepsMemoryCanonical : Prop :=
  ∀ s t : State, s.memoryCanonical → step s = .next t → t.memoryCanonical

/-- R13: an output that is released leaves release only at the apply of a commit whose MODE is HOLD, at its nominal code,
whether COMMIT_APPLY applies it or the frame or boundary that finds it still due (that these take what is due: logs 7 and 75). -/
def Obligations.ReleaseEndsOnlyAtHoldCommit : Prop :=
  (∀ (c : Instr) (s t : State) (n : Chan), exec c s = .next t →
    (s.chan[n]).released = true → (t.chan[n]).released = false →
    (c = .commitApply ∨ ∃ obs, c = .tickBoundary obs) ∧ s.txn.due.apply = true ∧ modeTaken s.txn.selMode = 0) ∧
  (∀ (s t : State) (n : Chan), step s = .next t →
    (s.chan[n]).released = true → (t.chan[n]).released = false →
    s.txn.due.apply = true ∧ modeTaken s.txn.selMode = 0) ∧
  (∀ (s t : State) (n : Chan), step s = .next t →
    (s.chan[n]).released = true → (t.chan[n]).released = false →
    (t.chan[n]).code = (t.txn.live.params.chan[n]).nom ∧ (t.chan[n]).latched = (t.txn.live.params.chan[n]).nom)

/-- R14, R12: no timer, event or pin other than a commit ends a retreat, and it ends only where the channel had sight when
the commit passed validation; a release, which wins, is the other end. So it is of every command, and of every step, the passing of a
frame included. -/
def Obligations.RetreatEndsOnlyAtCommitOrRelease : Prop :=
  (∀ (c : Instr) (s t : State) (n : Chan), exec c s = .next t →
    (s.chan[n]).retreated = true → (t.chan[n]).retreated = false →
    (t.chan[n]).released = true ∨
      ((c = .commitApply ∨ ∃ obs, c = .tickBoundary obs) ∧ s.txn.due.apply = true ∧
        ((s.chan[n]).released = false → s.txn.seen[n] = true))) ∧
  (∀ (s t : State) (n : Chan), step s = .next t → (s.chan[n]).retreated = true → (t.chan[n]).retreated = false →
    (t.chan[n]).released = true ∨
      (s.txn.due.apply = true ∧ ((s.chan[n]).released = false → s.txn.seen[n] = true)))

/-- R17: a channel that calibration has released for good stays released until power-on reset is awaited again, whatever command
runs and whatever frame passes. -/
def Obligations.ReleasedForGoodStays : Prop :=
  (∀ (c : Instr) (s t : State) (n : Chan), exec c s = .next t →
    (s.chan[n]).forGood = true → (s.chan[n]).released = true →
    ((t.chan[n]).forGood = true ∧ (t.chan[n]).released = true) ∨ t.power.stage = .reset ∨ c = .powerOnReset) ∧
  (∀ (s t : State) (n : Chan), step s = .next t → (s.chan[n]).forGood = true → (s.chan[n]).released = true →
    ((t.chan[n]).forGood = true ∧ (t.chan[n]).released = true) ∨ t.power.stage = .reset ∨
      ∃ rest, s.pending = .powerOnReset :: rest)

/-- R130: failed bring-up holds its cause until RST_N is pulsed or power-on reset occurs, whatever command comes and whatever frame
passes. -/
def Obligations.FailedBringUpHolds : Prop :=
  (∀ (c : Instr) (s t : State) (cause : Byte), exec c s = .next t → s.power.stage = .failed cause →
    t.power.stage = .failed cause ∨ t.power.stage = .reset ∨ t.power.stage = .rstLow) ∧
  (∀ (s t : State) (cause : Byte), step s = .next t → s.power.stage = .failed cause →
    t.power.stage = .failed cause ∨ t.power.stage = .reset ∨ t.power.stage = .rstLow)

/-- R3, R39: a record never takes effect by arriving, and lowers no ledger count: the live configuration, the drive
channels, the players, the sense path and the counts of the ledger are as before. -/
def Obligations.RecordsTakeNoEffect : Prop :=
  ∀ (c : Instr) (s t : State) (rec : List Byte),
    (c = .base rec ∨ c = .overlay rec ∨ c = .program rec ∨ c = .toneTable rec ∨ c = .marginTable rec ∨
     c = .coefficientSet rec ∨ c = .guardTable rec ∨ c = .linkMap rec ∨ c = .capturePlan rec ∨ c = .budgets rec) →
    exec c s = .next t →
    t.txn.live = s.txn.live ∧ t.txn.lastGood = s.txn.lastGood ∧ t.chan = s.chan ∧ t.player = s.player ∧
      t.sense = s.sense ∧ t.ledger = s.ledger ∧ t.mem.cells = s.mem.cells

/-- R12, R254: when release and retreat apply to the same output at the same time, in either order, release wins; and a
channel released during a switch window has its gain changed at once, with no rescale of its code, and its window ends. -/
def Obligations.ReleaseWins : Prop :=
  ∀ (s : State) (releases retreats : Chan → Bool) (n : Chan), releases n = true →
    (((s.release releases).retreat retreats).chan[n]).released = true ∧
    (((s.release releases).retreat retreats).chan[n]).retreated = false ∧
    (((s.retreat retreats).release releases).chan[n]).released = true ∧
    (((s.retreat retreats).release releases).chan[n]).retreated = false ∧
    (((s.release releases).chan[n]).window = false ∧
      ((s.release releases).chan[n]).gainHeld = (s.txn.live.params.chan[n]).gain ∧
      ((s.release releases).chan[n]).code = (s.chan[n]).code)

/-- R175: a device that drives RTR_N low stops driving it only at a commit apply, at RST_N, or at power-on reset: so it is of every
command, and of every step, the passing of a frame included (that frames and boundaries take an apply that is due: logs 7 and 75). -/
def Obligations.RtrDriveHeld : Prop :=
  (∀ (c : Instr) (s t : State), exec c s = .next t → s.pins.rtrDrive = true → t.pins.rtrDrive = false →
    ((c = .commitApply ∨ ∃ obs, c = .tickBoundary obs) ∧ s.txn.due.apply = true) ∨ (∃ ns, c = .rstNLow ns) ∨
      c = .powerOnReset ∨ t.power.stage = .reset) ∧
  (∀ s t : State, step s = .next t → s.pins.rtrDrive = true → t.pins.rtrDrive = false →
    s.txn.due.apply = true ∨ (∃ ns rest, s.pending = .rstNLow ns :: rest) ∨ (∃ rest, s.pending = .powerOnReset :: rest) ∨
      t.power.stage = .reset)

/-! ## Bring-up -/

/-- R104: power-on reset ends the reset of every domain and STRAP begins: ST reads 0b001, MK shows 0x01, every output is
released, and the memory's bytes, the flash, the one-time cells, what the LINK domain holds and the test port's instruction
stand, no boundary cell driving an output (the model's choice for the test port: log 106). Where no reset is awaited, nothing
happens (log 1). -/
def Obligations.PowerOnResetBeginsStrap : Prop :=
  (∀ s : State, s.power.stage = .reset →
    ∃ t, exec .powerOnReset s = .next t ∧ t.power.stage = .strap ∧ t.power.mkCode = 0x01 ∧ t.pins.st = 1 ∧
      t.allReleased ∧ t.power.isGood .aon = true ∧ t.power.isGood .vddio = true ∧ t.power.strapsLatched = false ∧
      t.power.driftLatched = false ∧ t.mem.cells = s.mem.cells ∧ t.ledger.region = s.ledger.region ∧
      t.power.key = s.power.key ∧ t.power.kcv = s.power.kcv ∧ t.chain = s.chain.keepLink ∧ t.tap.ir = s.tap.ir ∧
      t.tap.cells = s.tap.cells ∧ t.tap.driving = false ∧ t.tap.hiZ = false ∧ t.pending = s.pending) ∧
  (∀ s : State, s.power.stage ≠ .reset → exec .powerOnReset s = .next s)

/-- R105, R500, Table 1.1: a dip of VDD_AON or VDDIO of 1 µs or more releases every output and awaits power-on reset; one below
0.5 µs does nothing; one between is judged by a free value (log 3). What the LINK domain holds stands. Cause bit 5 stands until
power-on reset (log 52), and meanwhile FLT_N is low where VDDIO has power (the model's reading of Tables 1.1 and 3.7 and of R502:
log 109); the test port stands as log 106 has it. -/
def Obligations.AonBrownOutResets : Prop :=
  (∀ (s : State) (w : AonSupply) (ns : Nat), 1000 ≤ ns →
    ∃ t, exec (.aonBrownOut w ns) s = .next t ∧ t.power.stage = .reset ∧ t.allReleased ∧
      t.power.faults = 1#64 <<< 5 ∧ t.fltLow = (decide (w = .vddAon) && s.power.isGood .vddio) ∧ t.power.strapsLatched = false ∧ t.power.driftLatched = false ∧
      t.txn.state = .idle ∧ t.power.powerUp = true ∧ t.mem.cells = s.mem.cells ∧
      t.ledger.region = s.ledger.region ∧ t.chain = s.chain.keepLink ∧ t.tap.ir = s.tap.ir ∧ t.tap.driving = false ∧
      t.tap.hiZ = false) ∧
  (∀ (s : State) (w : AonSupply) (ns : Nat), ns < 500 → exec (.aonBrownOut w ns) s = .next s) ∧
  (∀ (s : State) (w : AonSupply) (ns : Nat), 500 ≤ ns → ns < 1000 →
    ∃ t, exec (.aonBrownOut w ns) s = .next t ∧ t.freeCount = s.freeCount + 1 ∧
      (Config.freeBit s.freeCount = true → t.power.stage = .reset ∧ t.allReleased) ∧
      (Config.freeBit s.freeCount = false → s.onlyMoves t [.freeCount]))

/-- R89, R90: RST_N low for 300 ns or longer resets every domain except LINK: every output is released, the transaction and
the segment maps are gone, and the latched straps, the drift fault, the supplies' states, the flash, the one-time cells and
the ports' alignment stand; a pulse below 100 ns does nothing.
R133: when RST_N rises, bring-up begins at SUPPLY with the strap codes latched at power-on reset, and fails at once with
0x8A while a strap drift fault stands. -/
def Obligations.ResetPin : Prop :=
  (∀ (s : State) (ns : Nat), 300 ≤ ns → s.power.stage ≠ .reset →
    ∃ t, exec (.rstNLow ns) s = .next t ∧ t.power.stage = .rstLow ∧ t.allReleased ∧ t.pins.st = 0 ∧
      t.rdyLow = false ∧ t.fltLow = false ∧ t.pins.rtrDrive = false ∧ t.txn.state = .idle ∧ t.txn.shadow = none ∧
      t.mem.segs = [] ∧ t.power.straps = s.power.straps ∧ t.power.strapsLatched = s.power.strapsLatched ∧
      t.power.driftLatched = s.power.driftLatched ∧ t.power.good = s.power.good ∧ t.power.key = s.power.key ∧
      t.power.kcv = s.power.kcv ∧ t.ledger.region = s.ledger.region ∧ t.mem.cells = s.mem.cells ∧
      t.chain = s.chain.keepLink) ∧
  (∀ (s : State) (ns : Nat), ns < 100 → exec (.rstNLow ns) s = .next s) ∧
  (∀ s : State, s.power.stage = .rstLow → s.power.strapsLatched = true → s.power.driftLatched = false →
    s.power.strapsValid = true →
    ∃ t, exec .rstNRise s = .next t ∧ t.power.stage = .supply ∧ t.power.mkCode = 0x02 ∧ t.pins.st = 1 ∧
      t.power.straps = s.power.straps ∧ t.chan = s.chan ∧ t.mem = s.mem ∧ t.ledger = s.ledger ∧ t.txn = s.txn) ∧
  (∀ s : State, s.power.stage = .rstLow → s.power.strapsLatched = true → s.power.driftLatched = true →
    ∃ t, exec .rstNRise s = .next t ∧ t.power.stage = .failed 0x8A ∧ t.power.mkCode = 0x8A ∧ t.pins.st = 7 ∧
      t.fltLow = true ∧ t.rdyLow = false ∧ t.chan = s.chan)

/-- R95, R96, R99, R100: at the end of STRAP each strap's code is the number of thresholds of Table 3.9 at or below its mean,
latched, and SUPPLY begins; a mean within 0.010 of a threshold fails bring-up with 0x88, and an invalid code with 0x89.
With no codes latched (after 0x88) a rise of RST_N fails with 0x88 again: the model's choice (log 47).
R106, R108, Table 4.2: SUPPLY ends with the mandatory supplies good: DRAM is fitted when DPHY is good, a bank when its
supply is, and CLOCK begins unless a needed LINK (0x85) or boot port (0x86) is absent; at the bound, the first of REF, PLL,
CORE and MON that is not good gives 0x81 to 0x84. -/
def Obligations.StrapAndSupplyStages : Prop :=
  (∀ (s : State) (sums : Vector Nat 8), s.power.stage = .strap →
    (sums.toList.any (strapNear 64) = true →
      ∃ t, exec (.strapStageEnd sums) s = .next t ∧ t.power.stage = .failed 0x88 ∧ t.power.straps = s.power.straps) ∧
    (sums.toList.any (strapNear 64) = false →
      ∃ t, exec (.strapStageEnd sums) s = .next t ∧ t.power.strapsLatched = true ∧
        (∀ k : Fin 8, (t.power.straps[k]).toNat =
          (strapThresholds.filter fun th => decide (th * 6400 ≤ sums[k])).length) ∧
        (t.power.strapsValid = true → t.power.stage = .supply ∧ t.power.mkCode = 0x02) ∧
        (t.power.strapsValid = false → t.power.stage = .failed 0x89) ∧
        t.chan = s.chan ∧ t.mem = s.mem ∧ t.ledger = s.ledger ∧ t.chain = s.chain)) ∧
  (∀ s : State, s.power.stage = .supply → s.power.mandatoryGood = true →
    ∃ t, exec .supplyStageEnd s = .next t ∧ t.mem.fitted = s.power.isGood .dphy ∧ t.power.judged = true ∧
      (∀ b : Bank, t.power.fitted[b] = (s.power.isGood (dacDomain b) && (!s.power.judged || s.power.fitted[b]))) ∧
      t.power.stage =
        (if s.power.role != .standalone && !s.power.isGood .link then .failed 0x85
         else if s.power.portOn && !s.power.isGood .cport && !s.power.bootsFromFlash then .failed 0x86 else .clock) ∧
      t.chan = s.chan ∧ t.ledger = s.ledger ∧ t.power.straps = s.power.straps) ∧
  (∀ s : State, s.power.stage = .supply → s.power.isGood .aon = true → s.power.isGood .vddio = true →
    s.power.mandatoryGood = false →
    ∃ t, exec .supplyStageTimeout s = .next t ∧ t.chan = s.chan ∧ memoryStands s t ∧
      t.power.stage =
        (if !s.power.isGood .ref then .failed 0x81 else if !s.power.isGood .pll then .failed 0x82
         else if !s.power.isGood .core then .failed 0x83 else .failed 0x84)) ∧
  (∀ s : State, s.power.stage = .rstLow → s.power.strapsLatched = false →
    ∃ t, exec .rstNRise s = .next t ∧ t.power.stage = .failed 0x88 ∧ t.chan = s.chan)

/-- R134, R500, Table 4.3, Table 1.1: after bring-up, with a dip of 1 µs or more of a supply that was good: REF, PLL and CORE
release every output, each with its cause bit; MON retreats every channel that is not released; a DAC supply releases its own
fitted bank and no channel of another; DPHY, where DRAM is fitted, retreats the channels that DRAM feeds and no other; CPORT, with the
port strapped on, and LINK, in a chain, begin their causes and move no channel, but for a LINK that was the reference, which releases
every output.
During bring-up REF, PLL, CORE and MON return it to SUPPLY with the straps latched; DPHY fails it with 0xA3 from CLOCK on where SUPPLY
found it; CPORT fails it with 0x86 from CLOCK on when it boots from the content port, and goes on otherwise; LINK goes on, or returns
to CLOCK when it is the reference.
R134, Table 4.3: a supply that is good again is good; after bring-up a REF, PLL or CORE supply whose cause stood starts
bring-up again at SUPPLY with the straps latched; a MON supply tests its banks, and clears bit 6 when all pass; a LINK supply
clears bit 12; a CPORT supply begins the wait of R485. -/
def Obligations.SupplyLossAndReturn : Prop :=
  (∀ (s : State) (ns : Nat) (d : Domain) (bit : Nat),
    (d = .ref ∧ bit = 2 ∨ d = .pll ∧ bit = 3 ∨ d = .core ∧ bit = 4) →
    1000 ≤ ns → s.power.isGood d = true → s.power.stage = .done →
    ∃ t, exec (.supplyBrownOut d ns) s = .next t ∧ t.allReleased ∧ t.power.fault bit = true ∧
      t.power.isGood d = false ∧ t.power.stage = .done ∧ t.fltLow = true ∧ memoryStands s t ∧ t.ledger = s.ledger) ∧
  (∀ (s : State) (ns : Nat), 1000 ≤ ns → s.power.isGood .mon = true → s.power.stage = .done →
    ∃ t, exec (.supplyBrownOut .mon ns) s = .next t ∧ t.allRetreated ∧ t.power.fault 6 = true ∧
      (∀ n : Chan, (t.chan[n]).released = (s.chan[n]).released) ∧ memoryStands s t ∧ t.ledger = s.ledger) ∧
  (∀ (s : State) (ns : Nat) (b : Bank), 1000 ≤ ns → s.power.isGood (dacDomain b) = true → s.power.fitted[b] = true →
    ∃ t, exec (.supplyBrownOut (dacDomain b) ns) s = .next t ∧ t.power.fault (7 + b.val) = true ∧
      t.cal.owed[b] = true ∧
      (∀ n : Chan, bankOf n = b → (t.chan[n]).released = true) ∧
      (∀ n : Chan, bankOf n ≠ b → t.chan[n] = s.chan[n]) ∧ memoryStands s t ∧ t.ledger = s.ledger) ∧
  (∀ (s : State) (ns : Nat), 1000 ≤ ns → s.power.isGood .dphy = true → s.mem.fitted = true →
    (s.power.stage = .done → s.power.fault 13 = false →
      ∃ t, exec (.supplyBrownOut .dphy ns) s = .next t ∧ t.power.fault 13 = true ∧ t.power.stage = .done ∧
        (∀ n : Chan, s.fedFromDram n = true → (t.chan[n]).released = true ∨ (t.chan[n]).retreated = true) ∧
        (∀ n : Chan, s.fedFromDram n = false → t.chan[n] = s.chan[n]) ∧ t.mem.cells = s.mem.cells ∧
        t.txn.live = s.txn.live) ∧
    (s.power.stage = .clock ∨ s.power.stage.afterClock = true →
      ∃ t, exec (.supplyBrownOut .dphy ns) s = .next t ∧ t.power.stage = .failed 0xA3 ∧ t.chan = s.chan)) ∧
  (∀ (s : State) (ns : Nat), 1000 ≤ ns → s.power.isGood .dphy = true → s.mem.fitted = false →
    ∃ t, exec (.supplyBrownOut .dphy ns) s = .next t ∧ t.power.isGood .dphy = false ∧ s.onlyMoves t [.power]) ∧
  (∀ (s : State) (ns : Nat), 1000 ≤ ns → s.power.isGood .cport = true → s.power.portOn = true →
    (s.power.stage = .done ∨ s.power.stage.runs = true ∧ s.power.stage ≠ .strap) →
    ∃ t, exec (.supplyBrownOut .cport ns) s = .next t ∧ t.power.fault 11 = true ∧ t.port.linkUp = false ∧ t.chan = s.chan ∧
      t.power.stage =
        (if s.power.bootsFromFlash = false ∧ (s.power.stage = .clock ∨ s.power.stage.afterClock = true) then .failed 0x86
         else s.power.stage)) ∧
  (∀ (s : State) (ns : Nat), 1000 ≤ ns → s.power.isGood .link = true → s.power.role ≠ .standalone →
    (s.power.stage = .done ∨ s.power.stage.runs = true ∧ s.power.stage ≠ .strap) →
    ∃ t, exec (.supplyBrownOut .link ns) s = .next t ∧ t.power.fault 12 = true ∧ t.power.isGood .link = false ∧
      (∀ p : LinkPort, t.portLive p = false) ∧
      (s.power.refIsPortA = false → t.power.stage = s.power.stage ∧ t.chan = s.chan) ∧
      (s.power.refIsPortA = true → s.power.stage = .done →
        t.power.stage = .done ∧ t.power.fault 0 = true ∧ t.allReleased) ∧
      (s.power.refIsPortA = true → s.power.stage.afterClock = true → t.power.stage = .clock ∧ t.allReleased)) ∧
  (∀ (s : State) (ns : Nat) (d : Domain) (bit : Nat),
    (d = .ref ∧ bit = 2 ∨ d = .pll ∧ bit = 3 ∨ d = .core ∧ bit = 4 ∨ d = .mon ∧ bit = 6) →
    1000 ≤ ns → s.power.isGood d = true → s.power.stage.runs = true → s.power.stage ≠ .strap →
    ∃ t, exec (.supplyBrownOut d ns) s = .next t ∧ t.power.stage = .supply ∧ t.allReleased ∧ t.power.fault bit = true ∧
      t.power.isGood d = false ∧ t.power.straps = s.power.straps ∧ t.ledger.region = s.ledger.region ∧
      t.mem.cells = s.mem.cells) ∧
  (∀ (s : State) (d : Domain) (bit : Nat) (tests : Vector SelfTest 4),
    (d = .ref ∧ bit = 2 ∨ d = .pll ∧ bit = 3 ∨ d = .core ∧ bit = 4) →
    s.power.fault bit = true → s.power.stage = .done →
    ∃ t, exec (.supplyGood d tests) s = .next t ∧ t.power.stage = .supply ∧ t.allReleased ∧ t.power.isGood d = true ∧
      t.power.fault bit = false ∧ t.power.straps = s.power.straps ∧ t.ledger.region = s.ledger.region) ∧
  (∀ (s : State) (tests : Vector SelfTest 4), s.power.stage = .done → s.power.fault 6 = true →
    s.power.isGood .mon = false → (∀ b : Bank, testPasses tests[b] = true) →
    ∃ t, exec (.supplyGood .mon tests) s = .next t ∧ t.power.isGood .mon = true ∧ t.power.fault 6 = false ∧
      (∀ b : Bank, t.sense.failed[b] = false) ∧ t.chan = s.chan ∧ t.mem = s.mem ∧ t.ledger = s.ledger) ∧
  (∀ (s : State) (tests : Vector SelfTest 4),
    ∃ t, exec (.supplyGood .link tests) s = .next t ∧ t.power.isGood .link = true ∧ t.power.fault 12 = false ∧
      t.power.stage = s.power.stage ∧ t.chan = s.chan ∧ t.mem = s.mem) ∧
  (∀ (s : State) (tests : Vector SelfTest 4),
    (s.power.isGood .cport = true → exec (.supplyGood .cport tests) s = .next s) ∧
    (s.power.isGood .cport = false →
      ∃ t, exec (.supplyGood .cport tests) s = .next t ∧ t.power.isGood .cport = true ∧ t.port.goodAt = s.clock.clk ∧
        s.onlyMoves t [.power, .port])) ∧
  (∀ (s : State) (d : Domain) (tests : Vector SelfTest 4),
    (d = .dphy ∨ d = .daca ∨ d = .dacb ∨ d = .dacc ∨ d = .dacd) →
    exec (.supplyGood d tests) s = .next (s.setGood d true))

/-- R57, R114: in CLOCK, a reference that passes its qualification is valid and ends the report of the wait; the wait's bound
reports 0x8C and goes on; after bring-up a reference that is lost is cause bit 0 and releases every output.
R109, R115, R116: the lock of the main PLL in CLOCK starts the tick counter at frame 0 of tick 0 and begins CORE (with
REFIN in its range); no lock within the bound fails bring-up with 0x90; a lock lost after bring-up is cause bit 1 and releases
every output; one lost in a later stage returns bring-up to CLOCK. -/
def Obligations.ClockStages : Prop :=
  (∀ (s : State) (edges chars : Nat), s.power.stage = .clock → s.power.refValid = false →
    s.power.qualifies edges chars = true →
    ∃ t, exec (.referenceValid edges chars) s = .next t ∧ t.power.refValid = true ∧ t.power.fault 29 = false ∧
      t.power.stage = .clock ∧ t.power.mkCode = 0x03 ∧ t.chan = s.chan) ∧
  (∀ s : State, s.power.stage = .clock → s.power.refValid = false →
    ∃ t, exec .referenceWaitTimeout s = .next t ∧ t.power.mkCode = 0x8C ∧ t.power.stage = .clock ∧
      t.fltLow = true ∧ t.stCode = 1 ∧ t.chan = s.chan) ∧
  (∀ (s : State) (edges : Nat), s.power.stage = .done → s.power.refValid = true → s.power.refIsPortA = false →
    edges < 51200 →
    ∃ t, exec (.referenceLost edges true) s = .next t ∧ t.allReleased ∧ t.power.fault 0 = true ∧ t.fltLow = true ∧
      t.stCode = 7 ∧ t.power.refValid = false ∧ memoryStands s t ∧ t.ledger = s.ledger) ∧
  (∀ (s : State) (pins : Vector PinSample 3) (mv : Nat), s.power.stage = .clock → s.power.refValid = true →
    s.power.locked = false → 1100 ≤ mv → mv < 1400 →
    ∃ t, exec (.pllLock pins mv) s = .next t ∧ t.power.locked = true ∧ t.clock.epoch = 0 ∧ t.power.stage = .core ∧
      t.power.mkCode = 0x04 ∧ t.power.refinMv = mv ∧ t.pins.locking = some (s.clock.clk + 2, pins) ∧
      t.chan = s.chan ∧ t.mem = s.mem ∧ t.ledger = s.ledger) ∧
  (∀ s : State, s.power.stage = .clock → s.power.refValid = true → s.power.locked = false →
    ∃ t, exec .pllLockTimeout s = .next t ∧ t.power.stage = .failed 0x90 ∧ t.power.mkCode = 0x90 ∧ t.pins.st = 7 ∧
      t.chan = s.chan) ∧
  (∀ s : State, s.power.stage = .done → s.power.locked = true →
    ∃ t, exec .pllLockLost s = .next t ∧ t.power.locked = false ∧ t.allReleased ∧ t.power.fault 1 = true ∧
      t.fltLow = true ∧ memoryStands s t ∧ t.ledger = s.ledger) ∧
  (∀ s : State, s.power.stage.afterClock = true → s.power.locked = true →
    ∃ t, exec .pllLockLost s = .next t ∧ t.power.stage = .clock ∧ t.power.locked = false ∧ t.allReleased ∧
      t.mem.segs = [] ∧ t.mem.fitted = s.mem.fitted ∧ t.ledger.region = s.ledger.region)

/-- R111, R117, Table 4.2: CORE ends at the boundary of tick 1: it fails with 0x94 for its SRAM, with 0x89 where SEAL or
PROVISION does not agree with the cells, and with 0x86 where a boot from the content port has no locked port; else FLASH
begins, the banks are tested and power-up calibration starts. FLASH ends in LEDGER with the flash's addressing known, or
fails with 0x98 without a signature and with 0x99 for any other shortfall.
R93, R350, Tables 3.8 and 4.1: a flash time-out fails FLASH with 0x98, LEDGER with 0x9C or 0x9D (log 112) and the reading of
the boot image with one of 0xA8 to 0xAC (log 8); with any other stage from DRAM on it is cause bit 27.
R119, R349, Table 10.6: of two valid ledger regions the one whose SEQ is one greater is live and has its marker programmed
again; of one, that one; two erased regions are formatted with zero counts; anything else fails bring-up with 0x9C. The
counts start at the live region's values. -/
def Obligations.CoreFlashAndLedgerStages : Prop :=
  (∀ (s : State) (sram : Bool) (tests : Vector SelfTest 4) (lk : Bool), s.power.stage = .core → 1 ≤ s.clock.tick →
    ∃ t, exec (.coreStageEnd sram tests lk) s = .next t ∧
      t.power.stage = (if !sram then .failed 0x94 else if !s.power.sealAgrees then .failed 0x89
        else if !s.power.bootsFromFlash && (!s.power.isGood .cport || !lk) then .failed 0x86 else .flash) ∧
      (t.power.stage = .flash →
        t.power.mkCode = 0x05 ∧ t.power.coreEnded = true ∧ t.cal.pass = some (s.newPass .powerUp 0 0) ∧
          t.txn.due.calibration = decide (s.clock.frame = 0) ∧ ∀ b : Bank, t.sense.failed[b] = !testPasses tests[b])) ∧
  (∀ (s : State) (r : SfdpReport), s.power.stage = .flash →
    ∃ t, exec (.sfdpDiscoveryDone r) s = .next t ∧ t.chan = s.chan ∧ memoryStands s t ∧
      t.power.stage = (if !r.signature then .failed 0x98 else if !SfdpReport.meets r then .failed 0x99
        else if s.power.provisions then .provision else .ledger) ∧
      (r.signature = true → SfdpReport.meets r = true →
        t.power.flashAddr = some (SfdpReport.chosen r) ∧ t.power.flashMbit = r.densityMbit)) ∧
  (∀ (s : State) (op : FlashOp),
    (s.power.stage = .flash →
      ∃ t, exec (.flashTimeout op) s = .next t ∧ t.power.stage = .failed 0x98 ∧ t.chan = s.chan ∧ memoryStands s t) ∧
    (s.power.stage = .ledger →
      ∃ t, exec (.flashTimeout op) s = .next t ∧
        t.power.stage = .failed (if op = .read then 0x9C else 0x9D) ∧ t.chan = s.chan ∧ memoryStands s t) ∧
    (s.power.stage = .image → op = .read → s.power.bootsFromFlash = true →
      ∃ t, ∃ k : Nat, exec (.flashTimeout op) s = .next t ∧ k < 5 ∧
        t.power.stage = .failed (BitVec.ofNat 8 (0xA8 + k)) ∧ t.chan = s.chan) ∧
    ((s.power.stage = .image ∧ (op ≠ .read ∨ s.power.bootsFromFlash = false) ∨ s.power.stage = .dram ∨
        s.power.stage = .join ∨ s.power.stage = .trimWait ∨ s.power.stage = .done) →
      ∃ t, exec (.flashTimeout op) s = .next t ∧ t.power.fault 27 = true ∧ t.ledger.retryTicks = 0 ∧
        t.power.stage = s.power.stage ∧ t.chan = s.chan ∧ memoryStands s t)) ∧
  (∀ (s : State) (lo hi : RegionRead) (ok : Bool), s.power.stage = .ledger →
    ∃ t, exec (.ledgerSelected lo hi ok) s = .next t ∧ t.chan = s.chan ∧ memoryStands s t ∧
      (RegionRead.valid lo = true → (RegionRead.valid hi = true → lo.seq = hi.seq + 1) →
        t.ledger.live = 0 ∧ t.ledger.selected = true ∧ (∀ i : Fin 128, t.ledger.count[i] = t.ledger.value i) ∧
          t.ledger.op = (if RegionRead.valid hi then some (.again 0) else none) ∧
          t.power.stage = (if s.mem.fitted then .dram else .image)) ∧
      (RegionRead.valid hi = true → (RegionRead.valid lo = true → hi.seq = lo.seq + 1) →
        t.ledger.live = 1 ∧ t.ledger.selected = true ∧ (∀ i : Fin 128, t.ledger.count[i] = t.ledger.value i) ∧
          t.ledger.op = (if RegionRead.valid lo then some (.again 1) else none) ∧
          t.power.stage = (if s.mem.fitted then .dram else .image)) ∧
      (RegionRead.valid lo = true → RegionRead.valid hi = true → lo.seq ≠ hi.seq + 1 → hi.seq ≠ lo.seq + 1 →
        t.power.stage = .failed 0x9C) ∧
      (RegionRead.valid lo = false → RegionRead.valid hi = false → lo.erased = true → hi.erased = true →
        (ok = true → t.ledger.live = 0 ∧ t.ledger.selected = true ∧ (∀ i : Fin 128, t.ledger.count[i] = 0) ∧
          t.power.stage = (if s.mem.fitted then .dram else .image)) ∧
        (ok = false → t.power.stage = .failed 0x9D)) ∧
      (RegionRead.valid lo = false → RegionRead.valid hi = false → (lo.erased && hi.erased) = false →
        t.power.stage = .failed 0x9C))

/-- R109, R120 to R123, R128, R110, R326, Table 4.2: DRAM training ends in IMAGE with every segment FREE and no Bog entry, a
device that failed training being retired; it fails with 0xA0 where identification does (unequal rank counts too: log 113) and
with 0xA1 for two failed devices of one subchannel; the bounds of DRAM and TRIM-WAIT fail with 0xA2 and 0x95; those of IMAGE from
the content port and of JOIN are reported with 0xAD and 0xB0, and the wait goes on. -/
def Obligations.LateStageBounds : Prop :=
  (∀ (s : State) (r : TrainReport), s.power.stage = .dram →
    ∃ t, exec (.dramTrainingDone r) s = .next t ∧ t.chan = s.chan ∧ t.mem.cells = s.mem.cells ∧
      (TrainReport.unidentified r = true → t.power.stage = .failed 0xA0) ∧
      (TrainReport.unidentified r = false →
        (∃ sub : Fin 2, 2 ≤ (r.failed.dedup.filter fun d => d.sub == sub).length) → t.power.stage = .failed 0xA1) ∧
      (TrainReport.unidentified r = false →
        (∀ sub : Fin 2, (r.failed.dedup.filter fun d => d.sub == sub).length < 2) →
        t.power.stage = .image ∧ t.mem.segs = [] ∧ t.mem.used = [] ∧ t.mem.bog = [] ∧ t.mem.history = [] ∧
          t.mem.fitted = true ∧ t.mem.density = r.densities.headD 0 ∧ t.mem.ranks = (r.ranks[0]).val ∧
          ∀ sub : Fin 2, t.mem.retired[sub] =
            (r.failed.dedup.filter fun d => d.sub == sub).head?.map fun d => (d.rank, d.lane))) ∧
  (∀ s : State, s.power.stage = .dram →
    ∃ t, exec .dramStageTimeout s = .next t ∧ t.power.stage = .failed 0xA2 ∧ t.chan = s.chan ∧ memoryStands s t) ∧
  (∀ s : State, s.power.stage = .trimWait → s.trimmed = false → 256 ≤ s.cal.sinceCore →
    ∃ t, exec .trimWaitTimeout s = .next t ∧ t.power.stage = .failed 0x95 ∧ t.chan = s.chan ∧ memoryStands s t) ∧
  (∀ s : State, s.power.stage = .image → s.power.bootsFromFlash = false →
    ∃ t, exec .imageWaitTimeout s = .next t ∧ t.power.stage = .image ∧ t.power.mkCode = 0xAD ∧ t.fltLow = true ∧
      t.stCode = 1 ∧ t.port.image = s.port.image ∧ t.port.stream = s.port.stream) ∧
  (∀ s : State, s.power.stage = .join →
    ∃ t, exec .joinWaitTimeout s = .next t ∧ t.power.stage = .join ∧ t.power.mkCode = 0xB0 ∧ t.fltLow = true ∧
      t.stCode = 1)

/-! ## Control pins and events -/

/-- R85, R86, R144: a TX pin high for 65,536 frames is stuck: its cause begins and an open or pending transaction is discarded;
16 frames low end both.
R92, R139: a filtered MODE of 0b110 or 0b111 begins cause bit 17, and 16 valid frames end it; neither alters the live
configuration. -/
def Obligations.PinFaultsBeginAndEnd : Prop :=
  (∀ (s : State) (pin : TxPin) (samples : List Bool), s.watchesPins = true → s.pins.stuck[txIndex pin] = false →
    65536 ≤ s.txHighFor pin samples → s.power.fault (18 + (txIndex pin).val) = false →
    ∃ t, exec (.txStuckPin pin samples) s = .next t ∧ t.pins.stuck[txIndex pin] = true ∧
      t.power.fault (18 + (txIndex pin).val) = true ∧ t.txn.state = .idle ∧
      t.txn.shadow = (if s.txn.state = .idle then s.txn.shadow else none) ∧
      (s.txn.state ≠ .idle → lastOutcome t = some 3) ∧ t.chan = s.chan ∧ t.txn.live = s.txn.live ∧ memoryStands s t) ∧
  (∀ (s : State) (pin : TxPin) (samples : List Bool), s.watchesPins = true → s.pins.stuck[txIndex pin] = true →
    (lastN 16 (filtered samples)).length = 16 → (∀ x ∈ lastN 16 (filtered samples), x = false) →
    ∃ t, exec (.txStuckPinClear pin samples) s = .next t ∧ t.pins.stuck[txIndex pin] = false ∧
      t.power.fault (18 + (txIndex pin).val) = false ∧ s.onlyMoves t [.pins, .power, .tel, .port]) ∧
  (∀ (s : State) (samples : List (BitVec 3)) (m : BitVec 3), s.watchesPins = true →
    (filteredCodes samples).getLast? = some m → (m = 6 ∨ m = 7) →
    ∃ t, exec (.modeInvalid samples) s = .next t ∧ t.power.fault 17 = true ∧ t.pins.mode = m ∧
      t.txn.live = s.txn.live ∧ t.chan = s.chan ∧ t.player = s.player) ∧
  (∀ (s : State) (samples : List (BitVec 3)), s.watchesPins = true → s.power.fault 17 = true →
    (lastN 16 (filteredCodes samples)).length = 16 → (∀ m ∈ lastN 16 (filteredCodes samples), m.toNat < 6) →
    ∃ t, exec (.modeValidClear samples) s = .next t ∧ t.power.fault 17 = false ∧ s.onlyMoves t [.pins, .power, .tel, .port])

/-- R88, R163, R164: a filtered EV level that has held a new value for N frames becomes the debounced level, and raises the
pin's rising or falling event in this frame; at a root whose SE mask names the pin, a rising edge is queued for the next sync
frame. No other debounced level moves.
R402: in frame 0 the SE events of the tick are raised, each as event 0x10 + k, and none is left to raise. -/
def Obligations.EventsRaised : Prop :=
  (∀ (s : State) (k : Fin 8) (samples : List Bool) (new : Bool),
    s.watchesPins = true → new = !s.pins.ev.getLsbD k.val → 0 < ((s.txn.live.params.pin[k]).evDeb).toNat →
    lastN ((s.txn.live.params.pin[k]).evDeb).toNat (filtered samples) =
      List.replicate ((s.txn.live.params.pin[k]).evDeb).toNat new →
    ∃ t, exec (.evDebounced k samples) s = .next t ∧
      (∀ j : Fin 8, t.pins.ev.getLsbD j.val = if j = k then new else s.pins.ev.getLsbD j.val) ∧
      (∀ c : Fin 24, t.pins.raised.getLsbD c.val =
        (s.pins.raised.getLsbD c.val || decide (c.val = if new then k.val else 8 + k.val))) ∧
      (∀ j : Fin 8, t.chain.seQueue.getLsbD j.val =
        (s.chain.seQueue.getLsbD j.val ||
          (new && s.isRoot && s.txn.live.params.dev.seMask.getLsbD k.val && decide (j = k)))) ∧
      t.mem.cells = s.mem.cells ∧ s.onlyMoves t [.pins, .mem, .chain, .port]) ∧
  (∀ s : State, s.coreRuns = true → s.power.role ≠ .standalone → s.clock.frame = 0 →
    ∃ t, exec .systemEvent s = .next t ∧
      (∀ c : Fin 24, t.pins.raised.getLsbD c.val =
        (s.pins.raised.getLsbD c.val || (decide (16 ≤ c.val) && s.chain.seRaise.getLsbD (c.val - 16)))) ∧
      t.chain.seRaise = 0 ∧ t.mem.cells = s.mem.cells ∧ s.onlyMoves t [.pins, .mem, .chain, .port])

/-- R18, R91: RTR_N recognised low, by another's driver, retreats every channel of the device that is not released, and
releases none; it is no fault and leaves the transaction open.
R167: a marker pulse whose width has run ends, and one that has not goes on; nothing else moves. -/
def Obligations.RtrLowRetreatsAndPulsesEnd : Prop :=
  (∀ (s : State) (samples : List Bool), s.watchesPins = true →
    (s.pins.rtrLow = false ∨ (filtered samples).contains true = true) → s.pins.rtrDrive = false →
    (filtered samples).getLast? = some false →
    ∃ t, exec (.rtrNLow samples) s = .next t ∧ t.pins.rtrLow = true ∧ t.allRetreated ∧
      (∀ n : Chan, (t.chan[n]).released = (s.chan[n]).released) ∧ t.power = s.power ∧ t.txn = s.txn ∧
      s.onlyMoves t [.pins, .chan, .cal, .tel, .port]) ∧
  (∀ (s : State) (samples : List Bool), s.watchesPins = true → (filtered samples).getLast? = some true →
    exec (.rtrNLow samples) s = .next { s with pins := { s.pins with rtrLow := false } }) ∧
  (∀ (s : State) (k : Fin 8) (d : Nat), s.pins.mkPulse[k] = some d →
    (d ≤ s.clock.clk →
      ∃ t, exec (.mkPulseEnd k) s = .next t ∧ t.pins.mkPulse[k] = none ∧
        (∀ j : Fin 8, j ≠ k → t.pins.mkPulse[j] = s.pins.mkPulse[j]) ∧ t.pins.mkLevel = s.pins.mkLevel ∧
        s.onlyMoves t [.pins]) ∧
    (s.clock.clk < d → exec (.mkPulseEnd k) s = .next s))

/-! ## Transactions -/

/-- RTR_N's samples show a closing command that another driver pulls it low, which the device had not recognised (R91). -/
def rtrFalls (s : State) (obs : PinObs) : Prop :=
  (filtered obs.rtrN).getLast? = some false ∧ s.pins.rtrLow = false ∧ s.pins.rtrDrive = false

/-- What the filtered pins show a closing command begins no fault (R92) and no retreat (R91). -/
def pinsStand (s : State) (obs : PinObs) : Prop :=
  (modeInvalid (s.observe obs).pins.mode = false ∨ s.power.fault 17 = true) ∧ ¬rtrFalls s obs

/-- R140, R143, R145, R158: in a STANDALONE device a recognised TXB pulse in IDLE opens a transaction whose shadow copies the
live base and overlays, with a new TXID and the time-out count at 0; at the root it calls for the OPEN of the next boundary,
with a new TXID and TXOPEN set; in OPEN and PENDING, and in a joined device that is not the root, it is ignored with outcome
0x05; so it is where TXC is recognised in its frame (R87). -/
def Obligations.TxbOpens : Prop :=
  (∀ (s : State) (l : List Bool), s.hears .txb l = true → s.power.role = .standalone → s.txn.state = .idle →
    s.chain.rootCmd ≠ .sendAbort → s.chain.openDue = false →
    ∃ t, exec (.txb l []) s = .next t ∧ t.txn.state = .opened ∧ t.txn.shadow = some s.baseImage ∧ t.txn.count = 0 ∧
      t.txn.txid = s.txn.txid + 1 ∧ t.txn.limit = s.txn.live.params.dev.txnTimeout ∧ t.txn.live = s.txn.live ∧
      t.txn.lastGood = s.txn.lastGood ∧ t.txn.probation = s.txn.probation ∧ s.onlyMoves t [.pins, .txn]) ∧
  (∀ (s : State) (l : List Bool), s.hears .txb l = true → s.power.role = .root → s.txn.state = .idle →
    s.chain.rootCmd ≠ .sendAbort → s.chain.openDue = false →
    ∃ t, exec (.txb l []) s = .next t ∧ t.chain.openDue = true ∧ t.chain.txopen = true ∧ t.txn.state = .idle ∧
      t.txn.txid = s.txn.txid + 1 ∧ t.txn.live = s.txn.live ∧ s.onlyMoves t [.pins, .txn, .chain]) ∧
  (∀ (s : State) (l : List Bool) (o : List TxPin), s.hears .txb l = true →
    (s.txn.state ≠ .idle ∨ s.followsRoot = true ∨ TxPin.txc ∈ o) →
    ∃ t, exec (.txb l o) s = .next t ∧ lastOutcome t = some 5 ∧ s.onlyMoves t [.pins, .tel, .port])

/-- R143, R146, R147, R157: in a device that follows no root, TXC in OPEN freezes the shadow, and in IDLE starts an implicit
transaction of the live configuration; MODE and VAR are those that the filtered pins end with, an invalid code being HOLD;
the state of this frame is judged, and nothing is live yet. With nothing on its way to the shadow, the shadow and the
memory's bytes are as before. In PENDING, and in a device that follows a root, it is ignored with outcome 0x05. R87: a TXB that is
recognised in its frame changes nothing of this. R91: where its samples of RTR_N are the first to show another driver pull it low,
every channel that is not released retreats. -/
def Obligations.TxcCloses : Prop :=
  (∀ (s : State) (l : List Bool) (o : List TxPin) (obs : PinObs), s.hears .txc l = true → s.followsRoot = false →
    TxPin.txa ∉ o → s.txn.state ≠ .pending → s.chain.rootCmd ≠ .sendAbort →
    ∃ t, exec (.txc l o obs) s = .next t ∧ t.txn.state = .pending ∧
      t.txn.selMode = modeTaken (s.observe obs).pins.mode ∧ t.txn.selVar = (s.observe obs).pins.var ∧
      t.txn.validated = false ∧ t.txn.verdict.isSome = true ∧ t.txn.closedAt = s.clock.clk ∧
      t.txn.live = s.txn.live ∧ (rtrFalls s obs → t.allRetreated) ∧
      (settled s → pinsStand s obs →
        t.txn.shadow = some (s.txn.shadow.getD s.baseImage) ∧ t.chan = s.chan ∧ t.mem.cells = s.mem.cells)) ∧
  (∀ (s : State) (l : List Bool) (o : List TxPin) (obs : PinObs), s.hears .txc l = true →
    (s.txn.state = .pending ∨ s.followsRoot = true) →
    ∃ t, exec (.txc l o obs) s = .next t ∧ lastOutcome t = some 5 ∧ s.onlyMoves t [.pins, .tel, .port])

/-- R143, R87: in a STANDALONE device TXA discards an open or pending shadow with outcome 0x01, and in IDLE is ignored with
outcome 0x05; TXB and TXC recognised in its frame are ignored in its favour.
R160: in a joined device that is no island, while a system transaction is open or voting, TXA discards the device's own
shadow with outcome 0x01 and vetoes; at the root it calls for ABORT. -/
def Obligations.TxaDiscards : Prop :=
  (∀ (s : State) (l : List Bool) (o : List TxPin), s.hears .txa l = true → s.power.role = .standalone →
    s.txn.state ≠ .idle →
    ∃ t, exec (.txa l o) s = .next t ∧ t.txn.state = .idle ∧ t.txn.shadow = none ∧ t.txn.validated = false ∧
      lastOutcome t = some 1 ∧ t.txn.live = s.txn.live ∧ memoryStands s t ∧
      s.onlyMoves t [.pins, .txn, .tel, .port, .mem]) ∧
  (∀ (s : State) (l : List Bool) (o : List TxPin), s.hears .txa l = true → s.power.role = .standalone →
    s.txn.state = .idle →
    ∃ t, exec (.txa l o) s = .next t ∧ lastOutcome t = some 5 ∧ s.onlyMoves t [.pins, .tel, .port]) ∧
  (∀ (s : State) (l : List Bool) (o : List TxPin), s.hears .txa l = true → s.sysRuns = true → s.chain.island = false →
    ∃ t, exec (.txa l o) s = .next t ∧ t.txn.state = .idle ∧ lastOutcome t = some 1 ∧
      t.chain.veto = some (s.chain.veto.getD 1) ∧
      (s.isRoot = true → t.chain.rootCmd = .sendAbort ∧ t.chain.openDue = false) ∧ t.txn.live = s.txn.live ∧
      memoryStands s t ∧ s.onlyMoves t [.pins, .txn, .chain, .tel, .port, .mem]) ∧
  (∀ (s : State) (l : List Bool) (o : List TxPin), s.hears .txb l = true → TxPin.txa ∈ o →
    ∃ t, exec (.txb l o) s = .next t ∧ lastOutcome t = some 5 ∧ s.onlyMoves t [.pins, .tel, .port]) ∧
  (∀ (s : State) (l : List Bool) (o : List TxPin) (obs : PinObs), s.hears .txc l = true → TxPin.txa ∈ o →
    ∃ t, exec (.txc l o obs) s = .next t ∧ lastOutcome t = some 5 ∧ s.onlyMoves t [.pins, .tel, .port])

/-- R143, R146, R148: validation that passes leaves the shadow PENDING and validated; one that fails discards it with the failing
check's code and object. In a STANDALONE device nothing else becomes of the live configuration or the drive. Neither comes before
the commit fence is over. -/
def Obligations.ValidationCompletes : Prop :=
  (∀ s : State, s.fenceOver = false → exec .validationDone s = .next s) ∧
  (∀ s : State, s.fenceOver = true → s.txn.state = .pending → s.txn.verdict = some .pass →
    ∃ t, exec .validationDone s = .next t ∧ t.txn.state = .pending ∧ t.txn.validated = true ∧ t.txn.verdict = none ∧
      t.txn.shadow = s.txn.shadow ∧ t.txn.live = s.txn.live ∧ t.chan = s.chan ∧ t.player = s.player ∧
      memoryStands s t) ∧
  (∀ (s : State) (code : Byte) (obj : Obj), s.fenceOver = true → s.txn.state = .pending →
    s.txn.verdict = some (.fail code obj) → s.power.role = .standalone →
    ∃ t, exec .validationDone s = .next t ∧ t.txn.state = .idle ∧ t.txn.shadow = none ∧
      (∃ e, t.tel.outcomes.getLast? = some e ∧ e.code = code ∧ e.obj = obj ∧ e.txid = s.txn.txid) ∧
      t.txn.live = s.txn.live ∧ memoryStands s t ∧ s.onlyMoves t [.txn, .tel, .port, .mem])

/-- R151, R153, R154, R175: at the apply tick the shadow, with the overlay selected, is live, the transaction is over with
outcome 0x00, last-good stays, RTR_N is let go, and in a device that follows no root probation starts at 0. A retreat ends
exactly where the channel had sight when the commit passed validation (R14).
R13, R135: at the apply of a HOLD commit the power-up state ends, and every released channel of a fitted bank that is not
released for good and whose supply stands leaves release, driven directly at its nominal code. -/
def Obligations.CommitMakesShadowLive : Prop :=
  (∀ (s : State) (img : Image), s.txn.due.apply = true → s.clock.frame = 0 → s.txn.shadow = some img →
    ∃ t, exec .commitApply s = .next t ∧ t.txn.live = img.configure s.txn.selMode s.txn.selVar ∧
      ((s.isRoot = false ∨ s.chain.openDue = false) → t.txn.state = .idle ∧ t.txn.shadow = none) ∧
      lastOutcome t = some 0 ∧ t.txn.lastGood = s.txn.lastGood ∧
      t.pins.rtrDrive = false ∧ (s.followsRoot = false → t.txn.probation = some 0) ∧
      t.txn.rollbackPending = false ∧ t.power.fault 21 = false ∧
      ((∀ r : Fin 64, s.ledger.deep[r] = false) → t.ledger.count = s.ledger.count) ∧
      (∀ n : Chan, (s.chan[n]).retreated = true → (s.chan[n]).released = false →
        (t.chan[n]).retreated = !s.txn.seen[n]) ∧
      t.mem.cells = s.mem.cells) ∧
  (∀ (s : State) (img : Image) (n : Chan), s.txn.due.apply = true → s.clock.frame = 0 → s.txn.shadow = some img →
    modeTaken s.txn.selMode = 0 → (s.chan[n]).released = true → s.mayLeaveRelease n = true →
    ∃ t, exec .commitApply s = .next t ∧ t.power.powerUp = false ∧ (t.chan[n]).released = false ∧
      (t.chan[n]).retreated = false ∧
      (t.chan[n]).code = ((img.configure s.txn.selMode s.txn.selVar).params.chan[n]).nom ∧
      (t.chan[n]).latched = ((img.configure s.txn.selMode s.txn.selVar).params.chan[n]).nom)

/-- R33, R35, R155: the roll-back makes last-good live, and when last-good is the power-up state releases every output;
outcome 0x08 is sent, an open transaction is gone, no probation starts, and a retreated channel that is still driven stays
retreated. -/
def Obligations.RollbackAppliesLastGood : Prop :=
  (∀ (s : State) (cfg : Configuration), s.txn.due.rollback = true → s.clock.frame = 0 → s.txn.lastGood = some cfg →
    ∃ t, exec .rollbackApply s = .next t ∧ t.txn.live = cfg ∧ t.txn.lastGood = some cfg ∧ t.txn.probation = none ∧
      ((s.isRoot = false ∨ s.chain.openDue = false) → t.txn.state = .idle ∧ t.txn.shadow = none) ∧
      lastOutcome t = some 8 ∧
      (∀ n : Chan, (s.chan[n]).retreated = true → (s.chan[n]).released = false → (t.chan[n]).retreated = true) ∧
      t.mem.cells = s.mem.cells) ∧
  (∀ s : State, s.txn.due.rollback = true → s.clock.frame = 0 → s.txn.lastGood = none →
    ∃ t, exec .rollbackApply s = .next t ∧ t.allReleased ∧ t.power.powerUp = true ∧ t.txn.lastGood = none ∧
      t.txn.probation = none ∧
      ((s.isRoot = false ∨ s.chain.openDue = false) → t.txn.state = .idle ∧ t.txn.shadow = none) ∧
      lastOutcome t = some 8)

/-- R145, R152, R153: at the end of probation the live configuration becomes last-good; at the time-out an open transaction of
a STANDALONE device is discarded with outcome 0x02. Rows 7 to 9 of Table 2.2 follow where they wait for it; where they do
not, nothing else moves. -/
def Obligations.ProbationAndTimeoutEnd : Prop :=
  (∀ s : State, s.txn.due.probationEnd = true → s.clock.frame = 0 →
    ∃ t, exec .probationEnd s = .next t ∧ t.txn.lastGood = some s.txn.live ∧ t.txn.probation = none ∧
      t.txn.live = s.txn.live ∧ (s.isRoot = false → t.txn.state = s.txn.state ∧ t.txn.shadow = s.txn.shadow) ∧
      (s.txn.due.rest = false → memoryStands s t ∧ s.onlyMoves t [.txn, .chain, .mem])) ∧
  (∀ s : State, s.txn.due.txnTimeout = true → s.clock.frame = 0 → s.txn.state = .opened →
    s.power.role = .standalone →
    ∃ t, exec .txnTimeout s = .next t ∧ t.txn.state = .idle ∧ t.txn.shadow = none ∧ lastOutcome t = some 2 ∧
      t.txn.live = s.txn.live ∧
      (s.txn.due.rest = false → memoryStands s t ∧ s.onlyMoves t [.txn, .tel, .port, .mem]))

/-- A tick boundary finds REFIN in its range and no strap drifted, and nothing waits for it: no action of the last boundary, no
lock, no return to the power-up state, no code of an aligned channel, no junction that the thermal rules have not judged, and no
request of the memory. -/
def quietBoundary (s : State) (obs : TickObs) : Prop :=
  s.coreRuns = true ∧ 1100 ≤ obs.refinMv ∧ obs.refinMv < 1400 ∧ s.power.drifted.toList.any id = false ∧
    s.txn.due = Due.none ∧ s.pins.locking = none ∧ s.txn.defaultsDue = false ∧ (∀ n : Chan, (s.chan[n]).delayed = none) ∧
    s.power.junction = s.power.junctionActs ∧ s.mem.mapDue = [] ∧ s.mem.waiting = [] ∧ s.mem.writes = Vector.replicate 2 []

/-- R50, R145, R147, R153, R33, Table 2.2: in a STANDALONE device at a quiet boundary a tick boundary reaches frame 0; a roll-back
that is pending is due, and then no apply; a validated shadow is due to apply when 4,096 frames have passed since TXC and DRAM
that it needs is awake; the time-out count of an OPEN transaction and the probation count rise by one where neither apply nor
roll-back is due, and the count that reaches its limit is due; the drive channels and the live configuration are as before. What
is due is left to the command of its row, and rows 7 to 9 wait exactly for that (log 75). R390, R391, R395, R398, Table 2.2: in a
device past JOIN that is not the root, the boundary of a tick without a valid sync frame counts a missed one (counter 7), and the
fourth in a row makes an island due; else a ROLLBACK that has come makes the roll-back due, and otherwise a COMMIT that has come
makes a validated shadow's apply due; a COMMIT with no apply leaves the device diverged. Its transaction has no time-out of its
own. -/
def Obligations.TickBoundaryRows : Prop :=
  (∀ (s : State) (obs : TickObs), quietBoundary s obs → s.power.role = .standalone →
    ∃ t, exec (.tickBoundary obs) s = .next t ∧ t.clock.frame = 0 ∧
      t.clock.clk = s.clock.clk + (16384 - s.clock.frame) ∧ t.power.refinMv = obs.refinMv ∧
      t.txn.due.rollback = s.txn.rollbackPending ∧
      (t.txn.due.apply = true ↔ s.txn.rollbackPending = false ∧ s.txn.state = .pending ∧ s.txn.validated = true ∧
        s.txn.closedAt + 4096 ≤ t.clock.clk ∧ ∃ img, s.txn.shadow = some img ∧
          ((img.configure s.txn.selMode s.txn.selVar).needsDram = false ∨ s.mem.awake = true)) ∧
      t.txn.count = (if s.txn.state = .opened ∧ s.txn.rollbackPending = false then s.txn.count + 1 else s.txn.count) ∧
      (t.txn.due.txnTimeout = true ↔
        s.txn.state = .opened ∧ s.txn.rollbackPending = false ∧ s.txn.count + 1 = s.txn.limit) ∧
      (∀ n, s.txn.probation = some n →
        t.txn.probation = some (if t.txn.due.apply || t.txn.due.rollback then n else n + 1)) ∧
      (t.txn.due.probationEnd = true ↔ t.txn.due.apply = false ∧ t.txn.due.rollback = false ∧
        ∃ n, s.txn.probation = some n ∧ s.txn.live.params.dev.probation.toNat ≤ n + 1) ∧
      t.txn.due.rest = t.rowsDue ∧
      t.txn.live = s.txn.live ∧ t.txn.shadow = s.txn.shadow ∧ t.chan = s.chan ∧ t.mem.cells = s.mem.cells) ∧
  (∀ (s : State) (obs : TickObs), quietBoundary s obs → s.pastJoin = true → s.isRoot = false →
    ∃ t, exec (.tickBoundary obs) s = .next t ∧ t.clock.frame = 0 ∧
      (t.txn.due.island = true ↔ s.chain.synced = false ∧ s.chain.island = false ∧ 3 ≤ s.chain.missed) ∧
      (t.txn.due.rollback = true ↔ t.txn.due.island = false ∧ s.chain.rollbackDue = true) ∧
      (t.txn.due.apply = true ↔ t.txn.due.island = false ∧ s.chain.rollbackDue = false ∧ s.txn.state = .pending ∧
        s.txn.validated = true ∧ s.chain.commitDue = true) ∧
      t.chain.missed =
        (if s.chain.synced = true then 0 else if s.chain.island = true then s.chain.missed else s.chain.missed + 1) ∧
      t.port.counter[7] = (if s.chain.synced = true then s.port.counter[7] else s.port.counter[7] + 1) ∧
      t.chain.diverged = (s.chain.diverged || (s.chain.commitDue && !t.txn.due.apply)) ∧
      t.chain.commitDue = false ∧ t.chain.rollbackDue = false ∧ t.chain.synced = false ∧
      t.txn.count = s.txn.count ∧ t.txn.due.txnTimeout = false ∧ t.txn.due.rest = t.rowsDue ∧
      t.txn.live = s.txn.live ∧ t.txn.shadow = s.txn.shadow ∧ t.chan = s.chan ∧ t.mem.cells = s.mem.cells)

/-! ## The Bolnos chain -/

/-- A sync frame with command `k` that a device which is up and on no island takes as valid (R372, R390). -/
def takesValid (s : State) (f : SyncRx) (k : Nat) : Prop :=
  s.hearsSync = true ∧ s.takesSync = true ∧ s.power.stage = .done ∧ s.chain.island = false ∧
    SyncRx.sound f = true ∧ s.syncValid f = true ∧ SyncRx.cmd f = k

/-- A sync command, of any kind, on frame `f`. -/
def syncCommand (c : Instr) (f : SyncRx) : Prop :=
  c = .syncNone f ∨ c = .syncOpen f ∨ (∃ obs, c = .syncPrepare f obs) ∨ c = .syncCommit f ∨ c = .syncAbort f ∨
    c = .syncRollback f ∨ c = .syncReservedCommand f

/-- What a device whose core forwards frame `f` sends on a port (R372, R380, R386): its own SPINE, the TOOTH and KIND of the port, ACC
with the link's delay `d` and a wait of at most 40,000 ps, and a CRC that is complemented for an unsound frame. -/
def forwards (s : State) (f : SyncRx) (d : Int) (out : List Byte) (tooth kind : Nat) : Prop :=
  out.length = 28 ∧ out.take 14 = (SyncRx.bytes f).take 14 ∧ fieldAt out 14 1 = s.chain.spine.toNat ∧ fieldAt out 15 1 = tooth ∧
    fieldAt out 16 1 = kind ∧ slice out 17 1 = slice (SyncRx.bytes f) 17 1 ∧ slice out 22 2 = slice (SyncRx.bytes f) 22 2 ∧
    (∃ wait : Nat, wait ≤ 40000 ∧ fieldAt out 18 4 = ((SyncRx.acc f : Int) + d + wait).toNat % 2 ^ 32) ∧
    out.drop 24 =
      leBytes 4 (if SyncRx.sound f = true then crc32 (out.take 24) else ~~~(crc32 (out.take 24))).toNat

/-- R377, R390, R395, R402: a valid sync frame marks its boundary and brings EPOCH, ENUMCNT and SE, with CMD None as with a
reserved command; the reserved one is counted (counter 8), and neither moves the drive or the live configuration.
R372: a sync frame of any command that arrives with a wrong CRC or a code error marks no boundary and does nothing but count (counter
6), whenever the core runs, and be forwarded.
R372, R380, R386: a frame of 28 bytes goes out on B with the device's own indices, KIND 0 from a SPINE and 2 from a TOOTH, and from a
SPINE on C with TOOTH 0 and KIND 1; ACC has grown by d_A and by a wait of at most 40,000 ps, and the CRC is that of the bytes sent,
complemented where the frame arrived unsound; the other bytes are those that came. (Stated for the core's forwarding; the wait is a
free value, log 10.)
R158, R160, R395: OPEN opens the device's shadow as a copy of its own base, with the TXID of the frame; COMMIT calls for
the apply at the next boundary, and ROLLBACK for last-good there; ABORT discards an open or pending shadow with outcome
0x07, naming the device that the merged return of the tick before says vetoed (R430). None of them changes the live configuration by
arriving. R396: a device in IDLE that sees TXOPEN, has seen no PREPARE of the TXID and holds no veto opens its shadow.
R157, R160, R395: PREPARE freezes the shadow, or an implicit one of the base, and judges it with the mode and variant that
the frame carries in MV; a device that holds a veto of the same TXID keeps it and validates nothing. -/
def Obligations.SyncFramesAct : Prop :=
  (∀ (s : State) (f : SyncRx), takesValid s f 0 →
    ∃ t, exec (.syncNone f) s = .next t ∧ t.chain.synced = true ∧ t.chain.rxEpoch = SyncRx.epoch f ∧
      t.chain.enumcnt = BitVec.ofNat 16 (fieldAt (SyncRx.bytes f) 12 2) ∧
      t.chain.seNext = BitVec.ofNat 8 (fieldAt (SyncRx.bytes f) 11 1) ∧
      t.port.counter[8] = s.port.counter[8] ∧ t.chan = s.chan ∧ t.txn.live = s.txn.live) ∧
  (∀ (s : State) (f : SyncRx) (k : Nat), takesValid s f k → 6 ≤ k →
    ∃ t, exec (.syncReservedCommand f) s = .next t ∧ t.chain.synced = true ∧ t.chain.rxEpoch = SyncRx.epoch f ∧
      t.chain.enumcnt = BitVec.ofNat 16 (fieldAt (SyncRx.bytes f) 12 2) ∧
      t.port.counter[8] = s.port.counter[8] + 1 ∧ t.chan = s.chan ∧ t.txn.live = s.txn.live) ∧
  (∀ (s : State) (f : SyncRx) (c : Instr), syncCommand c f → s.hearsSync = true → s.coreRuns = true →
    SyncRx.sound f = false →
    ∃ t, exec c s = .next t ∧ t.chain.synced = s.chain.synced ∧ t.chain.rxEpoch = s.chain.rxEpoch ∧
      t.port.counter[6] = s.port.counter[6] + 1 ∧ s.onlyMoves t [.chain, .port, .freeCount]) ∧
  (∀ (s : State) (f : SyncRx) (d : Int), s.hearsSync = true → s.wayCarries = false → s.chain.delayA = some d →
    (SyncRx.bytes f).length = 28 → (SyncRx.sound f = false ∨ SyncRx.cmd f = 0) →
    ∃ t, exec (.syncNone f) s = .next t ∧
      (s.portLive .b = true → ∃ out, t.chain.outSync[0] = some out ∧
        forwards s f d out s.chain.tooth.toNat (if s.power.role = .spine then 0 else 2)) ∧
      (s.portLive .c = true → s.power.role = .spine → ∃ out, t.chain.outSync[1] = some out ∧ forwards s f d out 0 1)) ∧
  (∀ (s : State) (f : SyncRx) (k : Nat) (c : Instr), takesValid s f k → (k = 0 ∨ k = 3 ∨ k = 5 ∨ 6 ≤ k) →
    (c = .syncNone f ∧ k = 0 ∨ c = .syncCommit f ∧ k = 3 ∨ c = .syncRollback f ∧ k = 5 ∨ c = .syncReservedCommand f ∧ 6 ≤ k) →
    SyncRx.flag f 1 = true → s.txn.state = .idle → s.chain.veto = none → s.chain.preparedId ≠ some (SyncRx.txid f) →
    ∃ t, exec c s = .next t ∧ t.txn.state = .opened ∧ t.txn.shadow = some s.baseImage ∧ t.txn.txid = SyncRx.txid f ∧
      t.txn.count = 0 ∧ t.txn.live = s.txn.live ∧ t.chan = s.chan) ∧
  (∀ (s : State) (f : SyncRx), takesValid s f 1 → s.chain.veto = none →
    ∃ t, exec (.syncOpen f) s = .next t ∧ t.txn.state = .opened ∧ t.txn.shadow = some s.baseImage ∧ t.txn.count = 0 ∧
      t.txn.txid = SyncRx.txid f ∧ t.txn.live = s.txn.live ∧ t.chan = s.chan) ∧
  (∀ (s : State) (f : SyncRx), takesValid s f 3 →
    ∃ t, exec (.syncCommit f) s = .next t ∧ t.chain.commitDue = true ∧ t.chain.voting = false ∧
      t.txn.live = s.txn.live ∧ (s.txn.state ≠ .idle → t.txn.shadow = s.txn.shadow) ∧ t.chan = s.chan) ∧
  (∀ (s : State) (f : SyncRx), takesValid s f 4 → s.txn.state ≠ .idle →
    ∃ t, exec (.syncAbort f) s = .next t ∧ t.txn.state = .idle ∧ t.txn.shadow = none ∧ lastOutcome t = some 7 ∧
      (∀ r, s.chain.merged = some r → r.tick = s.lastTick → r.vetoId ≠ 0xFFFF →
        t.tel.outcomes.getLast?.map OutcomeEntry.obj = some { kind := 9, obj := BitVec.ofNat 32 (r.vetoId.toNat % 4096) }) ∧
      t.chain.veto = none ∧ t.txn.live = s.txn.live ∧ t.chan = s.chan) ∧
  (∀ (s : State) (f : SyncRx), takesValid s f 5 →
    ∃ t, exec (.syncRollback f) s = .next t ∧ t.chain.rollbackDue = true ∧ t.txn.live = s.txn.live ∧ t.chan = s.chan) ∧
  (∀ (s : State) (f : SyncRx) (obs : PinObs), takesValid s f 2 → s.chain.veto = none → settled s → pinsStand s obs →
    ∃ t, exec (.syncPrepare f obs) s = .next t ∧ t.txn.state = .pending ∧
      t.txn.shadow = some (s.txn.shadow.getD s.baseImage) ∧ t.txn.verdict.isSome = true ∧ t.txn.validated = false ∧
      t.txn.selMode = modeTaken (BitVec.ofNat 3 (fieldAt (SyncRx.bytes f) 10 1 % 8)) ∧
      t.txn.selVar = BitVec.ofNat 2 (fieldAt (SyncRx.bytes f) 10 1 / 8 % 4) ∧
      t.chain.preparedId = some (SyncRx.txid f) ∧ t.chain.voting = true ∧ t.txn.live = s.txn.live ∧ t.chan = s.chan) ∧
  (∀ (s : State) (f : SyncRx) (obs : PinObs) (v : Byte), takesValid s f 2 → s.chain.veto = some v →
    SyncRx.txid f = s.txn.txid → pinsStand s obs →
    ∃ t, exec (.syncPrepare f obs) s = .next t ∧ t.chain.veto = some v ∧ t.txn.verdict = s.txn.verdict ∧
      t.txn.state = s.txn.state ∧ t.txn.shadow = s.txn.shadow ∧ t.chain.voting = true ∧ t.chan = s.chan)

/-- R372, R394: a sound return of the present tick from a downstream port is held; one that is not sound is discarded and
counted (counter 6) while the core runs.
R394, R405, Table 12.4: the return is sent no sooner than frame 8,192 of the count that times it, the core's or the
Causeway's, and then once every expected return has come: it is ready when the device and every return below are, it adds
their LIVE, and it names the veto of the lowest ID; the root keeps it. With an expected return missing the core sends from frame
12,288 − 2k on, with MISSING set, and no sooner. -/
def Obligations.ReturnsHeldAndMerged : Prop :=
  (∀ (s : State) (p : LinkPort) (items : List RxItem) (k : BitVec 24), p ≠ .a → s.portLive p = true →
    returnSound items true = true → fieldAt (rxBytes items) 0 1 = 2 → s.returnCount.map tickOf = some k →
    (readReturn (rxBytes items)).tick = k → s.chain.returnedTick ≠ some k →
    ∃ t, exec (.returnFrame p items true) s = .next t ∧
      t.chain.returns = s.chain.returns.set (if p = .b then 0 else 1 : Fin 2) (some (readReturn (rxBytes items))) ∧
      s.onlyMoves t [.chain]) ∧
  (∀ (s : State) (p : LinkPort) (items : List RxItem) (ended : Bool), p ≠ .a → s.portLive p = true →
    s.coreRuns = true → returnSound items ended = false →
    ∃ t, exec (.returnFrame p items ended) s = .next t ∧ t.port.counter[6] = s.port.counter[6] + 1 ∧
      s.onlyMoves t [.port]) ∧
  (∀ (s : State) (n : BitVec 48), s.returnCount = some n → n.toNat % 16384 < 8192 → exec .returnSend s = .next s) ∧
  (∀ (s : State) (n : BitVec 48) (b c : Return), s.returnCount = some n → s.power.role = .spine →
    s.power.isGood .link = true → s.chain.returnedTick ≠ some (tickOf n) → s.chain.island = false →
    8192 ≤ n.toNat % 16384 → s.portLive .a = true → s.portLive .b = true → s.portLive .c = true →
    s.heldReturn (tickOf n) 0 = some b → s.heldReturn (tickOf n) 1 = some c →
    ∃ t r, exec .returnSend s = .next t ∧ t.chain.returnedTick = some (tickOf n) ∧
      t.chain.outReturn = some (Return.bytes r) ∧
      r.ready = ((s.ownReturn (tickOf n)).ready && b.ready && c.ready) ∧
      r.live = (s.ownReturn (tickOf n)).live + b.live + c.live ∧
      r.faults = (s.ownReturn (tickOf n)).faults + b.faults + c.faults ∧
      r.probtrip = ((s.ownReturn (tickOf n)).probtrip || b.probtrip || c.probtrip) ∧
      r.missing = ((s.ownReturn (tickOf n)).missing || b.missing || c.missing) ∧
      r.vetoId.toNat = min (min (s.ownReturn (tickOf n)).vetoId.toNat b.vetoId.toNat) c.vetoId.toNat ∧
      s.onlyMoves t [.chain]) ∧
  (∀ s : State, s.power.role = .root → s.power.isGood .link = true → s.wayCarries = false →
    s.chain.returnedTick ≠ some (tickOf s.clock.epoch) → s.chain.island = false → 12288 ≤ s.clock.frame →
    ∃ t r, exec .returnSend s = .next t ∧ t.chain.merged = some r ∧ r.tick = tickOf s.clock.epoch ∧
      s.onlyMoves t [.chain]) ∧
  (∀ (s : State) (b c : Return), s.power.role = .root → s.power.isGood .link = true → s.wayCarries = false →
    s.chain.returnedTick ≠ some (tickOf s.clock.epoch) → s.chain.island = false → 8192 ≤ s.clock.frame →
    s.portLive .b = true → s.portLive .c = true → s.heldReturn (tickOf s.clock.epoch) 0 = some b →
    s.heldReturn (tickOf s.clock.epoch) 1 = some c →
    ∃ t r, exec .returnSend s = .next t ∧ t.chain.merged = some r ∧
      r.ready = ((s.ownReturn (tickOf s.clock.epoch)).ready && b.ready && c.ready) ∧
      r.live = (s.ownReturn (tickOf s.clock.epoch)).live + b.live + c.live ∧
      r.diverged = (s.chain.diverged || b.diverged || c.diverged) ∧ r.missing = (b.missing || c.missing) ∧
      t.chain.liveRun = noteLive s.chain.liveRun r.live ∧ t.chain.outReturn = s.chain.outReturn ∧ s.onlyMoves t [.chain]) ∧
  (∀ s : State, s.power.role ≠ .standalone → s.power.isGood .link = true → s.wayCarries = false →
    s.chain.returnedTick ≠ some (tickOf s.clock.epoch) → s.chain.island = false → 8192 ≤ s.clock.frame →
    (∃ k ∈ s.downstream, s.heldReturn (tickOf s.clock.epoch) k = none) →
    (s.clock.frame < 12288 - 2 * (s.chain.spine.toNat + s.chain.tooth.toNat) → exec .returnSend s = .next s) ∧
    (12288 - 2 * (s.chain.spine.toNat + s.chain.tooth.toNat) ≤ s.clock.frame →
      ∃ t r, exec .returnSend s = .next t ∧ t.chain.merged = some r ∧ r.missing = true ∧
        r.tick = tickOf s.clock.epoch ∧ t.chain.returnedTick = some (tickOf s.clock.epoch) ∧
        (s.power.role ≠ .root → s.portLive .a = true → t.chain.outReturn = some (Return.bytes r)) ∧ s.onlyMoves t [.chain]))

/-- R18, R404: a sound urgent RETREAT frame on a live port of a device whose core is live retreats every channel that is not
released; it is no fault, and leaves an open transaction; one whose CHK fails retreats nothing. Both are forwarded.
R370: one that a code error mars is discarded and, while the core runs, counted (counter 6). -/
def Obligations.UrgentRetreatsAll : Prop :=
  (∀ (s : State) (p : LinkPort) (frame : UrgentRx), s.portLive p = true → frame.clean = true → frame.bytes[0] = 1 →
    crc8 (frame.bytes.toList.take 3) = frame.bytes[3] → s.coreLive = true → s.chain.causeway = false →
    ∃ t, exec (.urgentRetreat p frame) s = .next t ∧ t.allRetreated ∧
      (∀ n : Chan, (t.chan[n]).released = (s.chan[n]).released) ∧
      (∀ q : LinkPort, s.portLive q = true → q ≠ p → t.chain.outUrgent[portIndex q] = some frame.bytes.toList) ∧
      s.onlyMoves t [.chan, .cal, .chain, .tel, .port]) ∧
  (∀ (s : State) (p : LinkPort) (frame : UrgentRx), s.portLive p = true → frame.clean = true → frame.bytes[0] = 1 →
    crc8 (frame.bytes.toList.take 3) ≠ frame.bytes[3] →
    ∃ t, exec (.urgentRetreat p frame) s = .next t ∧ s.onlyMoves t [.chain] ∧
      (∀ q : LinkPort, s.portLive q = true → q ≠ p → ∃ out, t.chain.outUrgent[portIndex q] = some out ∧
        out.take 3 = frame.bytes.toList.take 3)) ∧
  (∀ (s : State) (p : LinkPort) (frame : UrgentRx), s.portLive p = true → frame.clean = false → s.coreRuns = true →
    ∃ t, exec (.urgentRetreat p frame) s = .next t ∧ t.port.counter[6] = s.port.counter[6] + 1 ∧ s.onlyMoves t [.port])

/-- R385, R403, R405, R406, R367: an urgent frame is repeated, a frame later, while repeats are left; a measure set goes out once
every 1,024 frames with the next SEQ; a request is answered with an echo of its SEQ and TURN; an echo of the set that comes
within 1,024 frames gives a sample, of which the latest 16 count; the Causeway carries the chain exactly while the core is not
live; a port is connected or not as its receiver says. Each moves the chain's own state alone.
R382, R128: at the boundary after 16 ticks of JOIN the root's first enumeration ends its JOIN, ENUMCNT having taken the merged
LIVE at that boundary; a new LIVE that has held for 64 merged returns, with no transaction or probation, becomes ENUMCNT,
which counter 10 counts. -/
def Obligations.ChainDuties : Prop :=
  (∀ s : State, 0 < s.chain.urgentLeft → s.chain.urgentAt < s.clock.clk →
    ∃ t, exec .urgentRepeat s = .next t ∧ t.chain.urgentLeft + 1 = s.chain.urgentLeft ∧
      (∀ q : LinkPort, s.portLive q = true → t.chain.outUrgent[portIndex q] = some (urgentFrame ((s.deviceId).getD 0))) ∧
      s.onlyMoves t [.chain]) ∧
  (∀ s : State, s.hearsSync = true → (∀ k, s.chain.measureAt = some k → k + 1024 ≤ s.clock.clk) →
    ∃ t, exec .measureSend s = .next t ∧ t.chain.outMeasure = some [s.chain.measureSeq] ∧
      t.chain.measureSeq = s.chain.measureSeq + 1 ∧ t.chain.measureOut = true ∧
      t.chain.measureAt = some s.clock.clk ∧ s.onlyMoves t [.chain]) ∧
  (∀ (s : State) (p : LinkPort) (set : SetRx) (turn : BitVec 16), s.portLive p = true → set.clean = true →
    ∃ t, exec (.measureRequest p set turn) s = .next t ∧
      t.chain.outEcho[portIndex p] = some (set.seq :: leBytes 2 turn.toNat) ∧ s.onlyMoves t [.chain]) ∧
  (∀ (s : State) (set : SetRx) (turn : BitVec 16) (rtt k : Nat), s.hearsSync = true → set.clean = true →
    s.chain.measureOut = true → set.seq + 1 = s.chain.measureSeq → s.chain.measureAt = some k → s.clock.clk ≤ k + 1024 →
    ∃ t, exec (.measureEcho set turn rtt) s = .next t ∧ t.chain.delays.head? = some ((rtt : Int) - turn.toNat) ∧
      t.chain.delays.length = min 16 (s.chain.delays.length + 1) ∧ t.chain.measureOut = false ∧
      t.chain.echoMisses = 0 ∧ s.onlyMoves t [.chain]) ∧
  (∀ s : State, ∃ t, exec .causewayHandover s = .next t ∧ t.chain.causeway = !s.coreLive ∧ s.onlyMoves t [.chain]) ∧
  (∀ (s : State) (p : LinkPort), s.power.isGood .link = true →
    ∃ t, exec (.portConnected p) s = .next t ∧ t.chain.connected = s.chain.connected.set (portIndex p) true ∧
      s.onlyMoves t [.chain]) ∧
  (∀ (s : State) (p : LinkPort),
    ∃ t, exec (.portDisconnected p) s = .next t ∧ t.chain.connected = s.chain.connected.set (portIndex p) false ∧
      s.onlyMoves t [.chain]) ∧
  (∀ s : State, s.power.stage = .join → s.isRoot = true → 17 ≤ s.chain.joinTicks → s.clock.frame = 0 →
    ∃ t, exec .rootEnumeration s = .next t ∧ t.chain.enumcnt = s.chain.enumcnt ∧ t.chain.id = some 0 ∧
      t.power.fault 31 = false ∧ t.power.stage = (if s.trimmed then .done else .trimWait) ∧ t.chan = s.chan) ∧
  (∀ (s : State) (v : BitVec 16) (n : Nat), s.chain.liveRun = some (v, n) → 64 ≤ n → s.isRoot = true →
    s.pastJoin = true → v ≠ s.chain.enumcnt → s.txn.state = .idle → s.chain.txopen = false →
    s.chain.rootCmd = .none → s.txn.probation = none →
    ∃ t, exec .enumcntUpdate s = .next t ∧ t.chain.enumcnt = v ∧ t.port.counter[10] = s.port.counter[10] + 1 ∧
      s.onlyMoves t [.chain, .port])

/-- R391, R18: at the boundary of the fourth missed tick the device is an island: every channel that is not released is retreated,
its transaction is discarded with outcome 0x04 where one was open, and HOLD is live. R392, R388: after two valid sync frames in a
row, at the boundary, it is an island no more: its frame count is in one step the one that the latter of them placed by d_A and ACC,
and an alignment fault is over (R389); without d_A it stays an island (log 130).
R389: an error above 1 ns for 16 ticks is cause bit 28, and discards an open or pending transaction. -/
def Obligations.IslandAndAlignment : Prop :=
  (∀ s : State, s.txn.due.island = true → s.clock.frame = 0 → s.isRoot = false →
    ∃ t, exec .island s = .next t ∧ t.chain.island = true ∧ t.allRetreated ∧ t.txn.state = .idle ∧
      t.txn.shadow = none ∧ t.txn.live.mode = 0 ∧ (s.txn.state ≠ .idle → lastOutcome t = some 4) ∧
      (∀ n : Chan, (s.chan[n]).released = true → (t.chan[n]).released = true) ∧ t.mem.cells = s.mem.cells ∧
      ((∀ r : Fin 64, s.ledger.deep[r] = false) → t.ledger.count = s.ledger.count)) ∧
  (∀ (s : State) (base : BitVec 48), s.chain.island = true → 2 ≤ s.chain.validRun → s.clock.frame = 0 →
    s.chain.rxBase = some base →
    ∃ t, exec .islandRejoin s = .next t ∧ t.chain.island = false ∧ t.chain.aligned = true ∧ t.chain.missed = 0 ∧
      t.clock.epoch = base + BitVec.ofNat 48 s.clock.clk ∧ t.chain.boundaryErr = 0 ∧ t.power.fault 28 = false ∧
      s.onlyMoves t [.clock, .chain, .power, .tel, .port]) ∧
  (∀ s : State, s.chain.rxBase = none → exec .islandRejoin s = .next s) ∧
  (∀ (s : State) (f : SyncRx) (d : Int), s.hearsSync = true → s.takesSync = true → s.pastJoin = true →
    s.chain.island = true → SyncRx.sound f = true → s.syncValid f = true → SyncRx.cmd f = 0 → s.chain.delayA = some d →
    ∃ t, exec (.syncNone f) s = .next t ∧ t.chain.validRun = s.chain.validRun + 1 ∧ t.chain.island = true ∧
      t.chain.rxBase = some (SyncRx.epoch f + BitVec.ofNat 48 ((d + SyncRx.acc f) / 81920).toNat - BitVec.ofNat 48 s.clock.clk) ∧
      t.clock = s.clock ∧ t.chan = s.chan) ∧
  (∀ s : State, s.pastJoin = true → 16 ≤ s.chain.errTicks →
    ∃ t, exec .alignmentFault s = .next t ∧ t.power.fault 28 = true ∧ t.txn.live = s.txn.live ∧ t.chan = s.chan ∧
      (s.power.fault 28 = false → t.txn.state = .idle))

/-! ## The sense path -/

/-- A scan's input voltage in nV (R256). -/
def inputVoltage (v : ScanIn) (i : Chan) : Int := v.mon[i] - v.mong[bankOf i]

/-- The numerator of R256's floor for an input: 1,024 × PG × (V_in − V_ofs), in units in which one code is 1.25 × 10^9. -/
def scaledInput (s : State) (v : ScanIn) (i : Chan) : Int :=
  let m := s.txn.live.params.mon[i]
  (if m.pgain = 0 then 1 else if m.pgain = 1 then 4 else 16) * (1024 * inputVoltage v i - 4 * (m.cofs.toNat : Int) * 1250000000)

/-- Whether an input's conversion is overranged (R258, R510): beyond either end by more than one code, or its ball outside −0.10 V
to 1.50 V. -/
def overranges (s : State) (v : ScanIn) (i : Chan) : Prop :=
  1500000000 < v.mon[i] ∨ v.mon[i] < -100000000 ∨ scaledInput s v i < -1250000000 ∨ 1025 * 1250000000 < scaledInput s v i

/-- Whether the conversion before an input's in its bank was overranged (R259): that of the input before it, and for the first
input of a bank that of the last input in the scan before. -/
def followsOverrange (s : State) (v : ScanIn) (i : Chan) : Prop :=
  if i.val % 16 = 0 then s.sense.carry[bankOf i] = true else overranges s v ⟨i.val - 1, by omega⟩

/-- An input of a bank that has lost its self-test, its supply or the reference: it converts, and every sample carries TR. -/
def senseSuspended (s : State) (i : Chan) : Bool := s.sense.failed[bankOf i] || !s.power.isGood .mon || !s.power.isGood .ref

/-- R256 to R260: in an even frame every input converts. An input that is not settling, in a bank that is not under trim, takes
the code floor(1,024 × PG × (V_in − V_ofs) / 1.25 V), clamped to 0 to 1,023: it is the last valid sample unless the conversion is
overranged, when the sample carries OVR and the last valid sample stays. An input whose bank's preceding conversion was overranged
keeps its last valid sample, supplies it with TR, and counts the replacement; the last input of a bank passes that on to the first
input of the next scan. A bank under trim supplies the last valid sample with TR. With the self-test failed, or VDD_MON or the
reference lost, every sample carries TR and no guard of the bank counts or falls due. A scan releases no channel and moves neither
the live configuration nor the memory's bytes. -/
def Obligations.MonitorScanConverts : Prop :=
  (∀ (s : State) (v : ScanIn), s.coreRuns = true → s.clock.frame % 2 = 0 →
    ∃ t, exec (.monitorScan v) s = .next t ∧ (∀ n : Chan, (t.chan[n]).released = (s.chan[n]).released) ∧
      t.mem.cells = s.mem.cells ∧ s.onlyMoves t [.sense, .mem, .chan, .cal, .port] ∧
      (∀ i : Chan, s.sense.trimming[bankOf i] = false →
        (i.val % 16 = 15 → (t.sense.carry[bankOf i] = true ↔ overranges s v i)) ∧
        (senseSuspended s i = true → (t.sense.input[i]).tripDue = false ∧ (t.sense.input[i]).outCount = 0 ∧
          ((t.sense.input[i]).window.head?.map Sample.tr) = some true)) ∧
      (∀ i : Chan, s.sense.trimming[bankOf i] = true →
        t.sense.carry[bankOf i] = false ∧ (t.sense.input[i]).lastValid = (s.sense.input[i]).lastValid ∧
          ∀ c, (s.sense.input[i]).lastValid = some c →
            (t.sense.input[i]).window.head? = some { code := c, ovr := false, tr := true })) ∧
  (∀ (s : State) (v : ScanIn) (i : Chan), s.coreRuns = true → s.clock.frame % 2 = 0 →
    s.sense.trimming[bankOf i] = false → (s.sense.input[i]).settling = 0 → ¬ followsOverrange s v i →
    ∃ t x, exec (.monitorScan v) s = .next t ∧ (t.sense.input[i]).window.head? = some x ∧
      (t.sense.input[i]).replaced = (s.sense.input[i]).replaced ∧ x.tr = senseSuspended s i ∧
      (¬ overranges s v i → x.ovr = false ∧ (t.sense.input[i]).lastValid = some x.code ∧
        (scaledInput s v i < 0 → x.code = 0) ∧ (1024 * 1250000000 ≤ scaledInput s v i → x.code = 1023) ∧
        (0 ≤ scaledInput s v i → scaledInput s v i < 1024 * 1250000000 →
          (x.code.toNat : Int) * 1250000000 ≤ scaledInput s v i ∧
            scaledInput s v i < ((x.code.toNat : Int) + 1) * 1250000000)) ∧
      (overranges s v i → x.ovr = true ∧ (t.sense.input[i]).lastValid = (s.sense.input[i]).lastValid ∧
        (v.mon[i] < -100000000 → x.code = 0) ∧ (1500000000 < v.mon[i] → x.code = 1023) ∧
        (-100000000 ≤ v.mon[i] → v.mon[i] ≤ 1500000000 →
          (scaledInput s v i < 0 → x.code = 0) ∧ (0 ≤ scaledInput s v i → x.code = 1023)))) ∧
  (∀ (s : State) (v : ScanIn) (i : Chan), s.coreRuns = true → s.clock.frame % 2 = 0 →
    s.sense.trimming[bankOf i] = false → (s.sense.input[i]).settling = 0 → followsOverrange s v i →
    ∃ t x, exec (.monitorScan v) s = .next t ∧ (t.sense.input[i]).window.head? = some x ∧ x.tr = true ∧ x.ovr = false ∧
      (t.sense.input[i]).lastValid = (s.sense.input[i]).lastValid ∧
      (∀ c, (s.sense.input[i]).lastValid = some c → x.code = c) ∧
      (t.sense.input[i]).replaced = (s.sense.input[i]).replaced + 1)

/-- R30, R33, R274, Table 8.5: a guard that has completed its dwell trips: the channels of its scope that are not released
retreat, none is released, RTR_N is pulled low for device and system scope alone, a trip in the probation of a STANDALONE
device calls for a roll-back, and an open transaction stays: a trip is no fault.
R275: a tripped guard is armed again once DWELL samples in a row lie inside, and not before; that ends no retreat. -/
def Obligations.GuardTripsAndRearms : Prop :=
  (∀ (s : State) (i : Chan) (g : Guard), s.txn.live.guard i = some g → (s.sense.input[i]).tripDue = true →
    ∃ t, exec (.guardTrip i) s = .next t ∧ (t.sense.input[i]).tripped = true ∧ (t.sense.input[i]).tripDue = false ∧
      (∀ n : Chan, s.linked n i = true → (t.chan[n]).released = true ∨ (t.chan[n]).retreated = true) ∧
      (∀ n m : Chan, g.scope = 1 → s.linked m i = true → bankOf m = bankOf n →
        (t.chan[n]).released = true ∨ (t.chan[n]).retreated = true) ∧
      (2 ≤ g.scope.toNat → t.allRetreated ∧ t.pins.rtrDrive = true) ∧
      (g.scope.toNat < 2 → t.pins.rtrDrive = s.pins.rtrDrive) ∧
      (∀ n : Chan, (t.chan[n]).released = (s.chan[n]).released) ∧
      (s.power.role = .standalone → s.txn.probation.isSome = true → t.txn.rollbackPending = true) ∧
      (∀ p : PlayerNo, ∀ n : Chan, s.boundTo p n = true → s.linked n i = true →
        (t.player[p]).raisedNow.getLsbD 0x18 = true) ∧
      t.power = s.power ∧ t.txn.state = s.txn.state ∧ t.txn.shadow = s.txn.shadow ∧ t.txn.live = s.txn.live) ∧
  (∀ (s : State) (i : Chan) (g : Guard), s.txn.live.guard i = some g → (s.sense.input[i]).tripped = true →
    (g.dwell.toNat ≤ (s.sense.input[i]).inCount →
      ∃ t, exec (.guardRearm i) s = .next t ∧ (t.sense.input[i]).tripped = false ∧
        (∀ j : Chan, j ≠ i → t.sense.input[j] = s.sense.input[j]) ∧ s.onlyMoves t [.sense]) ∧
    ((s.sense.input[i]).inCount < g.dwell.toNat → exec (.guardRearm i) s = .next s))

/-- Step `k` of 65,536 in a turn is the nearest to the direction (x, y) of the first quadrant: the direction lies at or beyond the
half step before it, and before the half step after it. The half steps' cosines and sines are the model's, in units of 2^-96 (log
146). -/
def nearestStep (x y : Int) (k : Nat) : Prop :=
  k ≤ 16384 ∧ (k = 0 ∨ x * sinFix (2 * k - 1) 65536 ≤ y * cosFix (2 * k - 1) 65536) ∧
    (k = 16384 ∨ y * cosFix (2 * k + 1) 65536 < x * sinFix (2 * k + 1) 65536)

/-- R283 to R285: an integration that has closed is reported: I and Q are the nearest integers to 128 × I_acc and 128 × Q_acc over
N × 32,767 where they lie within 24 signed bits, MAG is the nearest integer to the root of I² + Q², PH is the nearest of 65,536
steps to the direction (I, Q), and 0 at the origin, and N, TAINT and TIMEOUT are the integration's. A result whose MAG reaches
DETn_THR (DETn_TDIR = 0), or lies below it (1), meets the condition; where the one before it did not, event 0x19 is raised for the
players bound to a channel that the input senses, and is logged, and no other result raises it. One with TAINT or TIMEOUT meets no
condition and leaves the previous state. -/
def Obligations.DetectorReports : Prop :=
  ∀ (s : State) (i : Chan) (c : Closing) (cmd : Instr), (s.sense.input[i]).closing = some c → 0 < c.n →
    (cmd = .detectorClose i ∧ c.timeout = false ∨ cmd = .detectorTimeout i ∧ c.timeout = true) →
    ∃ t r, exec cmd s = .next t ∧ t.tel.results.getLast? = some r ∧ (t.sense.input[i]).closing = none ∧
      r.input = i ∧ r.n = c.n ∧ r.taint = c.taint ∧ r.timeout = c.timeout ∧ r.epoch = c.epoch ∧
      (Int.natAbs (128 * c.iAcc) < 8388607 * (c.n * 32767) →
        2 * Int.natAbs (128 * c.iAcc - r.i * (c.n * 32767 : Nat)) ≤ c.n * 32767) ∧
      (Int.natAbs (128 * c.qAcc) < 8388607 * (c.n * 32767) →
        2 * Int.natAbs (128 * c.qAcc - r.q * (c.n * 32767 : Nat)) ≤ c.n * 32767) ∧
      (r.mag * r.mag : Int) ≤ r.i * r.i + r.q * r.q + r.mag ∧
      r.i * r.i + r.q * r.q ≤ (r.mag * r.mag : Int) + r.mag ∧
      (r.i = 0 → r.q = 0 → r.ph = 0) ∧
      (0 < r.i → 0 ≤ r.q → ∃ k, nearestStep r.i r.q k ∧ r.ph = BitVec.ofNat 16 k) ∧
      (r.i ≤ 0 → 0 < r.q → ∃ k, nearestStep r.q (-r.i) k ∧ r.ph = BitVec.ofNat 16 (16384 + k)) ∧
      (r.i < 0 → r.q ≤ 0 → ∃ k, nearestStep (-r.i) (-r.q) k ∧ r.ph = BitVec.ofNat 16 (32768 + k)) ∧
      (0 ≤ r.i → r.q < 0 → ∃ k, nearestStep (-r.q) r.i k ∧ r.ph = BitVec.ofNat 16 (49152 + k)) ∧
      (c.taint = true ∨ c.timeout = true → r.met = false ∧ (t.sense.input[i]).met = (s.sense.input[i]).met) ∧
      (c.taint = false → c.timeout = false → (t.sense.input[i]).met = r.met ∧
        (r.met = true ↔ if (s.txn.live.params.mon[i]).detTdir = 0 then (s.txn.live.params.mon[i]).detThr.toNat ≤ r.mag
          else r.mag < (s.txn.live.params.mon[i]).detThr.toNat)) ∧
      (r.met = true → (s.sense.input[i]).met = false →
        (∀ (p : PlayerNo) (n : Chan), s.boundTo p n = true → s.linked n i = true →
          (t.player[p]).raisedNow.getLsbD 0x19 = true) ∧
        (s.tel.events.length < 2048 → ∃ e ∈ t.tel.events, e.code = 5 ∧ e.obj = BitVec.ofNat 16 i.val)) ∧
      (r.met = false ∨ (s.sense.input[i]).met = true → t.player = s.player ∧ t.tel.events = s.tel.events) ∧
      t.chan = s.chan ∧ t.power = s.power ∧ t.txn = s.txn

/-! ## The drive path -/

/-- A channel whose slot of this frame latches a code and computes another: driven, and not disconnected for a calibration. -/
def slotDrives (s : State) (n : Chan) : Prop :=
  s.coreRuns = true ∧ (s.chan[n]).released = false ∧ s.slotDone n = false ∧ s.disconnected n = false

/-- A channel whose slot of this frame computes a code under the gain that it keeps: in no switch window. -/
def slotRuns (s : State) (n : Chan) : Prop :=
  slotDrives s n ∧ (s.chan[n]).window = false ∧ (s.chan[n]).gainNext = (s.chanParams n).gain

/-- The rounding shift of R234. -/
def roundShift (x : Int) (k : Nat) : Int := if k = 0 then x else (x + 2 ^ (k - 1)) / 2 ^ k

/-- R234: the target that channel `n` forms from a signed source. -/
def formsTarget (s : State) (n : Chan) (src : Int) (goal : Code) : Prop :=
  ∃ q : Int, q = max (-2048) (min 2047 (roundShift (src * ((s.chanParams n).amp).toNat) ((s.chanParams n).sha).toNat)) ∧
    (goal.toNat : Int) = max 0 (min 1023 ((((s.chanParams n).nom).toNat : Int) +
      roundShift (q + ((s.chanParams n).ofs).toInt) ((s.chanParams n).sho).toNat))

/-- R204 to R211, R214, R231, R232: the signed source that the step of player `p` gives channel `n` in the frame that is to come. -/
def givesSource (s : State) (p : PlayerNo) (n : Chan) (src : Int) : Prop :=
  let phase := (s.lanePhase p n).toNat
  ((s.stepOf p).op = .tone ∧ ∃ tab x, s.txn.live.image.tones.toList[(s.stepOf p).tt]? = some (some tab) ∧
      tab[phase / 2 ^ 36]? = some x ∧ src = (x.toNat : Int) - 512) ∨
    ((s.stepOf p).op = .chirp ∧ ∃ ext tab x, (s.prog p).at? ((s.player[p]).pc.toNat + 1) = some ext ∧
      s.txn.live.image.tones.toList[Machine.Step.extTt ext]? = some (some tab) ∧ tab[phase / 2 ^ 36]? = some x ∧
      src = (x.toNat : Int) - 512) ∨
    ((s.stepOf p).op = .ramp ∧ (s.stepOf p).shape = 0 ∧ src = ((phase / 2 ^ 38 : Nat) : Int) - 512) ∨
    ((s.stepOf p).op = .ramp ∧ (s.stepOf p).shape = 1 ∧ src = 511 - ((phase / 2 ^ 38 : Nat) : Int)) ∨
    ((s.stepOf p).op = .ramp ∧ (s.stepOf p).shape = 2 ∧
      src = (if phase / 2 ^ 37 < 1024 then ((phase / 2 ^ 37 : Nat) : Int) else 2047 - ((phase / 2 ^ 37 : Nat) : Int)) - 512) ∨
    ((s.stepOf p).op = .noise ∧ src = ((s.player[p]).noiseValue.toNat : Int) - 512) ∨
    ((s.stepOf p).op = .play ∧ (s.player[p]).fallback = false ∧ ∃ g, s.segment (s.laneSegment p (s.stepOf p) n) = some g ∧
      src = s.playSource p n g (s.player[p]).pos)

/-- R237: in its slot channel `n` moves toward a goal by the lesser of the slew step and the distance, when the slew interval has
passed since its last move, and stays otherwise. -/
def movesToward (s t : State) (n : Chan) (goal : Code) : Prop :=
  (((s.chanParams n).slewInt).toNat ≤ min ((s.chan[n]).m.toNat + 1) 256 →
    Int.natAbs (((t.chan[n]).code.toNat : Int) - goal.toNat) =
      Int.natAbs (((s.chan[n]).code.toNat : Int) - goal.toNat) -
        min ((s.chanParams n).slewStep).toNat (Int.natAbs (((s.chan[n]).code.toNat : Int) - goal.toNat))) ∧
    (min ((s.chan[n]).m.toNat + 1) 256 < ((s.chanParams n).slewInt).toNat → (t.chan[n]).code = (s.chan[n]).code)

/-- No budget of the channel's rail is reached and no ledger write holds it, when its slot has latched (R37, R346). -/
def railFree (t : State) (n : Chan) : Prop := t.railReached (t.railOf n) = false ∧ t.ledger.held[t.railOf n] = false

/-- What the slot of channel `n` does with the code of its frame (R228, R229), by ALIGN: it latches, or it waits for slot 0 of the
next frame. -/
def latchesIn (s t : State) (n : Chan) : Prop :=
  (s.txn.live.params.dev.align = 0 → (t.chan[n]).latched = (s.chan[n]).code ∧ (t.chan[n]).delayed = none) ∧
  (s.txn.live.params.dev.align = 1 →
    (t.chan[n]).latched = (s.chan[n]).latched ∧ (t.chan[n]).delayed = some ((s.chan[n]).code, (s.chan[n]).gainNext))

/-- R19, R228, R229, R237: in its slot a channel latches the code of the frame before when ALIGN is off; when it is on, that code
is held for slot 0 of the next frame. Its next code moves by at most the slew step, and only when the slew interval has passed
since the last move (the retreat slope of a held rail, R346, apart); no other channel moves. R231 to R236: that code moves toward
the target of the channel's player: what AMP, SHA, OFS and SHO make of the source that its step gives (TONE, CHIRP, RAMP, NOISE,
PLAY), a LEVEL step's own code, the target of its last frame step while it WAITs, and the nominal code of a channel that no player
drives. R22: a channel that is held at nominal moves toward it. R252, R235: for a released channel the engine goes on forming
targets, whose saturation it counts, and latches nothing; that its code and count stand meanwhile is the model's choice (log 83).
R250, R353: for one that calibration holds disconnected it counts and latches nothing. A slot runs once in a frame. R250: the
first clamped frame of a run, when it latches, is counted, raises event 0x1D for the channel's players and is logged. R11, R20: a
retreated channel's code moves toward nominal by the lesser of the retreat step and the distance that remains, once per retreat
interval, and stays at nominal once there. R36: the excursion count of a channel's rail rises by one, up to the value that the
flash records, when the code that its slot latches lies beyond the shallow threshold and the one before did not. -/
def Obligations.EngineSlotMoves : Prop :=
  (∀ (s : State) (n : Chan), slotRuns s n → (s.chan[n]).retreated = false →
    ∃ t, exec (.engineSlot n) s = .next t ∧ latchesIn s t n ∧
      (t.ledger.held[s.railOf n] = false →
        Int.natAbs (((t.chan[n]).code.toNat : Int) - (s.chan[n]).code.toNat) ≤ ((s.chanParams n).slewStep).toNat ∧
        ((t.chan[n]).code ≠ (s.chan[n]).code →
          ((s.chanParams n).slewInt).toNat ≤ min ((s.chan[n]).m.toNat + 1) 256 ∧ (t.chan[n]).m = 0)) ∧
      (∀ j : Chan, j ≠ n → t.chan[j] = s.chan[j]) ∧ t.txn.live = s.txn.live ∧ t.mem = s.mem) ∧
  (∀ (s : State) (n : Chan), s.coreRuns = true → s.slotDone n = false → (s.chan[n]).released = true →
    ∃ t, exec (.engineSlot n) s = .next t ∧ (t.chan[n]).released = true ∧ (t.chan[n]).code = (s.chan[n]).code ∧
      (t.chan[n]).latched = (s.chan[n]).latched ∧ (t.chan[n]).m = (s.chan[n]).m ∧
      (t.chan[n]).saturated = (s.chan[n]).saturated + (if (s.chan[n]).satNext then 1 else 0) ∧
      t.slotDone n = true ∧ (∀ j : Chan, j ≠ n → t.chan[j] = s.chan[j]) ∧
      s.onlyMoves t [.chan, .player, .tel, .port]) ∧
  (∀ (s : State) (n : Chan), s.coreRuns = true → s.slotDone n = false → (s.chan[n]).released = false →
    s.disconnected n = true →
    ∃ t, exec (.engineSlot n) s = .next t ∧ (t.chan[n]).latched = (s.chan[n]).latched ∧
      (t.chan[n]).delayed = (s.chan[n]).delayed ∧
      (t.chan[n]).saturated = (s.chan[n]).saturated + (if (s.chan[n]).satNext then 1 else 0) ∧
      (t.chan[n]).clipped = (s.chan[n]).clipped + (if (s.chan[n]).clipNext then 1 else 0) ∧
      (∀ j : Chan, j ≠ n → t.chan[j] = s.chan[j]) ∧ s.onlyMoves t [.chan, .player, .tel, .port]) ∧
  (∀ (s : State) (n : Chan), s.coreRuns = true → s.slotDone n = false → (s.chan[n]).clipNext = true →
    (s.chan[n]).clipRun = false → s.tel.events.length < 2047 →
    ∃ t, exec (.engineSlot n) s = .next t ∧ (t.chan[n]).clipped = (s.chan[n]).clipped + 1 ∧ (t.chan[n]).clipRun = true ∧
      (∀ p : PlayerNo, s.boundTo p n = true → (t.player[p]).raisedNow.getLsbD 0x1D = true) ∧
      ∃ e ∈ t.tel.events, e.code = 7 ∧ e.obj = BitVec.ofNat 16 n.val) ∧
  (∀ (s : State) (n : Chan) (p : PlayerNo) (src : Int) (goal : Code), slotRuns s n → (s.chan[n]).retreated = false →
    (s.chan[n]).heldNominal = false → s.playerOf n = some p → (s.player[p]).state = .running → givesSource s p n src →
    formsTarget s n src goal →
    ∃ t, exec (.engineSlot n) s = .next t ∧ (railFree t n → (t.chan[n]).lastTarget = goal ∧ movesToward s t n goal)) ∧
  (∀ (s : State) (n : Chan) (p : PlayerNo) (goal : Code), slotRuns s n → (s.chan[n]).retreated = false →
    (s.chan[n]).heldNominal = false → s.playerOf n = some p → (s.player[p]).state = .running →
    ((s.stepOf p).op = .level ∧ s.txn.live.levelCode (s.stepOf p) n = some (goal.toNat : Int) ∨
      (s.stepOf p).op = .wait ∧ goal = (s.chan[n]).lastTarget) →
    ∃ t, exec (.engineSlot n) s = .next t ∧ (railFree t n → (t.chan[n]).lastTarget = goal ∧ movesToward s t n goal)) ∧
  (∀ (s : State) (n : Chan), slotRuns s n → (s.chan[n]).retreated = false →
    ((s.chan[n]).heldNominal = true ∨ ∀ p : PlayerNo, s.boundTo p n = false ∨ (s.player[p]).state ≠ .running) →
    ∃ t, exec (.engineSlot n) s = .next t ∧ (railFree t n → movesToward s t n (s.chanParams n).nom)) ∧
  (∀ (s : State) (n : Chan), s.slotDone n = true → exec (.engineSlot n) s = .next s) ∧
  (∀ (s : State) (n : Chan), slotRuns s n → (s.chan[n]).retreated = true →
    ∃ t, exec (.engineSlot n) s = .next t ∧ latchesIn s t n ∧ (t.chan[n]).retreated = true ∧
      (((s.chanParams n).retInt).toNat ≤ min ((s.chan[n]).m.toNat + 1) 256 →
        Int.natAbs (((t.chan[n]).code.toNat : Int) - (s.chanParams n).nom.toNat) =
          Int.natAbs (((s.chan[n]).code.toNat : Int) - (s.chanParams n).nom.toNat) -
            min ((s.chanParams n).retStep).toNat
              (Int.natAbs (((s.chan[n]).code.toNat : Int) - (s.chanParams n).nom.toNat))) ∧
      (min ((s.chan[n]).m.toNat + 1) 256 < ((s.chanParams n).retInt).toNat → (t.chan[n]).code = (s.chan[n]).code) ∧
      ((s.chan[n]).code = (s.chanParams n).nom → (t.chan[n]).code = (s.chanParams n).nom)) ∧
  (∀ (s : State) (n : Chan), slotRuns s n → (s.chan[n]).beyond = false →
    s.txn.live.params.dev.align = 0 →
    s.ledger.count[excRecord (s.railOf n)] < s.ledger.value (excRecord (s.railOf n)) →
    ∃ t, exec (.engineSlot n) s = .next t ∧
      (t.chan[n]).beyond =
        decide (((s.chanParams n).shallow).toNat < offNominal (s.chanParams n).nom (s.chan[n]).code) ∧
      t.ledger.count[excRecord (s.railOf n)] =
        (if ((s.chanParams n).shallow).toNat < offNominal (s.chanParams n).nom (s.chan[n]).code then
          s.ledger.count[excRecord (s.railOf n)] + 1 else s.ledger.count[excRecord (s.railOf n)]) ∧
      (∀ i : Fin 128, i ≠ excRecord (s.railOf n) → t.ledger.count[i] = s.ledger.count[i]))

/-- R247 to R249: in a switch window the slot computes a code in old-gain terms, within the slew step of the one before; the frame
is the natural switch exactly where that code is 512 or has crossed it (CURR), or is 511 or less on the way to gain 1 (VOLT, G 2
to 1). Then the new gain latches with the code of Table 7.3, and otherwise the old gain and the window stand. R246, R248, R249: a
switch that no natural frame has made is forced for frame 16,383 of the apply tick, between the slot of frame 16,382 that computes
its code and the slot that latches it: the gain that latches with it is the new one, the window closes, and the code is Table
7.3's, clamped to 0 to 1023; no other channel moves. -/
def Obligations.ForcedRangeSwitch : Prop :=
  (∀ (s : State) (n : Chan), slotDrives s n → (s.chan[n]).window = true → (s.chan[n]).gainNext ≠ (s.chanParams n).gain →
    (s.chan[n]).retreated = false →
    ∃ t c, exec (.engineSlot n) s = .next t ∧
      (t.ledger.held[t.railOf n] = false →
        Int.natAbs ((BitVec.toNat (w := 10) c : Int) - (s.chan[n]).code.toNat) ≤ ((s.chanParams n).slewStep).toNat) ∧
      ((t.chan[n]).window = false ↔
        s.isCurr n = true ∧ (c = 512 ∨ (s.chan[n]).code.toNat < 512 ∧ 512 < c.toNat ∨ 512 < (s.chan[n]).code.toNat ∧ c.toNat < 512) ∨
          s.isCurr n = false ∧ (s.chanParams n).gain = 0 ∧ c.toNat ≤ 511) ∧
      ((t.chan[n]).window = true → (t.chan[n]).code = c ∧ (t.chan[n]).gainNext = (s.chan[n]).gainNext) ∧
      ((t.chan[n]).window = false → (t.chan[n]).gainNext = (s.chanParams n).gain ∧
        ((t.chan[n]).code.toNat : Int) = max 0 (min 1023
          (if (s.chanParams n).gain = 1 then
            (if s.isCurr n = true then 512 + ((c.toNat : Int) - 512 + 1) / 2 else ((c.toNat : Int) + 1) / 2)
          else if s.isCurr n = true then 512 + 2 * ((c.toNat : Int) - 512) else 2 * (c.toNat : Int)))) ∧
      latchesIn s t n ∧ (∀ j : Chan, j ≠ n → t.chan[j] = s.chan[j])) ∧
  ∀ (s : State) (n : Chan), s.coreRuns = true → (s.chan[n]).window = true → (s.chan[n]).released = false →
    (s.clock.frame = 16383 ∧ s.slotDone n = false ∨ s.clock.frame = 16382 ∧ s.slotDone n = true) →
    ∃ t, exec (.rangeSwitchForced n) s = .next t ∧ (t.chan[n]).window = false ∧
      (t.chan[n]).gainNext = (s.chanParams n).gain ∧ (t.chan[n]).gainHeld = (s.chan[n]).gainHeld ∧
      ((s.chan[n]).gainNext = 0 → (s.chanParams n).gain = 1 → s.isCurr n = true →
        ((t.chan[n]).code.toNat : Int) = 512 + (((s.chan[n]).code.toNat : Int) - 512 + 1) / 2) ∧
      ((s.chan[n]).gainNext = 0 → (s.chanParams n).gain = 1 → s.isCurr n = false →
        (t.chan[n]).code.toNat = ((s.chan[n]).code.toNat + 1) / 2) ∧
      ((s.chan[n]).gainNext = 1 → (s.chanParams n).gain = 0 → s.isCurr n = true →
        ((t.chan[n]).code.toNat : Int) = max 0 (min 1023 (512 + 2 * (((s.chan[n]).code.toNat : Int) - 512)))) ∧
      ((s.chan[n]).gainNext = 1 → (s.chanParams n).gain = 0 → s.isCurr n = false →
        (t.chan[n]).code.toNat = min 1023 (2 * (s.chan[n]).code.toNat)) ∧
      (∀ j : Chan, j ≠ n → t.chan[j] = s.chan[j]) ∧ s.onlyMoves t [.chan]

/-! ## Players -/

/-- Player `p` runs a step with opcode `o`, and no jump or time-out of it is due. -/
def inForce (s : State) (p : PlayerNo) (o : Op) : Prop :=
  s.plays = true ∧ (s.player[p]).state = .running ∧ (s.stepOf p).op = o ∧ (s.player[p]).jumpDue = false ∧
    (s.player[p]).timeoutDue = false

/-- No jump is pending, and the step's watch, if it has one, sees no event in this frame (R192, R193). -/
def noWatch (s : State) (p : PlayerNo) : Prop :=
  (s.player[p]).pend = none ∧ ((s.stepOf p).eve = false ∨ s.sees p (s.stepOf p).evc = false)

/-- R192, R193: the jump that is pending once the watch of this frame has looked: the one that was, whatever is raised now, or
the one that the watch makes of its event. -/
def pendingThen (s : State) (p : PlayerNo) (d : Pend) : Prop :=
  (s.player[p]).pend = some d ∨
    ((s.player[p]).pend = none ∧ (s.stepOf p).eve = true ∧ s.sees p (s.stepOf p).evc = true ∧
      d = { target := BitVec.ofNat 10 (s.stepOf p).evt, bnd := (s.stepOf p).bnd,
            depth := (s.prog p).depth (s.player[p]).pc.toNat })

/-- A jump that waits for a SEGMENT boundary: BND SEGMENT, or BND LOOP of a watch at depth 0 (Table 6.4). -/
def forSegment (d : Pend) : Prop := d.bnd = 1 ∨ d.bnd = 2 ∧ d.depth = 0

/-- The phase accumulator wraps through 2^48 in this frame. -/
def phaseWraps (s : State) (p : PlayerNo) : Prop := 2 ^ 48 ≤ (s.player[p]).phase.toNat + (s.player[p]).word.toNat

/-- This frame is the last of the step's DUR. -/
def lastOfDur (s : State) (p : PlayerNo) : Prop :=
  ∃ d, (s.prog p).lastAt (s.player[p]).pc.toNat = some d ∧ d ≤ (s.player[p]).k + 1

/-- The pass of a PLAY ends with this frame (R214). -/
def passEnds (s : State) (p : PlayerNo) : Prop :=
  s.passLength (s.stepOf p) * 2 ^ 24 ≤ (s.player[p]).pos.toNat + (s.stepOf p).ratio

/-- Table 6.4, but for the LOOP row, which NEXT settles: the jump is taken so that its target begins in the next frame. -/
def boundaryHere (s : State) (p : PlayerNo) (o : Op) (d : Pend) : Prop :=
  d.bnd = 0 ∨ forSegment d ∧
    ((o = .tone ∨ o = .chirp ∨ o = .ramp) ∧ phaseWraps s p ∨
      (o = .noise ∨ o = .level) ∧ ((s.stepOf p).dur = 0 ∨ lastOfDur s p) ∨ o = .play ∧ passEnds s p)

/-- A step that takes frames and is no PLAY, to which a fallback may always lead within its limit (R529). -/
def plainStep (s : State) (p : PlayerNo) (j : Nat) : Prop :=
  j < (s.prog p).steps.length ∧ ((s.prog p).op j = .tone ∨ (s.prog p).op j = .chirp ∨ (s.prog p).op j = .ramp ∨
    (s.prog p).op j = .noise ∨ (s.prog p).op j = .level ∨ (s.prog p).op j = .wait)

/-- A step that may be entered without a fallback: a step of the program, and no PLAY that must fall back (R220). -/
def enterable (s : State) (p : PlayerNo) (j : Nat) : Prop :=
  j < (s.prog p).steps.length ∧ ((s.prog p).op j = .play → s.mustFallBack p (((s.prog p).at? j).getD 0) = false)

/-- Player `p` stands before the first frame of step `j`. -/
def standsBefore (t : State) (p : PlayerNo) (j : Nat) : Prop :=
  (t.player[p]).state = .running ∧ (t.player[p]).pc = BitVec.ofNat 10 j ∧ (t.player[p]).k = 0 ∧
    (t.player[p]).fallback = false

/-- Only player `p` is changed, and beside the players only the marker pins and the detectors that R286 restarts. -/
def onlyPlayer (s t : State) (p : PlayerNo) : Prop :=
  (∀ q : PlayerNo, q ≠ p → t.player[q] = s.player[q]) ∧ s.onlyMoves t [.player, .pins, .sense]

/-- The frame steps that have a DUR (R184), each with its command. -/
def durStep (p : PlayerNo) (c : Instr) (o : Op) : Prop :=
  c = .tone p ∧ o = .tone ∨ c = .chirp p ∧ o = .chirp ∨ c = .ramp p ∧ o = .ramp ∨ c = .noise p ∧ o = .noise ∨
    c = .level p ∧ o = .level

/-- R183, R184, R200, R206: in a frame that is not the last of a TONE, CHIRP, RAMP, NOISE or LEVEL step, with no event watch,
the step stays in force, k rises by one, and the phase advances by F modulo 2^48; CHIRP then steps F to
F0 + min(k, DUR − 1) × DF, and TONE and RAMP keep it.
R184, R186: in the last frame of a step with a DUR, with no event watch, the player goes on to the step's successor, and
past the end of the program it acts as at END. -/
def Obligations.FrameStepRuns : Prop :=
  (∀ (s : State) (p : PlayerNo) (c : Instr) (o : Op), durStep p c o → inForce s p o → noWatch s p →
    (∀ d, (s.prog p).lastAt (s.player[p]).pc.toNat = some d → (s.player[p]).k + 1 < d) →
    ∃ t, exec c s = .next t ∧ (t.player[p]).state = .running ∧ (t.player[p]).pc = (s.player[p]).pc ∧
      (t.player[p]).k = (s.player[p]).k + 1 ∧
      (t.player[p]).phase = (s.player[p]).phase + (s.player[p]).word ∧
      (o = .tone ∨ o = .ramp → (t.player[p]).word = (s.player[p]).word) ∧
      (o = .chirp → (t.player[p]).word = BitVec.ofInt 48 (((s.stepOf p).f0.toNat : Int) +
        (min ((s.player[p]).k + 1) ((((s.prog p).at? ((s.player[p]).pc.toNat + 1)).getD 0).dur - 1) : Nat) *
          (s.stepOf p).df)) ∧
      (t.player[p]).loops = (s.player[p]).loops ∧ onlyPlayer s t p) ∧
  (∀ (s : State) (p : PlayerNo) (c : Instr) (o : Op) (d : Nat), durStep p c o → inForce s p o → noWatch s p →
    (s.prog p).lastAt (s.player[p]).pc.toNat = some d → d ≤ (s.player[p]).k + 1 →
    (∀ j, (s.prog p).successor (s.player[p]).pc.toNat = some j → enterable s p j →
      ∃ t, exec c s = .next t ∧ standsBefore t p j ∧ onlyPlayer s t p) ∧
    ((s.prog p).successor (s.player[p]).pc.toNat = none →
      ∃ t, exec c s = .next t ∧ (t.player[p]).state = .ended ∧ onlyPlayer s t p))

/-- R197, R198: a WAIT stays while its event is not raised and its time has not run, goes on to its successor in the frame in
which the event is raised, and when TMO frames have passed without it is left for TOT. -/
def Obligations.WaitFollowsItsEvent : Prop :=
  (∀ (s : State) (p : PlayerNo), inForce s p .wait → s.sees p (s.stepOf p).evc = false →
    ((s.stepOf p).tmo = 0 ∨ (s.player[p]).k + 1 < (s.stepOf p).tmo) →
    ∃ t, exec (.wait p) s = .next t ∧ (t.player[p]).state = .running ∧ (t.player[p]).pc = (s.player[p]).pc ∧
      (t.player[p]).k = (s.player[p]).k + 1 ∧ (t.player[p]).timeoutDue = false ∧ onlyPlayer s t p) ∧
  (∀ (s : State) (p : PlayerNo) (j : Nat), inForce s p .wait → s.sees p (s.stepOf p).evc = true →
    (s.prog p).successor (s.player[p]).pc.toNat = some j → enterable s p j →
    ∃ t, exec (.wait p) s = .next t ∧ standsBefore t p j ∧ onlyPlayer s t p) ∧
  (∀ (s : State) (p : PlayerNo), inForce s p .wait → s.sees p (s.stepOf p).evc = false → (s.stepOf p).tmo ≠ 0 →
    (s.stepOf p).tmo ≤ (s.player[p]).k + 1 →
    ∃ t, exec (.wait p) s = .next t ∧ (t.player[p]).timeoutDue = true ∧ onlyPlayer s t p) ∧
  (∀ (s : State) (p : PlayerNo), s.plays = true → (s.player[p]).state = .running → (s.player[p]).timeoutDue = true →
    enterable s p (s.stepOf p).tot →
    ∃ t, exec (.waitTimeout p) s = .next t ∧ standsBefore t p (s.stepOf p).tot ∧ (t.player[p]).timeoutDue = false ∧
      onlyPlayer s t p)

/-- R190: LOOP pushes COUNT and continues at the step after it. NEXT, with no jump that replaces it, continues at the body while
the top of the stack is 0 or above 1, counting it down unless it is 0, and leaves the loop when it is 1. R194, Table 6.4: a LOOP
jump whose watch stood in the body of this NEXT's loop, no deeper, replaces it: the player continues at its target, the loop stack
cut to the target's depth. -/
def Obligations.LoopAndNext : Prop :=
  (∀ (s : State) (p : PlayerNo) (j : Nat), s.standsAt p .loop = true →
    (s.prog p).successor (s.player[p]).pc.toNat = some j → enterable s p j →
    ∃ t, exec (.loop p) s = .next t ∧ standsBefore t p j ∧
      (t.player[p]).loops = (s.stepOf p).count :: (s.player[p]).loops ∧ onlyPlayer s t p) ∧
  (∀ (s : State) (p : PlayerNo) (l : Nat) (top : BitVec 24) (outer : List (BitVec 24)), s.standsAt p .next = true →
    (∀ d, (s.player[p]).pend = some d → d.bnd ≠ 2 ∨ d.depth ≠ (s.prog p).depth (s.player[p]).pc.toNat + 1) →
    (s.prog p).loopOf (s.player[p]).pc.toNat = some l →
    (s.player[p]).loops = top :: outer → top ≠ 1 → enterable s p (l + 1) →
    ∃ t, exec (.next p) s = .next t ∧ standsBefore t p (l + 1) ∧
      (t.player[p]).loops = (if top = 0 then 0 else top - 1) :: outer ∧ onlyPlayer s t p) ∧
  (∀ (s : State) (p : PlayerNo) (l j : Nat) (outer : List (BitVec 24)), s.standsAt p .next = true →
    (∀ d, (s.player[p]).pend = some d → d.bnd ≠ 2 ∨ d.depth ≠ (s.prog p).depth (s.player[p]).pc.toNat + 1) →
    (s.prog p).loopOf (s.player[p]).pc.toNat = some l →
    (s.player[p]).loops = 1 :: outer → (s.prog p).successor (s.player[p]).pc.toNat = some j → enterable s p j →
    ∃ t, exec (.next p) s = .next t ∧ standsBefore t p j ∧ (t.player[p]).loops = outer ∧ onlyPlayer s t p) ∧
  (∀ (s : State) (p : PlayerNo) (d : Pend) (l : Nat), s.standsAt p .next = true → (s.player[p]).pend = some d → d.bnd = 2 →
    d.depth = (s.prog p).depth (s.player[p]).pc.toNat + 1 → (s.prog p).loopOf (s.player[p]).pc.toNat = some l →
    (s.player[p]).loops ≠ [] → enterable s p d.target.toNat →
    ∃ t, exec (.next p) s = .next t ∧ standsBefore t p d.target.toNat ∧ (t.player[p]).pend = none ∧
      (t.player[p]).loops = (s.player[p]).loops.drop
        ((s.player[p]).loops.length - (s.prog p).depth d.target.toNat) ∧ onlyPlayer s t p)

/-- R187, R191, R194: JUMP continues at TARGET, and a pending jump that is due at its target, each with the loop stack cut to the
target's depth and no jump pending; END makes the player ENDED. R192 to R196, Table 6.4: a watch that sees its event makes its
jump the pending one, and while one is pending a further event changes nothing; the pending jump is due in the frame in which its
boundary is met, a step's last frame included; until then a SEGMENT jump of a TONE, CHIRP or RAMP keeps the step in force, even
beyond its DUR, and that of a NOISE or LEVEL lets it run to its last frame, as a LOOP jump does every step. -/
def Obligations.JumpsAndEnd : Prop :=
  (∀ (s : State) (p : PlayerNo) (c : Instr) (o : Op) (d : Pend), (durStep p c o ∨ c = .play p ∧ o = .play) → inForce s p o →
    pendingThen s p d → boundaryHere s p o d →
    ∃ t, exec c s = .next t ∧ (t.player[p]).jumpDue = true ∧ (t.player[p]).pend = some d ∧
      (t.player[p]).state = .running ∧ (t.player[p]).pc = (s.player[p]).pc ∧ (o ≠ .play → onlyPlayer s t p)) ∧
  (∀ (s : State) (p : PlayerNo) (c : Instr) (o : Op) (d : Pend), durStep p c o → inForce s p o → pendingThen s p d →
    (forSegment d ∧ (o = .tone ∨ o = .chirp ∨ o = .ramp) ∧ ¬phaseWraps s p ∨
      forSegment d ∧ (o = .noise ∨ o = .level) ∧ (s.stepOf p).dur ≠ 0 ∧ ¬lastOfDur s p ∨
      d.bnd = 2 ∧ d.depth ≠ 0 ∧ ¬lastOfDur s p) →
    ∃ t, exec c s = .next t ∧ (t.player[p]).jumpDue = false ∧ (t.player[p]).pend = some d ∧
      (t.player[p]).state = .running ∧ (t.player[p]).pc = (s.player[p]).pc ∧ (t.player[p]).k = (s.player[p]).k + 1 ∧
      onlyPlayer s t p) ∧
  (∀ (s : State) (p : PlayerNo), s.standsAt p .jump = true → enterable s p (s.stepOf p).target →
    ∃ t, exec (.jump p) s = .next t ∧ standsBefore t p (s.stepOf p).target ∧ (t.player[p]).pend = none ∧
      (t.player[p]).loops = (s.player[p]).loops.drop
        ((s.player[p]).loops.length - (s.prog p).depth (s.stepOf p).target) ∧ onlyPlayer s t p) ∧
  (∀ (s : State) (p : PlayerNo) (d : Pend), s.plays = true → (s.player[p]).state = .running →
    (s.player[p]).jumpDue = true → (s.player[p]).pend = some d → enterable s p d.target.toNat →
    ∃ t, exec (.eventJump p) s = .next t ∧ standsBefore t p d.target.toNat ∧ (t.player[p]).pend = none ∧
      (t.player[p]).jumpDue = false ∧
      (t.player[p]).loops = (s.player[p]).loops.drop
        ((s.player[p]).loops.length - (s.prog p).depth d.target.toNat) ∧ onlyPlayer s t p) ∧
  (∀ (s : State) (p : PlayerNo), s.standsAt p .finish = true →
    ∃ t, exec (.endStep p) s = .next t ∧ (t.player[p]).state = .ended ∧ (t.player[p]).pend = none ∧ onlyPlayer s t p)

/-- Player `q` goes on as it was: the admission of a line that waited (R307) is all that may be new to it. -/
def goesOn (s t : State) (q : PlayerNo) : Prop :=
  (t.player[q]).state = (s.player[q]).state ∧ (t.player[q]).pc = (s.player[q]).pc ∧ (t.player[q]).k = (s.player[q]).k ∧
    (t.player[q]).phase = (s.player[q]).phase ∧ (t.player[q]).word = (s.player[q]).word ∧
    (t.player[q]).pos = (s.player[q]).pos ∧ (t.player[q]).loops = (s.player[q]).loops ∧
    (t.player[q]).noise = (s.player[q]).noise ∧ (s.mem.waiting = [] → t.player[q] = s.player[q])

/-- R214: a frame of a PLAY that is fed from memory advances its position by RATIO while the pass is not over, and the step
stays in force; it moves neither the channels nor the memory's bytes. R184, R222: with its pass over, be it one that fell back, the
player goes on to the step's successor.
R220: a PLAY that begins while a segment that it would play is quarantined, or DRAM fetch has stopped (R327), takes its fallback from
its first frame: with FBK = 0 it stands there falling back, and with FBK = 1 the player goes to FBT in the same frame. R221, R222: so
does one in whose pass a lane needs a line that it could not ask for, from the next frame on. R529: stated for an FBT that is no PLAY,
within the limit of 8, and for the JUMP that leads to the PLAY.
R225, R313: a player that finds a parity error, or a lane's prefetch empty, stops: it is STOPPED with its cause, its lanes that
are not released retreat, bit 21 stands, and the other players go on. -/
def Obligations.PlayAdvancesAndStops : Prop :=
  (∀ (s : State) (p : PlayerNo), inForce s p .play → noWatch s p → s.dramDown = false →
    (s.player[p]).fallback = false → (∀ n : Chan, ((s.player[p]).lanes[n]).bogged = false) →
    (∀ id ∈ s.playSegments p (s.stepOf p), ∀ g, s.segment id = some g → g.state ≠ .quarantined) →
    (s.player[p]).pos.toNat + (s.stepOf p).ratio < s.passLength (s.stepOf p) * 2 ^ 24 →
    ∃ t, exec (.play p) s = .next t ∧ (t.player[p]).state = .running ∧ (t.player[p]).pc = (s.player[p]).pc ∧
      (t.player[p]).k = (s.player[p]).k + 1 ∧
      (t.player[p]).pos = (s.player[p]).pos + BitVec.ofNat 56 (s.stepOf p).ratio ∧
      t.mem.cells = s.mem.cells ∧ t.chan = s.chan ∧ t.txn = s.txn ∧ t.power = s.power) ∧
  (∀ (s : State) (p : PlayerNo) (j : Nat), inForce s p .play → noWatch s p → passEnds s p →
    (s.prog p).successor (s.player[p]).pc.toNat = some j → enterable s p j →
    ∃ t, exec (.play p) s = .next t ∧ standsBefore t p j ∧ t.mem.cells = s.mem.cells ∧ t.chan = s.chan) ∧
  (∀ (s : State) (p : PlayerNo) (st : Machine.Step), s.standsAt p .jump = true →
    (s.stepOf p).target < (s.prog p).steps.length → (s.prog p).at? (s.stepOf p).target = some st → st.op = .play →
    s.mustFallBack p st = true →
    (st.fbk = false →
      ∃ t, exec (.jump p) s = .next t ∧ (t.player[p]).state = .running ∧
        (t.player[p]).pc = BitVec.ofNat 10 (s.stepOf p).target ∧ (t.player[p]).k = 0 ∧ (t.player[p]).fallback = true ∧
        onlyPlayer s t p) ∧
    (st.fbk = true → plainStep s p st.fbt → (s.player[p]).followed ≤ 6 →
      ∃ t, exec (.jump p) s = .next t ∧ standsBefore t p st.fbt ∧ (t.player[p]).pend = none ∧
        (t.player[p]).loops.length ≤ (s.prog p).depth st.fbt ∧ onlyPlayer s t p)) ∧
  (∀ (s : State) (p : PlayerNo), inForce s p .play → noWatch s p → (s.player[p]).fallback = false → ¬passEnds s p →
    (s.dramDown = true ∨ ∃ n ∈ s.txn.live.lanes p, ((s.player[p]).lanes[n]).bogged = true ∧
      ((s.player[p]).lanes[n]).held ≤
        min (((s.player[p]).pos + BitVec.ofNat 56 (s.stepOf p).ratio).toNat / 2 ^ 24 + 4) (s.passLength (s.stepOf p) - 1)) →
    ((s.stepOf p).fbk = false →
      ∃ t, exec (.play p) s = .next t ∧ (t.player[p]).state = .running ∧ (t.player[p]).pc = (s.player[p]).pc ∧
        (t.player[p]).k = (s.player[p]).k + 1 ∧ (t.player[p]).fallback = true ∧ t.chan = s.chan) ∧
    ((s.stepOf p).fbk = true → plainStep s p (s.stepOf p).fbt → (s.player[p]).followed < 8 →
      ∃ t, exec (.play p) s = .next t ∧ standsBefore t p (s.stepOf p).fbt ∧ (t.player[p]).pend = none ∧ t.chan = s.chan)) ∧
  (∀ (s : State) (p : PlayerNo) (cause : Fin 4), s.plays = true → (s.player[p]).state = .running →
    (cause = 1 ∨ cause = 2 ∨ cause = 3 ∧ s.prefetchEmpty p = true) →
    ∃ t, exec (.playerStop p cause) s = .next t ∧ (t.player[p]).state = .stopped ∧ (t.player[p]).cause = cause ∧
      (t.player[p]).loops = [] ∧ (t.player[p]).phase = 0 ∧ t.power.fault 21 = true ∧
      (∀ n : Chan, s.boundTo p n = true → (t.chan[n]).released = true ∨ (t.chan[n]).retreated = true) ∧
      (∀ n : Chan, s.boundTo p n = false → t.chan[n] = s.chan[n]) ∧
      (∀ q : PlayerNo, q ≠ p → goesOn s t q) ∧ t.mem.cells = s.mem.cells)

/-! ## The waveform memory -/

/-- The controller serves DRAM now: fitted, trained, not lost, and awake. -/
def serves (s : State) : Prop := s.dramRuns = true ∧ s.mem.awake = true

/-- A read of a line, for one purpose, stands in a read queue or waits for one. -/
def asked (t : State) (port : MemPort) (kind : ReadKind) (a : LineAddr) : Prop :=
  ∃ r : MemReq, (r ∈ t.mem.waiting ∨ ∃ k : Fin 2, r ∈ t.mem.reads[k]) ∧ r.port = port ∧ r.read = some kind ∧ r.addr = a

/-- R330, R331: the scrubber asks port P4 for the next line when its schedule reaches it, at most eight in one of its intervals
(the intervals are log 34), and not under Squall; a probe line, which is not scrubbed, is passed over, and with the last line read
the pass is counted (counter 11), and the charges of R323 begin afresh. R316: with Squall not raised, no bank busy and none that a
queued read targets, a refresh that falls due pays every debt; under Squall each index owes one more, and where more than 4 would
stay postponed REFab is issued, which pays one of each. R317, R318, Table 9.11: the stages of self-refresh follow one another.
None of them stores a byte but the flush of the DRAIN stage. -/
def Obligations.MemoryServiceRuns : Prop :=
  (∀ s : State, serves s → s.mem.squall = false → s.scrubReady = true →
    ∃ t, exec .scrubRead s = .next t ∧ t.mem.cells = s.mem.cells ∧ s.onlyMoves t [.mem, .player, .port] ∧
      (s.mem.isProbeLine (lineAt s.mem.scrubPos) = false →
        asked t .p4 .scrub (lineAt s.mem.scrubPos) ∧
        t.mem.scrubPos = s.mem.scrubPos + 1 ∧ t.mem.scrubDue = s.mem.scrubDue - s.scrubInterval ∧ t.port = s.port) ∧
      (s.mem.isProbeLine (lineAt s.mem.scrubPos) = true →
        ((s.mem.scrubPos + 1 < s.mem.lineCount ∨ s.mem.scrubbing = true) →
          t.mem.scrubPos = s.mem.scrubPos + 1 ∧ t.port = s.port) ∧
        (s.mem.lineCount ≤ s.mem.scrubPos + 1 → s.mem.scrubbing = false →
          t.mem.scrubPos = 0 ∧ t.mem.charged = [] ∧ t.port.counter[11] = s.port.counter[11] + 1))) ∧
  (∀ s : State, s.mem.squall = true ∨ 8 ≤ s.scrubIssued.2 → exec .scrubRead s = .next s) ∧
  (∀ (s : State) (rank sub : Fin 2), serves s → rank.val < s.mem.ranks → s.mem.squall = false →
    (∀ b : Fin 4, s.mem.targets rank sub b.val = false) →
    ∃ t, exec (.refreshDue rank sub 0) s = .next t ∧ (∀ b : Fin 4, (t.mem.credit[rankSub rank sub])[b] = 0) ∧
      t.mem.cells = s.mem.cells ∧ s.onlyMoves t [.mem]) ∧
  (∀ (s : State) (rank sub : Fin 2) (busy : BitVec 4), serves s → rank.val < s.mem.ranks → s.mem.squall = true →
    ∃ t, exec (.refreshDue rank sub busy) s = .next t ∧ t.mem.cells = s.mem.cells ∧ s.onlyMoves t [.mem] ∧
      ((∀ b : Fin 4, (s.mem.credit[rankSub rank sub])[b] ≤ 4) →
        t.mem.refab = s.mem.refab ∧
          ∀ b : Fin 4, (t.mem.credit[rankSub rank sub])[b] = (s.mem.credit[rankSub rank sub])[b] + 1) ∧
      ((∃ b : Fin 4, 4 < (s.mem.credit[rankSub rank sub])[b]) →
        t.mem.refab[rankSub rank sub] = s.mem.refab[rankSub rank sub] + 1 ∧
          ∀ b : Fin 4, (t.mem.credit[rankSub rank sub])[b] = (s.mem.credit[rankSub rank sub])[b] - 1 + 1)) ∧
  (∀ s : State, s.dramRuns = true → s.srAllowed = true → s.mem.sr = .idleCount →
    s.txn.live.params.dev.srIdle.toNat ≤ s.mem.srCount →
    ∃ t, exec .selfRefreshDrain s = .next t ∧ t.mem.sr = .drain ∧
      t.mem.credit = Vector.replicate 4 (Vector.replicate 4 0) ∧
      (s.mem.merge = Vector.replicate 2 [] → s.mem.mapDue = [] →
        t.mem.cells = s.mem.cells ∧ s.onlyMoves t [.mem, .player])) ∧
  (∀ s : State, s.dramRuns = true → s.srAllowed = true → s.mem.sr = .drain → s.mem.waiting = [] → s.mem.mapDue = [] →
    (∀ k : Fin 2, s.mem.reads[k] = [] ∧ s.mem.writes[k] = [] ∧ s.mem.merge[k] = []) →
    ∃ t, exec .selfRefreshEntry s = .next t ∧ t.mem.sr = .committed ∧ t.mem.cells = s.mem.cells ∧
      s.onlyMoves t [.mem]) ∧
  (∀ s : State, s.dramRuns = true → s.mem.sr = .committed → (s.mem.wakeDue = true ∨ s.srAllowed = false) →
    ∃ t, exec .selfRefreshExit s = .next t ∧ t.mem.sr = .exit ∧ t.mem.cells = s.mem.cells ∧ s.onlyMoves t [.mem]) ∧
  (∀ s : State, s.dramRuns = true → s.mem.sr = .exit →
    ∃ t, exec .selfRefreshExitDone s = .next t ∧ t.mem.sr = .awake ∧ t.mem.srCount = 0 ∧ t.mem.cells = s.mem.cells ∧
      s.onlyMoves t [.mem, .player])

/-- R325 to R327, R484, Table 16.1: a probe that is due runs, and is counted (counter 17); it keeps the tick of its trigger, that
of the second uncorrectable line where two have been read (R328). When it ends, no device that fails changes nothing, one that
fails is retired where its subchannel has none retired, and two that fail lose the DRAM, cause bit 14. DDR_ALERT_N outside
training is cause bit 33. DRAM lost retreats the channels that DRAM feeds and no other, and stops fetch and capture; no byte of
the memory changes. -/
def Obligations.ProbesAndLostDram : Prop :=
  (∀ (s : State) (rank sub : Fin 2), serves s → s.mem.probe = none → rank.val < s.mem.ranks →
    s.mem.probeDue rank sub = true →
    ∃ t, exec (.probeStart rank sub) s = .next t ∧ t.mem.probe = some (rank, sub, s.probeTrigger (rankSub rank sub)) ∧
      (2 ≤ (s.mem.badLines[rankSub rank sub]).length → t.mem.probe = some (rank, sub, s.mem.badSince[rankSub rank sub])) ∧
      t.mem.badLines[rankSub rank sub] = [] ∧ t.port.counter[17] = s.port.counter[17] + 1 ∧
      t.mem.cells = s.mem.cells ∧ s.onlyMoves t [.mem, .port]) ∧
  (∀ (s : State) (r : ProbeRead) (rank sub : Fin 2) (n : Nat), s.dramRuns = true →
    s.mem.probe = some (rank, sub, n) →
    ∃ t, exec (.probeDone r) s = .next t ∧ t.mem.probe = none ∧ t.txn.live = s.txn.live ∧
      (ProbeRead.failing r = [] → t.mem.retired = s.mem.retired ∧ s.onlyMoves t [.mem]) ∧
      (∀ lane, ProbeRead.failing r = [lane] → s.mem.retired[sub] = none →
        t.mem.retired[sub] = some (rank, lane) ∧ t.chan = s.chan ∧ t.power = s.power) ∧
      (2 ≤ (ProbeRead.failing r).length → t.power.fault 14 = true)) ∧
  (∀ s : State, s.coreRuns = true → s.mem.fitted = true → s.power.stage ≠ .dram → s.power.fault 33 = false →
    ∃ t, exec .ddrAlertFault s = .next t ∧ t.power.fault 33 = true ∧
      (∀ n : Chan, s.fedFromDram n = true → (t.chan[n]).released = true ∨ (t.chan[n]).retreated = true) ∧
      (∀ n : Chan, s.fedFromDram n = false → t.chan[n] = s.chan[n]) ∧
      (∀ k : Fin 8, (t.mem.capture[k]).active = false) ∧ t.mem.waiting = [] ∧ t.mem.cells = s.mem.cells ∧
      t.txn.live = s.txn.live)

/-- R221, R297, R309, R322, Table 10.1: a lane read that returns clean gives each lane that waits for it 48 samples; one that is
uncorrectable on a data page lists the line with CAUSE 0x01 and quarantines its segment; a clean scrub read changes no data, and
when it is the last of its pass the pass is counted (R331); none of the three stores a byte. A listed line that is read again at a
retirement and decodes leaves the Bog list (R328), and a clean ring read gives a capture frame its line (R425). Reads of a line
that the fitted DRAM does not hold stop (the model's own stop, log 13). -/
def Obligations.LineReadsAct : Prop :=
  (∀ (s : State) (a : LineAddr) (r : MemReq), serves s → s.mem.holds a = true →
    s.mem.admitted .p0 a (s.mem.pageKind a.page).owner = some r →
    ∃ t, exec (.lineReadDone .fetch a [] []) s = .next t ∧ t.mem.cells = s.mem.cells ∧ s.onlyMoves t [.mem, .player] ∧
      (∀ (p : PlayerNo) (lane : Nat) (chan : Chan) (pass : Nat) (n : Chan), r.read = some (.lane p lane chan pass) →
        s.laneWaits r p lane chan pass n = true →
        ((t.player[p]).lanes[n]).held = ((s.player[p]).lanes[n]).held + 48 ∧
          ((t.player[p]).lanes[n]).outstanding = false)) ∧
  (∀ (s : State) (a : LineAddr) (r : MemReq) (flips verify : Flips) (id : BitVec 16) (j : Nat) (g : Segment),
    serves s → s.mem.holds a = true → s.mem.pageKind a.page = .data id j → s.mem.seg id = some g →
    s.mem.admitted .p0 a id = some r → r.owner = id → (s.mem.readResult a id flips).outcome = .uncorrectable →
    s.mem.bogEntry a = none → s.mem.bog.length < Config.bogMax →
    ∃ t, exec (.lineReadDone .fetch a flips verify) s = .next t ∧ t.mem.cells = s.mem.cells ∧
      s.onlyMoves t [.mem, .player, .tel, .port] ∧ (s.tel.wanted.contains id = false → t.port = s.port) ∧
      ((t.mem.seg id).map Segment.state = some .quarantined) ∧ t.tel.wanted.contains id = true ∧
      (∃ e, t.mem.bogEntry a = some e ∧ e.owner = id ∧ e.cause = .fetch ∧ e.state = .active)) ∧
  (∀ (s : State) (a : LineAddr) (r : MemReq) (verify : Flips), serves s → s.mem.holds a = true →
    s.mem.admitted .p4 a (s.mem.pageKind a.page).owner = some r → r.read = some .scrub →
    s.mem.erasureMode a (s.mem.pageKind a.page).owner = false →
    ∃ t, exec (.lineReadDone .scrub a [] verify) s = .next t ∧ t.mem.cells = s.mem.cells ∧
      s.onlyMoves t [.mem, .player, .port] ∧
      (s.mem.scrubPos < s.mem.lineCount → t.port = s.port) ∧
      (s.mem.lineCount ≤ s.mem.scrubPos → (s.finishRead r).mem.scrubbing = false →
        t.mem.scrubPos = 0 ∧ t.mem.charged = [] ∧ t.port.counter[11] = s.port.counter[11] + 1)) ∧
  (∀ (s : State) (a : LineAddr) (r : MemReq) (e : BogEntry) (verify : Flips), serves s → s.mem.holds a = true →
    s.mem.admitted .p4 a (s.mem.pageKind a.page).owner = some r → r.read = some .reread → s.mem.bogEntry a = some e →
    ∃ t, exec (.lineReadDone .scrub a [] verify) s = .next t ∧ t.mem.bogEntry a = none ∧
      (∀ b : LineAddr, b ≠ a → t.mem.bogEntry b = s.mem.bogEntry b) ∧ s.onlyMoves t [.mem, .player, .tel]) ∧
  (∀ (s : State) (a : LineAddr) (k : Fin 8) (r : MemReq) (l : CapLine), serves s → s.mem.holds a = true →
    s.mem.pageKind a.page = .ring k → s.mem.admitted .p3 a 0 = some r → (s.mem.capture[k]).lineAt a = some l →
    ∃ t, exec (.lineReadDone .capture a [] []) s = .next t ∧ t.mem.cells = s.mem.cells ∧
      { l with got := true } ∈ (t.mem.capture[k]).lines ∧ s.onlyMoves t [.mem, .player]) ∧
  (∀ (s : State) (src : ReadSource) (a : LineAddr) (flips verify : Flips), serves s → s.mem.holds a = false →
    exec (.lineReadDone src a flips verify) s = .fault .noSuchLine)

/-- R306, R332, R333: a partial line that must flush asks port P2 for what lies beneath it, and stays until that read has come. A
whole line that must flush, outside Squall, leaves the merge buffer and is written: the line then reads as the buffer held it, and
every byte outside its 64 reads as before. -/
def Obligations.MergeFlushWritesLine : Prop :=
  (∀ (s : State) (sub : Fin 2) (e : Merge) (flips verify : Flips), serves s → s.mem.squall = false →
    (s.mem.merge[sub]).find? (s.flushDue sub) = some e → e.repair = false → e.mask ≠ BitVec.allOnes 64 →
    s.mem.admitted .p2 e.addr e.owner = none → s.mem.mergeRead e = false →
    ∃ t, exec (.mergeFlush sub flips verify) s = .next t ∧ asked t .p2 .merge e.addr ∧ t.mem.merge = s.mem.merge ∧
      t.mem.cells = s.mem.cells ∧ s.onlyMoves t [.mem, .player]) ∧
  ∀ (s : State) (sub : Fin 2) (e : Merge) (flips verify : Flips), serves s → s.memoryCanonical → s.mem.squall = false →
    (s.mem.merge[sub]).find? (s.flushDue sub) = some e → e.repair = false → e.map = false →
    e.mask = BitVec.allOnes 64 → s.mem.onSpare e.addr e.owner = false →
    ∃ t, exec (.mergeFlush sub flips verify) s = .next t ∧ (∀ x ∈ t.mem.merge[sub], x.addr ≠ e.addr) ∧
      t.mem.rawLine e.addr e.owner = e.data.toList ∧
      (∀ x : Nat, x < lineBase e.addr e.owner ∨ lineBase e.addr e.owner + 64 ≤ x →
        cellRead t.mem.cells x = cellRead s.mem.cells x) ∧
      s.onlyMoves t [.mem]

/-! ## The ledger -/

/-- R345, R348, R350: a tally program that ends has cleared the tally bits of its record up to its end, and of no other, and one
that ends at a page's end is followed by the rest of its goal. R348: in a compaction an erase counts its sector, and after the
eighth the new BASEs stand; the header, then each record, then the marker and SEQ copy of the other region are programmed from
them, the live region standing; the second program of the marker makes the other region live and freezes a LEDGER frame (R429).
R349: a selected region's marker programmed again leaves it live. R350: the retry that succeeds clears cause bit 27, and one that
fails changes nothing but the wait. No ledger command lowers or raises a count (R39). -/
def Obligations.LedgerFlashRuns : Prop :=
  (∀ (s : State) (i : Fin 128) (k goal : Nat), s.coreRuns = true → s.power.fault 27 = false →
    s.ledger.op = some (.tally i k goal) →
    ∃ t, exec .ledgerProgramDone s = .next t ∧ t.ledger.count = s.ledger.count ∧ t.ledger.live = s.ledger.live ∧
      (∀ j : Fin 128, ((t.ledger.region[s.ledger.live]).counters[j]).tally =
        if j = i then ((s.ledger.region[s.ledger.live]).counters[j]).tally &&& (BitVec.allOnes 1024 <<< k)
        else ((s.ledger.region[s.ledger.live]).counters[j]).tally) ∧
      (k < goal → t.ledger.op = some (.tally i goal goal)) ∧ s.onlyMoves t [.ledger]) ∧
  (∀ (s : State) (op : LedgerOp), s.coreRuns = true → s.power.fault 27 = false → s.ledger.op = some op →
    s.ledger.compacting = true → (op = .header ∨ (∃ i, op = .record i) ∨ op = .commit) →
    ∃ t, exec .ledgerProgramDone s = .next t ∧ t.ledger.count = s.ledger.count ∧ t.ledger.live = s.ledger.live ∧
      t.ledger.liveRegion = s.ledger.liveRegion ∧ t.ledger.filled = s.ledger.filled + 1 ∧
      (op = .header → (t.ledger.region[s.ledger.other]).seq = s.ledger.liveRegion.seq + 1 ∧
        (t.ledger.region[s.ledger.other]).counters = (s.ledger.region[s.ledger.other]).counters) ∧
      (∀ i : Fin 128, op = .record i →
        (t.ledger.region[s.ledger.other]).counters[i] = s.ledger.target.counters[i] ∧
        ∀ j : Fin 128, j ≠ i →
          (t.ledger.region[s.ledger.other]).counters[j] = (s.ledger.region[s.ledger.other]).counters[j]) ∧
      (op = .commit → (t.ledger.region[s.ledger.other]).marker = 0 ∧
        (t.ledger.region[s.ledger.other]).copy = (s.ledger.region[s.ledger.other]).seq) ∧
      s.onlyMoves t [.ledger]) ∧
  (∀ s : State, s.coreRuns = true → s.power.fault 27 = false → s.ledger.op = some (.again s.ledger.other) →
    ∃ t, exec .ledgerProgramDone s = .next t ∧ t.ledger.count = s.ledger.count ∧ t.ledger.live = s.ledger.other ∧
      t.ledger.liveRegion.marker = 0 ∧
      (∃ f, t.tel.ledger = some f ∧ f.epoch = s.clock.epoch ∧ f.body.length = 1032 ∧
        f.body.take 4 = leBytes 4 t.ledger.liveRegion.seq.toNat) ∧ s.onlyMoves t [.ledger, .tel, .port]) ∧
  (∀ s : State, s.coreRuns = true → s.power.fault 27 = false → s.ledger.op = some (.again s.ledger.live) →
    ∃ t, exec .ledgerProgramDone s = .next t ∧ t.ledger.count = s.ledger.count ∧ t.ledger.live = s.ledger.live ∧
      t.ledger.liveRegion.marker = 0 ∧ s.onlyMoves t [.ledger]) ∧
  (∀ (s : State) (n : Fin 8), s.coreRuns = true → s.power.fault 27 = false → s.ledger.op = some (.erase n) →
    s.ledger.compacting = true →
    ∃ t, exec .ledgerEraseDone s = .next t ∧ t.ledger.count = s.ledger.count ∧ t.ledger.live = s.ledger.live ∧
      t.ledger.liveRegion = s.ledger.liveRegion ∧ t.ledger.sectors = s.ledger.sectors + 1 ∧
      t.ledger.region[s.ledger.other] = (s.ledger.region[s.ledger.other]).eraseSector n ∧
      (s.ledger.sectors + 1 = 8 → t.ledger.newBase = some (s.ledger.newBases s.wideBounds)) ∧
      s.onlyMoves t [.ledger]) ∧
  (∀ (s : State) (ok : Bool), s.coreRuns = true → s.power.fault 27 = true → s.ledger.op.isSome = true →
    64 ≤ s.ledger.retryTicks →
    ∃ t, exec (.ledgerRetry ok) s = .next t ∧ t.ledger.count = s.ledger.count ∧ t.ledger.retryTicks = 0 ∧
      t.power.fault 27 = !ok ∧ t.chan = s.chan ∧ t.txn.live = s.txn.live ∧
      (ok = false → t.ledger.op = s.ledger.op ∧ s.onlyMoves t [.ledger]))

/-- Whether no count passes the value that the flash records (R346). -/
def countsCovered (s : State) : Prop := ∀ i : Fin 128, s.ledger.count[i] ≤ s.ledger.value i

/-- R346: the true count never passes V: no step takes a count past the value of its counter in the live region, from any
state in which none stands past it, and at reset none does. A compaction's second marker keeps that where the region which it
makes live covers the counts, and the BASEs that the eighth erase forms for that region do cover them; the model stops a BASE
at 2^32 − 1 (log entry 103). -/
def Obligations.CountsNeverPassFlash : Prop :=
  countsCovered State.reset ∧
  (∀ s t : State, countsCovered s →
    (s.ledger.op = some (.again s.ledger.other) →
      ∀ i : Fin 128, s.ledger.count[i] ≤ ((s.ledger.region[s.ledger.other]).counters[i]).value) →
    step s = .next t → countsCovered t) ∧
  (∀ (s : State) (n : Fin 8), countsCovered s → s.coreRuns = true → s.power.fault 27 = false →
    s.ledger.op = some (.erase n) → s.ledger.compacting = true → s.ledger.sectors = 7 →
    ∃ t b, exec .ledgerEraseDone s = .next t ∧ t.ledger.newBase = some b ∧
      ∀ i : Fin 128, t.ledger.count[i] ≤ (b[i]).toNat)

/-! ## Self-trim -/

/-- R50, R352, R357, R360, R361, R363, R365, R366: row 8 of the tick starts nothing where it is not due or frame 0 is over, and
otherwise the next eligible channel of the background rotation, whose Fog flag rises; row 9 follows it. A converter check within 8
codes clears cause bit 26; any other abandons the calibration with that cause, and the DAC connects again at the next frame's
latch. After two ticks the channel takes 15 different good units, or with fewer than 15 is released for good. No other channel
changes. R358, R359: when the tick of a monitor bank's trim is over its inputs convert again, whether a goal was missed is flagged
for each input of the bank and of no other, the self-test alone decides whether the bank passes, and no output is released or
leaves release. The selections are free values (log 4), one for each adjustment. -/
def Obligations.CalibrationRuns : Prop :=
  (∀ s : State, (s.txn.due.calibration = false ∨ s.clock.frame ≠ 0) → exec .calibrationStart s = .next s) ∧
  (∀ (s : State) (k : Fin 68) (h : k.val < 64), s.txn.due.calibration = true → s.clock.frame = 0 →
    s.power.isGood .ref = true → s.cal.pass = none →
    s.returnedBank = none → s.isUp = true → s.power.powerUp = false → s.txn.live.mode = 0 →
    s.txn.live.params.dev.calInterval ≠ 0 →
    s.txn.live.params.dev.calInterval.toNat ≤ s.cal.since → s.cal.item = none →
    s.sense.trimming.toList.any id = false → s.rotation.find? s.itemEligible = some k →
    ∃ t, exec .calibrationStart s = .next t ∧ (t.chan[k.val]).fog = true ∧ t.stale = true ∧
      t.cal.item = some { chan := ⟨k.val, h⟩, kind := .background, ticks := 0, checked := false } ∧
      (∀ n : Chan, n.val ≠ k.val → t.chan[n] = s.chan[n]) ∧ t.txn.due.calibration = false ∧
      t.txn.due.status = false ∧ t.txn.due.ledger = false ∧ (s.txn.due.status = false → t.mem = s.mem) ∧
      t.txn.live = s.txn.live ∧ t.mem.cells = s.mem.cells ∧ t.power = s.power ∧ t.ledger = s.ledger) ∧
  (∀ (s : State) (it : CalItem) (e : Int), s.cal.item = some it → it.checked = false →
    ∃ t, exec (.converterCheckDone e) s = .next t ∧
      (e.natAbs ≤ 8 → t.cal.item = some { it with checked := true } ∧ t.power.fault 26 = false ∧ t.chan = s.chan) ∧
      (8 < e.natAbs → t.cal.item = none ∧ t.power.fault 26 = true ∧ (t.chan[it.chan]).fog = false ∧
        t.disconnected it.chan = true) ∧
      (∀ n : Chan, n ≠ it.chan → t.chan[n] = s.chan[n]) ∧ t.txn.live = s.txn.live) ∧
  (∀ (s : State) (it : CalItem) (r : CalReadings), s.cal.item = some it → it.checked = true → 2 ≤ it.ticks →
    ∃ t, exec (.calibrationDone r) s = .next t ∧ t.cal.item = none ∧ (t.chan[it.chan]).fog = false ∧
      (∀ n : Chan, n ≠ it.chan → t.chan[n] = s.chan[n]) ∧ t.txn.live = s.txn.live ∧ t.mem = s.mem ∧
      t.ledger = s.ledger ∧
      ((goodUnits r (s.chan[it.chan]).badUnits).length < 15 →
        (t.chan[it.chan]).released = true ∧ (t.chan[it.chan]).forGood = true) ∧
      (15 ≤ (goodUnits r (s.chan[it.chan]).badUnits).length →
        (t.chan[it.chan]).positions.length = 15 ∧ (t.chan[it.chan]).positions.Nodup ∧
          (∀ u ∈ (t.chan[it.chan]).positions, u ∈ (goodUnits r (s.chan[it.chan]).badUnits).map Prod.fst) ∧
          -16 ≤ (t.chan[it.chan]).ladder ∧ (t.chan[it.chan]).ladder ≤ 15 ∧
          (t.chan[it.chan]).released = (s.chan[it.chan]).released)) ∧
  (∀ (s : State) (b : Bank) (test : SelfTest) (missed : BitVec 16), s.trimOver b = true →
    ∃ t, exec (.monitorTrimDone b test missed) s = .next t ∧ t.sense.trimming[b] = false ∧
      t.sense.failed[b] = !testPasses test ∧
      (∀ i : Chan, bankOf i = b → (t.sense.input[i]).trimMissed = missed.getLsbD (i.val % 16)) ∧
      (∀ i : Chan, bankOf i ≠ b → t.sense.input[i] = s.sense.input[i]) ∧
      (∀ n : Chan, (t.chan[n]).released = (s.chan[n]).released) ∧ t.power.fault (22 + b.val) = !testPasses test ∧
      t.freeCount = s.freeCount + 48 ∧ t.txn.live = s.txn.live ∧ t.mem.cells = s.mem.cells ∧ t.ledger = s.ledger)

/-! ## The sensor and the straps -/

/-- R16, R97, R98, R173, R523: a reading of the sensor forms the junction, the mean of the latest 16, and moves nothing else: the
thermal rules act from the next frame on. With that frame a junction of 125 °C or more that is new to them releases every output, with
cause bit 15, and from 120 °C on ALRT is high; below 120 °C the cause clears, and between them it stands (that a frame passes when no
command waits is log 7). Where the sensor does not run a reading does nothing. A strap window whose mean decodes to another code than
the latched one is a drift, and the latched code stands; in a frame that ends no window of that strap there is none. -/
def Obligations.ThermalAndStrapWindows : Prop :=
  (∀ (s : State) (q : Int), s.sensorReads = true →
    ∃ t, exec (.thermalReading q) s = .next t ∧ t.power.junction = junctionOf ((q :: s.power.thermal).take 16) ∧
      t.power.thermal = (q :: s.power.thermal).take 16 ∧ t.power.faults = s.power.faults ∧ t.alrt = s.alrt ∧
      s.onlyMoves t [.power]) ∧
  (∀ s : State, s.pending = [] → s.txn.due = Due.none → (s.coreRuns = false ∨ s.clock.frame + 1 < 16384) →
    s.power.junctionActs ≠ s.power.junction →
    ∃ t, step s = .next t ∧ t.power.junctionActs = s.power.junction ∧
      (500 ≤ s.power.junction → t.allReleased ∧ t.power.fault 15 = true) ∧
      (480 ≤ s.power.junction → s.power.junction < 500 → t.power.fault 15 = s.power.fault 15) ∧
      (s.power.junction < 480 → t.power.fault 15 = false) ∧
      (480 ≤ s.power.junction → s.inReset = false → t.alrt = true) ∧
      (s.power.junction < 480 → t.anyRetreated = false → t.alrt = false)) ∧
  (∀ (s : State) (q : Int), s.sensorReads = false → exec (.thermalReading q) s = .next s) ∧
  (∀ (s : State) (k : Fin 8) (sum : Nat), (s.coreRuns = false ∨ s.endsWindow k = false) →
    exec (.strapWindow k sum) s = .next s) ∧
  (∀ (s : State) (k : Fin 8) (sum : Nat), s.coreRuns = true → s.endsWindow k = true →
    ∃ t, exec (.strapWindow k sum) s = .next t ∧ t.power.straps = s.power.straps ∧ s.onlyMoves t [.power] ∧
      t.power.drifted[k] = (s.power.drifted[k] || strapCode 16 sum != s.power.straps[k]) ∧
      (∀ j : Fin 8, j ≠ k → t.power.drifted[j] = s.power.drifted[j]))

/-! ## The content port -/

/-- R485, R409, R410, R421, R417: the port's supply returns, its link comes up and goes down, a fault of the partner comes and
goes, a pause ends when its pause_time is over (512 bit times each, log 43), and a partial record that has waited 64 ticks is
dropped; each moves the port, and what reports it, alone. After a loss of the link and after an overflow the parser waits for SOR
whether or not a partial record was in progress (log 20). R413 to R416, R421, Table 13.1: a frame that rows 1 and 4 to 6 meet is
counted (counter 0) and dropped, one for another station does nothing, a PAUSE sets the pause by its time, and an accepted content
frame puts its payload at the end of the stream where its offset is the expected one or SOR is set with no partial record held,
and sets the offset that it expects next; SOR in the middle of a record drops what there is of it; any other offset is counted
(counter 1), and the parser waits for SOR. -/
def Obligations.PortFollowsLinkAndFrames : Prop :=
  (∀ s : State, s.coreRuns = true → s.power.isGood .cport = true → s.power.fault 11 = true →
    s.port.goodAt + 16384 ≤ s.clock.clk →
    ∃ t, exec .cportRecover s = .next t ∧ t.power.fault 11 = false ∧ s.onlyMoves t [.power, .tel, .port]) ∧
  (∀ s : State, s.portRuns = true →
    (∃ t, exec .linkUp s = .next t ∧ t.port.linkUp = true ∧ s.onlyMoves t [.port]) ∧
    (∃ t, exec .linkFaultReceived s = .next t ∧ t.port.rxFault = true ∧ s.onlyMoves t [.port])) ∧
  (∀ s : State, exec .linkFaultCleared s = .next { s with port := { s.port with rxFault := false } }) ∧
  (∀ s : State, (s.port.pauseEnd ≤ s.clock.clk →
      ∃ t, exec .pauseTimerExpired s = .next t ∧ t.port.paused = false ∧ s.onlyMoves t [.port]) ∧
    (s.clock.clk < s.port.pauseEnd → exec .pauseTimerExpired s = .next s)) ∧
  (∀ s : State, s.portRuns = true → s.port.linkUp = true →
    ∃ t, exec .linkDown s = .next t ∧ t.port.linkUp = false ∧ t.port.counter[5] = s.port.counter[5] + 1 ∧
      s.onlyMoves t [.port, .tel] ∧ t.port.expect = none ∧ t.port.rxFault = false ∧
      t.port.stream = (if s.port.partialRecord = true then s.port.stream.take s.port.whole else s.port.stream)) ∧
  (∀ s : State, s.portRuns = true → s.port.lastByte + 64 * 16384 ≤ s.clock.clk → s.port.partialRecord = true →
    ∃ t, exec .partialRecordTimeout s = .next t ∧ t.port.stream = s.port.stream.take s.port.whole ∧
      t.port.expect = none ∧ t.port.counter[2] = s.port.counter[2] + 1 ∧ s.onlyMoves t [.port, .tel]) ∧
  (∀ (s : State) (c : Instr) (bytes : List Byte) (fcs : Bool), s.portRuns = true → s.port.linkUp = true →
    (c = .contentFrame bytes fcs ∨ c = .pause bytes fcs) →
    ((s.frameRow bytes fcs = .malformed ∨ s.frameRow bytes fcs = .otherControl ∨ s.frameRow bytes fcs = .otherType ∨
        s.frameRow bytes fcs = .badHeader) →
      ∃ t, exec c s = .next t ∧ t.port.counter[0] = s.port.counter[0] + 1 ∧ t.port.stream = s.port.stream ∧
        t.port.expect = s.port.expect ∧ s.onlyMoves t [.port]) ∧
    (s.frameRow bytes fcs = .notForUs → exec c s = .next s) ∧
    (∀ time, s.frameRow bytes fcs = .pause time →
      ∃ t, exec c s = .next t ∧ (t.port.paused = true ↔ time ≠ 0) ∧
        t.port.pauseEnd = s.clock.clk + (5 * time.toNat + 7) / 8 ∧ t.port.stream = s.port.stream ∧
        s.onlyMoves t [.port]) ∧
    (s.frameRow bytes fcs = .overflow →
      ∃ t, exec c s = .next t ∧ t.port.counter[0] = s.port.counter[0] + 1 ∧ s.onlyMoves t [.port, .tel] ∧
        t.port.expect = none ∧ t.port.stream = (if s.port.partialRecord = true then s.port.stream.take s.port.whole else s.port.stream)) ∧
    (s.frameRow bytes fcs = .accept →
      (fieldAt bytes 16 1 = 1 ∧ s.port.partialRecord = false ∨
        fieldAt bytes 16 1 ≠ 1 ∧ s.port.expect = some (BitVec.ofNat 32 (fieldAt bytes 18 4))) →
      ∃ t, exec c s = .next t ∧ t.port.stream = s.port.stream ++ framePayload bytes ∧
        t.port.expect = some (BitVec.ofNat 32 (fieldAt bytes 18 4) + BitVec.ofNat 32 (framePlen bytes)) ∧
        t.port.host = some (macNumber (slice bytes 6 6)) ∧ s.onlyMoves t [.port]) ∧
    (s.frameRow bytes fcs = .accept → fieldAt bytes 16 1 = 1 → s.port.partialRecord = true →
      ∃ t, exec c s = .next t ∧ t.port.stream = s.port.stream.take s.port.whole ++ framePayload bytes ∧
        t.port.counter[2] = s.port.counter[2] + 1 ∧ s.onlyMoves t [.port, .tel]) ∧
    (s.frameRow bytes fcs = .accept → fieldAt bytes 16 1 ≠ 1 →
      s.port.expect ≠ some (BitVec.ofNat 32 (fieldAt bytes 18 4)) →
      ∃ t, exec c s = .next t ∧ t.port.expect = none ∧ t.port.counter[1] = s.port.counter[1] + 1 ∧
        t.port.stream = (if s.port.partialRecord = true then s.port.stream.take s.port.whole else s.port.stream) ∧
        s.onlyMoves t [.port, .tel]))

/-! ## Records -/

/-- A whole record of type `ty` that stands where the device takes it, at place `pl`, sound in rows 1 and 2 of Table 14.3. -/
def soundRecord (s : State) (pl : Place) (ty : Nat) (rec : List Byte) : Prop :=
  s.place = some pl ∧ rtype rec = ty ∧ recordLength rec = some rec.length ∧
    (pl.onPort = true → rec.isPrefixOf s.port.stream = true) ∧
    framingOk pl.inImage (s.sealedImage pl) rec = true ∧ crcOk rec = true

/-- The command of a configuration record, with its type (Table 14.2). -/
def configCommand (c : Instr) (ty : Nat) (rec : List Byte) : Prop :=
  c = .base rec ∧ ty = 0x10 ∨ c = .overlay rec ∧ ty = 0x11 ∨ c = .program rec ∧ ty = 0x20 ∨
  c = .toneTable rec ∧ ty = 0x21 ∨ c = .marginTable rec ∧ ty = 0x22 ∨ c = .coefficientSet rec ∧ ty = 0x23 ∨
  c = .guardTable rec ∧ ty = 0x24 ∨ c = .linkMap rec ∧ ty = 0x25 ∨ c = .capturePlan rec ∧ ty = 0x26 ∨
  c = .budgets rec ∧ ty = 0x27

/-- R141, R435, R437, Table 14.3: after bring-up a configuration record that passes rows 1 to 5 becomes part of the shadow of
an OPEN transaction, and in any other state is refused with outcome 0x06; a record that row 3 or row 5 refuses changes neither
the shadow nor the live configuration, and its event log entry is 0x0F or 0x0E. Either way it leaves the content buffer. -/
def Obligations.ConfigRecordsReachShadow : Prop :=
  ∀ (s : State) (c : Instr) (ty : Nat) (rec : List Byte), configCommand c ty rec → soundRecord s .afterBringUp ty rec →
    (∀ img, s.tagOk rec = true → s.txn.state = .opened → s.txn.shadow = some img → structureOk rec (some img) = true →
      ∃ t, exec c s = .next t ∧ t.txn.shadow = some (img.take rec) ∧ t.txn.state = .opened ∧ t.txn.live = s.txn.live ∧
        t.port.stream = s.port.stream.drop rec.length ∧ s.onlyMoves t [.txn, .port]) ∧
    (s.tagOk rec = true → s.txn.state ≠ .opened → structureOk rec none = true →
      ∃ t, exec c s = .next t ∧ lastOutcome t = some 6 ∧ t.port.stream = s.port.stream.drop rec.length ∧
        s.onlyMoves t [.tel, .port]) ∧
    (s.tagOk rec = false → s.tel.events.length < 2048 →
      ∃ t, exec c s = .next t ∧ (∃ e ∈ t.tel.events, e.code = 0x0F ∧ e.obj = BitVec.ofNat 16 ty) ∧
        t.port.stream = s.port.stream.drop rec.length ∧ s.onlyMoves t [.tel, .port]) ∧
    (∀ img, s.tagOk rec = true → s.txn.state = .opened → s.txn.shadow = some img →
      structureOk rec (some img) = false → s.tel.events.length < 2048 →
      ∃ t, exec c s = .next t ∧ (∃ e ∈ t.tel.events, e.code = 0x0E ∧ e.obj = BitVec.ofNat 16 ty) ∧
        t.port.stream = s.port.stream.drop rec.length ∧ s.onlyMoves t [.tel, .port])

/-- R125, R439 to R443, R459, R462, R464, R465: a good HEADER starts the image; its END, with every record and every segment
there, makes it act, or with SEAL set leaves it waiting for its tag; a tag that matches lets it act, and one that does not
fails bring-up with 0xAA. A good PROVISION record programs the key cells, whose read-back the device keeps. -/
def Obligations.ImageAndKeyRecords : Prop :=
  (∀ (s : State) (pl : Place) (rec : List Byte), soundRecord s pl 1 rec → pl.inImage = true →
    s.port.image.started = false → s.headerFault pl rec = none →
    ∃ t, exec (.header rec) s = .next t ∧ t.port.image.started = true ∧ t.port.image.complete = false ∧
      t.port.image.ilen = fieldAt (recBody rec) 12 4 ∧ t.port.image.nrec = fieldAt (recBody rec) 16 4 ∧
      t.port.image.bytes = rec ∧ t.port.image.records = 1 ∧ s.onlyMoves t [.port]) ∧
  (∀ (s : State) (pl : Place) (rec : List Byte), soundRecord s pl 2 rec → pl.inImage = true →
    s.port.image.started = true → s.port.image.bytes.length + rec.length = s.port.image.ilen → recIndex rec = 0 →
    s.port.image.records + 1 = s.port.image.nrec →
    (∀ id ∈ s.port.image.segments, ∃ g, s.mem.seg id = some g ∧ g.rcvd = g.len) →
    (s.power.sealOn = false →
      ∃ t, exec (.endRecord rec) s = .next t ∧ t.txn.boot = s.builtImage ∧ t.power.fault 30 = false ∧
        t.power.stage = (if s.power.role != .standalone then .join else if s.trimmed then .done else .trimWait) ∧
        t.chan = s.chan ∧ t.txn.live = s.txn.live ∧ t.mem.cells = s.mem.cells) ∧
    (s.power.sealOn = true →
      ∃ t, exec (.endRecord rec) s = .next t ∧ t.port.image.complete = true ∧ s.onlyMoves t [.port])) ∧
  (∀ s : State, s.power.stage = .image → s.power.sealOn = true → s.port.image.complete = true →
    (s.power.tagOf (s.port.image.bytes.take (s.port.image.ilen - 36)) =
        some (slice s.port.image.bytes (s.port.image.ilen - 36) 32) →
      ∃ t, exec .sealVerifyDone s = .next t ∧ t.txn.boot = s.builtImage ∧ t.power.stage ≠ .image ∧ t.chan = s.chan ∧
        t.txn.live = s.txn.live ∧ t.mem.cells = s.mem.cells) ∧
    (s.power.tagOf (s.port.image.bytes.take (s.port.image.ilen - 36)) ≠
        some (slice s.port.image.bytes (s.port.image.ilen - 36) 32) →
      ∃ t, exec .sealVerifyDone s = .next t ∧ t.power.stage = .failed 0xAA ∧ t.txn.boot = s.txn.boot ∧
        t.port.image = ImageRead.initial ∧ t.chan = s.chan)) ∧
  (∀ (s : State) (rec readBack : List Byte), soundRecord s .provisioning 3 rec → s.power.stage = .provision →
    structureOk rec none = true → kcvOf (slice (recBody rec) 0 32) = slice (recBody rec) 32 8 →
    kcvOf (slice readBack 0 32) = slice readBack 32 8 →
    ∃ t, exec (.provision rec readBack) s = .next t ∧ t.power.key = some (slice readBack 0 32) ∧
      t.power.kcv = some (slice readBack 32 8) ∧ t.power.stage = .provisioned ∧ s.onlyMoves t [.power, .port, .pins])

/-- R300, R456, Table 9.5: after bring-up a Start chunk of a FREE segment, while pages last, begins the segment with its
length, takes its samples, and makes it READY when they are all there, LOADING otherwise (stated for a chunk of at most 16 lines that
meets an empty merge buffer, which then flushes nothing, with port P2 not back-pressured); R301: a load whose last chunk is
4,096 ticks old or more is abandoned: the segment is FREE, its pages are free, and event 0x0C with SUB 2 says so. Neither
changes another segment, a channel or the transaction. -/
def Obligations.SegmentsLoadAndExpire : Prop :=
  (∀ (s : State) (rec : List Byte) (errs : List LineErrs), soundRecord s .afterBringUp 0x30 rec → s.tagOk rec = true →
    structureOk rec none = true → s.txn.state = .idle → s.dramUsable = true → s.p2Open = true → s.mem.merge = Vector.replicate 2 [] → (chunkOf rec).ns ≤ 768 →
    s.mem.seg (chunkOf rec).id = none → (chunkOf rec).start = true →
    (chunkOf rec).ns ≤ (chunkOf rec).len → ((chunkOf rec).ns % 48 = 0 ∨ (chunkOf rec).ns = (chunkOf rec).len) →
    ((chunkOf rec).ns = 0 ∨ ((s.mem.request.putSeg (beginSegment (chunkOf rec) false)).grow 8
      (beginSegment (chunkOf rec) false) (((chunkOf rec).ns + 49151) / 49152)).isSome = true) →
    ∃ t g, exec (.segmentChunk rec errs) s = .next t ∧ t.mem.seg (chunkOf rec).id = some g ∧
      g.len = (chunkOf rec).len ∧ g.rcvd = (chunkOf rec).ns ∧
      g.state = (if (chunkOf rec).ns = (chunkOf rec).len then .ready else .loading) ∧
      (∀ k : BitVec 16, k ≠ (chunkOf rec).id → t.mem.seg k = s.mem.seg k) ∧
      t.port.stream = s.port.stream.drop rec.length ∧ s.onlyMoves t [.mem, .port]) ∧
  (∀ (s : State) (id : BitVec 16) (g : Segment), s.coreRuns = true → s.mem.seg id = some g →
    (g.state = .loading ∨ g.state = .quarantined ∧ g.rcvd < g.len) →
    g.lastChunk + 4096 * 16384 + s.clock.frame ≤ s.clock.clk → s.tel.events.length < 2048 →
    ∃ t, exec (.segmentLoadTimeout id) s = .next t ∧ t.mem.seg id = none ∧
      (∀ k : BitVec 16, k ≠ id → t.mem.seg k = s.mem.seg k) ∧
      (∀ p ∈ g.pages ++ g.lists, p ∉ t.mem.used) ∧
      (∃ e ∈ t.tel.events, e.code = 0x0C ∧ e.sub = 2 ∧ e.obj = id) ∧
      t.mem.cells = s.mem.cells ∧ s.onlyMoves t [.mem, .tel, .port])

/-! ## Telemetry -/

/-- One frame goes out: SEQ rises by one, and the frame holds the header of Table 13.3 and the body, at least 46 bytes. -/
def emits (s t : State) (type : Byte) (epoch : BitVec 48) (body : List Byte) : Prop :=
  t.tel.seq = s.tel.seq + 1 ∧ ∃ f, t.tel.sent = some f ∧ f.dst = s.telDst ∧ f.src = macNumber s.mac ∧
    f.etherType = 0x88B5 ∧ 46 ≤ f.payload.length ∧
    f.payload.take (16 + body.length) =
      [0x01, type] ++ leBytes 2 s.devid ++ leBytes 4 s.tel.seq.toNat ++ leBytes 6 epoch.toNat ++
        leBytes 2 body.length ++ body

/-- R413, R422 to R431: each telemetry frame goes out when the line takes its priority and its queue holds something (which items
are ready, and what goes before what, is logs 31 and 32), with the body that its rule gives, and takes what it carries from its
queue. A STATUS body is frozen at row 9 of its boundary (R50, R424), which follows row 8, and a LEDGER body with it where one is
due then; both are sent as they were frozen, with that frame's EPOCH. A CAPTURE frame goes out when every line of it has been read
through port P3; the reads are asked for, and end self-refresh (R317). Sending moves nothing but the telemetry, and what the frame
reports of. -/
def Obligations.TelemetryGoesOut : Prop :=
  (∀ s : State, s.mayEmit 1 = true → s.tel.outcomes ≠ [] →
    ∃ t, exec .outcome s = .next t ∧ t.tel.outcomes = s.tel.outcomes.drop 382 ∧ s.onlyMoves t [.tel] ∧
      emits s t 0x07 s.clock.epoch (leBytes 2 (min 382 s.tel.outcomes.length) ++ List.replicate 6 0 ++
        (s.tel.outcomes.take 382).flatMap OutcomeEntry.encode)) ∧
  (∀ (s : State) (id : BitVec 16) (g : Segment), s.mem.seg id = some g → g.state = .quarantined →
    s.mayEmit 2 = true → s.tel.wanted.contains id = true →
    ∃ t, exec (.wanted id) s = .next t ∧ t.tel.wanted.contains id = false ∧ s.onlyMoves t [.tel] ∧
      emits s t 0x08 s.clock.epoch (leBytes 2 id.toNat ++ [if g.whole then 1 else 0, BitVec.ofNat 8 (s.mem.ranges g).length] ++
        leBytes 4 g.len ++ [0, 0, 0, 0] ++ (s.mem.ranges g).flatMap fun r => leBytes 4 r.1 ++ leBytes 4 r.2) ∧
      (s.mem.ranges g).length ≤ 32 ∧ (g.whole = true → s.mem.ranges g = [(0, g.len)])) ∧
  (∀ s : State, s.mayEmit 3 = true → s.tel.bogChanges ≠ [] →
    ∃ t, exec .bog s = .next t ∧ t.tel.bogChanges = s.tel.bogChanges.drop 573 ∧ s.onlyMoves t [.tel] ∧
      emits s t 0x05 s.clock.epoch (leBytes 2 (min 573 s.tel.bogChanges.length) ++ [0, 0] ++
        leBytes 4 s.mem.bog.length ++ (s.tel.bogChanges.take 573).flatMap BogEntry.encode)) ∧
  (∀ (s : State) (f : Frozen), s.tel.status = some f → s.mayEmit 4 = true →
    ∃ t, exec .status s = .next t ∧ t.tel.status = none ∧ emits s t 0x01 f.epoch f.body ∧ s.onlyMoves t [.tel]) ∧
  (∀ s : State, s.clock.frame = 0 → s.txn.due.calibration = true → s.txn.due.status = true →
    ∃ t f, exec .calibrationStart s = .next t ∧ t.tel.status = some f ∧ f.epoch = s.clock.epoch ∧ f.body.length = 944 ∧
      t.txn.due.status = false ∧ t.txn.due.ledger = false ∧
      (s.txn.due.ledger = false → f.body = State.statusBody { t with mem := { t.mem with squallSeen := s.mem.squallSeen } }) ∧
      (s.txn.due.ledger = true →
        ∃ l, t.tel.ledger = some l ∧ l.epoch = s.clock.epoch ∧ l.body.length = 1032 ∧ l.body = t.ledgerBody)) ∧
  (∀ s : State, s.mayEmit 5 = true → s.eventReady = true →
    ∃ t, exec .event s = .next t ∧ t.tel.events = s.tel.events.drop 573 ∧ s.onlyMoves t [.tel] ∧
      emits s t 0x04 s.clock.epoch (leBytes 2 (min 573 s.tel.events.length) ++ List.replicate 6 0 ++
        (s.tel.events.take 573).flatMap EventEntry.encode)) ∧
  (∀ (s : State) (f : Frozen), s.tel.ledger = some f → s.mayEmit 6 = true →
    ∃ t, exec .ledger s = .next t ∧ t.tel.ledger = none ∧ emits s t 0x06 f.epoch f.body ∧ s.onlyMoves t [.tel]) ∧
  (∀ s : State, s.mayEmit 7 = true → s.detectorReady = true →
    ∃ t, exec .detector s = .next t ∧ t.tel.results = s.tel.results.drop 382 ∧ s.onlyMoves t [.tel] ∧
      emits s t 0x03 s.clock.epoch (leBytes 4 s.tel.resultsLost.toNat ++ leBytes 2 (min 382 s.tel.results.length) ++
        [0, 0] ++ (s.tel.results.take 382).flatMap DetResult.encode)) ∧
  (∀ (s : State) (k : Fin 8), s.mayEmit 8 = true → s.captureReady k = true → s.dramDown = false →
    (∃ l ∈ (s.mem.capture[k]).lines.take 127, l.got = false) →
    ∃ t, exec (.capture k) s = .next t ∧ t.tel = s.tel ∧ t.mem.capture = s.mem.capture ∧ t.mem.cells = s.mem.cells ∧
      (s.mem.waiting = [] → (∀ j : Fin 2, s.mem.reads[j] = []) →
        (∀ l ∈ (s.mem.capture[k]).lines.take 127, l.got = false → asked t .p3 (.ring k) ((s.mem.capture[k]).addrOf l)) ∧
        (s.mem.sr = .idleCount → t.mem.sr = .awake) ∧ (s.mem.sr = .committed → t.mem.wakeDue = true)) ∧
      s.onlyMoves t [.mem, .player]) ∧
  (∀ (s : State) (k : Fin 8), s.mayEmit 8 = true → s.captureReady k = true → s.dramDown = false →
    (∀ l ∈ (s.mem.capture[k]).lines.take 127, l.got = true) →
    ∃ t, exec (.capture k) s = .next t ∧ (t.mem.capture[k]).lines = (s.mem.capture[k]).lines.drop 127 ∧
      (t.mem.capture[k]).gap = 0 ∧ (∀ j : Fin 8, j ≠ k → t.mem.capture[j] = s.mem.capture[j]) ∧
      t.mem.cells = s.mem.cells ∧ s.onlyMoves t [.tel, .mem] ∧
      emits s t 0x02 s.clock.epoch ([BitVec.ofNat 8 k.val, 0] ++
        leBytes 2 (min 127 (s.mem.capture[k]).lines.length) ++ leBytes 4 (s.mem.capture[k]).gap ++
        ((s.mem.capture[k]).lines.take 127).flatMap CapLine.encode))

/-! ## The test access port -/

/-- R101: EXTEST, EXTEST_PULSE, EXTEST_TRAIN, CLAMP and HIGHZ take effect only while RST_N is low, and act as BYPASS while it
is high. R102: no instruction of the test access port moves anything but the test logic; IDCODE gives 0x1641016B. -/
def Obligations.TestPortReachesNothing : Prop :=
  (∀ s : State,
    (∃ t, exec .bypass s = .next t ∧ t.tap.ir = .bypass ∧ t.tap.driving = false ∧ t.tap.hiZ = false ∧
      s.onlyMoves t [.tap]) ∧
    (∃ t, exec .idcode s = .next t ∧ t.tap.ir = .idcode ∧ t.tap.dr = 0x1641016B ∧ t.tap.driving = false ∧
      t.tap.hiZ = false ∧ s.onlyMoves t [.tap]) ∧
    (∃ t, exec .trstNLow s = .next t ∧ t.tap.driving = false ∧ t.tap.hiZ = false ∧ s.onlyMoves t [.tap]) ∧
    (∃ t, exec .clamp s = .next t ∧ t.tap.driving = s.rstLow ∧ t.tap.hiZ = false ∧ t.tap.cells = s.tap.cells ∧
      s.onlyMoves t [.tap]) ∧
    (∃ t, exec .highz s = .next t ∧ t.tap.driving = false ∧ t.tap.hiZ = s.rstLow ∧ t.tap.cells = s.tap.cells ∧
      s.onlyMoves t [.tap])) ∧
  (∀ (s : State) (cells : List Bool),
    ∃ t, exec (.samplePreload cells) s = .next t ∧ t.tap.cells = cells ∧ t.tap.driving = false ∧ t.tap.hiZ = false ∧
      s.onlyMoves t [.tap]) ∧
  (∀ (s : State) (c : Instr) (cells : List Bool), c = .extest cells ∨ c = .extestPulse cells ∨ c = .extestTrain cells →
    ∃ t, exec c s = .next t ∧ t.tap.driving = s.rstLow ∧ t.tap.hiZ = false ∧
      t.tap.cells = (if s.rstLow = true then cells else s.tap.cells) ∧ s.onlyMoves t [.tap])
end

