-- ==== Sys2Proof/Laws/Memory.lean ====
section
/-! SUPPORT. The laws of the memory: every write keeps the canonical form, a read after a write to the same address gives what
was written, and a write leaves every other address alone. -/

namespace Sys2Proof.Machine

/-- A canonical list whose addresses all lie above a bound. -/
theorem Memory.wf_tail {c : Host.Cell} {m : List Host.Cell} (h : Memory.wf (c :: m) = true) : Memory.wf m = true := by
  cases m with
  | nil => rfl
  | cons d rest => obtain ⟨a, b⟩ := c; obtain ⟨a', b'⟩ := d; simp [Memory.wf] at h; exact h.2

/-- The addresses of a canonical list rise strictly from its first. -/
theorem Memory.wf_above {a : Nat} {b : Byte} {m : List Host.Cell} (h : Memory.wf ((a, b) :: m) = true) :
    ∀ e ∈ m, a < e.1 := by
  induction m generalizing a b with
  | nil => simp
  | cons d rest ih =>
    obtain ⟨a', b'⟩ := d
    have hr := ih (Memory.wf_tail h)
    simp only [Memory.wf, Bool.and_eq_true, decide_eq_true_eq] at h
    intro e he
    rcases List.mem_cons.mp he with rfl | he
    · exact h.1.1
    · exact Nat.lt_trans h.1.1 (hr e he)

/-- A cell put before a canonical list of higher addresses. -/
theorem Memory.wf_cons {a : Nat} {b : Byte} {m : List Host.Cell} (hm : Memory.wf m = true) (hb : b ≠ blankByte)
    (ha : ∀ e ∈ m, a < e.1) : Memory.wf ((a, b) :: m) = true := by
  cases m with
  | nil => simpa [Memory.wf] using hb
  | cons d rest =>
    obtain ⟨a', b'⟩ := d
    simpa [Memory.wf, hb, ha (a', b') (by simp)] using hm

/-- No cell of a canonical list holds what an unlisted address reads as. -/
theorem Memory.wf_head {a : Nat} {b : Byte} {m : List Host.Cell} (h : Memory.wf ((a, b) :: m) = true) : b ≠ blankByte := by
  cases m with
  | nil => simpa [Memory.wf] using h
  | cons d rest => obtain ⟨a', b'⟩ := d; simp [Memory.wf] at h; exact h.1.2

/-- The addresses after a write: those before, and the one written. -/
theorem mem_cellWrite {m : List Host.Cell} {x : Nat} {v : Byte} {e : Host.Cell} (h : e ∈ cellWrite m x v) :
    e ∈ m ∨ e.1 = x := by
  induction m with
  | nil => simp only [cellWrite] at h; split at h <;> simp_all
  | cons c rest ih =>
    obtain ⟨a, b⟩ := c
    simp only [cellWrite] at h
    split at h
    · split at h
      · exact .inl h
      · rcases List.mem_cons.mp h with rfl | h
        · exact .inr rfl
        · exact .inl h
    · split at h
      · split at h
        · exact .inl (List.mem_cons_of_mem _ h)
        · rcases List.mem_cons.mp h with rfl | h
          · right; simp_all
          · exact .inl (List.mem_cons_of_mem _ h)
      · rcases List.mem_cons.mp h with rfl | h
        · exact .inl (List.mem_cons_self ..)
        · rcases ih h with h | h
          · exact .inl (List.mem_cons_of_mem _ h)
          · exact .inr h

/-- A write of one byte keeps the canonical form. -/
theorem cellWrite_wf {m : List Host.Cell} (x : Nat) (v : Byte) (h : Memory.wf m = true) :
    Memory.wf (cellWrite m x v) = true := by
  induction m with
  | nil => simp only [cellWrite]; split <;> simp_all [Memory.wf]
  | cons c rest ih =>
    obtain ⟨a, b⟩ := c
    have hab := Memory.wf_above h
    have hb := Memory.wf_head h
    have hr := Memory.wf_tail h
    simp only [cellWrite]
    split
    · rename_i hx
      split
      · exact h
      · rename_i hv
        refine Memory.wf_cons h hv fun e he => ?_
        rcases List.mem_cons.mp he with rfl | he
        · exact hx
        · exact Nat.lt_trans hx (hab e he)
    · split
      · split
        · exact hr
        · rename_i hv
          exact Memory.wf_cons hr hv hab
      · refine Memory.wf_cons (ih hr) hb fun e he => ?_
        rcases mem_cellWrite he with he | he
        · exact hab e he
        · omega

/-- A write of bytes keeps the canonical form. -/
theorem cellWriteAll_wf {m : List Host.Cell} (x : Nat) (vs : List Byte) (h : Memory.wf m = true) :
    Memory.wf (cellWriteAll m x vs) = true := by
  induction vs generalizing m x with
  | nil => exact h
  | cons v vs ih => exact ih (x + 1) (cellWrite_wf x v h)

/-- An address below every listed one reads as blank. -/
theorem cellRead_below {m : List Host.Cell} {x : Nat} (h : ∀ e ∈ m, x < e.1) : cellRead m x = blankByte := by
  cases m with
  | nil => rfl
  | cons c rest =>
    obtain ⟨a, b⟩ := c
    have hx : x < a := h (a, b) (by simp)
    simp only [cellRead]
    rw [if_neg (by omega), if_pos hx]

/-- Read after write. -/
theorem cellRead_cellWrite {m : List Host.Cell} (x : Nat) (v : Byte) (y : Nat) (h : Memory.wf m = true) :
    cellRead (cellWrite m x v) y = if y = x then v else cellRead m y := by
  induction m with
  | nil =>
    simp only [cellWrite]
    split
    · split <;> simp_all [cellRead]
    · simp only [cellRead]; split <;> simp_all
  | cons c rest ih =>
    obtain ⟨a, b⟩ := c
    have hab := Memory.wf_above h
    have hr := ih (Memory.wf_tail h)
    simp only [cellWrite]
    by_cases hxa : x < a
    · simp only [hxa, if_true]
      by_cases hv : v = blankByte
      · simp only [hv, if_true]
        split
        · subst_vars; simp [cellRead]; split <;> [omega; rfl]
        · rfl
      · simp only [hv, if_false]
        by_cases hy : y = x
        · simp [hy, cellRead]
        · simp only [hy, if_false]
          by_cases hlt : y < x
          · have : y < a := by omega
            simp [cellRead, hy, hlt, this]
            omega
          · simp [cellRead, hy, hlt]
    · simp only [hxa, if_false]
      by_cases hxe : x = a
      · subst hxe
        simp only [if_true]
        by_cases hv : v = blankByte
        · simp only [hv, if_true]
          by_cases hy : y = x
          · subst hy; simp [cellRead_below hab]
          · simp only [hy, if_false, cellRead]
            split
            · exact cellRead_below fun e he => Nat.lt_trans ‹_› (hab e he)
            · rfl
        · simp only [hv, if_false, cellRead]
          by_cases hy : y = x <;> simp [hy]
      · simp only [hxe, if_false, cellRead]
        by_cases hya : y = a
        · simp [hya, Ne.symm hxe]
        · simp only [hya, if_false]
          by_cases hlt : y < a
          · have hne : y ≠ x := by omega
            simp [hlt, hne]
          · simp only [hlt, if_false]; exact hr

/-- Bytes written from `x` on read back, and every other address reads as before. -/
theorem cellRead_cellWriteAll {m : List Host.Cell} (x : Nat) (vs : List Byte) (y : Nat) (h : Memory.wf m = true) :
    cellRead (cellWriteAll m x vs) y = if x ≤ y ∧ y < x + vs.length then vs.getD (y - x) 0 else cellRead m y := by
  induction vs generalizing m x with
  | nil => simp [cellWriteAll]
  | cons v vs ih =>
    simp only [cellWriteAll, ih (x + 1) (cellWrite_wf x v h), cellRead_cellWrite x v y h, List.length_cons]
    by_cases h1 : y = x
    · subst h1; simp
    · by_cases h2 : x + 1 ≤ y ∧ y < x + 1 + vs.length
      · have h3 : x ≤ y ∧ y < x + (vs.length + 1) := by omega
        obtain ⟨k, hk⟩ : ∃ k, y - x = k + 1 := ⟨y - x - 1, by omega⟩
        have hk' : y - (x + 1) = k := by omega
        simp [h2, h3, hk, hk']
      · have h3 : ¬ (x ≤ y ∧ y < x + (vs.length + 1)) := by omega
        rw [if_neg h2, if_neg h1, if_neg h3]

/-- The bytes read from an address on, one by one. -/
theorem cellReadAll_getElem (m : List Host.Cell) (x k i : Nat) (h : i < (cellReadAll m x k).length) :
    (cellReadAll m x k)[i] = cellRead m (x + i) := by
  induction k generalizing x i with
  | zero => simp [cellReadAll] at h
  | succ k ih =>
    cases i with
    | zero => simp [cellReadAll]
    | succ i => simp only [cellReadAll, List.getElem_cons_succ]; rw [ih]; congr 1; omega

@[simp] theorem cellReadAll_length (m : List Host.Cell) (x k : Nat) : (cellReadAll m x k).length = k := by
  induction k generalizing x with
  | zero => rfl
  | succ k ih => simp [cellReadAll, ih]

/-- A line that a spare holds is written there: no byte of the arrays changes. -/
theorem Mem.writeLine_cells_spare (m : Mem) (a : LineAddr) (owner : BitVec 16) (data : List Byte)
    (h : m.onSpare a owner = true) : (m.writeLine a owner data).cells = m.cells := by
  simp [Mem.writeLine, h]

/-- A line in place is written to its 64 bytes. -/
theorem Mem.writeLine_cells (m : Mem) (a : LineAddr) (owner : BitVec 16) (data : List Byte)
    (h : m.onSpare a owner = false) :
    (m.writeLine a owner data).cells = cellWriteAll m.cells (lineBase a owner) (vec64 data).toList := by
  simp [Mem.writeLine, h]

/-- A line in place is written with no change to the spares. -/
theorem Mem.writeLine_remap (m : Mem) (a : LineAddr) (owner : BitVec 16) (data : List Byte)
    (h : m.onSpare a owner = false) : (m.writeLine a owner data).remap = m.remap := by
  simp [Mem.writeLine, h]

/-- A line written whole keeps the canonical form, to a spare or in place. -/
theorem Mem.writeLine_wf (m : Mem) (a : LineAddr) (owner : BitVec 16) (data : List Byte)
    (h : Memory.wf m.cells = true) : Memory.wf (m.writeLine a owner data).cells = true := by
  cases hs : m.onSpare a owner
  · rw [Mem.writeLine_cells _ _ _ _ hs]
    exact cellWriteAll_wf _ _ h
  · rw [Mem.writeLine_cells_spare _ _ _ _ hs]
    exact h

/-- A line written in place reads back as it was written, filled with zeros to 64 bytes. -/
theorem Mem.rawLine_writeLine (m : Mem) (a : LineAddr) (owner : BitVec 16) (data : List Byte)
    (h : Memory.wf m.cells = true) (hs : m.onSpare a owner = false) :
    (m.writeLine a owner data).rawLine a owner = (vec64 data).toList := by
  have hnone : (m.remap[subOf a owner]).find? (fun r => r.addr == a) = none := by
    simp only [Mem.onSpare, List.any_eq_false] at hs
    exact List.find?_eq_none.mpr fun r hr => by simpa using hs r hr
  unfold Mem.rawLine
  rw [Mem.writeLine_remap _ _ _ _ hs, hnone, Mem.writeLine_cells _ _ _ _ hs]
  dsimp only
  apply List.ext_getElem
  · simp
  · intro i h1 h2
    have hi : i < 64 := by simpa using h1
    rw [cellReadAll_getElem, cellRead_cellWriteAll _ _ _ h, if_pos (by rw [Vector.length_toList]; omega),
      Nat.add_sub_cancel_left, List.getD_eq_getElem _ _ h2]

/-- A line written in place leaves every byte outside its 64 as it was. -/
theorem Mem.writeLine_other (m : Mem) (a : LineAddr) (owner : BitVec 16) (data : List Byte) (x : Nat)
    (h : Memory.wf m.cells = true) (hx : x < lineBase a owner ∨ lineBase a owner + 64 ≤ x) :
    cellRead (m.writeLine a owner data).cells x = cellRead m.cells x := by
  cases hs : m.onSpare a owner
  · rw [Mem.writeLine_cells _ _ _ _ hs, cellRead_cellWriteAll _ _ _ h, if_neg]
    rw [Vector.length_toList]
    omega
  · rw [Mem.writeLine_cells_spare _ _ _ _ hs]

/-- A request moves no byte. -/
@[simp] theorem Mem.request_cells (m : Mem) : m.request.cells = m.cells := by unfold Mem.request; split <;> rfl

/-- A write that waits for its entry moves no byte. -/
@[simp] theorem Mem.askWrite_cells (m : Mem) (port : MemPort) (a : LineAddr) (owner : BitVec 16) :
    (m.askWrite port a owner).cells = m.cells := by simp [Mem.askWrite]

/-- A line written through a port stores what it stores without one. -/
@[simp] theorem Mem.putLine_cells (m : Mem) (port : MemPort) (a : LineAddr) (owner : BitVec 16) (data : List Byte) :
    (m.putLine port a owner data).cells = (m.writeLine a owner data).cells := by
  unfold Mem.putLine; split <;> simp

/-- A line written through a port keeps the canonical form. -/
theorem Mem.putLine_wf (m : Mem) (port : MemPort) (a : LineAddr) (owner : BitVec 16) (data : List Byte)
    (h : Memory.wf m.cells = true) : Memory.wf (m.putLine port a owner data).cells = true := by
  rw [Mem.putLine_cells]; exact Mem.writeLine_wf m a owner data h

/-- Reset memory is in canonical form. -/
theorem Mem.initial_wf : Memory.wf Mem.initial.cells = true := rfl

end Sys2Proof.Machine
end

