-- ==== Sys2Proof/Laws/State.lean ====
section
/-! SUPPORT. What each shared operation on the state leaves as it was: one lemma for each field that it does not move. -/

namespace Sys2Proof.Machine

/-! ## showSt -/

@[simp] theorem State.showSt_power (s : State) : (s.showSt).power = s.power := rfl
@[simp] theorem State.showSt_clock (s : State) : (s.showSt).clock = s.clock := rfl
@[simp] theorem State.showSt_txn (s : State) : (s.showSt).txn = s.txn := rfl
@[simp] theorem State.showSt_chan (s : State) : (s.showSt).chan = s.chan := rfl
@[simp] theorem State.showSt_sense (s : State) : (s.showSt).sense = s.sense := rfl
@[simp] theorem State.showSt_player (s : State) : (s.showSt).player = s.player := rfl
@[simp] theorem State.showSt_mem (s : State) : (s.showSt).mem = s.mem := rfl
@[simp] theorem State.showSt_ledger (s : State) : (s.showSt).ledger = s.ledger := rfl
@[simp] theorem State.showSt_cal (s : State) : (s.showSt).cal = s.cal := rfl
@[simp] theorem State.showSt_chain (s : State) : (s.showSt).chain = s.chain := rfl
@[simp] theorem State.showSt_port (s : State) : (s.showSt).port = s.port := rfl
@[simp] theorem State.showSt_tel (s : State) : (s.showSt).tel = s.tel := rfl
@[simp] theorem State.showSt_tap (s : State) : (s.showSt).tap = s.tap := rfl
@[simp] theorem State.showSt_freeCount (s : State) : (s.showSt).freeCount = s.freeCount := rfl
@[simp] theorem State.showSt_pending (s : State) : (s.showSt).pending = s.pending := rfl

/-! ## bump -/

@[simp] theorem State.bump_power (s : State) (i : Fin 18) : (s.bump i).power = s.power := rfl
@[simp] theorem State.bump_clock (s : State) (i : Fin 18) : (s.bump i).clock = s.clock := rfl
@[simp] theorem State.bump_pins (s : State) (i : Fin 18) : (s.bump i).pins = s.pins := rfl
@[simp] theorem State.bump_txn (s : State) (i : Fin 18) : (s.bump i).txn = s.txn := rfl
@[simp] theorem State.bump_chan (s : State) (i : Fin 18) : (s.bump i).chan = s.chan := rfl
@[simp] theorem State.bump_sense (s : State) (i : Fin 18) : (s.bump i).sense = s.sense := rfl
@[simp] theorem State.bump_player (s : State) (i : Fin 18) : (s.bump i).player = s.player := rfl
@[simp] theorem State.bump_mem (s : State) (i : Fin 18) : (s.bump i).mem = s.mem := rfl
@[simp] theorem State.bump_ledger (s : State) (i : Fin 18) : (s.bump i).ledger = s.ledger := rfl
@[simp] theorem State.bump_cal (s : State) (i : Fin 18) : (s.bump i).cal = s.cal := rfl
@[simp] theorem State.bump_chain (s : State) (i : Fin 18) : (s.bump i).chain = s.chain := rfl
@[simp] theorem State.bump_tel (s : State) (i : Fin 18) : (s.bump i).tel = s.tel := rfl
@[simp] theorem State.bump_tap (s : State) (i : Fin 18) : (s.bump i).tap = s.tap := rfl
@[simp] theorem State.bump_freeCount (s : State) (i : Fin 18) : (s.bump i).freeCount = s.freeCount := rfl
@[simp] theorem State.bump_pending (s : State) (i : Fin 18) : (s.bump i).pending = s.pending := rfl

/-! ## logEvent -/

@[simp] theorem State.logEvent_power (s : State) (code sub : Byte) (obj : BitVec 16) (data : BitVec 48) : (s.logEvent code sub obj data).power = s.power :=
  by unfold State.logEvent; dsimp only; split <;> rfl
@[simp] theorem State.logEvent_clock (s : State) (code sub : Byte) (obj : BitVec 16) (data : BitVec 48) : (s.logEvent code sub obj data).clock = s.clock :=
  by unfold State.logEvent; dsimp only; split <;> rfl
@[simp] theorem State.logEvent_pins (s : State) (code sub : Byte) (obj : BitVec 16) (data : BitVec 48) : (s.logEvent code sub obj data).pins = s.pins :=
  by unfold State.logEvent; dsimp only; split <;> rfl
@[simp] theorem State.logEvent_txn (s : State) (code sub : Byte) (obj : BitVec 16) (data : BitVec 48) : (s.logEvent code sub obj data).txn = s.txn :=
  by unfold State.logEvent; dsimp only; split <;> rfl
@[simp] theorem State.logEvent_chan (s : State) (code sub : Byte) (obj : BitVec 16) (data : BitVec 48) : (s.logEvent code sub obj data).chan = s.chan :=
  by unfold State.logEvent; dsimp only; split <;> rfl
@[simp] theorem State.logEvent_sense (s : State) (code sub : Byte) (obj : BitVec 16) (data : BitVec 48) : (s.logEvent code sub obj data).sense = s.sense :=
  by unfold State.logEvent; dsimp only; split <;> rfl
@[simp] theorem State.logEvent_player (s : State) (code sub : Byte) (obj : BitVec 16) (data : BitVec 48) : (s.logEvent code sub obj data).player = s.player :=
  by unfold State.logEvent; dsimp only; split <;> rfl
@[simp] theorem State.logEvent_mem (s : State) (code sub : Byte) (obj : BitVec 16) (data : BitVec 48) : (s.logEvent code sub obj data).mem = s.mem :=
  by unfold State.logEvent; dsimp only; split <;> rfl
@[simp] theorem State.logEvent_ledger (s : State) (code sub : Byte) (obj : BitVec 16) (data : BitVec 48) : (s.logEvent code sub obj data).ledger = s.ledger :=
  by unfold State.logEvent; dsimp only; split <;> rfl
@[simp] theorem State.logEvent_cal (s : State) (code sub : Byte) (obj : BitVec 16) (data : BitVec 48) : (s.logEvent code sub obj data).cal = s.cal :=
  by unfold State.logEvent; dsimp only; split <;> rfl
@[simp] theorem State.logEvent_chain (s : State) (code sub : Byte) (obj : BitVec 16) (data : BitVec 48) : (s.logEvent code sub obj data).chain = s.chain :=
  by unfold State.logEvent; dsimp only; split <;> rfl
@[simp] theorem State.logEvent_tap (s : State) (code sub : Byte) (obj : BitVec 16) (data : BitVec 48) : (s.logEvent code sub obj data).tap = s.tap :=
  by unfold State.logEvent; dsimp only; split <;> rfl
@[simp] theorem State.logEvent_freeCount (s : State) (code sub : Byte) (obj : BitVec 16) (data : BitVec 48) : (s.logEvent code sub obj data).freeCount = s.freeCount :=
  by unfold State.logEvent; dsimp only; split <;> rfl
@[simp] theorem State.logEvent_pending (s : State) (code sub : Byte) (obj : BitVec 16) (data : BitVec 48) : (s.logEvent code sub obj data).pending = s.pending :=
  by unfold State.logEvent; dsimp only; split <;> rfl

/-! ## outcome -/

@[simp] theorem State.outcome_power (s : State) (code : Byte) (obj : Obj) (pin : Byte) (mask : BitVec 64) : (s.outcome code obj pin mask).power = s.power :=
  by unfold State.outcome; dsimp only; split <;> rfl
@[simp] theorem State.outcome_clock (s : State) (code : Byte) (obj : Obj) (pin : Byte) (mask : BitVec 64) : (s.outcome code obj pin mask).clock = s.clock :=
  by unfold State.outcome; dsimp only; split <;> rfl
@[simp] theorem State.outcome_pins (s : State) (code : Byte) (obj : Obj) (pin : Byte) (mask : BitVec 64) : (s.outcome code obj pin mask).pins = s.pins :=
  by unfold State.outcome; dsimp only; split <;> rfl
@[simp] theorem State.outcome_txn (s : State) (code : Byte) (obj : Obj) (pin : Byte) (mask : BitVec 64) : (s.outcome code obj pin mask).txn = s.txn :=
  by unfold State.outcome; dsimp only; split <;> rfl
@[simp] theorem State.outcome_chan (s : State) (code : Byte) (obj : Obj) (pin : Byte) (mask : BitVec 64) : (s.outcome code obj pin mask).chan = s.chan :=
  by unfold State.outcome; dsimp only; split <;> rfl
@[simp] theorem State.outcome_sense (s : State) (code : Byte) (obj : Obj) (pin : Byte) (mask : BitVec 64) : (s.outcome code obj pin mask).sense = s.sense :=
  by unfold State.outcome; dsimp only; split <;> rfl
@[simp] theorem State.outcome_player (s : State) (code : Byte) (obj : Obj) (pin : Byte) (mask : BitVec 64) : (s.outcome code obj pin mask).player = s.player :=
  by unfold State.outcome; dsimp only; split <;> rfl
@[simp] theorem State.outcome_mem (s : State) (code : Byte) (obj : Obj) (pin : Byte) (mask : BitVec 64) : (s.outcome code obj pin mask).mem = s.mem :=
  by unfold State.outcome; dsimp only; split <;> rfl
@[simp] theorem State.outcome_ledger (s : State) (code : Byte) (obj : Obj) (pin : Byte) (mask : BitVec 64) : (s.outcome code obj pin mask).ledger = s.ledger :=
  by unfold State.outcome; dsimp only; split <;> rfl
@[simp] theorem State.outcome_cal (s : State) (code : Byte) (obj : Obj) (pin : Byte) (mask : BitVec 64) : (s.outcome code obj pin mask).cal = s.cal :=
  by unfold State.outcome; dsimp only; split <;> rfl
@[simp] theorem State.outcome_chain (s : State) (code : Byte) (obj : Obj) (pin : Byte) (mask : BitVec 64) : (s.outcome code obj pin mask).chain = s.chain :=
  by unfold State.outcome; dsimp only; split <;> rfl
@[simp] theorem State.outcome_tap (s : State) (code : Byte) (obj : Obj) (pin : Byte) (mask : BitVec 64) : (s.outcome code obj pin mask).tap = s.tap :=
  by unfold State.outcome; dsimp only; split <;> rfl
@[simp] theorem State.outcome_freeCount (s : State) (code : Byte) (obj : Obj) (pin : Byte) (mask : BitVec 64) : (s.outcome code obj pin mask).freeCount = s.freeCount :=
  by unfold State.outcome; dsimp only; split <;> rfl
@[simp] theorem State.outcome_pending (s : State) (code : Byte) (obj : Obj) (pin : Byte) (mask : BitVec 64) : (s.outcome code obj pin mask).pending = s.pending :=
  by unfold State.outcome; dsimp only; split <;> rfl

/-! ## raiseFor -/

@[simp] theorem State.raiseFor_power (s : State) (code : Nat) (who : PlayerNo → Bool) : (s.raiseFor code who).power = s.power :=
  by unfold State.raiseFor; rfl
@[simp] theorem State.raiseFor_clock (s : State) (code : Nat) (who : PlayerNo → Bool) : (s.raiseFor code who).clock = s.clock :=
  by unfold State.raiseFor; rfl
@[simp] theorem State.raiseFor_pins (s : State) (code : Nat) (who : PlayerNo → Bool) : (s.raiseFor code who).pins = s.pins :=
  by unfold State.raiseFor; rfl
@[simp] theorem State.raiseFor_txn (s : State) (code : Nat) (who : PlayerNo → Bool) : (s.raiseFor code who).txn = s.txn :=
  by unfold State.raiseFor; rfl
@[simp] theorem State.raiseFor_chan (s : State) (code : Nat) (who : PlayerNo → Bool) : (s.raiseFor code who).chan = s.chan :=
  by unfold State.raiseFor; rfl
@[simp] theorem State.raiseFor_sense (s : State) (code : Nat) (who : PlayerNo → Bool) : (s.raiseFor code who).sense = s.sense :=
  by unfold State.raiseFor; rfl
@[simp] theorem State.raiseFor_mem (s : State) (code : Nat) (who : PlayerNo → Bool) : (s.raiseFor code who).mem = s.mem :=
  by unfold State.raiseFor; rfl
@[simp] theorem State.raiseFor_ledger (s : State) (code : Nat) (who : PlayerNo → Bool) : (s.raiseFor code who).ledger = s.ledger :=
  by unfold State.raiseFor; rfl
@[simp] theorem State.raiseFor_cal (s : State) (code : Nat) (who : PlayerNo → Bool) : (s.raiseFor code who).cal = s.cal :=
  by unfold State.raiseFor; rfl
@[simp] theorem State.raiseFor_chain (s : State) (code : Nat) (who : PlayerNo → Bool) : (s.raiseFor code who).chain = s.chain :=
  by unfold State.raiseFor; rfl
@[simp] theorem State.raiseFor_port (s : State) (code : Nat) (who : PlayerNo → Bool) : (s.raiseFor code who).port = s.port :=
  by unfold State.raiseFor; rfl
@[simp] theorem State.raiseFor_tel (s : State) (code : Nat) (who : PlayerNo → Bool) : (s.raiseFor code who).tel = s.tel :=
  by unfold State.raiseFor; rfl
@[simp] theorem State.raiseFor_tap (s : State) (code : Nat) (who : PlayerNo → Bool) : (s.raiseFor code who).tap = s.tap :=
  by unfold State.raiseFor; rfl
@[simp] theorem State.raiseFor_freeCount (s : State) (code : Nat) (who : PlayerNo → Bool) : (s.raiseFor code who).freeCount = s.freeCount :=
  by unfold State.raiseFor; rfl
@[simp] theorem State.raiseFor_pending (s : State) (code : Nat) (who : PlayerNo → Bool) : (s.raiseFor code who).pending = s.pending :=
  by unfold State.raiseFor; rfl

/-! ## setCaptures -/

@[simp] theorem State.setCaptures_power (s : State) (f : Fin 8 → Capture → Capture) : (s.setCaptures f).power = s.power := by
  simp only [State.setCaptures]
@[simp] theorem State.setCaptures_clock (s : State) (f : Fin 8 → Capture → Capture) : (s.setCaptures f).clock = s.clock := by
  simp only [State.setCaptures]
@[simp] theorem State.setCaptures_pins (s : State) (f : Fin 8 → Capture → Capture) : (s.setCaptures f).pins = s.pins := by
  simp only [State.setCaptures]
@[simp] theorem State.setCaptures_txn (s : State) (f : Fin 8 → Capture → Capture) : (s.setCaptures f).txn = s.txn := by
  simp only [State.setCaptures]
@[simp] theorem State.setCaptures_chan (s : State) (f : Fin 8 → Capture → Capture) : (s.setCaptures f).chan = s.chan := by
  simp only [State.setCaptures]
@[simp] theorem State.setCaptures_sense (s : State) (f : Fin 8 → Capture → Capture) : (s.setCaptures f).sense = s.sense := by
  simp only [State.setCaptures]
@[simp] theorem State.setCaptures_player (s : State) (f : Fin 8 → Capture → Capture) : (s.setCaptures f).player = s.player := by
  simp only [State.setCaptures]
@[simp] theorem State.setCaptures_ledger (s : State) (f : Fin 8 → Capture → Capture) : (s.setCaptures f).ledger = s.ledger := by
  simp only [State.setCaptures]
@[simp] theorem State.setCaptures_cal (s : State) (f : Fin 8 → Capture → Capture) : (s.setCaptures f).cal = s.cal := by
  simp only [State.setCaptures]
@[simp] theorem State.setCaptures_chain (s : State) (f : Fin 8 → Capture → Capture) : (s.setCaptures f).chain = s.chain := by
  simp only [State.setCaptures]
@[simp] theorem State.setCaptures_tel (s : State) (f : Fin 8 → Capture → Capture) : (s.setCaptures f).tel = s.tel := by
  simp only [State.setCaptures]
@[simp] theorem State.setCaptures_tap (s : State) (f : Fin 8 → Capture → Capture) : (s.setCaptures f).tap = s.tap := by
  simp only [State.setCaptures]
@[simp] theorem State.setCaptures_freeCount (s : State) (f : Fin 8 → Capture → Capture) : (s.setCaptures f).freeCount = s.freeCount := by
  simp only [State.setCaptures]
@[simp] theorem State.setCaptures_pending (s : State) (f : Fin 8 → Capture → Capture) : (s.setCaptures f).pending = s.pending := by
  simp only [State.setCaptures]

/-! ## fireCaptures -/

@[simp] theorem State.fireCaptures_power (s : State) (cond : CapStream → Bool) : (s.fireCaptures cond).power = s.power :=
  by unfold State.fireCaptures; split <;> simp only [State.setCaptures_power]
@[simp] theorem State.fireCaptures_clock (s : State) (cond : CapStream → Bool) : (s.fireCaptures cond).clock = s.clock :=
  by unfold State.fireCaptures; split <;> simp only [State.setCaptures_clock]
@[simp] theorem State.fireCaptures_pins (s : State) (cond : CapStream → Bool) : (s.fireCaptures cond).pins = s.pins :=
  by unfold State.fireCaptures; split <;> simp only [State.setCaptures_pins]
@[simp] theorem State.fireCaptures_txn (s : State) (cond : CapStream → Bool) : (s.fireCaptures cond).txn = s.txn :=
  by unfold State.fireCaptures; split <;> simp only [State.setCaptures_txn]
@[simp] theorem State.fireCaptures_chan (s : State) (cond : CapStream → Bool) : (s.fireCaptures cond).chan = s.chan :=
  by unfold State.fireCaptures; split <;> simp only [State.setCaptures_chan]
@[simp] theorem State.fireCaptures_sense (s : State) (cond : CapStream → Bool) : (s.fireCaptures cond).sense = s.sense :=
  by unfold State.fireCaptures; split <;> simp only [State.setCaptures_sense]
@[simp] theorem State.fireCaptures_player (s : State) (cond : CapStream → Bool) : (s.fireCaptures cond).player = s.player :=
  by unfold State.fireCaptures; split <;> simp only [State.setCaptures_player]
@[simp] theorem State.fireCaptures_ledger (s : State) (cond : CapStream → Bool) : (s.fireCaptures cond).ledger = s.ledger :=
  by unfold State.fireCaptures; split <;> simp only [State.setCaptures_ledger]
@[simp] theorem State.fireCaptures_cal (s : State) (cond : CapStream → Bool) : (s.fireCaptures cond).cal = s.cal :=
  by unfold State.fireCaptures; split <;> simp only [State.setCaptures_cal]
@[simp] theorem State.fireCaptures_chain (s : State) (cond : CapStream → Bool) : (s.fireCaptures cond).chain = s.chain :=
  by unfold State.fireCaptures; split <;> simp only [State.setCaptures_chain]
@[simp] theorem State.fireCaptures_tel (s : State) (cond : CapStream → Bool) : (s.fireCaptures cond).tel = s.tel :=
  by unfold State.fireCaptures; split <;> simp only [State.setCaptures_tel]
@[simp] theorem State.fireCaptures_tap (s : State) (cond : CapStream → Bool) : (s.fireCaptures cond).tap = s.tap :=
  by unfold State.fireCaptures; split <;> simp only [State.setCaptures_tap]
@[simp] theorem State.fireCaptures_freeCount (s : State) (cond : CapStream → Bool) : (s.fireCaptures cond).freeCount = s.freeCount :=
  by unfold State.fireCaptures; split <;> simp only [State.setCaptures_freeCount]
@[simp] theorem State.fireCaptures_pending (s : State) (cond : CapStream → Bool) : (s.fireCaptures cond).pending = s.pending :=
  by unfold State.fireCaptures; split <;> simp only [State.setCaptures_pending]

/-! ## raisePin -/

@[simp] theorem State.raisePin_power (s : State) (code : Nat) : (s.raisePin code).power = s.power :=
  by simp [State.raisePin]
@[simp] theorem State.raisePin_clock (s : State) (code : Nat) : (s.raisePin code).clock = s.clock :=
  by simp [State.raisePin]
@[simp] theorem State.raisePin_txn (s : State) (code : Nat) : (s.raisePin code).txn = s.txn := by simp [State.raisePin]
@[simp] theorem State.raisePin_chan (s : State) (code : Nat) : (s.raisePin code).chan = s.chan := by simp [State.raisePin]
@[simp] theorem State.raisePin_sense (s : State) (code : Nat) : (s.raisePin code).sense = s.sense :=
  by simp [State.raisePin]
@[simp] theorem State.raisePin_player (s : State) (code : Nat) : (s.raisePin code).player = s.player :=
  by simp [State.raisePin]
@[simp] theorem State.raisePin_ledger (s : State) (code : Nat) : (s.raisePin code).ledger = s.ledger :=
  by simp [State.raisePin]
@[simp] theorem State.raisePin_cal (s : State) (code : Nat) : (s.raisePin code).cal = s.cal := by simp [State.raisePin]
@[simp] theorem State.raisePin_chain (s : State) (code : Nat) : (s.raisePin code).chain = s.chain :=
  by simp [State.raisePin]
@[simp] theorem State.raisePin_tel (s : State) (code : Nat) : (s.raisePin code).tel = s.tel := by simp [State.raisePin]
@[simp] theorem State.raisePin_tap (s : State) (code : Nat) : (s.raisePin code).tap = s.tap := by simp [State.raisePin]
@[simp] theorem State.raisePin_freeCount (s : State) (code : Nat) : (s.raisePin code).freeCount = s.freeCount :=
  by simp [State.raisePin]
@[simp] theorem State.raisePin_pending (s : State) (code : Nat) : (s.raisePin code).pending = s.pending :=
  by simp [State.raisePin]

/-! ## abandonCal -/

@[simp] theorem State.abandonCal_power (s : State) (who : Chan → Bool) : (s.abandonCal who).power = s.power :=
  by unfold State.abandonCal; (repeat' split) <;> rfl
@[simp] theorem State.abandonCal_clock (s : State) (who : Chan → Bool) : (s.abandonCal who).clock = s.clock :=
  by unfold State.abandonCal; (repeat' split) <;> rfl
@[simp] theorem State.abandonCal_pins (s : State) (who : Chan → Bool) : (s.abandonCal who).pins = s.pins :=
  by unfold State.abandonCal; (repeat' split) <;> rfl
@[simp] theorem State.abandonCal_txn (s : State) (who : Chan → Bool) : (s.abandonCal who).txn = s.txn :=
  by unfold State.abandonCal; (repeat' split) <;> rfl
@[simp] theorem State.abandonCal_chan (s : State) (who : Chan → Bool) : (s.abandonCal who).chan = s.chan :=
  by unfold State.abandonCal; (repeat' split) <;> rfl
@[simp] theorem State.abandonCal_sense (s : State) (who : Chan → Bool) : (s.abandonCal who).sense = s.sense :=
  by unfold State.abandonCal; (repeat' split) <;> rfl
@[simp] theorem State.abandonCal_player (s : State) (who : Chan → Bool) : (s.abandonCal who).player = s.player :=
  by unfold State.abandonCal; (repeat' split) <;> rfl
@[simp] theorem State.abandonCal_mem (s : State) (who : Chan → Bool) : (s.abandonCal who).mem = s.mem :=
  by unfold State.abandonCal; (repeat' split) <;> rfl
@[simp] theorem State.abandonCal_ledger (s : State) (who : Chan → Bool) : (s.abandonCal who).ledger = s.ledger :=
  by unfold State.abandonCal; (repeat' split) <;> rfl
@[simp] theorem State.abandonCal_chain (s : State) (who : Chan → Bool) : (s.abandonCal who).chain = s.chain :=
  by unfold State.abandonCal; (repeat' split) <;> rfl
@[simp] theorem State.abandonCal_port (s : State) (who : Chan → Bool) : (s.abandonCal who).port = s.port :=
  by unfold State.abandonCal; (repeat' split) <;> rfl
@[simp] theorem State.abandonCal_tel (s : State) (who : Chan → Bool) : (s.abandonCal who).tel = s.tel :=
  by unfold State.abandonCal; (repeat' split) <;> rfl
@[simp] theorem State.abandonCal_tap (s : State) (who : Chan → Bool) : (s.abandonCal who).tap = s.tap :=
  by unfold State.abandonCal; (repeat' split) <;> rfl
@[simp] theorem State.abandonCal_freeCount (s : State) (who : Chan → Bool) : (s.abandonCal who).freeCount = s.freeCount :=
  by unfold State.abandonCal; (repeat' split) <;> rfl
@[simp] theorem State.abandonCal_pending (s : State) (who : Chan → Bool) : (s.abandonCal who).pending = s.pending :=
  by unfold State.abandonCal; (repeat' split) <;> rfl

/-! ## release -/

@[simp] theorem State.release_power (s : State) (who : Chan → Bool) : (s.release who).power = s.power :=
  by simp [State.release]
@[simp] theorem State.release_clock (s : State) (who : Chan → Bool) : (s.release who).clock = s.clock :=
  by simp [State.release]
@[simp] theorem State.release_pins (s : State) (who : Chan → Bool) : (s.release who).pins = s.pins :=
  by simp [State.release]
@[simp] theorem State.release_txn (s : State) (who : Chan → Bool) : (s.release who).txn = s.txn := by simp [State.release]
@[simp] theorem State.release_sense (s : State) (who : Chan → Bool) : (s.release who).sense = s.sense :=
  by simp [State.release]
@[simp] theorem State.release_player (s : State) (who : Chan → Bool) : (s.release who).player = s.player :=
  by simp [State.release]
@[simp] theorem State.release_mem (s : State) (who : Chan → Bool) : (s.release who).mem = s.mem := by simp [State.release]
@[simp] theorem State.release_ledger (s : State) (who : Chan → Bool) : (s.release who).ledger = s.ledger :=
  by simp [State.release]
@[simp] theorem State.release_chain (s : State) (who : Chan → Bool) : (s.release who).chain = s.chain :=
  by simp [State.release]
@[simp] theorem State.release_port (s : State) (who : Chan → Bool) : (s.release who).port = s.port :=
  by simp [State.release]
@[simp] theorem State.release_tel (s : State) (who : Chan → Bool) : (s.release who).tel = s.tel := by simp [State.release]
@[simp] theorem State.release_tap (s : State) (who : Chan → Bool) : (s.release who).tap = s.tap := by simp [State.release]
@[simp] theorem State.release_freeCount (s : State) (who : Chan → Bool) : (s.release who).freeCount = s.freeCount :=
  by simp [State.release]
@[simp] theorem State.release_pending (s : State) (who : Chan → Bool) : (s.release who).pending = s.pending :=
  by simp [State.release]

/-! ## retreat -/

@[simp] theorem State.retreat_power (s : State) (who : Chan → Bool) : (s.retreat who).power = s.power :=
  by simp [State.retreat]
@[simp] theorem State.retreat_clock (s : State) (who : Chan → Bool) : (s.retreat who).clock = s.clock :=
  by simp [State.retreat]
@[simp] theorem State.retreat_pins (s : State) (who : Chan → Bool) : (s.retreat who).pins = s.pins :=
  by simp [State.retreat]
@[simp] theorem State.retreat_txn (s : State) (who : Chan → Bool) : (s.retreat who).txn = s.txn := by simp [State.retreat]
@[simp] theorem State.retreat_sense (s : State) (who : Chan → Bool) : (s.retreat who).sense = s.sense :=
  by simp [State.retreat]
@[simp] theorem State.retreat_player (s : State) (who : Chan → Bool) : (s.retreat who).player = s.player :=
  by simp [State.retreat]
@[simp] theorem State.retreat_mem (s : State) (who : Chan → Bool) : (s.retreat who).mem = s.mem := by simp [State.retreat]
@[simp] theorem State.retreat_ledger (s : State) (who : Chan → Bool) : (s.retreat who).ledger = s.ledger :=
  by simp [State.retreat]
@[simp] theorem State.retreat_chain (s : State) (who : Chan → Bool) : (s.retreat who).chain = s.chain :=
  by simp [State.retreat]
@[simp] theorem State.retreat_port (s : State) (who : Chan → Bool) : (s.retreat who).port = s.port :=
  by simp [State.retreat]
@[simp] theorem State.retreat_tel (s : State) (who : Chan → Bool) : (s.retreat who).tel = s.tel := by simp [State.retreat]
@[simp] theorem State.retreat_tap (s : State) (who : Chan → Bool) : (s.retreat who).tap = s.tap := by simp [State.retreat]
@[simp] theorem State.retreat_freeCount (s : State) (who : Chan → Bool) : (s.retreat who).freeCount = s.freeCount :=
  by simp [State.retreat]
@[simp] theorem State.retreat_pending (s : State) (who : Chan → Bool) : (s.retreat who).pending = s.pending :=
  by simp [State.retreat]

/-! ## setResident -/

@[simp] theorem State.setResident_power (s : State) : (s.setResident).power = s.power := rfl
@[simp] theorem State.setResident_clock (s : State) : (s.setResident).clock = s.clock := rfl
@[simp] theorem State.setResident_pins (s : State) : (s.setResident).pins = s.pins := rfl
@[simp] theorem State.setResident_txn (s : State) : (s.setResident).txn = s.txn := rfl
@[simp] theorem State.setResident_chan (s : State) : (s.setResident).chan = s.chan := rfl
@[simp] theorem State.setResident_sense (s : State) : (s.setResident).sense = s.sense := rfl
@[simp] theorem State.setResident_player (s : State) : (s.setResident).player = s.player := rfl
@[simp] theorem State.setResident_ledger (s : State) : (s.setResident).ledger = s.ledger := rfl
@[simp] theorem State.setResident_cal (s : State) : (s.setResident).cal = s.cal := rfl
@[simp] theorem State.setResident_chain (s : State) : (s.setResident).chain = s.chain := rfl
@[simp] theorem State.setResident_port (s : State) : (s.setResident).port = s.port := rfl
@[simp] theorem State.setResident_tel (s : State) : (s.setResident).tel = s.tel := rfl
@[simp] theorem State.setResident_tap (s : State) : (s.setResident).tap = s.tap := rfl
@[simp] theorem State.setResident_freeCount (s : State) : (s.setResident).freeCount = s.freeCount := rfl
@[simp] theorem State.setResident_pending (s : State) : (s.setResident).pending = s.pending := rfl
@[simp] theorem State.setResident_cells (s : State) : (s.setResident).mem.cells = s.mem.cells := rfl

/-! ## closeTxn -/

@[simp] theorem State.closeTxn_power (s : State) : (s.closeTxn).power = s.power := rfl
@[simp] theorem State.closeTxn_clock (s : State) : (s.closeTxn).clock = s.clock := rfl
@[simp] theorem State.closeTxn_pins (s : State) : (s.closeTxn).pins = s.pins := rfl
@[simp] theorem State.closeTxn_chan (s : State) : (s.closeTxn).chan = s.chan := rfl
@[simp] theorem State.closeTxn_sense (s : State) : (s.closeTxn).sense = s.sense := rfl
@[simp] theorem State.closeTxn_player (s : State) : (s.closeTxn).player = s.player := rfl
@[simp] theorem State.closeTxn_cells (s : State) : (s.closeTxn).mem.cells = s.mem.cells :=
  rfl
@[simp] theorem State.closeTxn_ledger (s : State) : (s.closeTxn).ledger = s.ledger := rfl
@[simp] theorem State.closeTxn_cal (s : State) : (s.closeTxn).cal = s.cal := rfl
@[simp] theorem State.closeTxn_chain (s : State) : (s.closeTxn).chain = s.chain := rfl
@[simp] theorem State.closeTxn_port (s : State) : (s.closeTxn).port = s.port := rfl
@[simp] theorem State.closeTxn_tel (s : State) : (s.closeTxn).tel = s.tel := rfl
@[simp] theorem State.closeTxn_tap (s : State) : (s.closeTxn).tap = s.tap := rfl
@[simp] theorem State.closeTxn_freeCount (s : State) : (s.closeTxn).freeCount = s.freeCount := rfl
@[simp] theorem State.closeTxn_pending (s : State) : (s.closeTxn).pending = s.pending := rfl

/-! ## discard -/

@[simp] theorem State.discard_power (s : State) (code : Byte) (obj : Obj) : (s.discard code obj).power = s.power :=
  by unfold State.discard; split <;> simp
@[simp] theorem State.discard_clock (s : State) (code : Byte) (obj : Obj) : (s.discard code obj).clock = s.clock :=
  by unfold State.discard; split <;> simp
@[simp] theorem State.discard_pins (s : State) (code : Byte) (obj : Obj) : (s.discard code obj).pins = s.pins :=
  by unfold State.discard; split <;> simp
@[simp] theorem State.discard_chan (s : State) (code : Byte) (obj : Obj) : (s.discard code obj).chan = s.chan :=
  by unfold State.discard; split <;> simp
@[simp] theorem State.discard_sense (s : State) (code : Byte) (obj : Obj) : (s.discard code obj).sense = s.sense :=
  by unfold State.discard; split <;> simp
@[simp] theorem State.discard_player (s : State) (code : Byte) (obj : Obj) : (s.discard code obj).player = s.player :=
  by unfold State.discard; split <;> simp
@[simp] theorem State.discard_cells (s : State) (code : Byte) (obj : Obj) : (s.discard code obj).mem.cells = s.mem.cells :=
  by unfold State.discard; split <;> simp
@[simp] theorem State.discard_ledger (s : State) (code : Byte) (obj : Obj) : (s.discard code obj).ledger = s.ledger :=
  by unfold State.discard; split <;> simp
@[simp] theorem State.discard_cal (s : State) (code : Byte) (obj : Obj) : (s.discard code obj).cal = s.cal :=
  by unfold State.discard; split <;> simp
@[simp] theorem State.discard_chain (s : State) (code : Byte) (obj : Obj) : (s.discard code obj).chain = s.chain :=
  by unfold State.discard; split <;> simp
@[simp] theorem State.discard_tap (s : State) (code : Byte) (obj : Obj) : (s.discard code obj).tap = s.tap :=
  by unfold State.discard; split <;> simp
@[simp] theorem State.discard_freeCount (s : State) (code : Byte) (obj : Obj) : (s.discard code obj).freeCount = s.freeCount :=
  by unfold State.discard; split <;> simp
@[simp] theorem State.discard_pending (s : State) (code : Byte) (obj : Obj) : (s.discard code obj).pending = s.pending :=
  by unfold State.discard; split <;> simp

/-! ## holdVeto -/

@[simp] theorem State.holdVeto_power (s : State) (code : Byte) : (s.holdVeto code).power = s.power :=
  by unfold State.holdVeto; (repeat' split) <;> rfl
@[simp] theorem State.holdVeto_clock (s : State) (code : Byte) : (s.holdVeto code).clock = s.clock :=
  by unfold State.holdVeto; (repeat' split) <;> rfl
@[simp] theorem State.holdVeto_pins (s : State) (code : Byte) : (s.holdVeto code).pins = s.pins :=
  by unfold State.holdVeto; (repeat' split) <;> rfl
@[simp] theorem State.holdVeto_txn (s : State) (code : Byte) : (s.holdVeto code).txn = s.txn :=
  by unfold State.holdVeto; (repeat' split) <;> rfl
@[simp] theorem State.holdVeto_chan (s : State) (code : Byte) : (s.holdVeto code).chan = s.chan :=
  by unfold State.holdVeto; (repeat' split) <;> rfl
@[simp] theorem State.holdVeto_sense (s : State) (code : Byte) : (s.holdVeto code).sense = s.sense :=
  by unfold State.holdVeto; (repeat' split) <;> rfl
@[simp] theorem State.holdVeto_player (s : State) (code : Byte) : (s.holdVeto code).player = s.player :=
  by unfold State.holdVeto; (repeat' split) <;> rfl
@[simp] theorem State.holdVeto_mem (s : State) (code : Byte) : (s.holdVeto code).mem = s.mem :=
  by unfold State.holdVeto; (repeat' split) <;> rfl
@[simp] theorem State.holdVeto_ledger (s : State) (code : Byte) : (s.holdVeto code).ledger = s.ledger :=
  by unfold State.holdVeto; (repeat' split) <;> rfl
@[simp] theorem State.holdVeto_cal (s : State) (code : Byte) : (s.holdVeto code).cal = s.cal :=
  by unfold State.holdVeto; (repeat' split) <;> rfl
@[simp] theorem State.holdVeto_port (s : State) (code : Byte) : (s.holdVeto code).port = s.port :=
  by unfold State.holdVeto; (repeat' split) <;> rfl
@[simp] theorem State.holdVeto_tel (s : State) (code : Byte) : (s.holdVeto code).tel = s.tel :=
  by unfold State.holdVeto; (repeat' split) <;> rfl
@[simp] theorem State.holdVeto_tap (s : State) (code : Byte) : (s.holdVeto code).tap = s.tap :=
  by unfold State.holdVeto; (repeat' split) <;> rfl
@[simp] theorem State.holdVeto_freeCount (s : State) (code : Byte) : (s.holdVeto code).freeCount = s.freeCount :=
  by unfold State.holdVeto; (repeat' split) <;> rfl
@[simp] theorem State.holdVeto_pending (s : State) (code : Byte) : (s.holdVeto code).pending = s.pending :=
  by unfold State.holdVeto; (repeat' split) <;> rfl

/-! ## faultDiscards -/

@[simp] theorem State.faultDiscards_power (s : State) : (s.faultDiscards).power = s.power :=
  by unfold State.faultDiscards; split <;> simp
@[simp] theorem State.faultDiscards_clock (s : State) : (s.faultDiscards).clock = s.clock :=
  by unfold State.faultDiscards; split <;> simp
@[simp] theorem State.faultDiscards_pins (s : State) : (s.faultDiscards).pins = s.pins :=
  by unfold State.faultDiscards; split <;> simp
@[simp] theorem State.faultDiscards_chan (s : State) : (s.faultDiscards).chan = s.chan :=
  by unfold State.faultDiscards; split <;> simp
@[simp] theorem State.faultDiscards_sense (s : State) : (s.faultDiscards).sense = s.sense :=
  by unfold State.faultDiscards; split <;> simp
@[simp] theorem State.faultDiscards_player (s : State) : (s.faultDiscards).player = s.player :=
  by unfold State.faultDiscards; split <;> simp
@[simp] theorem State.faultDiscards_cells (s : State) : (s.faultDiscards).mem.cells = s.mem.cells :=
  by unfold State.faultDiscards; split <;> simp
@[simp] theorem State.faultDiscards_ledger (s : State) : (s.faultDiscards).ledger = s.ledger :=
  by unfold State.faultDiscards; split <;> simp
@[simp] theorem State.faultDiscards_cal (s : State) : (s.faultDiscards).cal = s.cal :=
  by unfold State.faultDiscards; split <;> simp
@[simp] theorem State.faultDiscards_tap (s : State) : (s.faultDiscards).tap = s.tap :=
  by unfold State.faultDiscards; split <;> simp
@[simp] theorem State.faultDiscards_freeCount (s : State) : (s.faultDiscards).freeCount = s.freeCount :=
  by unfold State.faultDiscards; split <;> simp
@[simp] theorem State.faultDiscards_pending (s : State) : (s.faultDiscards).pending = s.pending :=
  by unfold State.faultDiscards; split <;> simp

/-! ## endsProbation -/

@[simp] theorem State.endsProbation_power (s : State) (b : Nat) : (s.endsProbation b).power = s.power :=
  by unfold State.endsProbation; split <;> rfl
@[simp] theorem State.endsProbation_clock (s : State) (b : Nat) : (s.endsProbation b).clock = s.clock :=
  by unfold State.endsProbation; split <;> rfl
@[simp] theorem State.endsProbation_pins (s : State) (b : Nat) : (s.endsProbation b).pins = s.pins :=
  by unfold State.endsProbation; split <;> rfl
@[simp] theorem State.endsProbation_chan (s : State) (b : Nat) : (s.endsProbation b).chan = s.chan :=
  by unfold State.endsProbation; split <;> rfl
@[simp] theorem State.endsProbation_sense (s : State) (b : Nat) : (s.endsProbation b).sense = s.sense :=
  by unfold State.endsProbation; split <;> rfl
@[simp] theorem State.endsProbation_player (s : State) (b : Nat) : (s.endsProbation b).player = s.player :=
  by unfold State.endsProbation; split <;> rfl
@[simp] theorem State.endsProbation_mem (s : State) (b : Nat) : (s.endsProbation b).mem = s.mem :=
  by unfold State.endsProbation; split <;> rfl
@[simp] theorem State.endsProbation_ledger (s : State) (b : Nat) : (s.endsProbation b).ledger = s.ledger :=
  by unfold State.endsProbation; split <;> rfl
@[simp] theorem State.endsProbation_cal (s : State) (b : Nat) : (s.endsProbation b).cal = s.cal :=
  by unfold State.endsProbation; split <;> rfl
@[simp] theorem State.endsProbation_port (s : State) (b : Nat) : (s.endsProbation b).port = s.port :=
  by unfold State.endsProbation; split <;> rfl
@[simp] theorem State.endsProbation_tel (s : State) (b : Nat) : (s.endsProbation b).tel = s.tel :=
  by unfold State.endsProbation; split <;> rfl
@[simp] theorem State.endsProbation_tap (s : State) (b : Nat) : (s.endsProbation b).tap = s.tap :=
  by unfold State.endsProbation; split <;> rfl
@[simp] theorem State.endsProbation_freeCount (s : State) (b : Nat) : (s.endsProbation b).freeCount = s.freeCount :=
  by unfold State.endsProbation; split <;> rfl
@[simp] theorem State.endsProbation_pending (s : State) (b : Nat) : (s.endsProbation b).pending = s.pending :=
  by unfold State.endsProbation; split <;> rfl

/-! ## beginFault -/

@[simp] theorem State.beginFault_clock (s : State) (b : Nat) : (s.beginFault b).clock = s.clock :=
  by unfold State.beginFault; (repeat' split) <;> simp
@[simp] theorem State.beginFault_pins (s : State) (b : Nat) : (s.beginFault b).pins = s.pins :=
  by unfold State.beginFault; (repeat' split) <;> simp
@[simp] theorem State.beginFault_chan (s : State) (b : Nat) : (s.beginFault b).chan = s.chan :=
  by unfold State.beginFault; (repeat' split) <;> simp
@[simp] theorem State.beginFault_sense (s : State) (b : Nat) : (s.beginFault b).sense = s.sense :=
  by unfold State.beginFault; (repeat' split) <;> simp
@[simp] theorem State.beginFault_player (s : State) (b : Nat) : (s.beginFault b).player = s.player :=
  by unfold State.beginFault; (repeat' split) <;> simp
@[simp] theorem State.beginFault_cells (s : State) (b : Nat) : (s.beginFault b).mem.cells = s.mem.cells :=
  by unfold State.beginFault; (repeat' split) <;> simp
@[simp] theorem State.beginFault_ledger (s : State) (b : Nat) : (s.beginFault b).ledger = s.ledger :=
  by unfold State.beginFault; (repeat' split) <;> simp
@[simp] theorem State.beginFault_cal (s : State) (b : Nat) : (s.beginFault b).cal = s.cal :=
  by unfold State.beginFault; (repeat' split) <;> simp
@[simp] theorem State.beginFault_tap (s : State) (b : Nat) : (s.beginFault b).tap = s.tap :=
  by unfold State.beginFault; (repeat' split) <;> simp
@[simp] theorem State.beginFault_freeCount (s : State) (b : Nat) : (s.beginFault b).freeCount = s.freeCount :=
  by unfold State.beginFault; (repeat' split) <;> simp
@[simp] theorem State.beginFault_pending (s : State) (b : Nat) : (s.beginFault b).pending = s.pending :=
  by unfold State.beginFault; (repeat' split) <;> simp

/-! ## clearFault -/

@[simp] theorem State.clearFault_clock (s : State) (b : Nat) : (s.clearFault b).clock = s.clock :=
  by unfold State.clearFault; (repeat' split) <;> simp
@[simp] theorem State.clearFault_pins (s : State) (b : Nat) : (s.clearFault b).pins = s.pins :=
  by unfold State.clearFault; (repeat' split) <;> simp
@[simp] theorem State.clearFault_txn (s : State) (b : Nat) : (s.clearFault b).txn = s.txn :=
  by unfold State.clearFault; (repeat' split) <;> simp
@[simp] theorem State.clearFault_chan (s : State) (b : Nat) : (s.clearFault b).chan = s.chan :=
  by unfold State.clearFault; (repeat' split) <;> simp
@[simp] theorem State.clearFault_sense (s : State) (b : Nat) : (s.clearFault b).sense = s.sense :=
  by unfold State.clearFault; (repeat' split) <;> simp
@[simp] theorem State.clearFault_player (s : State) (b : Nat) : (s.clearFault b).player = s.player :=
  by unfold State.clearFault; (repeat' split) <;> simp
@[simp] theorem State.clearFault_mem (s : State) (b : Nat) : (s.clearFault b).mem = s.mem :=
  by unfold State.clearFault; (repeat' split) <;> simp
@[simp] theorem State.clearFault_ledger (s : State) (b : Nat) : (s.clearFault b).ledger = s.ledger :=
  by unfold State.clearFault; (repeat' split) <;> simp
@[simp] theorem State.clearFault_cal (s : State) (b : Nat) : (s.clearFault b).cal = s.cal :=
  by unfold State.clearFault; (repeat' split) <;> simp
@[simp] theorem State.clearFault_chain (s : State) (b : Nat) : (s.clearFault b).chain = s.chain :=
  by unfold State.clearFault; (repeat' split) <;> simp
@[simp] theorem State.clearFault_tap (s : State) (b : Nat) : (s.clearFault b).tap = s.tap :=
  by unfold State.clearFault; (repeat' split) <;> simp
@[simp] theorem State.clearFault_freeCount (s : State) (b : Nat) : (s.clearFault b).freeCount = s.freeCount :=
  by unfold State.clearFault; (repeat' split) <;> simp
@[simp] theorem State.clearFault_pending (s : State) (b : Nat) : (s.clearFault b).pending = s.pending :=
  by unfold State.clearFault; (repeat' split) <;> simp

/-! ## enterStage -/

@[simp] theorem State.enterStage_clock (s : State) (st : Stage) : (s.enterStage st).clock = s.clock := rfl
@[simp] theorem State.enterStage_txn (s : State) (st : Stage) : (s.enterStage st).txn = s.txn := rfl
@[simp] theorem State.enterStage_chan (s : State) (st : Stage) : (s.enterStage st).chan = s.chan := rfl
@[simp] theorem State.enterStage_sense (s : State) (st : Stage) : (s.enterStage st).sense = s.sense := rfl
@[simp] theorem State.enterStage_player (s : State) (st : Stage) : (s.enterStage st).player = s.player := rfl
@[simp] theorem State.enterStage_mem (s : State) (st : Stage) : (s.enterStage st).mem = s.mem := rfl
@[simp] theorem State.enterStage_ledger (s : State) (st : Stage) : (s.enterStage st).ledger = s.ledger := rfl
@[simp] theorem State.enterStage_cal (s : State) (st : Stage) : (s.enterStage st).cal = s.cal := rfl
@[simp] theorem State.enterStage_chain (s : State) (st : Stage) : (s.enterStage st).chain = s.chain := rfl
@[simp] theorem State.enterStage_port (s : State) (st : Stage) : (s.enterStage st).port = s.port := rfl
@[simp] theorem State.enterStage_tel (s : State) (st : Stage) : (s.enterStage st).tel = s.tel := rfl
@[simp] theorem State.enterStage_tap (s : State) (st : Stage) : (s.enterStage st).tap = s.tap := rfl
@[simp] theorem State.enterStage_freeCount (s : State) (st : Stage) : (s.enterStage st).freeCount = s.freeCount := rfl
@[simp] theorem State.enterStage_pending (s : State) (st : Stage) : (s.enterStage st).pending = s.pending := rfl

/-! ## failBringUp -/

@[simp] theorem State.failBringUp_clock (s : State) (cause : Byte) : (s.failBringUp cause).clock = s.clock :=
  by simp [State.failBringUp]
@[simp] theorem State.failBringUp_chan (s : State) (cause : Byte) : (s.failBringUp cause).chan = s.chan :=
  by simp [State.failBringUp]
@[simp] theorem State.failBringUp_sense (s : State) (cause : Byte) : (s.failBringUp cause).sense = s.sense :=
  by simp [State.failBringUp]
@[simp] theorem State.failBringUp_player (s : State) (cause : Byte) : (s.failBringUp cause).player = s.player :=
  by simp [State.failBringUp]
@[simp] theorem State.failBringUp_cells (s : State) (cause : Byte) : (s.failBringUp cause).mem.cells = s.mem.cells :=
  by simp [State.failBringUp]
@[simp] theorem State.failBringUp_ledger (s : State) (cause : Byte) : (s.failBringUp cause).ledger = s.ledger :=
  by simp [State.failBringUp]
@[simp] theorem State.failBringUp_cal (s : State) (cause : Byte) : (s.failBringUp cause).cal = s.cal :=
  by simp [State.failBringUp]
@[simp] theorem State.failBringUp_tap (s : State) (cause : Byte) : (s.failBringUp cause).tap = s.tap :=
  by simp [State.failBringUp]
@[simp] theorem State.failBringUp_freeCount (s : State) (cause : Byte) : (s.failBringUp cause).freeCount = s.freeCount :=
  by simp [State.failBringUp]
@[simp] theorem State.failBringUp_pending (s : State) (cause : Byte) : (s.failBringUp cause).pending = s.pending :=
  by simp [State.failBringUp]

/-! ## completeBringUp -/

@[simp] theorem State.completeBringUp_clock (s : State) : (s.completeBringUp).clock = s.clock := rfl
@[simp] theorem State.completeBringUp_txn (s : State) : (s.completeBringUp).txn = s.txn := rfl
@[simp] theorem State.completeBringUp_chan (s : State) : (s.completeBringUp).chan = s.chan := rfl
@[simp] theorem State.completeBringUp_sense (s : State) : (s.completeBringUp).sense = s.sense := rfl
@[simp] theorem State.completeBringUp_player (s : State) : (s.completeBringUp).player = s.player := rfl
@[simp] theorem State.completeBringUp_mem (s : State) : (s.completeBringUp).mem = s.mem := rfl
@[simp] theorem State.completeBringUp_ledger (s : State) : (s.completeBringUp).ledger = s.ledger := rfl
@[simp] theorem State.completeBringUp_cal (s : State) : (s.completeBringUp).cal = s.cal := rfl
@[simp] theorem State.completeBringUp_chain (s : State) : (s.completeBringUp).chain = s.chain := rfl
@[simp] theorem State.completeBringUp_port (s : State) : (s.completeBringUp).port = s.port := rfl
@[simp] theorem State.completeBringUp_tel (s : State) : (s.completeBringUp).tel = s.tel := rfl
@[simp] theorem State.completeBringUp_tap (s : State) : (s.completeBringUp).tap = s.tap := rfl
@[simp] theorem State.completeBringUp_freeCount (s : State) : (s.completeBringUp).freeCount = s.freeCount := rfl
@[simp] theorem State.completeBringUp_pending (s : State) : (s.completeBringUp).pending = s.pending := rfl

/-! ## enterTrimWait -/

@[simp] theorem State.enterTrimWait_clock (s : State) : (s.enterTrimWait).clock = s.clock :=
  by unfold State.enterTrimWait; split <;> rfl
@[simp] theorem State.enterTrimWait_txn (s : State) : (s.enterTrimWait).txn = s.txn :=
  by unfold State.enterTrimWait; split <;> rfl
@[simp] theorem State.enterTrimWait_chan (s : State) : (s.enterTrimWait).chan = s.chan :=
  by unfold State.enterTrimWait; split <;> rfl
@[simp] theorem State.enterTrimWait_sense (s : State) : (s.enterTrimWait).sense = s.sense :=
  by unfold State.enterTrimWait; split <;> rfl
@[simp] theorem State.enterTrimWait_player (s : State) : (s.enterTrimWait).player = s.player :=
  by unfold State.enterTrimWait; split <;> rfl
@[simp] theorem State.enterTrimWait_mem (s : State) : (s.enterTrimWait).mem = s.mem :=
  by unfold State.enterTrimWait; split <;> rfl
@[simp] theorem State.enterTrimWait_ledger (s : State) : (s.enterTrimWait).ledger = s.ledger :=
  by unfold State.enterTrimWait; split <;> rfl
@[simp] theorem State.enterTrimWait_cal (s : State) : (s.enterTrimWait).cal = s.cal :=
  by unfold State.enterTrimWait; split <;> rfl
@[simp] theorem State.enterTrimWait_chain (s : State) : (s.enterTrimWait).chain = s.chain :=
  by unfold State.enterTrimWait; split <;> rfl
@[simp] theorem State.enterTrimWait_port (s : State) : (s.enterTrimWait).port = s.port :=
  by unfold State.enterTrimWait; split <;> rfl
@[simp] theorem State.enterTrimWait_tel (s : State) : (s.enterTrimWait).tel = s.tel :=
  by unfold State.enterTrimWait; split <;> rfl
@[simp] theorem State.enterTrimWait_tap (s : State) : (s.enterTrimWait).tap = s.tap :=
  by unfold State.enterTrimWait; split <;> rfl
@[simp] theorem State.enterTrimWait_freeCount (s : State) : (s.enterTrimWait).freeCount = s.freeCount :=
  by unfold State.enterTrimWait; split <;> rfl
@[simp] theorem State.enterTrimWait_pending (s : State) : (s.enterTrimWait).pending = s.pending :=
  by unfold State.enterTrimWait; split <;> rfl

/-! ## setGood -/

@[simp] theorem State.setGood_clock (s : State) (d : Domain) (good : Bool) : (s.setGood d good).clock = s.clock := rfl
@[simp] theorem State.setGood_pins (s : State) (d : Domain) (good : Bool) : (s.setGood d good).pins = s.pins := rfl
@[simp] theorem State.setGood_txn (s : State) (d : Domain) (good : Bool) : (s.setGood d good).txn = s.txn := rfl
@[simp] theorem State.setGood_chan (s : State) (d : Domain) (good : Bool) : (s.setGood d good).chan = s.chan := rfl
@[simp] theorem State.setGood_sense (s : State) (d : Domain) (good : Bool) : (s.setGood d good).sense = s.sense := rfl
@[simp] theorem State.setGood_player (s : State) (d : Domain) (good : Bool) : (s.setGood d good).player = s.player := rfl
@[simp] theorem State.setGood_mem (s : State) (d : Domain) (good : Bool) : (s.setGood d good).mem = s.mem := rfl
@[simp] theorem State.setGood_ledger (s : State) (d : Domain) (good : Bool) : (s.setGood d good).ledger = s.ledger := rfl
@[simp] theorem State.setGood_cal (s : State) (d : Domain) (good : Bool) : (s.setGood d good).cal = s.cal := rfl
@[simp] theorem State.setGood_chain (s : State) (d : Domain) (good : Bool) : (s.setGood d good).chain = s.chain := rfl
@[simp] theorem State.setGood_port (s : State) (d : Domain) (good : Bool) : (s.setGood d good).port = s.port := rfl
@[simp] theorem State.setGood_tel (s : State) (d : Domain) (good : Bool) : (s.setGood d good).tel = s.tel := rfl
@[simp] theorem State.setGood_tap (s : State) (d : Domain) (good : Bool) : (s.setGood d good).tap = s.tap := rfl
@[simp] theorem State.setGood_freeCount (s : State) (d : Domain) (good : Bool) : (s.setGood d good).freeCount = s.freeCount :=
  rfl
@[simp] theorem State.setGood_pending (s : State) (d : Domain) (good : Bool) : (s.setGood d good).pending = s.pending :=
  rfl

/-! ## onPlayer -/

@[simp] theorem State.onPlayer_power (s : State) (p : PlayerNo) (f : Player → Player) : (s.onPlayer p f).power = s.power :=
  rfl
@[simp] theorem State.onPlayer_clock (s : State) (p : PlayerNo) (f : Player → Player) : (s.onPlayer p f).clock = s.clock :=
  rfl
@[simp] theorem State.onPlayer_pins (s : State) (p : PlayerNo) (f : Player → Player) : (s.onPlayer p f).pins = s.pins :=
  rfl
@[simp] theorem State.onPlayer_txn (s : State) (p : PlayerNo) (f : Player → Player) : (s.onPlayer p f).txn = s.txn := rfl
@[simp] theorem State.onPlayer_chan (s : State) (p : PlayerNo) (f : Player → Player) : (s.onPlayer p f).chan = s.chan :=
  rfl
@[simp] theorem State.onPlayer_sense (s : State) (p : PlayerNo) (f : Player → Player) : (s.onPlayer p f).sense = s.sense :=
  rfl
@[simp] theorem State.onPlayer_mem (s : State) (p : PlayerNo) (f : Player → Player) : (s.onPlayer p f).mem = s.mem := rfl
@[simp] theorem State.onPlayer_ledger (s : State) (p : PlayerNo) (f : Player → Player) : (s.onPlayer p f).ledger = s.ledger :=
  rfl
@[simp] theorem State.onPlayer_cal (s : State) (p : PlayerNo) (f : Player → Player) : (s.onPlayer p f).cal = s.cal := rfl
@[simp] theorem State.onPlayer_chain (s : State) (p : PlayerNo) (f : Player → Player) : (s.onPlayer p f).chain = s.chain :=
  rfl
@[simp] theorem State.onPlayer_port (s : State) (p : PlayerNo) (f : Player → Player) : (s.onPlayer p f).port = s.port :=
  rfl
@[simp] theorem State.onPlayer_tel (s : State) (p : PlayerNo) (f : Player → Player) : (s.onPlayer p f).tel = s.tel := rfl
@[simp] theorem State.onPlayer_tap (s : State) (p : PlayerNo) (f : Player → Player) : (s.onPlayer p f).tap = s.tap := rfl
@[simp] theorem State.onPlayer_freeCount (s : State) (p : PlayerNo) (f : Player → Player) : (s.onPlayer p f).freeCount = s.freeCount :=
  rfl
@[simp] theorem State.onPlayer_pending (s : State) (p : PlayerNo) (f : Player → Player) : (s.onPlayer p f).pending = s.pending :=
  rfl

/-! ## sendPause -/

@[simp] theorem State.sendPause_power (s : State) (time : BitVec 16) : (s.sendPause time).power = s.power :=
  by unfold State.sendPause; split <;> rfl
@[simp] theorem State.sendPause_clock (s : State) (time : BitVec 16) : (s.sendPause time).clock = s.clock :=
  by unfold State.sendPause; split <;> rfl
@[simp] theorem State.sendPause_pins (s : State) (time : BitVec 16) : (s.sendPause time).pins = s.pins :=
  by unfold State.sendPause; split <;> rfl
@[simp] theorem State.sendPause_txn (s : State) (time : BitVec 16) : (s.sendPause time).txn = s.txn :=
  by unfold State.sendPause; split <;> rfl
@[simp] theorem State.sendPause_chan (s : State) (time : BitVec 16) : (s.sendPause time).chan = s.chan :=
  by unfold State.sendPause; split <;> rfl
@[simp] theorem State.sendPause_sense (s : State) (time : BitVec 16) : (s.sendPause time).sense = s.sense :=
  by unfold State.sendPause; split <;> rfl
@[simp] theorem State.sendPause_player (s : State) (time : BitVec 16) : (s.sendPause time).player = s.player :=
  by unfold State.sendPause; split <;> rfl
@[simp] theorem State.sendPause_mem (s : State) (time : BitVec 16) : (s.sendPause time).mem = s.mem :=
  by unfold State.sendPause; split <;> rfl
@[simp] theorem State.sendPause_ledger (s : State) (time : BitVec 16) : (s.sendPause time).ledger = s.ledger :=
  by unfold State.sendPause; split <;> rfl
@[simp] theorem State.sendPause_cal (s : State) (time : BitVec 16) : (s.sendPause time).cal = s.cal :=
  by unfold State.sendPause; split <;> rfl
@[simp] theorem State.sendPause_chain (s : State) (time : BitVec 16) : (s.sendPause time).chain = s.chain :=
  by unfold State.sendPause; split <;> rfl
@[simp] theorem State.sendPause_tel (s : State) (time : BitVec 16) : (s.sendPause time).tel = s.tel :=
  by unfold State.sendPause; split <;> rfl
@[simp] theorem State.sendPause_tap (s : State) (time : BitVec 16) : (s.sendPause time).tap = s.tap :=
  by unfold State.sendPause; split <;> rfl
@[simp] theorem State.sendPause_freeCount (s : State) (time : BitVec 16) : (s.sendPause time).freeCount = s.freeCount :=
  by unfold State.sendPause; split <;> rfl
@[simp] theorem State.sendPause_pending (s : State) (time : BitVec 16) : (s.sendPause time).pending = s.pending :=
  by unfold State.sendPause; split <;> rfl

/-! ## settlePause -/

@[simp] theorem State.settlePause_power (s : State) : (s.settlePause).power = s.power :=
  by unfold State.settlePause; dsimp only; (repeat' split) <;> simp
@[simp] theorem State.settlePause_clock (s : State) : (s.settlePause).clock = s.clock :=
  by unfold State.settlePause; dsimp only; (repeat' split) <;> simp
@[simp] theorem State.settlePause_pins (s : State) : (s.settlePause).pins = s.pins :=
  by unfold State.settlePause; dsimp only; (repeat' split) <;> simp
@[simp] theorem State.settlePause_txn (s : State) : (s.settlePause).txn = s.txn :=
  by unfold State.settlePause; dsimp only; (repeat' split) <;> simp
@[simp] theorem State.settlePause_chan (s : State) : (s.settlePause).chan = s.chan :=
  by unfold State.settlePause; dsimp only; (repeat' split) <;> simp
@[simp] theorem State.settlePause_sense (s : State) : (s.settlePause).sense = s.sense :=
  by unfold State.settlePause; dsimp only; (repeat' split) <;> simp
@[simp] theorem State.settlePause_player (s : State) : (s.settlePause).player = s.player :=
  by unfold State.settlePause; dsimp only; (repeat' split) <;> simp
@[simp] theorem State.settlePause_mem (s : State) : (s.settlePause).mem = s.mem :=
  by unfold State.settlePause; dsimp only; (repeat' split) <;> simp
@[simp] theorem State.settlePause_ledger (s : State) : (s.settlePause).ledger = s.ledger :=
  by unfold State.settlePause; dsimp only; (repeat' split) <;> simp
@[simp] theorem State.settlePause_cal (s : State) : (s.settlePause).cal = s.cal :=
  by unfold State.settlePause; dsimp only; (repeat' split) <;> simp
@[simp] theorem State.settlePause_chain (s : State) : (s.settlePause).chain = s.chain :=
  by unfold State.settlePause; dsimp only; (repeat' split) <;> simp
@[simp] theorem State.settlePause_tel (s : State) : (s.settlePause).tel = s.tel :=
  by unfold State.settlePause; dsimp only; (repeat' split) <;> simp
@[simp] theorem State.settlePause_tap (s : State) : (s.settlePause).tap = s.tap :=
  by unfold State.settlePause; dsimp only; (repeat' split) <;> simp
@[simp] theorem State.settlePause_freeCount (s : State) : (s.settlePause).freeCount = s.freeCount :=
  by unfold State.settlePause; dsimp only; (repeat' split) <;> simp
@[simp] theorem State.settlePause_pending (s : State) : (s.settlePause).pending = s.pending :=
  by unfold State.settlePause; dsimp only; (repeat' split) <;> simp

/-! ## discardPartial -/

@[simp] theorem State.discardPartial_power (s : State) (sub : Byte) : (s.discardPartial sub).power = s.power :=
  by unfold State.discardPartial; split <;> simp
@[simp] theorem State.discardPartial_clock (s : State) (sub : Byte) : (s.discardPartial sub).clock = s.clock :=
  by unfold State.discardPartial; split <;> simp
@[simp] theorem State.discardPartial_pins (s : State) (sub : Byte) : (s.discardPartial sub).pins = s.pins :=
  by unfold State.discardPartial; split <;> simp
@[simp] theorem State.discardPartial_txn (s : State) (sub : Byte) : (s.discardPartial sub).txn = s.txn :=
  by unfold State.discardPartial; split <;> simp
@[simp] theorem State.discardPartial_chan (s : State) (sub : Byte) : (s.discardPartial sub).chan = s.chan :=
  by unfold State.discardPartial; split <;> simp
@[simp] theorem State.discardPartial_sense (s : State) (sub : Byte) : (s.discardPartial sub).sense = s.sense :=
  by unfold State.discardPartial; split <;> simp
@[simp] theorem State.discardPartial_player (s : State) (sub : Byte) : (s.discardPartial sub).player = s.player :=
  by unfold State.discardPartial; split <;> simp
@[simp] theorem State.discardPartial_mem (s : State) (sub : Byte) : (s.discardPartial sub).mem = s.mem :=
  by unfold State.discardPartial; split <;> simp
@[simp] theorem State.discardPartial_ledger (s : State) (sub : Byte) : (s.discardPartial sub).ledger = s.ledger :=
  by unfold State.discardPartial; split <;> simp
@[simp] theorem State.discardPartial_cal (s : State) (sub : Byte) : (s.discardPartial sub).cal = s.cal :=
  by unfold State.discardPartial; split <;> simp
@[simp] theorem State.discardPartial_chain (s : State) (sub : Byte) : (s.discardPartial sub).chain = s.chain :=
  by unfold State.discardPartial; split <;> simp
@[simp] theorem State.discardPartial_tap (s : State) (sub : Byte) : (s.discardPartial sub).tap = s.tap :=
  by unfold State.discardPartial; split <;> simp
@[simp] theorem State.discardPartial_freeCount (s : State) (sub : Byte) : (s.discardPartial sub).freeCount = s.freeCount :=
  by unfold State.discardPartial; split <;> simp
@[simp] theorem State.discardPartial_pending (s : State) (sub : Byte) : (s.discardPartial sub).pending = s.pending :=
  by unfold State.discardPartial; split <;> simp

/-! ## awaitSor -/

@[simp] theorem State.awaitSor_power (s : State) : (s.awaitSor).power = s.power := rfl
@[simp] theorem State.awaitSor_clock (s : State) : (s.awaitSor).clock = s.clock := rfl
@[simp] theorem State.awaitSor_pins (s : State) : (s.awaitSor).pins = s.pins := rfl
@[simp] theorem State.awaitSor_txn (s : State) : (s.awaitSor).txn = s.txn := rfl
@[simp] theorem State.awaitSor_chan (s : State) : (s.awaitSor).chan = s.chan := rfl
@[simp] theorem State.awaitSor_sense (s : State) : (s.awaitSor).sense = s.sense := rfl
@[simp] theorem State.awaitSor_player (s : State) : (s.awaitSor).player = s.player := rfl
@[simp] theorem State.awaitSor_mem (s : State) : (s.awaitSor).mem = s.mem := rfl
@[simp] theorem State.awaitSor_ledger (s : State) : (s.awaitSor).ledger = s.ledger := rfl
@[simp] theorem State.awaitSor_cal (s : State) : (s.awaitSor).cal = s.cal := rfl
@[simp] theorem State.awaitSor_chain (s : State) : (s.awaitSor).chain = s.chain := rfl
@[simp] theorem State.awaitSor_tel (s : State) : (s.awaitSor).tel = s.tel := rfl
@[simp] theorem State.awaitSor_tap (s : State) : (s.awaitSor).tap = s.tap := rfl
@[simp] theorem State.awaitSor_freeCount (s : State) : (s.awaitSor).freeCount = s.freeCount := rfl
@[simp] theorem State.awaitSor_pending (s : State) : (s.awaitSor).pending = s.pending := rfl

/-! ## dropPartial -/

@[simp] theorem State.dropPartial_power (s : State) (sub : Byte) : (s.dropPartial sub).power = s.power :=
  by unfold State.dropPartial; simp
@[simp] theorem State.dropPartial_clock (s : State) (sub : Byte) : (s.dropPartial sub).clock = s.clock :=
  by unfold State.dropPartial; simp
@[simp] theorem State.dropPartial_pins (s : State) (sub : Byte) : (s.dropPartial sub).pins = s.pins :=
  by unfold State.dropPartial; simp
@[simp] theorem State.dropPartial_txn (s : State) (sub : Byte) : (s.dropPartial sub).txn = s.txn :=
  by unfold State.dropPartial; simp
@[simp] theorem State.dropPartial_chan (s : State) (sub : Byte) : (s.dropPartial sub).chan = s.chan :=
  by unfold State.dropPartial; simp
@[simp] theorem State.dropPartial_sense (s : State) (sub : Byte) : (s.dropPartial sub).sense = s.sense :=
  by unfold State.dropPartial; simp
@[simp] theorem State.dropPartial_player (s : State) (sub : Byte) : (s.dropPartial sub).player = s.player :=
  by unfold State.dropPartial; simp
@[simp] theorem State.dropPartial_mem (s : State) (sub : Byte) : (s.dropPartial sub).mem = s.mem :=
  by unfold State.dropPartial; simp
@[simp] theorem State.dropPartial_ledger (s : State) (sub : Byte) : (s.dropPartial sub).ledger = s.ledger :=
  by unfold State.dropPartial; simp
@[simp] theorem State.dropPartial_cal (s : State) (sub : Byte) : (s.dropPartial sub).cal = s.cal :=
  by unfold State.dropPartial; simp
@[simp] theorem State.dropPartial_chain (s : State) (sub : Byte) : (s.dropPartial sub).chain = s.chain :=
  by unfold State.dropPartial; simp
@[simp] theorem State.dropPartial_tap (s : State) (sub : Byte) : (s.dropPartial sub).tap = s.tap :=
  by unfold State.dropPartial; simp
@[simp] theorem State.dropPartial_freeCount (s : State) (sub : Byte) : (s.dropPartial sub).freeCount = s.freeCount :=
  by unfold State.dropPartial; simp
@[simp] theorem State.dropPartial_pending (s : State) (sub : Byte) : (s.dropPartial sub).pending = s.pending :=
  by unfold State.dropPartial; simp

/-! ## linkLost -/

@[simp] theorem State.linkLost_power (s : State) : (s.linkLost).power = s.power :=
  by unfold State.linkLost; split <;> simp
@[simp] theorem State.linkLost_clock (s : State) : (s.linkLost).clock = s.clock :=
  by unfold State.linkLost; split <;> simp
@[simp] theorem State.linkLost_pins (s : State) : (s.linkLost).pins = s.pins := by unfold State.linkLost; split <;> simp
@[simp] theorem State.linkLost_txn (s : State) : (s.linkLost).txn = s.txn := by unfold State.linkLost; split <;> simp
@[simp] theorem State.linkLost_chan (s : State) : (s.linkLost).chan = s.chan := by unfold State.linkLost; split <;> simp
@[simp] theorem State.linkLost_sense (s : State) : (s.linkLost).sense = s.sense :=
  by unfold State.linkLost; split <;> simp
@[simp] theorem State.linkLost_player (s : State) : (s.linkLost).player = s.player :=
  by unfold State.linkLost; split <;> simp
@[simp] theorem State.linkLost_mem (s : State) : (s.linkLost).mem = s.mem := by unfold State.linkLost; split <;> simp
@[simp] theorem State.linkLost_ledger (s : State) : (s.linkLost).ledger = s.ledger :=
  by unfold State.linkLost; split <;> simp
@[simp] theorem State.linkLost_cal (s : State) : (s.linkLost).cal = s.cal := by unfold State.linkLost; split <;> simp
@[simp] theorem State.linkLost_chain (s : State) : (s.linkLost).chain = s.chain :=
  by unfold State.linkLost; split <;> simp
@[simp] theorem State.linkLost_tap (s : State) : (s.linkLost).tap = s.tap := by unfold State.linkLost; split <;> simp
@[simp] theorem State.linkLost_freeCount (s : State) : (s.linkLost).freeCount = s.freeCount :=
  by unfold State.linkLost; split <;> simp
@[simp] theorem State.linkLost_pending (s : State) : (s.linkLost).pending = s.pending :=
  by unfold State.linkLost; split <;> simp

/-! ## pulse -/

@[simp] theorem State.pulse_power (s : State) (p : PlayerNo) : (s.pulse p).power = s.power :=
  by unfold State.pulse; dsimp only; split <;> rfl
@[simp] theorem State.pulse_clock (s : State) (p : PlayerNo) : (s.pulse p).clock = s.clock :=
  by unfold State.pulse; dsimp only; split <;> rfl
@[simp] theorem State.pulse_txn (s : State) (p : PlayerNo) : (s.pulse p).txn = s.txn :=
  by unfold State.pulse; dsimp only; split <;> rfl
@[simp] theorem State.pulse_chan (s : State) (p : PlayerNo) : (s.pulse p).chan = s.chan :=
  by unfold State.pulse; dsimp only; split <;> rfl
@[simp] theorem State.pulse_sense (s : State) (p : PlayerNo) : (s.pulse p).sense = s.sense :=
  by unfold State.pulse; dsimp only; split <;> rfl
@[simp] theorem State.pulse_player (s : State) (p : PlayerNo) : (s.pulse p).player = s.player :=
  by unfold State.pulse; dsimp only; split <;> rfl
@[simp] theorem State.pulse_mem (s : State) (p : PlayerNo) : (s.pulse p).mem = s.mem :=
  by unfold State.pulse; dsimp only; split <;> rfl
@[simp] theorem State.pulse_ledger (s : State) (p : PlayerNo) : (s.pulse p).ledger = s.ledger :=
  by unfold State.pulse; dsimp only; split <;> rfl
@[simp] theorem State.pulse_cal (s : State) (p : PlayerNo) : (s.pulse p).cal = s.cal :=
  by unfold State.pulse; dsimp only; split <;> rfl
@[simp] theorem State.pulse_chain (s : State) (p : PlayerNo) : (s.pulse p).chain = s.chain :=
  by unfold State.pulse; dsimp only; split <;> rfl
@[simp] theorem State.pulse_port (s : State) (p : PlayerNo) : (s.pulse p).port = s.port :=
  by unfold State.pulse; dsimp only; split <;> rfl
@[simp] theorem State.pulse_tel (s : State) (p : PlayerNo) : (s.pulse p).tel = s.tel :=
  by unfold State.pulse; dsimp only; split <;> rfl
@[simp] theorem State.pulse_tap (s : State) (p : PlayerNo) : (s.pulse p).tap = s.tap :=
  by unfold State.pulse; dsimp only; split <;> rfl
@[simp] theorem State.pulse_freeCount (s : State) (p : PlayerNo) : (s.pulse p).freeCount = s.freeCount :=
  by unfold State.pulse; dsimp only; split <;> rfl
@[simp] theorem State.pulse_pending (s : State) (p : PlayerNo) : (s.pulse p).pending = s.pending :=
  by unfold State.pulse; dsimp only; split <;> rfl

/-! ## setLevel -/

@[simp] theorem State.setLevel_power (s : State) (p : PlayerNo) (v : Bool) : (s.setLevel p v).power = s.power :=
  by unfold State.setLevel; split <;> rfl
@[simp] theorem State.setLevel_clock (s : State) (p : PlayerNo) (v : Bool) : (s.setLevel p v).clock = s.clock :=
  by unfold State.setLevel; split <;> rfl
@[simp] theorem State.setLevel_txn (s : State) (p : PlayerNo) (v : Bool) : (s.setLevel p v).txn = s.txn :=
  by unfold State.setLevel; split <;> rfl
@[simp] theorem State.setLevel_chan (s : State) (p : PlayerNo) (v : Bool) : (s.setLevel p v).chan = s.chan :=
  by unfold State.setLevel; split <;> rfl
@[simp] theorem State.setLevel_sense (s : State) (p : PlayerNo) (v : Bool) : (s.setLevel p v).sense = s.sense :=
  by unfold State.setLevel; split <;> rfl
@[simp] theorem State.setLevel_player (s : State) (p : PlayerNo) (v : Bool) : (s.setLevel p v).player = s.player :=
  by unfold State.setLevel; split <;> rfl
@[simp] theorem State.setLevel_mem (s : State) (p : PlayerNo) (v : Bool) : (s.setLevel p v).mem = s.mem :=
  by unfold State.setLevel; split <;> rfl
@[simp] theorem State.setLevel_ledger (s : State) (p : PlayerNo) (v : Bool) : (s.setLevel p v).ledger = s.ledger :=
  by unfold State.setLevel; split <;> rfl
@[simp] theorem State.setLevel_cal (s : State) (p : PlayerNo) (v : Bool) : (s.setLevel p v).cal = s.cal :=
  by unfold State.setLevel; split <;> rfl
@[simp] theorem State.setLevel_chain (s : State) (p : PlayerNo) (v : Bool) : (s.setLevel p v).chain = s.chain :=
  by unfold State.setLevel; split <;> rfl
@[simp] theorem State.setLevel_port (s : State) (p : PlayerNo) (v : Bool) : (s.setLevel p v).port = s.port :=
  by unfold State.setLevel; split <;> rfl
@[simp] theorem State.setLevel_tel (s : State) (p : PlayerNo) (v : Bool) : (s.setLevel p v).tel = s.tel :=
  by unfold State.setLevel; split <;> rfl
@[simp] theorem State.setLevel_tap (s : State) (p : PlayerNo) (v : Bool) : (s.setLevel p v).tap = s.tap :=
  by unfold State.setLevel; split <;> rfl
@[simp] theorem State.setLevel_freeCount (s : State) (p : PlayerNo) (v : Bool) : (s.setLevel p v).freeCount = s.freeCount :=
  by unfold State.setLevel; split <;> rfl
@[simp] theorem State.setLevel_pending (s : State) (p : PlayerNo) (v : Bool) : (s.setLevel p v).pending = s.pending :=
  by unfold State.setLevel; split <;> rfl

/-! ## marker -/

@[simp] theorem State.marker_power (s : State) (p : PlayerNo) (act : BitVec 2) : (s.marker p act).power = s.power :=
  by unfold State.marker; (repeat' split) <;> simp
@[simp] theorem State.marker_clock (s : State) (p : PlayerNo) (act : BitVec 2) : (s.marker p act).clock = s.clock :=
  by unfold State.marker; (repeat' split) <;> simp
@[simp] theorem State.marker_txn (s : State) (p : PlayerNo) (act : BitVec 2) : (s.marker p act).txn = s.txn :=
  by unfold State.marker; (repeat' split) <;> simp
@[simp] theorem State.marker_chan (s : State) (p : PlayerNo) (act : BitVec 2) : (s.marker p act).chan = s.chan :=
  by unfold State.marker; (repeat' split) <;> simp
@[simp] theorem State.marker_sense (s : State) (p : PlayerNo) (act : BitVec 2) : (s.marker p act).sense = s.sense :=
  by unfold State.marker; (repeat' split) <;> simp
@[simp] theorem State.marker_player (s : State) (p : PlayerNo) (act : BitVec 2) : (s.marker p act).player = s.player :=
  by unfold State.marker; (repeat' split) <;> simp
@[simp] theorem State.marker_mem (s : State) (p : PlayerNo) (act : BitVec 2) : (s.marker p act).mem = s.mem :=
  by unfold State.marker; (repeat' split) <;> simp
@[simp] theorem State.marker_ledger (s : State) (p : PlayerNo) (act : BitVec 2) : (s.marker p act).ledger = s.ledger :=
  by unfold State.marker; (repeat' split) <;> simp
@[simp] theorem State.marker_cal (s : State) (p : PlayerNo) (act : BitVec 2) : (s.marker p act).cal = s.cal :=
  by unfold State.marker; (repeat' split) <;> simp
@[simp] theorem State.marker_chain (s : State) (p : PlayerNo) (act : BitVec 2) : (s.marker p act).chain = s.chain :=
  by unfold State.marker; (repeat' split) <;> simp
@[simp] theorem State.marker_port (s : State) (p : PlayerNo) (act : BitVec 2) : (s.marker p act).port = s.port :=
  by unfold State.marker; (repeat' split) <;> simp
@[simp] theorem State.marker_tel (s : State) (p : PlayerNo) (act : BitVec 2) : (s.marker p act).tel = s.tel :=
  by unfold State.marker; (repeat' split) <;> simp
@[simp] theorem State.marker_tap (s : State) (p : PlayerNo) (act : BitVec 2) : (s.marker p act).tap = s.tap :=
  by unfold State.marker; (repeat' split) <;> simp
@[simp] theorem State.marker_freeCount (s : State) (p : PlayerNo) (act : BitVec 2) : (s.marker p act).freeCount = s.freeCount :=
  by unfold State.marker; (repeat' split) <;> simp
@[simp] theorem State.marker_pending (s : State) (p : PlayerNo) (act : BitVec 2) : (s.marker p act).pending = s.pending :=
  by unfold State.marker; (repeat' split) <;> simp

/-! ## syncDetectors -/

@[simp] theorem State.syncDetectors_power (s : State) (p : PlayerNo) : (s.syncDetectors p).power = s.power :=
  by unfold State.syncDetectors; rfl
@[simp] theorem State.syncDetectors_clock (s : State) (p : PlayerNo) : (s.syncDetectors p).clock = s.clock :=
  by unfold State.syncDetectors; rfl
@[simp] theorem State.syncDetectors_pins (s : State) (p : PlayerNo) : (s.syncDetectors p).pins = s.pins :=
  by unfold State.syncDetectors; rfl
@[simp] theorem State.syncDetectors_txn (s : State) (p : PlayerNo) : (s.syncDetectors p).txn = s.txn :=
  by unfold State.syncDetectors; rfl
@[simp] theorem State.syncDetectors_chan (s : State) (p : PlayerNo) : (s.syncDetectors p).chan = s.chan :=
  by unfold State.syncDetectors; rfl
@[simp] theorem State.syncDetectors_player (s : State) (p : PlayerNo) : (s.syncDetectors p).player = s.player :=
  by unfold State.syncDetectors; rfl
@[simp] theorem State.syncDetectors_mem (s : State) (p : PlayerNo) : (s.syncDetectors p).mem = s.mem :=
  by unfold State.syncDetectors; rfl
@[simp] theorem State.syncDetectors_ledger (s : State) (p : PlayerNo) : (s.syncDetectors p).ledger = s.ledger :=
  by unfold State.syncDetectors; rfl
@[simp] theorem State.syncDetectors_cal (s : State) (p : PlayerNo) : (s.syncDetectors p).cal = s.cal :=
  by unfold State.syncDetectors; rfl
@[simp] theorem State.syncDetectors_chain (s : State) (p : PlayerNo) : (s.syncDetectors p).chain = s.chain :=
  by unfold State.syncDetectors; rfl
@[simp] theorem State.syncDetectors_port (s : State) (p : PlayerNo) : (s.syncDetectors p).port = s.port :=
  by unfold State.syncDetectors; rfl
@[simp] theorem State.syncDetectors_tel (s : State) (p : PlayerNo) : (s.syncDetectors p).tel = s.tel :=
  by unfold State.syncDetectors; rfl
@[simp] theorem State.syncDetectors_tap (s : State) (p : PlayerNo) : (s.syncDetectors p).tap = s.tap :=
  by unfold State.syncDetectors; rfl
@[simp] theorem State.syncDetectors_freeCount (s : State) (p : PlayerNo) : (s.syncDetectors p).freeCount = s.freeCount :=
  by unfold State.syncDetectors; rfl
@[simp] theorem State.syncDetectors_pending (s : State) (p : PlayerNo) : (s.syncDetectors p).pending = s.pending :=
  by unfold State.syncDetectors; rfl

/-! ## leaveStep -/

@[simp] theorem State.leaveStep_power (s : State) (p : PlayerNo) (st : Step) : (s.leaveStep p st).power = s.power :=
  by unfold State.leaveStep; split <;> simp
@[simp] theorem State.leaveStep_clock (s : State) (p : PlayerNo) (st : Step) : (s.leaveStep p st).clock = s.clock :=
  by unfold State.leaveStep; split <;> simp
@[simp] theorem State.leaveStep_txn (s : State) (p : PlayerNo) (st : Step) : (s.leaveStep p st).txn = s.txn :=
  by unfold State.leaveStep; split <;> simp
@[simp] theorem State.leaveStep_chan (s : State) (p : PlayerNo) (st : Step) : (s.leaveStep p st).chan = s.chan :=
  by unfold State.leaveStep; split <;> simp
@[simp] theorem State.leaveStep_sense (s : State) (p : PlayerNo) (st : Step) : (s.leaveStep p st).sense = s.sense :=
  by unfold State.leaveStep; split <;> simp
@[simp] theorem State.leaveStep_player (s : State) (p : PlayerNo) (st : Step) : (s.leaveStep p st).player = s.player :=
  by unfold State.leaveStep; split <;> simp
@[simp] theorem State.leaveStep_mem (s : State) (p : PlayerNo) (st : Step) : (s.leaveStep p st).mem = s.mem :=
  by unfold State.leaveStep; split <;> simp
@[simp] theorem State.leaveStep_ledger (s : State) (p : PlayerNo) (st : Step) : (s.leaveStep p st).ledger = s.ledger :=
  by unfold State.leaveStep; split <;> simp
@[simp] theorem State.leaveStep_cal (s : State) (p : PlayerNo) (st : Step) : (s.leaveStep p st).cal = s.cal :=
  by unfold State.leaveStep; split <;> simp
@[simp] theorem State.leaveStep_chain (s : State) (p : PlayerNo) (st : Step) : (s.leaveStep p st).chain = s.chain :=
  by unfold State.leaveStep; split <;> simp
@[simp] theorem State.leaveStep_port (s : State) (p : PlayerNo) (st : Step) : (s.leaveStep p st).port = s.port :=
  by unfold State.leaveStep; split <;> simp
@[simp] theorem State.leaveStep_tel (s : State) (p : PlayerNo) (st : Step) : (s.leaveStep p st).tel = s.tel :=
  by unfold State.leaveStep; split <;> simp
@[simp] theorem State.leaveStep_tap (s : State) (p : PlayerNo) (st : Step) : (s.leaveStep p st).tap = s.tap :=
  by unfold State.leaveStep; split <;> simp
@[simp] theorem State.leaveStep_freeCount (s : State) (p : PlayerNo) (st : Step) : (s.leaveStep p st).freeCount = s.freeCount :=
  by unfold State.leaveStep; split <;> simp
@[simp] theorem State.leaveStep_pending (s : State) (p : PlayerNo) (st : Step) : (s.leaveStep p st).pending = s.pending :=
  by unfold State.leaveStep; split <;> simp

/-! ## playMarker -/

@[simp] theorem State.playMarker_power (s : State) (p : PlayerNo) (st : Step) : (s.playMarker p st).power = s.power :=
  by unfold State.playMarker; split <;> simp
@[simp] theorem State.playMarker_clock (s : State) (p : PlayerNo) (st : Step) : (s.playMarker p st).clock = s.clock :=
  by unfold State.playMarker; split <;> simp
@[simp] theorem State.playMarker_txn (s : State) (p : PlayerNo) (st : Step) : (s.playMarker p st).txn = s.txn :=
  by unfold State.playMarker; split <;> simp
@[simp] theorem State.playMarker_chan (s : State) (p : PlayerNo) (st : Step) : (s.playMarker p st).chan = s.chan :=
  by unfold State.playMarker; split <;> simp
@[simp] theorem State.playMarker_sense (s : State) (p : PlayerNo) (st : Step) : (s.playMarker p st).sense = s.sense :=
  by unfold State.playMarker; split <;> simp
@[simp] theorem State.playMarker_mem (s : State) (p : PlayerNo) (st : Step) : (s.playMarker p st).mem = s.mem :=
  by unfold State.playMarker; split <;> simp
@[simp] theorem State.playMarker_ledger (s : State) (p : PlayerNo) (st : Step) : (s.playMarker p st).ledger = s.ledger :=
  by unfold State.playMarker; split <;> simp
@[simp] theorem State.playMarker_cal (s : State) (p : PlayerNo) (st : Step) : (s.playMarker p st).cal = s.cal :=
  by unfold State.playMarker; split <;> simp
@[simp] theorem State.playMarker_chain (s : State) (p : PlayerNo) (st : Step) : (s.playMarker p st).chain = s.chain :=
  by unfold State.playMarker; split <;> simp
@[simp] theorem State.playMarker_port (s : State) (p : PlayerNo) (st : Step) : (s.playMarker p st).port = s.port :=
  by unfold State.playMarker; split <;> simp
@[simp] theorem State.playMarker_tel (s : State) (p : PlayerNo) (st : Step) : (s.playMarker p st).tel = s.tel :=
  by unfold State.playMarker; split <;> simp
@[simp] theorem State.playMarker_tap (s : State) (p : PlayerNo) (st : Step) : (s.playMarker p st).tap = s.tap :=
  by unfold State.playMarker; split <;> simp
@[simp] theorem State.playMarker_freeCount (s : State) (p : PlayerNo) (st : Step) : (s.playMarker p st).freeCount = s.freeCount :=
  by unfold State.playMarker; split <;> simp
@[simp] theorem State.playMarker_pending (s : State) (p : PlayerNo) (st : Step) : (s.playMarker p st).pending = s.pending :=
  by unfold State.playMarker; split <;> simp

/-! ## noteChanges -/

@[simp] theorem State.noteChanges_power (s : State) (es : List BogEntry) : (s.noteChanges es).power = s.power :=
  rfl
@[simp] theorem State.noteChanges_clock (s : State) (es : List BogEntry) : (s.noteChanges es).clock = s.clock :=
  rfl
@[simp] theorem State.noteChanges_pins (s : State) (es : List BogEntry) : (s.noteChanges es).pins = s.pins :=
  rfl
@[simp] theorem State.noteChanges_txn (s : State) (es : List BogEntry) : (s.noteChanges es).txn = s.txn :=
  rfl
@[simp] theorem State.noteChanges_chan (s : State) (es : List BogEntry) : (s.noteChanges es).chan = s.chan :=
  rfl
@[simp] theorem State.noteChanges_sense (s : State) (es : List BogEntry) : (s.noteChanges es).sense = s.sense :=
  rfl
@[simp] theorem State.noteChanges_player (s : State) (es : List BogEntry) : (s.noteChanges es).player = s.player :=
  rfl
@[simp] theorem State.noteChanges_mem (s : State) (es : List BogEntry) : (s.noteChanges es).mem = s.mem :=
  rfl
@[simp] theorem State.noteChanges_ledger (s : State) (es : List BogEntry) : (s.noteChanges es).ledger = s.ledger :=
  rfl
@[simp] theorem State.noteChanges_cal (s : State) (es : List BogEntry) : (s.noteChanges es).cal = s.cal :=
  rfl
@[simp] theorem State.noteChanges_chain (s : State) (es : List BogEntry) : (s.noteChanges es).chain = s.chain :=
  rfl
@[simp] theorem State.noteChanges_port (s : State) (es : List BogEntry) : (s.noteChanges es).port = s.port :=
  rfl
@[simp] theorem State.noteChanges_tap (s : State) (es : List BogEntry) : (s.noteChanges es).tap = s.tap :=
  rfl
@[simp] theorem State.noteChanges_freeCount (s : State) (es : List BogEntry) : (s.noteChanges es).freeCount = s.freeCount :=
  rfl
@[simp] theorem State.noteChanges_pending (s : State) (es : List BogEntry) : (s.noteChanges es).pending = s.pending :=
  rfl

/-! ## onBankInputs -/

@[simp] theorem State.onBankInputs_power (s : State) (who : Bank → Bool) (f : Input → Input) : (s.onBankInputs who f).power = s.power :=
  by simp only [State.onBankInputs]
@[simp] theorem State.onBankInputs_clock (s : State) (who : Bank → Bool) (f : Input → Input) : (s.onBankInputs who f).clock = s.clock :=
  by simp only [State.onBankInputs]
@[simp] theorem State.onBankInputs_pins (s : State) (who : Bank → Bool) (f : Input → Input) : (s.onBankInputs who f).pins = s.pins :=
  by simp only [State.onBankInputs]
@[simp] theorem State.onBankInputs_txn (s : State) (who : Bank → Bool) (f : Input → Input) : (s.onBankInputs who f).txn = s.txn :=
  by simp only [State.onBankInputs]
@[simp] theorem State.onBankInputs_chan (s : State) (who : Bank → Bool) (f : Input → Input) : (s.onBankInputs who f).chan = s.chan :=
  by simp only [State.onBankInputs]
@[simp] theorem State.onBankInputs_player (s : State) (who : Bank → Bool) (f : Input → Input) : (s.onBankInputs who f).player = s.player :=
  by simp only [State.onBankInputs]
@[simp] theorem State.onBankInputs_mem (s : State) (who : Bank → Bool) (f : Input → Input) : (s.onBankInputs who f).mem = s.mem :=
  by simp only [State.onBankInputs]
@[simp] theorem State.onBankInputs_ledger (s : State) (who : Bank → Bool) (f : Input → Input) : (s.onBankInputs who f).ledger = s.ledger :=
  by simp only [State.onBankInputs]
@[simp] theorem State.onBankInputs_cal (s : State) (who : Bank → Bool) (f : Input → Input) : (s.onBankInputs who f).cal = s.cal :=
  by simp only [State.onBankInputs]
@[simp] theorem State.onBankInputs_chain (s : State) (who : Bank → Bool) (f : Input → Input) : (s.onBankInputs who f).chain = s.chain :=
  by simp only [State.onBankInputs]
@[simp] theorem State.onBankInputs_port (s : State) (who : Bank → Bool) (f : Input → Input) : (s.onBankInputs who f).port = s.port :=
  by simp only [State.onBankInputs]
@[simp] theorem State.onBankInputs_tel (s : State) (who : Bank → Bool) (f : Input → Input) : (s.onBankInputs who f).tel = s.tel :=
  by simp only [State.onBankInputs]
@[simp] theorem State.onBankInputs_tap (s : State) (who : Bank → Bool) (f : Input → Input) : (s.onBankInputs who f).tap = s.tap :=
  by simp only [State.onBankInputs]
@[simp] theorem State.onBankInputs_freeCount (s : State) (who : Bank → Bool) (f : Input → Input) : (s.onBankInputs who f).freeCount = s.freeCount :=
  by simp only [State.onBankInputs]
@[simp] theorem State.onBankInputs_pending (s : State) (who : Bank → Bool) (f : Input → Input) : (s.onBankInputs who f).pending = s.pending :=
  by simp only [State.onBankInputs]

/-! ## suspendSense -/

@[simp] theorem State.suspendSense_power (s : State) : (s.suspendSense).power = s.power :=
  by unfold State.suspendSense; simp
@[simp] theorem State.suspendSense_clock (s : State) : (s.suspendSense).clock = s.clock :=
  by unfold State.suspendSense; simp
@[simp] theorem State.suspendSense_pins (s : State) : (s.suspendSense).pins = s.pins :=
  by unfold State.suspendSense; simp
@[simp] theorem State.suspendSense_txn (s : State) : (s.suspendSense).txn = s.txn :=
  by unfold State.suspendSense; simp
@[simp] theorem State.suspendSense_chan (s : State) : (s.suspendSense).chan = s.chan :=
  by unfold State.suspendSense; simp
@[simp] theorem State.suspendSense_player (s : State) : (s.suspendSense).player = s.player :=
  by unfold State.suspendSense; simp
@[simp] theorem State.suspendSense_mem (s : State) : (s.suspendSense).mem = s.mem :=
  by unfold State.suspendSense; simp
@[simp] theorem State.suspendSense_ledger (s : State) : (s.suspendSense).ledger = s.ledger :=
  by unfold State.suspendSense; simp
@[simp] theorem State.suspendSense_cal (s : State) : (s.suspendSense).cal = s.cal :=
  by unfold State.suspendSense; simp
@[simp] theorem State.suspendSense_chain (s : State) : (s.suspendSense).chain = s.chain :=
  by unfold State.suspendSense; simp
@[simp] theorem State.suspendSense_port (s : State) : (s.suspendSense).port = s.port :=
  by unfold State.suspendSense; simp
@[simp] theorem State.suspendSense_tel (s : State) : (s.suspendSense).tel = s.tel :=
  by unfold State.suspendSense; simp
@[simp] theorem State.suspendSense_tap (s : State) : (s.suspendSense).tap = s.tap :=
  by unfold State.suspendSense; simp
@[simp] theorem State.suspendSense_freeCount (s : State) : (s.suspendSense).freeCount = s.freeCount :=
  by unfold State.suspendSense; simp
@[simp] theorem State.suspendSense_pending (s : State) : (s.suspendSense).pending = s.pending :=
  by unfold State.suspendSense; simp

/-! ## leaveBog -/

@[simp] theorem State.leaveBog_power (s : State) (who : BogEntry → Bool) (st : BogState) : (s.leaveBog who st).power = s.power :=
  rfl
@[simp] theorem State.leaveBog_clock (s : State) (who : BogEntry → Bool) (st : BogState) : (s.leaveBog who st).clock = s.clock :=
  rfl
@[simp] theorem State.leaveBog_pins (s : State) (who : BogEntry → Bool) (st : BogState) : (s.leaveBog who st).pins = s.pins :=
  rfl
@[simp] theorem State.leaveBog_txn (s : State) (who : BogEntry → Bool) (st : BogState) : (s.leaveBog who st).txn = s.txn :=
  rfl
@[simp] theorem State.leaveBog_chan (s : State) (who : BogEntry → Bool) (st : BogState) : (s.leaveBog who st).chan = s.chan :=
  rfl
@[simp] theorem State.leaveBog_sense (s : State) (who : BogEntry → Bool) (st : BogState) : (s.leaveBog who st).sense = s.sense :=
  rfl
@[simp] theorem State.leaveBog_player (s : State) (who : BogEntry → Bool) (st : BogState) : (s.leaveBog who st).player = s.player :=
  rfl
@[simp] theorem State.leaveBog_ledger (s : State) (who : BogEntry → Bool) (st : BogState) : (s.leaveBog who st).ledger = s.ledger :=
  rfl
@[simp] theorem State.leaveBog_cal (s : State) (who : BogEntry → Bool) (st : BogState) : (s.leaveBog who st).cal = s.cal :=
  rfl
@[simp] theorem State.leaveBog_chain (s : State) (who : BogEntry → Bool) (st : BogState) : (s.leaveBog who st).chain = s.chain :=
  rfl
@[simp] theorem State.leaveBog_port (s : State) (who : BogEntry → Bool) (st : BogState) : (s.leaveBog who st).port = s.port :=
  rfl
@[simp] theorem State.leaveBog_tap (s : State) (who : BogEntry → Bool) (st : BogState) : (s.leaveBog who st).tap = s.tap :=
  rfl
@[simp] theorem State.leaveBog_freeCount (s : State) (who : BogEntry → Bool) (st : BogState) : (s.leaveBog who st).freeCount = s.freeCount :=
  rfl
@[simp] theorem State.leaveBog_pending (s : State) (who : BogEntry → Bool) (st : BogState) : (s.leaveBog who st).pending = s.pending :=
  rfl

/-! ## freezeLedger -/

@[simp] theorem State.freezeLedger_power (s : State) : (s.freezeLedger).power = s.power :=
  by unfold State.freezeLedger; dsimp only; split <;> rfl
@[simp] theorem State.freezeLedger_clock (s : State) : (s.freezeLedger).clock = s.clock :=
  by unfold State.freezeLedger; dsimp only; split <;> rfl
@[simp] theorem State.freezeLedger_pins (s : State) : (s.freezeLedger).pins = s.pins :=
  by unfold State.freezeLedger; dsimp only; split <;> rfl
@[simp] theorem State.freezeLedger_txn (s : State) : (s.freezeLedger).txn = s.txn :=
  by unfold State.freezeLedger; dsimp only; split <;> rfl
@[simp] theorem State.freezeLedger_chan (s : State) : (s.freezeLedger).chan = s.chan :=
  by unfold State.freezeLedger; dsimp only; split <;> rfl
@[simp] theorem State.freezeLedger_sense (s : State) : (s.freezeLedger).sense = s.sense :=
  by unfold State.freezeLedger; dsimp only; split <;> rfl
@[simp] theorem State.freezeLedger_player (s : State) : (s.freezeLedger).player = s.player :=
  by unfold State.freezeLedger; dsimp only; split <;> rfl
@[simp] theorem State.freezeLedger_mem (s : State) : (s.freezeLedger).mem = s.mem :=
  by unfold State.freezeLedger; dsimp only; split <;> rfl
@[simp] theorem State.freezeLedger_ledger (s : State) : (s.freezeLedger).ledger = s.ledger :=
  by unfold State.freezeLedger; dsimp only; split <;> rfl
@[simp] theorem State.freezeLedger_cal (s : State) : (s.freezeLedger).cal = s.cal :=
  by unfold State.freezeLedger; dsimp only; split <;> rfl
@[simp] theorem State.freezeLedger_chain (s : State) : (s.freezeLedger).chain = s.chain :=
  by unfold State.freezeLedger; dsimp only; split <;> rfl
@[simp] theorem State.freezeLedger_tap (s : State) : (s.freezeLedger).tap = s.tap :=
  by unfold State.freezeLedger; dsimp only; split <;> rfl
@[simp] theorem State.freezeLedger_freeCount (s : State) : (s.freezeLedger).freeCount = s.freeCount :=
  by unfold State.freezeLedger; dsimp only; split <;> rfl
@[simp] theorem State.freezeLedger_pending (s : State) : (s.freezeLedger).pending = s.pending :=
  by unfold State.freezeLedger; dsimp only; split <;> rfl

/-! ## freezeStatus -/

@[simp] theorem State.freezeStatus_power (s : State) : (s.freezeStatus).power = s.power :=
  by unfold State.freezeStatus; dsimp only; split <;> rfl
@[simp] theorem State.freezeStatus_clock (s : State) : (s.freezeStatus).clock = s.clock :=
  by unfold State.freezeStatus; dsimp only; split <;> rfl
@[simp] theorem State.freezeStatus_pins (s : State) : (s.freezeStatus).pins = s.pins :=
  by unfold State.freezeStatus; dsimp only; split <;> rfl
@[simp] theorem State.freezeStatus_txn (s : State) : (s.freezeStatus).txn = s.txn :=
  by unfold State.freezeStatus; dsimp only; split <;> rfl
@[simp] theorem State.freezeStatus_chan (s : State) : (s.freezeStatus).chan = s.chan :=
  by unfold State.freezeStatus; dsimp only; split <;> rfl
@[simp] theorem State.freezeStatus_sense (s : State) : (s.freezeStatus).sense = s.sense :=
  by unfold State.freezeStatus; dsimp only; split <;> rfl
@[simp] theorem State.freezeStatus_player (s : State) : (s.freezeStatus).player = s.player :=
  by unfold State.freezeStatus; dsimp only; split <;> rfl
@[simp] theorem State.freezeStatus_cells (s : State) : (s.freezeStatus).mem.cells = s.mem.cells :=
  by unfold State.freezeStatus; dsimp only; split <;> rfl
@[simp] theorem State.freezeStatus_ledger (s : State) : (s.freezeStatus).ledger = s.ledger :=
  by unfold State.freezeStatus; dsimp only; split <;> rfl
@[simp] theorem State.freezeStatus_cal (s : State) : (s.freezeStatus).cal = s.cal :=
  by unfold State.freezeStatus; dsimp only; split <;> rfl
@[simp] theorem State.freezeStatus_chain (s : State) : (s.freezeStatus).chain = s.chain :=
  by unfold State.freezeStatus; dsimp only; split <;> rfl
@[simp] theorem State.freezeStatus_tap (s : State) : (s.freezeStatus).tap = s.tap :=
  by unfold State.freezeStatus; dsimp only; split <;> rfl
@[simp] theorem State.freezeStatus_freeCount (s : State) : (s.freezeStatus).freeCount = s.freeCount :=
  by unfold State.freezeStatus; dsimp only; split <;> rfl
@[simp] theorem State.freezeStatus_pending (s : State) : (s.freezeStatus).pending = s.pending :=
  by unfold State.freezeStatus; dsimp only; split <;> rfl

/-! ## wantContent -/

@[simp] theorem State.wantContent_power (s : State) (id : BitVec 16) : (s.wantContent id).power = s.power :=
  by unfold State.wantContent; split <;> rfl
@[simp] theorem State.wantContent_clock (s : State) (id : BitVec 16) : (s.wantContent id).clock = s.clock :=
  by unfold State.wantContent; split <;> rfl
@[simp] theorem State.wantContent_pins (s : State) (id : BitVec 16) : (s.wantContent id).pins = s.pins :=
  by unfold State.wantContent; split <;> rfl
@[simp] theorem State.wantContent_txn (s : State) (id : BitVec 16) : (s.wantContent id).txn = s.txn :=
  by unfold State.wantContent; split <;> rfl
@[simp] theorem State.wantContent_chan (s : State) (id : BitVec 16) : (s.wantContent id).chan = s.chan :=
  by unfold State.wantContent; split <;> rfl
@[simp] theorem State.wantContent_sense (s : State) (id : BitVec 16) : (s.wantContent id).sense = s.sense :=
  by unfold State.wantContent; split <;> rfl
@[simp] theorem State.wantContent_player (s : State) (id : BitVec 16) : (s.wantContent id).player = s.player :=
  by unfold State.wantContent; split <;> rfl
@[simp] theorem State.wantContent_mem (s : State) (id : BitVec 16) : (s.wantContent id).mem = s.mem :=
  by unfold State.wantContent; split <;> rfl
@[simp] theorem State.wantContent_ledger (s : State) (id : BitVec 16) : (s.wantContent id).ledger = s.ledger :=
  by unfold State.wantContent; split <;> rfl
@[simp] theorem State.wantContent_cal (s : State) (id : BitVec 16) : (s.wantContent id).cal = s.cal :=
  by unfold State.wantContent; split <;> rfl
@[simp] theorem State.wantContent_chain (s : State) (id : BitVec 16) : (s.wantContent id).chain = s.chain :=
  by unfold State.wantContent; split <;> rfl
@[simp] theorem State.wantContent_tap (s : State) (id : BitVec 16) : (s.wantContent id).tap = s.tap :=
  by unfold State.wantContent; split <;> rfl
@[simp] theorem State.wantContent_freeCount (s : State) (id : BitVec 16) : (s.wantContent id).freeCount = s.freeCount :=
  by unfold State.wantContent; split <;> rfl
@[simp] theorem State.wantContent_pending (s : State) (id : BitVec 16) : (s.wantContent id).pending = s.pending :=
  by unfold State.wantContent; split <;> rfl

/-! ## issueWrites -/

@[simp] theorem State.issueWrites_power (s : State) : (s.issueWrites).power = s.power := rfl
@[simp] theorem State.issueWrites_clock (s : State) : (s.issueWrites).clock = s.clock := rfl
@[simp] theorem State.issueWrites_pins (s : State) : (s.issueWrites).pins = s.pins := rfl
@[simp] theorem State.issueWrites_txn (s : State) : (s.issueWrites).txn = s.txn := rfl
@[simp] theorem State.issueWrites_chan (s : State) : (s.issueWrites).chan = s.chan := rfl
@[simp] theorem State.issueWrites_sense (s : State) : (s.issueWrites).sense = s.sense := rfl
@[simp] theorem State.issueWrites_player (s : State) : (s.issueWrites).player = s.player := rfl
@[simp] theorem State.issueWrites_ledger (s : State) : (s.issueWrites).ledger = s.ledger := rfl
@[simp] theorem State.issueWrites_cal (s : State) : (s.issueWrites).cal = s.cal := rfl
@[simp] theorem State.issueWrites_chain (s : State) : (s.issueWrites).chain = s.chain := rfl
@[simp] theorem State.issueWrites_port (s : State) : (s.issueWrites).port = s.port := rfl
@[simp] theorem State.issueWrites_tel (s : State) : (s.issueWrites).tel = s.tel := rfl
@[simp] theorem State.issueWrites_tap (s : State) : (s.issueWrites).tap = s.tap := rfl
@[simp] theorem State.issueWrites_freeCount (s : State) : (s.issueWrites).freeCount = s.freeCount := rfl
@[simp] theorem State.issueWrites_pending (s : State) : (s.issueWrites).pending = s.pending := rfl
@[simp] theorem State.issueWrites_cells (s : State) : (s.issueWrites).mem.cells = s.mem.cells := rfl

/-! ## enqueue -/

@[simp] theorem State.enqueue_power (s : State) (r : MemReq) : (s.enqueue r).power = s.power :=
  by unfold State.enqueue; dsimp only; (repeat' split) <;> rfl
@[simp] theorem State.enqueue_clock (s : State) (r : MemReq) : (s.enqueue r).clock = s.clock :=
  by unfold State.enqueue; dsimp only; (repeat' split) <;> rfl
@[simp] theorem State.enqueue_pins (s : State) (r : MemReq) : (s.enqueue r).pins = s.pins :=
  by unfold State.enqueue; dsimp only; (repeat' split) <;> rfl
@[simp] theorem State.enqueue_txn (s : State) (r : MemReq) : (s.enqueue r).txn = s.txn :=
  by unfold State.enqueue; dsimp only; (repeat' split) <;> rfl
@[simp] theorem State.enqueue_chan (s : State) (r : MemReq) : (s.enqueue r).chan = s.chan :=
  by unfold State.enqueue; dsimp only; (repeat' split) <;> rfl
@[simp] theorem State.enqueue_sense (s : State) (r : MemReq) : (s.enqueue r).sense = s.sense :=
  by unfold State.enqueue; dsimp only; (repeat' split) <;> rfl
@[simp] theorem State.enqueue_ledger (s : State) (r : MemReq) : (s.enqueue r).ledger = s.ledger :=
  by unfold State.enqueue; dsimp only; (repeat' split) <;> rfl
@[simp] theorem State.enqueue_cal (s : State) (r : MemReq) : (s.enqueue r).cal = s.cal :=
  by unfold State.enqueue; dsimp only; (repeat' split) <;> rfl
@[simp] theorem State.enqueue_chain (s : State) (r : MemReq) : (s.enqueue r).chain = s.chain :=
  by unfold State.enqueue; dsimp only; (repeat' split) <;> rfl
@[simp] theorem State.enqueue_port (s : State) (r : MemReq) : (s.enqueue r).port = s.port :=
  by unfold State.enqueue; dsimp only; (repeat' split) <;> rfl
@[simp] theorem State.enqueue_tel (s : State) (r : MemReq) : (s.enqueue r).tel = s.tel :=
  by unfold State.enqueue; dsimp only; (repeat' split) <;> rfl
@[simp] theorem State.enqueue_tap (s : State) (r : MemReq) : (s.enqueue r).tap = s.tap :=
  by unfold State.enqueue; dsimp only; (repeat' split) <;> rfl
@[simp] theorem State.enqueue_freeCount (s : State) (r : MemReq) : (s.enqueue r).freeCount = s.freeCount :=
  by unfold State.enqueue; dsimp only; (repeat' split) <;> rfl
@[simp] theorem State.enqueue_pending (s : State) (r : MemReq) : (s.enqueue r).pending = s.pending :=
  by unfold State.enqueue; dsimp only; (repeat' split) <;> rfl
@[simp] theorem State.enqueue_cells (s : State) (r : MemReq) : (s.enqueue r).mem.cells = s.mem.cells :=
  by unfold State.enqueue; dsimp only; (repeat' split) <;> rfl

/-! ## settleQueues -/

/-- A fold keeps what each of its steps keeps. -/
theorem foldl_keeps {σ β γ : Type} (π : σ → γ) {f : σ → β → σ} (h : ∀ s x, π (f s x) = π s) (l : List β) (s : σ) :
    π (l.foldl f s) = π s := by
  induction l generalizing s with
  | nil => rfl
  | cons x xs ih => rw [List.foldl_cons, ih, h]

@[simp] theorem State.settleQueues_power (s : State) : (s.settleQueues).power = s.power := by
  unfold State.settleQueues
  split
  · simp
  · rw [foldl_keeps State.power fun s k => foldl_keeps State.power (fun s r => by dsimp only; split <;> simp) _ s]; simp
@[simp] theorem State.settleQueues_clock (s : State) : (s.settleQueues).clock = s.clock := by
  unfold State.settleQueues
  split
  · simp
  · rw [foldl_keeps State.clock fun s k => foldl_keeps State.clock (fun s r => by dsimp only; split <;> simp) _ s]; simp
@[simp] theorem State.settleQueues_pins (s : State) : (s.settleQueues).pins = s.pins := by
  unfold State.settleQueues
  split
  · simp
  · rw [foldl_keeps State.pins fun s k => foldl_keeps State.pins (fun s r => by dsimp only; split <;> simp) _ s]; simp
@[simp] theorem State.settleQueues_txn (s : State) : (s.settleQueues).txn = s.txn := by
  unfold State.settleQueues
  split
  · simp
  · rw [foldl_keeps State.txn fun s k => foldl_keeps State.txn (fun s r => by dsimp only; split <;> simp) _ s]; simp
@[simp] theorem State.settleQueues_chan (s : State) : (s.settleQueues).chan = s.chan := by
  unfold State.settleQueues
  split
  · simp
  · rw [foldl_keeps State.chan fun s k => foldl_keeps State.chan (fun s r => by dsimp only; split <;> simp) _ s]; simp
@[simp] theorem State.settleQueues_sense (s : State) : (s.settleQueues).sense = s.sense := by
  unfold State.settleQueues
  split
  · simp
  · rw [foldl_keeps State.sense fun s k => foldl_keeps State.sense (fun s r => by dsimp only; split <;> simp) _ s]; simp
@[simp] theorem State.settleQueues_ledger (s : State) : (s.settleQueues).ledger = s.ledger := by
  unfold State.settleQueues
  split
  · simp
  · rw [foldl_keeps State.ledger fun s k => foldl_keeps State.ledger (fun s r => by dsimp only; split <;> simp) _ s]; simp
@[simp] theorem State.settleQueues_cal (s : State) : (s.settleQueues).cal = s.cal := by
  unfold State.settleQueues
  split
  · simp
  · rw [foldl_keeps State.cal fun s k => foldl_keeps State.cal (fun s r => by dsimp only; split <;> simp) _ s]; simp
@[simp] theorem State.settleQueues_chain (s : State) : (s.settleQueues).chain = s.chain := by
  unfold State.settleQueues
  split
  · simp
  · rw [foldl_keeps State.chain fun s k => foldl_keeps State.chain (fun s r => by dsimp only; split <;> simp) _ s]; simp
@[simp] theorem State.settleQueues_port (s : State) : (s.settleQueues).port = s.port := by
  unfold State.settleQueues
  split
  · simp
  · rw [foldl_keeps State.port fun s k => foldl_keeps State.port (fun s r => by dsimp only; split <;> simp) _ s]; simp
@[simp] theorem State.settleQueues_tel (s : State) : (s.settleQueues).tel = s.tel := by
  unfold State.settleQueues
  split
  · simp
  · rw [foldl_keeps State.tel fun s k => foldl_keeps State.tel (fun s r => by dsimp only; split <;> simp) _ s]; simp
@[simp] theorem State.settleQueues_tap (s : State) : (s.settleQueues).tap = s.tap := by
  unfold State.settleQueues
  split
  · simp
  · rw [foldl_keeps State.tap fun s k => foldl_keeps State.tap (fun s r => by dsimp only; split <;> simp) _ s]; simp
@[simp] theorem State.settleQueues_freeCount (s : State) : (s.settleQueues).freeCount = s.freeCount := by
  unfold State.settleQueues
  split
  · simp
  · rw [foldl_keeps State.freeCount fun s k => foldl_keeps State.freeCount (fun s r => by dsimp only; split <;> simp) _ s]; simp
@[simp] theorem State.settleQueues_pending (s : State) : (s.settleQueues).pending = s.pending := by
  unfold State.settleQueues
  split
  · simp
  · rw [foldl_keeps State.pending fun s k => foldl_keeps State.pending (fun s r => by dsimp only; split <;> simp) _ s]; simp
@[simp] theorem State.settleQueues_cells (s : State) : (s.settleQueues).mem.cells = s.mem.cells := by
  unfold State.settleQueues
  split
  · simp
  · rw [foldl_keeps (fun s : State => s.mem.cells) fun s k =>
      foldl_keeps (fun s : State => s.mem.cells) (fun s r => by dsimp only; split <;> simp) _ s]; simp

/-! ## askRead -/

@[simp] theorem State.askRead_power (s : State) (port : MemPort) (a : LineAddr) (owner : BitVec 16) (kind : ReadKind) : (s.askRead port a owner kind).power = s.power :=
  by simp [State.askRead]
@[simp] theorem State.askRead_clock (s : State) (port : MemPort) (a : LineAddr) (owner : BitVec 16) (kind : ReadKind) : (s.askRead port a owner kind).clock = s.clock :=
  by simp [State.askRead]
@[simp] theorem State.askRead_pins (s : State) (port : MemPort) (a : LineAddr) (owner : BitVec 16) (kind : ReadKind) : (s.askRead port a owner kind).pins = s.pins :=
  by simp [State.askRead]
@[simp] theorem State.askRead_txn (s : State) (port : MemPort) (a : LineAddr) (owner : BitVec 16) (kind : ReadKind) : (s.askRead port a owner kind).txn = s.txn :=
  by simp [State.askRead]
@[simp] theorem State.askRead_chan (s : State) (port : MemPort) (a : LineAddr) (owner : BitVec 16) (kind : ReadKind) : (s.askRead port a owner kind).chan = s.chan :=
  by simp [State.askRead]
@[simp] theorem State.askRead_sense (s : State) (port : MemPort) (a : LineAddr) (owner : BitVec 16) (kind : ReadKind) : (s.askRead port a owner kind).sense = s.sense :=
  by simp [State.askRead]
@[simp] theorem State.askRead_ledger (s : State) (port : MemPort) (a : LineAddr) (owner : BitVec 16) (kind : ReadKind) : (s.askRead port a owner kind).ledger = s.ledger :=
  by simp [State.askRead]
@[simp] theorem State.askRead_cal (s : State) (port : MemPort) (a : LineAddr) (owner : BitVec 16) (kind : ReadKind) : (s.askRead port a owner kind).cal = s.cal :=
  by simp [State.askRead]
@[simp] theorem State.askRead_chain (s : State) (port : MemPort) (a : LineAddr) (owner : BitVec 16) (kind : ReadKind) : (s.askRead port a owner kind).chain = s.chain :=
  by simp [State.askRead]
@[simp] theorem State.askRead_port (s : State) (port : MemPort) (a : LineAddr) (owner : BitVec 16) (kind : ReadKind) : (s.askRead port a owner kind).port = s.port :=
  by simp [State.askRead]
@[simp] theorem State.askRead_tel (s : State) (port : MemPort) (a : LineAddr) (owner : BitVec 16) (kind : ReadKind) : (s.askRead port a owner kind).tel = s.tel :=
  by simp [State.askRead]
@[simp] theorem State.askRead_tap (s : State) (port : MemPort) (a : LineAddr) (owner : BitVec 16) (kind : ReadKind) : (s.askRead port a owner kind).tap = s.tap :=
  by simp [State.askRead]
@[simp] theorem State.askRead_freeCount (s : State) (port : MemPort) (a : LineAddr) (owner : BitVec 16) (kind : ReadKind) : (s.askRead port a owner kind).freeCount = s.freeCount :=
  by simp [State.askRead]
@[simp] theorem State.askRead_pending (s : State) (port : MemPort) (a : LineAddr) (owner : BitVec 16) (kind : ReadKind) : (s.askRead port a owner kind).pending = s.pending :=
  by simp [State.askRead]
@[simp] theorem State.askRead_cells (s : State) (port : MemPort) (a : LineAddr) (owner : BitVec 16) (kind : ReadKind) : (s.askRead port a owner kind).mem.cells = s.mem.cells :=
  by simp only [State.askRead, State.settleQueues_cells]; split <;> simp

/-! ## finishRead -/

@[simp] theorem Mem.payRefresh_cells (m : Mem) : m.payRefresh.cells = m.cells := rfl

@[simp] theorem State.finishRead_power (s : State) (r : MemReq) : (s.finishRead r).power = s.power :=
  by unfold State.finishRead; dsimp only; split <;> simp
@[simp] theorem State.finishRead_clock (s : State) (r : MemReq) : (s.finishRead r).clock = s.clock :=
  by unfold State.finishRead; dsimp only; split <;> simp
@[simp] theorem State.finishRead_pins (s : State) (r : MemReq) : (s.finishRead r).pins = s.pins :=
  by unfold State.finishRead; dsimp only; split <;> simp
@[simp] theorem State.finishRead_txn (s : State) (r : MemReq) : (s.finishRead r).txn = s.txn :=
  by unfold State.finishRead; dsimp only; split <;> simp
@[simp] theorem State.finishRead_chan (s : State) (r : MemReq) : (s.finishRead r).chan = s.chan :=
  by unfold State.finishRead; dsimp only; split <;> simp
@[simp] theorem State.finishRead_sense (s : State) (r : MemReq) : (s.finishRead r).sense = s.sense :=
  by unfold State.finishRead; dsimp only; split <;> simp
@[simp] theorem State.finishRead_ledger (s : State) (r : MemReq) : (s.finishRead r).ledger = s.ledger :=
  by unfold State.finishRead; dsimp only; split <;> simp
@[simp] theorem State.finishRead_cal (s : State) (r : MemReq) : (s.finishRead r).cal = s.cal :=
  by unfold State.finishRead; dsimp only; split <;> simp
@[simp] theorem State.finishRead_chain (s : State) (r : MemReq) : (s.finishRead r).chain = s.chain :=
  by unfold State.finishRead; dsimp only; split <;> simp
@[simp] theorem State.finishRead_port (s : State) (r : MemReq) : (s.finishRead r).port = s.port :=
  by unfold State.finishRead; dsimp only; split <;> simp
@[simp] theorem State.finishRead_tel (s : State) (r : MemReq) : (s.finishRead r).tel = s.tel :=
  by unfold State.finishRead; dsimp only; split <;> simp
@[simp] theorem State.finishRead_tap (s : State) (r : MemReq) : (s.finishRead r).tap = s.tap :=
  by unfold State.finishRead; dsimp only; split <;> simp
@[simp] theorem State.finishRead_freeCount (s : State) (r : MemReq) : (s.finishRead r).freeCount = s.freeCount :=
  by unfold State.finishRead; dsimp only; split <;> simp
@[simp] theorem State.finishRead_pending (s : State) (r : MemReq) : (s.finishRead r).pending = s.pending :=
  by unfold State.finishRead; dsimp only; split <;> simp
@[simp] theorem State.finishRead_cells (s : State) (r : MemReq) : (s.finishRead r).mem.cells = s.mem.cells :=
  by unfold State.finishRead; dsimp only; split <;> simp

/-! ## judgeSquall -/

@[simp] theorem State.judgeSquall_power (s : State) : (s.judgeSquall).power = s.power :=
  by unfold State.judgeSquall; dsimp only; (repeat' split) <;> simp
@[simp] theorem State.judgeSquall_clock (s : State) : (s.judgeSquall).clock = s.clock :=
  by unfold State.judgeSquall; dsimp only; (repeat' split) <;> simp
@[simp] theorem State.judgeSquall_pins (s : State) : (s.judgeSquall).pins = s.pins :=
  by unfold State.judgeSquall; dsimp only; (repeat' split) <;> simp
@[simp] theorem State.judgeSquall_txn (s : State) : (s.judgeSquall).txn = s.txn :=
  by unfold State.judgeSquall; dsimp only; (repeat' split) <;> simp
@[simp] theorem State.judgeSquall_chan (s : State) : (s.judgeSquall).chan = s.chan :=
  by unfold State.judgeSquall; dsimp only; (repeat' split) <;> simp
@[simp] theorem State.judgeSquall_sense (s : State) : (s.judgeSquall).sense = s.sense :=
  by unfold State.judgeSquall; dsimp only; (repeat' split) <;> simp
@[simp] theorem State.judgeSquall_ledger (s : State) : (s.judgeSquall).ledger = s.ledger :=
  by unfold State.judgeSquall; dsimp only; (repeat' split) <;> simp
@[simp] theorem State.judgeSquall_cal (s : State) : (s.judgeSquall).cal = s.cal :=
  by unfold State.judgeSquall; dsimp only; (repeat' split) <;> simp
@[simp] theorem State.judgeSquall_chain (s : State) : (s.judgeSquall).chain = s.chain :=
  by unfold State.judgeSquall; dsimp only; (repeat' split) <;> simp
@[simp] theorem State.judgeSquall_port (s : State) : (s.judgeSquall).port = s.port :=
  by unfold State.judgeSquall; dsimp only; (repeat' split) <;> simp
@[simp] theorem State.judgeSquall_tel (s : State) : (s.judgeSquall).tel = s.tel :=
  by unfold State.judgeSquall; dsimp only; (repeat' split) <;> simp
@[simp] theorem State.judgeSquall_tap (s : State) : (s.judgeSquall).tap = s.tap :=
  by unfold State.judgeSquall; dsimp only; (repeat' split) <;> simp
@[simp] theorem State.judgeSquall_freeCount (s : State) : (s.judgeSquall).freeCount = s.freeCount :=
  by unfold State.judgeSquall; dsimp only; (repeat' split) <;> simp
@[simp] theorem State.judgeSquall_pending (s : State) : (s.judgeSquall).pending = s.pending :=
  by unfold State.judgeSquall; dsimp only; (repeat' split) <;> simp
@[simp] theorem State.judgeSquall_cells (s : State) : (s.judgeSquall).mem.cells = s.mem.cells :=
  by unfold State.judgeSquall; dsimp only; (repeat' split) <;> simp [Mem.payRefresh]

/-! ## rtrRecognised -/

@[simp] theorem State.rtrRecognised_power (s : State) : (s.rtrRecognised).power = s.power :=
  by unfold State.rtrRecognised State.retreatAll; split <;> simp
@[simp] theorem State.rtrRecognised_clock (s : State) : (s.rtrRecognised).clock = s.clock :=
  by unfold State.rtrRecognised State.retreatAll; split <;> simp
@[simp] theorem State.rtrRecognised_pins (s : State) : (s.rtrRecognised).pins = s.pins :=
  by unfold State.rtrRecognised State.retreatAll; split <;> simp
@[simp] theorem State.rtrRecognised_txn (s : State) : (s.rtrRecognised).txn = s.txn :=
  by unfold State.rtrRecognised State.retreatAll; split <;> simp
@[simp] theorem State.rtrRecognised_sense (s : State) : (s.rtrRecognised).sense = s.sense :=
  by unfold State.rtrRecognised State.retreatAll; split <;> simp
@[simp] theorem State.rtrRecognised_player (s : State) : (s.rtrRecognised).player = s.player :=
  by unfold State.rtrRecognised State.retreatAll; split <;> simp
@[simp] theorem State.rtrRecognised_mem (s : State) : (s.rtrRecognised).mem = s.mem :=
  by unfold State.rtrRecognised State.retreatAll; split <;> simp
@[simp] theorem State.rtrRecognised_ledger (s : State) : (s.rtrRecognised).ledger = s.ledger :=
  by unfold State.rtrRecognised State.retreatAll; split <;> simp
@[simp] theorem State.rtrRecognised_chain (s : State) : (s.rtrRecognised).chain = s.chain :=
  by unfold State.rtrRecognised State.retreatAll; split <;> simp
@[simp] theorem State.rtrRecognised_tap (s : State) : (s.rtrRecognised).tap = s.tap :=
  by unfold State.rtrRecognised State.retreatAll; split <;> simp
@[simp] theorem State.rtrRecognised_freeCount (s : State) : (s.rtrRecognised).freeCount = s.freeCount :=
  by unfold State.rtrRecognised State.retreatAll; split <;> simp
@[simp] theorem State.rtrRecognised_pending (s : State) : (s.rtrRecognised).pending = s.pending :=
  by unfold State.rtrRecognised State.retreatAll; split <;> simp

/-! ## loseSight -/

@[simp] theorem State.loseSight_power (s : State) : (s.loseSight).power = s.power := by simp [State.loseSight]
@[simp] theorem State.loseSight_clock (s : State) : (s.loseSight).clock = s.clock := by simp [State.loseSight]
@[simp] theorem State.loseSight_pins (s : State) : (s.loseSight).pins = s.pins := by simp [State.loseSight]
@[simp] theorem State.loseSight_txn (s : State) : (s.loseSight).txn = s.txn := by simp [State.loseSight]
@[simp] theorem State.loseSight_sense (s : State) : (s.loseSight).sense = s.sense := by simp [State.loseSight]
@[simp] theorem State.loseSight_player (s : State) : (s.loseSight).player = s.player := by simp [State.loseSight]
@[simp] theorem State.loseSight_mem (s : State) : (s.loseSight).mem = s.mem := by simp [State.loseSight]
@[simp] theorem State.loseSight_ledger (s : State) : (s.loseSight).ledger = s.ledger := by simp [State.loseSight]
@[simp] theorem State.loseSight_chain (s : State) : (s.loseSight).chain = s.chain := by simp [State.loseSight]
@[simp] theorem State.loseSight_port (s : State) : (s.loseSight).port = s.port := by simp [State.loseSight]
@[simp] theorem State.loseSight_tel (s : State) : (s.loseSight).tel = s.tel := by simp [State.loseSight]
@[simp] theorem State.loseSight_tap (s : State) : (s.loseSight).tap = s.tap := by simp [State.loseSight]
@[simp] theorem State.loseSight_freeCount (s : State) : (s.loseSight).freeCount = s.freeCount := by simp [State.loseSight]
@[simp] theorem State.loseSight_pending (s : State) : (s.loseSight).pending = s.pending := by simp [State.loseSight]

/-! ## openShadow -/

@[simp] theorem State.openShadow_power (s : State) : (s.openShadow).power = s.power := rfl
@[simp] theorem State.openShadow_clock (s : State) : (s.openShadow).clock = s.clock := rfl
@[simp] theorem State.openShadow_pins (s : State) : (s.openShadow).pins = s.pins := rfl
@[simp] theorem State.openShadow_chan (s : State) : (s.openShadow).chan = s.chan := rfl
@[simp] theorem State.openShadow_sense (s : State) : (s.openShadow).sense = s.sense := rfl
@[simp] theorem State.openShadow_player (s : State) : (s.openShadow).player = s.player := rfl
@[simp] theorem State.openShadow_mem (s : State) : (s.openShadow).mem = s.mem := rfl
@[simp] theorem State.openShadow_ledger (s : State) : (s.openShadow).ledger = s.ledger := rfl
@[simp] theorem State.openShadow_cal (s : State) : (s.openShadow).cal = s.cal := rfl
@[simp] theorem State.openShadow_chain (s : State) : (s.openShadow).chain = s.chain := rfl
@[simp] theorem State.openShadow_port (s : State) : (s.openShadow).port = s.port := rfl
@[simp] theorem State.openShadow_tel (s : State) : (s.openShadow).tel = s.tel := rfl
@[simp] theorem State.openShadow_tap (s : State) : (s.openShadow).tap = s.tap := rfl
@[simp] theorem State.openShadow_freeCount (s : State) : (s.openShadow).freeCount = s.freeCount := rfl
@[simp] theorem State.openShadow_pending (s : State) : (s.openShadow).pending = s.pending := rfl

/-! ## ignorePulse -/

@[simp] theorem State.ignorePulse_power (s : State) (pin : TxPin) : (s.ignorePulse pin).power = s.power :=
  by simp [State.ignorePulse]
@[simp] theorem State.ignorePulse_clock (s : State) (pin : TxPin) : (s.ignorePulse pin).clock = s.clock :=
  by simp [State.ignorePulse]
@[simp] theorem State.ignorePulse_pins (s : State) (pin : TxPin) : (s.ignorePulse pin).pins = s.pins :=
  by simp [State.ignorePulse]
@[simp] theorem State.ignorePulse_txn (s : State) (pin : TxPin) : (s.ignorePulse pin).txn = s.txn :=
  by simp [State.ignorePulse]
@[simp] theorem State.ignorePulse_chan (s : State) (pin : TxPin) : (s.ignorePulse pin).chan = s.chan :=
  by simp [State.ignorePulse]
@[simp] theorem State.ignorePulse_sense (s : State) (pin : TxPin) : (s.ignorePulse pin).sense = s.sense :=
  by simp [State.ignorePulse]
@[simp] theorem State.ignorePulse_player (s : State) (pin : TxPin) : (s.ignorePulse pin).player = s.player :=
  by simp [State.ignorePulse]
@[simp] theorem State.ignorePulse_mem (s : State) (pin : TxPin) : (s.ignorePulse pin).mem = s.mem :=
  by simp [State.ignorePulse]
@[simp] theorem State.ignorePulse_ledger (s : State) (pin : TxPin) : (s.ignorePulse pin).ledger = s.ledger :=
  by simp [State.ignorePulse]
@[simp] theorem State.ignorePulse_cal (s : State) (pin : TxPin) : (s.ignorePulse pin).cal = s.cal :=
  by simp [State.ignorePulse]
@[simp] theorem State.ignorePulse_chain (s : State) (pin : TxPin) : (s.ignorePulse pin).chain = s.chain :=
  by simp [State.ignorePulse]
@[simp] theorem State.ignorePulse_tap (s : State) (pin : TxPin) : (s.ignorePulse pin).tap = s.tap :=
  by simp [State.ignorePulse]
@[simp] theorem State.ignorePulse_freeCount (s : State) (pin : TxPin) : (s.ignorePulse pin).freeCount = s.freeCount :=
  by simp [State.ignorePulse]
@[simp] theorem State.ignorePulse_pending (s : State) (pin : TxPin) : (s.ignorePulse pin).pending = s.pending :=
  by simp [State.ignorePulse]

/-! ## putIr -/

@[simp] theorem State.putIr_power (s : State) (ir : TapInstr) (dr : BitVec 32) : (s.putIr ir dr).power = s.power := rfl
@[simp] theorem State.putIr_clock (s : State) (ir : TapInstr) (dr : BitVec 32) : (s.putIr ir dr).clock = s.clock := rfl
@[simp] theorem State.putIr_pins (s : State) (ir : TapInstr) (dr : BitVec 32) : (s.putIr ir dr).pins = s.pins := rfl
@[simp] theorem State.putIr_txn (s : State) (ir : TapInstr) (dr : BitVec 32) : (s.putIr ir dr).txn = s.txn := rfl
@[simp] theorem State.putIr_chan (s : State) (ir : TapInstr) (dr : BitVec 32) : (s.putIr ir dr).chan = s.chan := rfl
@[simp] theorem State.putIr_sense (s : State) (ir : TapInstr) (dr : BitVec 32) : (s.putIr ir dr).sense = s.sense := rfl
@[simp] theorem State.putIr_player (s : State) (ir : TapInstr) (dr : BitVec 32) : (s.putIr ir dr).player = s.player := rfl
@[simp] theorem State.putIr_mem (s : State) (ir : TapInstr) (dr : BitVec 32) : (s.putIr ir dr).mem = s.mem := rfl
@[simp] theorem State.putIr_ledger (s : State) (ir : TapInstr) (dr : BitVec 32) : (s.putIr ir dr).ledger = s.ledger := rfl
@[simp] theorem State.putIr_cal (s : State) (ir : TapInstr) (dr : BitVec 32) : (s.putIr ir dr).cal = s.cal := rfl
@[simp] theorem State.putIr_chain (s : State) (ir : TapInstr) (dr : BitVec 32) : (s.putIr ir dr).chain = s.chain := rfl
@[simp] theorem State.putIr_port (s : State) (ir : TapInstr) (dr : BitVec 32) : (s.putIr ir dr).port = s.port := rfl
@[simp] theorem State.putIr_tel (s : State) (ir : TapInstr) (dr : BitVec 32) : (s.putIr ir dr).tel = s.tel := rfl
@[simp] theorem State.putIr_freeCount (s : State) (ir : TapInstr) (dr : BitVec 32) : (s.putIr ir dr).freeCount = s.freeCount :=
  rfl
@[simp] theorem State.putIr_pending (s : State) (ir : TapInstr) (dr : BitVec 32) : (s.putIr ir dr).pending = s.pending :=
  rfl

/-! ## emit -/

@[simp] theorem State.emit_power (s : State) (type : Byte) (epoch : BitVec 48) (body : List Byte) : (s.emit type epoch body).power = s.power :=
  rfl
@[simp] theorem State.emit_clock (s : State) (type : Byte) (epoch : BitVec 48) (body : List Byte) : (s.emit type epoch body).clock = s.clock :=
  rfl
@[simp] theorem State.emit_pins (s : State) (type : Byte) (epoch : BitVec 48) (body : List Byte) : (s.emit type epoch body).pins = s.pins :=
  rfl
@[simp] theorem State.emit_txn (s : State) (type : Byte) (epoch : BitVec 48) (body : List Byte) : (s.emit type epoch body).txn = s.txn :=
  rfl
@[simp] theorem State.emit_chan (s : State) (type : Byte) (epoch : BitVec 48) (body : List Byte) : (s.emit type epoch body).chan = s.chan :=
  rfl
@[simp] theorem State.emit_sense (s : State) (type : Byte) (epoch : BitVec 48) (body : List Byte) : (s.emit type epoch body).sense = s.sense :=
  rfl
@[simp] theorem State.emit_player (s : State) (type : Byte) (epoch : BitVec 48) (body : List Byte) : (s.emit type epoch body).player = s.player :=
  rfl
@[simp] theorem State.emit_mem (s : State) (type : Byte) (epoch : BitVec 48) (body : List Byte) : (s.emit type epoch body).mem = s.mem :=
  rfl
@[simp] theorem State.emit_ledger (s : State) (type : Byte) (epoch : BitVec 48) (body : List Byte) : (s.emit type epoch body).ledger = s.ledger :=
  rfl
@[simp] theorem State.emit_cal (s : State) (type : Byte) (epoch : BitVec 48) (body : List Byte) : (s.emit type epoch body).cal = s.cal :=
  rfl
@[simp] theorem State.emit_chain (s : State) (type : Byte) (epoch : BitVec 48) (body : List Byte) : (s.emit type epoch body).chain = s.chain :=
  rfl
@[simp] theorem State.emit_port (s : State) (type : Byte) (epoch : BitVec 48) (body : List Byte) : (s.emit type epoch body).port = s.port :=
  rfl
@[simp] theorem State.emit_tap (s : State) (type : Byte) (epoch : BitVec 48) (body : List Byte) : (s.emit type epoch body).tap = s.tap :=
  rfl
@[simp] theorem State.emit_freeCount (s : State) (type : Byte) (epoch : BitVec 48) (body : List Byte) : (s.emit type epoch body).freeCount = s.freeCount :=
  rfl
@[simp] theorem State.emit_pending (s : State) (type : Byte) (epoch : BitVec 48) (body : List Byte) : (s.emit type epoch body).pending = s.pending :=
  rfl

end Sys2Proof.Machine
end

