-- ==== Sys2Proof/Laws/Ops.lean ====
section
/-! SUPPORT. What the shared operations do: one lemma for each thing that one of them can do. -/

namespace Sys2Proof.Machine

/-! ## Frames -/

theorem State.onlyMoves_refl (s : State) (ps : List Part) : s.onlyMoves s ps := by
  intro p _; cases p <;> rfl

theorem State.agree_trans {s t u : State} {p : Part} (h : s.agree t p) (k : t.agree u p) : s.agree u p := by
  cases p <;> exact Eq.trans k h

theorem State.onlyMoves_trans {s t u : State} {ps : List Part} (h : s.onlyMoves t ps) (k : t.onlyMoves u ps) :
    s.onlyMoves u ps := fun p hp => State.agree_trans (h p hp) (k p hp)

theorem State.onlyMoves_mono {s t : State} {ps qs : List Part} (h : s.onlyMoves t ps) (hs : ps ⊆ qs) :
    s.onlyMoves t qs := fun p hp => h p fun hq => hp (hs hq)

theorem State.bump_moves (s : State) (i : Fin 18) : s.onlyMoves (s.bump i) [.port] := by
  intro p hp; cases p <;> simp_all [State.agree]

theorem State.logEvent_moves (s : State) (code sub : Byte) (obj : BitVec 16) (data : BitVec 48) :
    s.onlyMoves (s.logEvent code sub obj data) [.tel, .port] := by
  intro p hp; cases p <;> simp_all [State.agree]

theorem State.outcome_moves (s : State) (code : Byte) (obj : Obj) (pin : Byte) (mask : BitVec 64) :
    s.onlyMoves (s.outcome code obj pin mask) [.tel, .port] := by
  intro p hp; cases p <;> simp_all [State.agree]

theorem State.discard_moves (s : State) (code : Byte) (obj : Obj) :
    s.onlyMoves (s.discard code obj) [.txn, .tel, .port, .mem] := by
  intro p hp; cases p <;> simp_all [State.agree]

theorem State.release_moves (s : State) (who : Chan → Bool) : s.onlyMoves (s.release who) [.chan, .cal] := by
  intro p hp; cases p <;> simp_all [State.agree]

theorem State.retreat_moves (s : State) (who : Chan → Bool) : s.onlyMoves (s.retreat who) [.chan, .cal] := by
  intro p hp; cases p <;> simp_all [State.agree]

theorem State.beginFault_moves (s : State) (b : Nat) :
    s.onlyMoves (s.beginFault b) [.power, .txn, .chain, .tel, .port, .mem] := by
  intro p hp; cases p <;> simp_all [State.agree]

theorem State.clearFault_moves (s : State) (b : Nat) : s.onlyMoves (s.clearFault b) [.power, .tel, .port] := by
  intro p hp; cases p <;> simp_all [State.agree]

theorem State.enterStage_moves (s : State) (st : Stage) : s.onlyMoves (s.enterStage st) [.power, .pins] := by
  intro p hp; cases p <;> simp_all [State.agree]

theorem State.settlePause_moves (s : State) : s.onlyMoves s.settlePause [.port] := by
  intro p hp; cases p <;> simp_all [State.agree]

theorem State.dropPartial_moves (s : State) (sub : Byte) : s.onlyMoves (s.dropPartial sub) [.tel, .port] := by
  intro p hp; cases p <;> simp_all [State.agree]

theorem State.loseSight_moves (s : State) : s.onlyMoves s.loseSight [.chan, .cal] := by
  intro p hp; cases p <;> simp_all [State.agree]

/-! ## Vectors -/

/-- An entry of a vector that is changed throughout. -/
@[simp] theorem mapAll_get {α β : Type} {n : Nat} (f : Fin n → α → β) (v : Vector α n) (i : Fin n) :
    (mapAll f v)[i] = f i v[i] := by
  simp [mapAll]

/-! ## Release and retreat -/

/-- A channel after a release (R10, R16). -/
theorem State.release_get (s : State) (who : Chan → Bool) (n : Chan) :
    (s.release who).chan[n] =
      if who n = true then (s.chan[n]).release (s.txn.live.params.chan[n]).gain else s.chan[n] := by
  unfold State.release
  rw [State.abandonCal_chan]
  exact mapAll_get _ _ _

/-- A channel after a retreat (R11, R12). -/
theorem State.retreat_get (s : State) (who : Chan → Bool) (n : Chan) :
    (s.retreat who).chan[n] =
      if who n = true then (s.chan[n]).retreat (s.txn.live.params.chan[n]).retInt s.clock.clk else s.chan[n] := by
  unfold State.retreat
  rw [State.abandonCal_chan]
  exact mapAll_get _ _ _

@[simp] theorem Channel.release_released (g : BitVec 1) (c : Channel) : (c.release g).released = true := rfl
@[simp] theorem Channel.release_retreated (g : BitVec 1) (c : Channel) : (c.release g).retreated = false := rfl
@[simp] theorem Channel.release_code (g : BitVec 1) (c : Channel) : (c.release g).code = c.code := rfl

/-- A retreat releases nothing and ends no release. -/
@[simp] theorem Channel.retreat_released (r : BitVec 9) (k : Nat) (c : Channel) : (c.retreat r k).released = c.released := by
  unfold Channel.retreat; (repeat' split) <;> rfl

/-- A channel that retreats and is not released is retreated. -/
theorem Channel.retreat_retreated (r : BitVec 9) (k : Nat) (c : Channel) :
    (c.retreat r k).released = true ∨ (c.retreat r k).retreated = true := by
  unfold Channel.retreat; (repeat' split) <;> simp_all

/-- No channel's release is touched by a retreat. -/
@[simp] theorem State.retreat_released (s : State) (who : Chan → Bool) (n : Chan) :
    ((s.retreat who).chan[n]).released = (s.chan[n]).released := by
  rw [State.retreat_get]; split <;> simp

/-- After a retreat of all, every channel is released or retreated. -/
theorem State.retreatAll_allRetreated (s : State) : s.retreatAll.allRetreated := by
  intro n
  unfold State.retreatAll
  rw [State.retreat_get]
  exact Channel.retreat_retreated _ _ _

/-- After a release of all, every channel is released. -/
theorem State.releaseAll_allReleased (s : State) : s.releaseAll.allReleased := by
  intro n
  unfold State.releaseAll
  rw [State.release_get]
  rfl

/-! ## Fault causes -/

/-- The causes after one begins (R484). -/
theorem State.beginFault_fault (s : State) (b c : Nat) (hb : b < 64) :
    (s.beginFault b).power.fault c = (s.power.fault c || c == b) := by
  unfold State.beginFault
  split
  · rename_i h
    by_cases hc : c = b
    · subst hc; simp [h]
    · simp [hc]
  · have hp : ∀ s' : State, s'.faultDiscards.power = s'.power := State.faultDiscards_power
    dsimp only
    rw [State.endsProbation_power, hp]
    have key : ((s.power.faults ||| 1#64 <<< b).getLsbD c) = (s.power.faults.getLsbD c || c == b) := by
      by_cases hc : c = b
      · subst hc; simp [hb]
      · rw [BitVec.getLsbD_or, BitVec.getLsbD_shiftLeft]
        have : (1#64).getLsbD (c - b) = decide (c - b = 0) := by simp [BitVec.getLsbD_one]
        rw [this]
        by_cases h1 : c < b
        · simp [h1, hc]
        · have : c - b ≠ 0 := by omega
          simp [this, hc]
    split <;> simpa [Power.fault] using key

/-- The causes after one clears (R493). -/
theorem State.clearFault_fault (s : State) (b c : Nat) (hb : b < 64) :
    (s.clearFault b).power.fault c = (s.power.fault c && c != b) := by
  have key : ((s.power.faults &&& ~~~(1#64 <<< b)).getLsbD c) = (s.power.faults.getLsbD c && c != b) := by
    by_cases hc : c = b
    · subst hc; simp
    · by_cases h64 : c < 64
      · have hd : (decide (c < b) || !decide (c - b = 0)) = true := by simp; omega
        simp [h64, hc, hd]
      · simp [BitVec.getLsbD_of_ge _ _ (Nat.le_of_not_lt h64)]
  unfold State.clearFault
  split
  · dsimp only
    split <;> simpa [Power.fault] using key
  · rename_i h
    by_cases hc : c = b
    · subst hc; simp_all
    · simp [hc]

/-! ## Stages -/

@[simp] theorem State.enterStage_stage (s : State) (st : Stage) : (s.enterStage st).power.stage = st := rfl
@[simp] theorem State.enterStage_mkCode (s : State) (st : Stage) : (s.enterStage st).power.mkCode = st.code := rfl

/-- A bring-up that fails is in failure with its cause (R130). -/
@[simp] theorem State.failBringUp_stage (s : State) (cause : Byte) : (s.failBringUp cause).power.stage = .failed cause := rfl

/-! ## Outcomes and transactions -/

/-- The latest outcome is the one just sent (R430). -/
theorem State.outcome_last (s : State) (code : Byte) (obj : Obj) (pin : Byte) (mask : BitVec 64) :
    (s.outcome code obj pin mask).tel.outcomes.getLast? =
      some { code := code, txid := s.txn.txid, obj := obj, epoch := s.clock.epoch, pin := pin, mask := mask } := by
  unfold State.outcome
  dsimp only
  split
  · simp
  · rename_i h
    have hne : s.tel.outcomes ≠ [] := by intro h0; simp [h0] at h
    rw [List.getLast?_drop]
    simp_all

/-- A transaction that is discarded is over. -/
@[simp] theorem State.discard_state (s : State) (code : Byte) (obj : Obj) : (s.discard code obj).txn.state = .idle := by
  unfold State.discard; split <;> simp_all [State.closeTxn]

/-- Discarding a transaction changes nothing that is live. -/
@[simp] theorem State.discard_live (s : State) (code : Byte) (obj : Obj) : (s.discard code obj).txn.live = s.txn.live := by
  unfold State.discard; split <;> simp [State.closeTxn]

/-- The end of a transaction touches of the memory only the resident set, what the cache holds of segments that leave it, and the
head loads for them (R303, R304). -/
theorem State.closeTxn_stands (s : State) :
    s.closeTxn.mem = { s.mem with
      resident := s.closeTxn.mem.resident, headWrong := s.closeTxn.mem.headWrong, listLines := s.closeTxn.mem.listLines,
      reads := s.closeTxn.mem.reads, waiting := s.closeTxn.mem.waiting } := rfl

/-- The same of a transaction that is discarded. -/
theorem State.discard_stands (s : State) (code : Byte) (obj : Obj) :
    (s.discard code obj).mem = { s.mem with
      resident := (s.discard code obj).mem.resident, headWrong := (s.discard code obj).mem.headWrong
      listLines := (s.discard code obj).mem.listLines, reads := (s.discard code obj).mem.reads
      waiting := (s.discard code obj).mem.waiting } := by
  unfold State.discard
  split
  · rfl
  · rw [State.closeTxn_stands, State.outcome_mem]

/-- The same of a fault that begins. -/
theorem State.beginFault_stands (s : State) (b : Nat) :
    (s.beginFault b).mem = { s.mem with
      resident := (s.beginFault b).mem.resident, headWrong := (s.beginFault b).mem.headWrong
      listLines := (s.beginFault b).mem.listLines, reads := (s.beginFault b).mem.reads
      waiting := (s.beginFault b).mem.waiting } := by
  have h (x : State) : x.faultDiscards.mem = (x.discard 3).mem := by unfold State.faultDiscards; split <;> simp
  unfold State.beginFault
  split
  · rfl
  · dsimp only
    split <;> rw [State.endsProbation_mem, h, State.discard_stands]; simp

/-! ## The controller's queues -/

theorem State.settleQueues_moves (s : State) : s.onlyMoves s.settleQueues [.mem, .player] := by
  intro p hp; cases p <;> simp_all [State.agree]

theorem State.judgeSquall_moves (s : State) : s.onlyMoves s.judgeSquall [.mem, .player] := by
  intro p hp; cases p <;> simp_all [State.agree]

/-! ## The event log -/

/-- An entry put in its place is there, and nothing else comes or goes. -/
theorem mem_insertNewest (e x : EventEntry) (l : List EventEntry) : x ∈ insertNewest e l ↔ x = e ∨ x ∈ l := by
  induction l with
  | nil => simp [insertNewest]
  | cons y ys ih =>
    simp only [insertNewest]
    split
    · rw [List.mem_cons, ih, List.mem_cons]
      constructor
      · rintro (h | h | h) <;> simp_all
      · rintro (h | h | h) <;> simp_all
    · simp

theorem length_insertNewest (e : EventEntry) (l : List EventEntry) : (insertNewest e l).length = l.length + 1 := by
  induction l with
  | nil => rfl
  | cons y ys ih => simp only [insertNewest]; split <;> simp_all

/-- A log that is not full holds the entry just logged (R427). -/
theorem State.logEvent_logged (s : State) (code sub : Byte) (obj : BitVec 16) (data : BitVec 48)
    (h : s.tel.events.length < 2048) :
    { code := code, sub := sub, obj := obj, epoch := s.clock.epoch, data := data : EventEntry } ∈
      (s.logEvent code sub obj data).tel.events := by
  unfold State.logEvent
  dsimp only
  rw [if_pos (by simp [length_insertNewest]; omega)]
  simp [mem_insertNewest]

end Sys2Proof.Machine
end

