-- ==== Sys2Proof/Tests/Slice0.lean ====
section
/-! SUPPORT. The model's own tests: each check of WellFormed refuses an ill-formed term, the worked values of the spec come
out, and for each statement a concrete state and operands that meet its hypotheses. -/

namespace Sys2Proof.Tests

open Sys2Proof Sys2Proof.Machine

set_option Elab.async false

/-- The samples of a pulse of three frames, with the frame in which the level falls. -/
def pulseSamples : List Bool := [false, false, true, true, true, false, false]

/-! ## Well-formedness: each check refuses -/

theorem test_wellFormed_supply_row : Instr.wellFormed (.supplyBrownOut .vddio 1000) = false := by decide
theorem test_wellFormed_strap_sum : Instr.wellFormed (.strapStageEnd (Vector.replicate 8 640000001)) = false := by decide
theorem test_wellFormed_window_sum : Instr.wellFormed (.strapWindow 0 160000001) = false := by decide
theorem test_wellFormed_pulse_itself : Instr.wellFormed (.txb pulseSamples [.txb]) = false := by decide
theorem test_wellFormed_pulse_twice : Instr.wellFormed (.txb pulseSamples [.txa, .txa]) = false := by decide
theorem test_wellFormed_pulse_short : Instr.wellFormed (.txa [true, true] []) = false := by decide
theorem test_wellFormed_samples : Instr.wellFormed (.rtrNLow [false, false]) = false := by decide
theorem test_wellFormed_inserted : Instr.wellFormed (.returnFrame .b [.inserted (.urgent [1])] true) = false := by decide
theorem test_wellFormed_lines :
    Instr.wellFormed (.segmentChunk (List.replicate 16 0)
      (List.replicate 2 { addr := { page := 64, line := 0 }, read := [], verify := [] })) = false := by decide
theorem test_wellFormed_readBack : Instr.wellFormed (.provision (List.replicate 16 0) []) = false := by decide
theorem test_wellFormed_devices :
    Instr.wellFormed (.dramTrainingDone
      { answered := Vector.replicate 2 true, ranks := Vector.replicate 2 1, densities := [16], allX8 := true, identified := true
        refreshManagement := false, failed := List.replicate 2 { sub := 0, rank := 0, lane := 0 } }) = false := by decide
theorem test_wellFormed_flips : Instr.wellFormed (.mergeFlush 0 [(3, 0)] []) = false := by decide
theorem test_wellFormed_record : Instr.wellFormed (.base [0x10]) = false := by decide
theorem test_wellFormed_accepts : Instr.wellFormed (.txb pulseSamples [.txa]) = true := by decide

/-! ## Worked values of the spec -/

/-- The check value of the CRC-32 of IEEE 802.3 (R433). -/
theorem test_crc32 : crc32 [0x31, 0x32, 0x33, 0x34, 0x35, 0x36, 0x37, 0x38, 0x39] = 0xCBF43926#32 := by decide +kernel

/-- The noise generator from 0x0000_0001: its tap at bit 0 enters a 1 (R209). -/
theorem test_noise : noiseStep 1 = 3 := by decide

/-- A rounding shift rounds a tie upward (R234). -/
theorem test_rsh : rsh (-3) 1 = -1 ∧ rsh 3 1 = 2 := by decide

/-! ## States for witnesses -/

/-- Valid straps of a STANDALONE device: REFCLK, flash boot, unsealed, content port on. -/
def standaloneStraps : Vector (BitVec 4) 8 := #v[15, 15, 15, 15, 15, 7, 15, 15]

/-- The same for a device of another role: RS0[3:2] 2 ROOT, 1 SPINE, 0 TOOTH. -/
def roleStraps (r : BitVec 4) : Vector (BitVec 4) 8 := standaloneStraps.set 0 (r * 4 + 3)

/-- Power at a stage with every supply good, every bank fitted, reference and lock there. -/
def powerAt (st : Stage) : Power :=
  { Power.initial with
    good := Vector.replicate 13 true, stage := st, straps := standaloneStraps, strapsLatched := true, judged := true
    fitted := Vector.replicate 4 true, refValid := true, locked := true, coreEnded := true }

/-- The block at a stage of bring-up. -/
def at_ (st : Stage) : State := { State.reset with power := powerAt st }

/-- The block after bring-up. -/
def up : State := at_ .done

/-- The block after bring-up in a chain. -/
def joinedAs (r : BitVec 4) : State :=
  { up with
    power := { up.power with straps := roleStraps r }
    chain := { up.chain with connected := Vector.replicate 3 true, id := some 64, aligned := true } }

/-- The block after bring-up with DRAM. -/
def withDram : State := { up with mem := { up.mem with fitted := true, density := 16, ranks := 2 } }

/-- The block with fault causes present. -/
def faulty (s : State) (bits : BitVec 64) : State := { s with power := { s.power with faults := bits } }

/-- The block with every channel driven at its nominal code. -/
def driven (s : State) : State :=
  { s with chan := Vector.replicate 64 { Channel.initial with released := false } }

/-- The block with a transaction in a state, and a shadow. -/
def inTxn (s : State) (st : TxnState) : State := { s with txn := { s.txn with state := st, shadow := some s.txn.boot } }

/-- The block with rows of its tick due. -/
def due (s : State) (d : Due) : State := { s with txn := { s.txn with due := d } }

/-- What a command gives. -/
def after (c : Instr) (s : State) : State :=
  match exec c s with
  | .next t => t
  | _ => s

/-! ## Witnesses: the block as a whole -/

theorem wit_StepRunsFrontCommand :
    ({ up with pending := [.bypass] } : State).pending = .bypass :: [] ∧ up.pending = [] := ⟨rfl, rfl⟩

theorem wit_CommandsLeaveTheQueue : exec .bypass up = .next (after .bypass up) := rfl

theorem wit_StepKeepsMemoryCanonical :
    up.memoryCanonical ∧ step { up with pending := [.bypass] } = .next (after .bypass up) := ⟨rfl, rfl⟩

/-- A HOLD commit that is due. -/
def committing : State := due (inTxn up .pending) { Due.none with apply := true }

theorem wit_ReleaseEndsOnlyAtHoldCommit :
    (exec .commitApply committing = .next (after .commitApply committing)) ∧ (committing.chan[0]).released = true ∧
      ((after .commitApply committing).chan[0]).released = false ∧
      step { committing with pending := [.commitApply] } = .next (after .commitApply committing) :=
  ⟨rfl, rfl, by decide +kernel, rfl⟩

/-- Every channel retreated. -/
def retreated : State := (driven up).retreatAll

theorem wit_RetreatEndsOnlyAtCommitOrRelease :
    exec (.aonBrownOut .vddAon 1000) retreated = .next (after (.aonBrownOut .vddAon 1000) retreated) ∧
      (retreated.chan[0]).retreated = true ∧ ((after (.aonBrownOut .vddAon 1000) retreated).chan[0]).retreated = false :=
  ⟨rfl, by decide +kernel, by decide +kernel⟩

theorem wit_RetreatEndsOnlyAtCommitOrRelease_step :
    step { retreated with pending := [.aonBrownOut .vddAon 1000] } = .next (after (.aonBrownOut .vddAon 1000) retreated) := rfl

theorem wit_ReleasedForGoodStays :
    let s := { up with chan := Vector.replicate 64 { Channel.initial with forGood := true } }
    exec .bypass s = .next (after .bypass s) ∧ (s.chan[0]).forGood = true ∧ (s.chan[0]).released = true ∧
      step { s with pending := [.bypass] } = .next (after .bypass s) :=
  ⟨rfl, rfl, rfl, rfl⟩

theorem wit_FailedBringUpHolds :
    exec .bypass (at_ (.failed 0x81)) = .next (after .bypass (at_ (.failed 0x81))) ∧
      (at_ (.failed 0x81)).power.stage = .failed 0x81 ∧
      step { at_ (.failed 0x81) with pending := [.bypass] } = .next (after .bypass (at_ (.failed 0x81))) := ⟨rfl, rfl, rfl⟩

/-- A record: header, body and CRC (R432, R433). -/
def record (type index : Nat) (body : List Byte) : List Byte :=
  let head := leBytes 1 type ++ [0, 1, 0] ++ leBytes 4 body.length ++ leBytes 2 index ++ [0, 0] ++ body
  head ++ leBytes 4 (crc32 head).toNat

/-- A BASE record of one entry. -/
def baseRecord : List Byte := record 0x10 0 (leBytes 2 0x0101 ++ [0, 0] ++ leBytes 8 0)

theorem wit_RecordsTakeNoEffect : exec (.base baseRecord) up = .next (after (.base baseRecord) up) := rfl

theorem wit_ReleaseWins : (fun _ : Chan => true) 0 = true := rfl

theorem wit_RtrDriveHeld :
    let s := { up with pins := { up.pins with rtrDrive := true } }
    exec (.rstNLow 300) s = .next (after (.rstNLow 300) s) ∧ s.pins.rtrDrive = true ∧
      (after (.rstNLow 300) s).pins.rtrDrive = false ∧
      step { s with pending := [.rstNLow 300] } = .next (after (.rstNLow 300) s) := ⟨rfl, rfl, by decide +kernel, rfl⟩

/-! ## Witnesses: bring-up -/

theorem wit_PowerOnResetBeginsStrap : State.reset.power.stage = .reset ∧ up.power.stage ≠ .reset := by decide

theorem wit_AonBrownOutResets : 1000 ≤ 1000 ∧ 499 < 500 ∧ 500 ≤ 500 ∧ 999 < 1000 := by decide

theorem wit_ResetPin :
    (300 ≤ 300 ∧ up.power.stage ≠ .reset) ∧ 99 < 100 ∧
    ((at_ .rstLow).power.stage = .rstLow ∧ (at_ .rstLow).power.strapsLatched = true ∧
      (at_ .rstLow).power.driftLatched = false ∧ (at_ .rstLow).power.strapsValid = true) ∧
    (let s := { at_ .rstLow with power := { powerAt .rstLow with driftLatched := true } }
     s.power.stage = .rstLow ∧ s.power.strapsLatched = true ∧ s.power.driftLatched = true) := by decide

theorem wit_StrapAndSupplyStages :
    (at_ .strap).power.stage = .strap ∧
    (Vector.replicate 8 0).toList.any (strapNear 64) = false ∧
    (Vector.replicate 8 (strapThresholds.headD 0 * 6400)).toList.any (strapNear 64) = true ∧
    ((at_ .supply).power.stage = .supply ∧ (at_ .supply).power.mandatoryGood = true) ∧
    (let s := { at_ .supply with power := { powerAt .supply with good := (Vector.replicate 13 true).set 5 false } }
     s.power.stage = .supply ∧ s.power.isGood .aon = true ∧ s.power.isGood .vddio = true ∧
       s.power.mandatoryGood = false) ∧
    (let s := { at_ .rstLow with power := { powerAt .rstLow with strapsLatched := false } }
     s.power.stage = .rstLow ∧ s.power.strapsLatched = false) := by decide +kernel

/-- A self-test whose every code is the level it expects (R260). -/
def passing : SelfTest := Vector.ofFn fun i => BitVec.ofNat 10 (testLevel (i.val % 3))

theorem wit_SupplyLossAndReturn :
    (1000 ≤ 1000 ∧ up.power.isGood .core = true ∧ up.power.stage = .done ∧ up.power.isGood .mon = true) ∧
    (up.power.isGood (dacDomain 3) = true ∧ up.power.fitted[3] = true) ∧
    ((faulty up 4).power.fault 2 = true ∧ (faulty up 16).power.fault 4 = true ∧ (faulty up 4).power.stage = .done) ∧
    (let s := (faulty up 64).setGood .mon false
     s.power.stage = .done ∧ s.power.fault 6 = true ∧ s.power.isGood .mon = false) ∧
    testPasses passing = true ∧
    (up.power.isGood .cport = true ∧ (up.setGood .cport false).power.isGood .cport = false) := by
  decide

/-- Straps of a device whose reference is port A's clock. -/
def portAStraps : Vector (BitVec 4) 8 := (roleStraps 1).set 0 (1 * 4 + 1)

theorem wit_SupplyLossAndReturn_others :
    (withDram.power.isGood .dphy = true ∧ withDram.mem.fitted = true ∧ withDram.power.stage = .done ∧
      withDram.power.fault 13 = false) ∧
    (let s := { withDram with power := powerAt .clock }
     s.power.isGood .dphy = true ∧ s.mem.fitted = true ∧ s.power.stage = .clock) ∧
    (at_ .image).power.stage.afterClock = true ∧
    (up.power.isGood .dphy = true ∧ up.mem.fitted = false) ∧
    (up.power.portOn = true ∧ up.power.isGood .cport = true) ∧
    ((at_ .supply).power.stage.runs = true ∧ (at_ .supply).power.stage ≠ .strap ∧ (at_ .supply).power.portOn = true) ∧
    ((joinedAs 1).power.isGood .link = true ∧ (joinedAs 1).power.role ≠ .standalone ∧ (joinedAs 1).power.refIsPortA = false) ∧
    (let s := { joinedAs 1 with power := { (joinedAs 1).power with straps := portAStraps } }
     s.power.isGood .link = true ∧ s.power.role ≠ .standalone ∧ s.power.refIsPortA = true ∧ s.power.stage = .done) ∧
    ((at_ .core).power.isGood .mon = true ∧ (at_ .core).power.stage.runs = true ∧ (at_ .core).power.stage ≠ .strap) ∧
    (faulty up 0x40).power.fault 6 = true := by decide

theorem wit_ClockStages :
    (let s := { at_ .clock with power := { powerAt .clock with refValid := false } }
     s.power.stage = .clock ∧ s.power.refValid = false ∧ s.power.qualifies 51200 0 = true) ∧
    (up.power.stage = .done ∧ up.power.refValid = true ∧ up.power.refIsPortA = false ∧ 51199 < 51200) ∧
    (let s := { at_ .clock with power := { powerAt .clock with locked := false } }
     s.power.stage = .clock ∧ s.power.refValid = true ∧ s.power.locked = false ∧ 1100 ≤ 1100 ∧ 1399 < 1400) ∧
    up.power.locked = true ∧ ((at_ .core).power.stage.afterClock = true ∧ (at_ .core).power.locked = true) := by decide

/-- A flash that meets every need of R117. -/
def goodFlash : SfdpReport :=
  { signature := true, densityMbit := 256, fastRead114 := true, erase4k := true, dedicated4Byte := true, enter4Byte := true,
    quadEnable := 1 }

/-- A region as a formatted flash reads. -/
def goodRegion (seq : BitVec 32) : RegionRead :=
  let blank : CounterRead :=
    { base := 0, grain := 20, reserved := 0, tally1 := BitVec.allOnes 1024, tally2 := BitVec.allOnes 1024 }
  { erased := false, magic := 0x3147444C, seq := seq, rails := 64, reserved := 0, hcrc := 0
    counters := Vector.replicate 128 blank, marker := Vector.replicate 3 0, seqCopy := seq }

/-- A region with the header CRC that its bytes have. -/
def regionRead (seq : BitVec 32) : RegionRead :=
  { goodRegion seq with hcrc := crc32 (RegionRead.headerBytes (goodRegion seq)) }

/-- An erased region. -/
def erasedRead : RegionRead := { goodRegion 0 with erased := true, magic := 0xFFFFFFFF }

theorem wit_CoreFlashAndLedgerStages :
    (let s := { at_ .core with clock := { (at_ .core).clock with epoch := 16384 } }
     s.power.stage = .core ∧ 1 ≤ s.clock.tick ∧ s.power.sealAgrees = true ∧ s.power.bootsFromFlash = true) ∧
    ((at_ .flash).power.stage = .flash ∧ goodFlash.signature = true ∧ SfdpReport.meets goodFlash = true) ∧
    ((at_ .ledger).power.stage = .ledger) ∧
    ((at_ .image).power.stage = .image ∧ (at_ .image).power.bootsFromFlash = true) := by decide +kernel

theorem headerBytes_hcrc (r : RegionRead) (h : BitVec 32) :
    RegionRead.headerBytes { r with hcrc := h } = RegionRead.headerBytes r := by
  simp only [RegionRead.headerBytes]

theorem valid_hcrc (r : RegionRead) (h1 : r.erased = false) (h2 : r.magic = 0x3147444C) (h3 : r.rails = 64)
    (h4 : r.seqCopy = r.seq) (h5 : r.marker.toList.all (· == 0) = true) :
    RegionRead.valid { r with hcrc := crc32 (RegionRead.headerBytes r) } = true := by
  unfold RegionRead.valid
  rw [headerBytes_hcrc r (crc32 (RegionRead.headerBytes r))]
  simp only [h1, h2, h3, h4, h5, beq_self_eq_true, Bool.not_false, Bool.and_self]

theorem regionRead_valid (seq : BitVec 32) : RegionRead.valid (regionRead seq) = true :=
  valid_hcrc (goodRegion seq) rfl rfl rfl rfl rfl

theorem wit_CoreFlashAndLedgerStages_regions :
    (RegionRead.valid (regionRead 8) = true ∧ RegionRead.valid (regionRead 7) = true ∧
      (regionRead 8).seq = (regionRead 7).seq + 1 ∧ (regionRead 7).seq ≠ (regionRead 8).seq + 1) ∧
    (RegionRead.valid erasedRead = false ∧ erasedRead.erased = true) ∧
    (let torn := { erasedRead with erased := false }
     RegionRead.valid torn = false ∧ (torn.erased && erasedRead.erased) = false) :=
  ⟨⟨regionRead_valid 8, regionRead_valid 7, by decide, by decide⟩, by decide +kernel⟩

/-- A training report of a board of one rank. -/
def trained (failed : List DramDevice) : TrainReport :=
  { answered := Vector.replicate 2 true, ranks := Vector.replicate 2 1, densities := [16], allX8 := true, identified := true,
    refreshManagement := false, failed := failed }

/-- Two devices of subchannel 1. -/
def twoLanes : List DramDevice := [{ sub := 1, rank := 0, lane := 2 }, { sub := 1, rank := 0, lane := 4 }]

theorem wit_LateStageBounds :
    ((at_ .dram).power.stage = .dram ∧ TrainReport.unidentified { trained [] with allX8 := false } = true ∧
      TrainReport.unidentified (trained []) = false ∧ (trained []).failed = [] ∧
      2 ≤ ((trained twoLanes).failed.dedup.filter fun d => d.sub == 1).length) ∧
    (let s := { at_ .trimWait with cal := { (at_ .trimWait).cal with sinceCore := 256 } }
     s.power.stage = .trimWait ∧ s.cal.powerUpDone = false ∧ 256 ≤ s.cal.sinceCore) ∧
    (let s := { at_ .image with power := { powerAt .image with straps := standaloneStraps.set 1 7 } }
     s.power.stage = .image ∧ s.power.bootsFromFlash = false) ∧
    (at_ .join).power.stage = .join := by decide +kernel

/-! ## Witnesses: pins and events -/

theorem wit_PinFaultsBeginAndEnd :
    (let s := { up with clock := { up.clock with clk := 65535 }, pins := { up.pins with txHigh := Vector.replicate 3 (some 0) } }
     s.watchesPins = true ∧ s.pins.stuck[txIndex .txb] = false ∧ 65536 ≤ s.txHighFor .txb [true, true, true] ∧
       s.power.fault (18 + (txIndex .txb).val) = false ∧ (inTxn s .opened).txn.state ≠ .idle) ∧
    (let s := { up with pins := { up.pins with stuck := Vector.replicate 3 true } }
     s.watchesPins = true ∧ s.pins.stuck[txIndex .txa] = true ∧
       (lastN 16 (filtered (List.replicate 18 false))).length = 16 ∧
       ∀ x ∈ lastN 16 (filtered (List.replicate 18 false)), x = false) ∧
    ((filteredCodes [6#3, 6, 6]).getLast? = some 6 ∧ (filteredCodes [7#3, 7, 7]).getLast? = some 7) ∧
    ((faulty up 0x20000).watchesPins = true ∧ (faulty up 0x20000).power.fault 17 = true ∧
      (lastN 16 (filteredCodes (List.replicate 18 5#3))).length = 16 ∧
      ∀ m ∈ lastN 16 (filteredCodes (List.replicate 18 5#3)), m.toNat < 6) := by decide +kernel

/-- The root of a chain after bring-up. -/
def root : State := joinedAs 2

/-- The root with its EV pins' debounce at 1 frame. -/
def debounced : State :=
  let p := root.txn.live.params
  let pins := Vector.replicate 8 { p.pin[0] with evDeb := 1 }
  { root with txn := { root.txn with live := { root.txn.live with params := { p with pin := pins } } } }

theorem wit_EventsRaised :
    (debounced.watchesPins = true ∧ true = !debounced.pins.ev.getLsbD (3 : Fin 8).val ∧
      0 < ((debounced.txn.live.params.pin[3]).evDeb).toNat ∧
      lastN ((debounced.txn.live.params.pin[3]).evDeb).toNat (filtered [true, true, false]) =
        List.replicate ((debounced.txn.live.params.pin[3]).evDeb).toNat true) ∧
    (root.coreRuns = true ∧ root.power.role ≠ .standalone ∧ root.clock.frame = 0) := by decide +kernel

theorem wit_RtrLowRetreatsAndPulsesEnd :
    (up.watchesPins = true ∧ up.pins.rtrLow = false ∧ up.pins.rtrDrive = false ∧
      (filtered [true, false, false]).getLast? = some false ∧ (filtered [false, true, true]).getLast? = some true) ∧
    (let s := { up with pins := { up.pins with mkPulse := Vector.replicate 8 (some 0) } }
     s.pins.mkPulse[2] = some 0 ∧ 0 ≤ s.clock.clk) ∧
    (let s := { up with pins := { up.pins with mkPulse := Vector.replicate 8 (some 1) } }
     s.pins.mkPulse[2] = some 1 ∧ s.clock.clk < 1) := by decide +kernel

/-! ## Witnesses: transactions -/

/-- The samples of a closing command that finds MODE at HOLD. -/
def quietPins : PinObs := { modeVar := List.replicate 3 (0, 0), rtrN := List.replicate 3 true, fence := [] }

theorem wit_TxbOpens :
    (up.hears .txb pulseSamples = true ∧ up.power.role = .standalone ∧ up.txn.state = .idle ∧
      up.chain.rootCmd ≠ .sendAbort ∧ up.chain.openDue = false) ∧
    (root.hears .txb pulseSamples = true ∧ root.power.role = .root ∧ root.txn.state = .idle ∧
      root.chain.rootCmd ≠ .sendAbort ∧ root.chain.openDue = false) ∧
    ((inTxn up .opened).hears .txb pulseSamples = true ∧ (inTxn up .opened).txn.state ≠ .idle) ∧
    ((joinedAs 1).hears .txb pulseSamples = true ∧ (joinedAs 1).followsRoot = true) := by decide +kernel

/-- The same, with RTR_N low. -/
def rtrPins : PinObs := { quietPins with rtrN := List.replicate 3 false }

theorem wit_TxcCloses :
    (up.hears .txc pulseSamples = true ∧ up.followsRoot = false ∧ up.txn.state ≠ .pending ∧ up.chain.rootCmd ≠ .sendAbort ∧
      (inTxn up .opened).txn.state ≠ .pending ∧ settled up ∧ pinsStand up quietPins) ∧
    (rtrFalls up rtrPins ∧ TxPin.txa ∉ [TxPin.txb]) ∧
    ((inTxn up .pending).hears .txc pulseSamples = true ∧ (inTxn up .pending).txn.state = .pending) ∧
    ((joinedAs 1).hears .txc pulseSamples = true ∧ (joinedAs 1).followsRoot = true) := by
  unfold settled pinsStand rtrFalls
  decide +kernel

theorem wit_TxaDiscards :
    (let s := inTxn up .pending
     s.hears .txa pulseSamples = true ∧ s.power.role = .standalone ∧ s.txn.state ≠ .idle) ∧
    (up.hears .txa pulseSamples = true ∧ up.power.role = .standalone ∧ up.txn.state = .idle) ∧
    (let s := inTxn (joinedAs 1) .opened
     s.hears .txa pulseSamples = true ∧ s.sysRuns = true ∧ s.chain.island = false ∧ s.isRoot = false) ∧
    (let s := inTxn root .opened
     s.hears .txa pulseSamples = true ∧ s.sysRuns = true ∧ s.chain.island = false ∧ s.isRoot = true) ∧
    up.hears .txb pulseSamples = true ∧ up.hears .txc pulseSamples = true := by
  decide +kernel

/-- A pending transaction whose validation gave a verdict. -/
def judgedAs (v : Verdict) : State :=
  { inTxn up .pending with txn := { (inTxn up .pending).txn with verdict := some v } }

/-- A partial line of segment 1 in the merge buffer's turn, asked of port P2 before TXC. -/
def fenceReq : MemReq :=
  { port := .p2, addr := { page := 65, line := 0 }, owner := 1, asked := 0, read := some .merge, tag := 0 }

theorem wit_ValidationCompletes :
    ((judgedAs .pass).txn.state = .pending ∧ (judgedAs .pass).txn.verdict = some .pass ∧ (judgedAs .pass).fenceOver = true) ∧
    (let s := judgedAs .pass
     ({ s with mem := { s.mem with waiting := [fenceReq] } } : State).fenceOver = false) ∧
    (let s := judgedAs (.fail 0x14 noObj)
     s.txn.state = .pending ∧ s.txn.verdict = some (.fail 0x14 noObj) ∧ s.power.role = .standalone) := by decide +kernel

theorem wit_CommitMakesShadowLive :
    (committing.txn.due.apply = true ∧ committing.clock.frame = 0 ∧ committing.txn.shadow = some up.txn.boot) ∧
    (modeTaken committing.txn.selMode = 0 ∧ (committing.chan[5]).released = true ∧ committing.mayLeaveRelease 5 = true) :=
  ⟨⟨rfl, rfl, rfl⟩, by decide +kernel⟩

/-- A roll-back that is due. -/
def rolling : State := due up { Due.none with rollback := true }

theorem wit_RollbackAppliesLastGood :
    (let s := { rolling with txn := { rolling.txn with lastGood := some up.txn.live } }
     s.txn.due.rollback = true ∧ s.clock.frame = 0 ∧ s.txn.lastGood = some up.txn.live) ∧
    (rolling.txn.due.rollback = true ∧ rolling.clock.frame = 0 ∧ rolling.txn.lastGood = none) :=
  ⟨⟨rfl, rfl, rfl⟩, rfl, rfl, rfl⟩

theorem wit_ProbationAndTimeoutEnd :
    (let s := due up { Due.none with probationEnd := true }
     s.txn.due.probationEnd = true ∧ s.clock.frame = 0 ∧ s.txn.due.rest = false) ∧
    (let s := due (inTxn up .opened) { Due.none with txnTimeout := true }
     s.txn.due.txnTimeout = true ∧ s.clock.frame = 0 ∧ s.txn.state = .opened ∧ s.power.role = .standalone) := by
  decide +kernel

theorem wit_TickBoundaryRows :
    (up.coreRuns = true ∧ up.power.role = .standalone ∧ 1100 ≤ 1100 ∧ 1399 < 1400 ∧
      up.power.drifted.toList.any id = false ∧ up.txn.due = Due.none) ∧
    quietBoundary up { refinMv := 1250, hotRank := Vector.replicate 2 false } ∧
    (quietBoundary (joinedAs 1) { refinMv := 1399, hotRank := Vector.replicate 2 false } ∧ (joinedAs 1).pastJoin = true ∧ (joinedAs 1).isRoot = false) := by
  unfold quietBoundary
  decide +kernel

/-! ## Witnesses: the chain -/

/-- A SPINE after bring-up, its transaction open. -/
def spine : State := { inTxn (joinedAs 1) .opened with chain := { (joinedAs 1).chain with causeway := false } }

/-- A sync frame of tick 0 with a command. -/
def syncFrame (cmd : Nat) : SyncRx := { items := (syncBytes 0 0 cmd 0 0 0 1 0 0 0 0).map RxItem.byte, arrivalPs := 0 }

/-- The same, marred by a code error. -/
def marredFrame : SyncRx := { syncFrame 0 with items := .codeError :: (syncFrame 0).items }

/-- A return that is ready. -/
def readyReturn : Return :=
  { ready := true, probtrip := false, diverged := false, retreat := false, missing := false, alignf := false, tick := 0,
    live := 1, faults := 0, vetoId := 0xFFFF, vetoCode := 0 }

theorem wit_SyncFramesAct_valid (k : Fin 7) : takesValid spine (syncFrame k.val) k.val := by
  unfold takesValid
  revert k
  decide +kernel

theorem wit_SyncFramesAct :
    (spine.hearsSync = true ∧ spine.coreRuns = true ∧ SyncRx.sound marredFrame = false) ∧
    spine.chain.veto = none ∧ spine.txn.state ≠ .idle ∧ 6 ≤ 6 ∧ settled spine ∧ pinsStand spine quietPins ∧
    (let s := { spine with chain := { spine.chain with veto := some 3 } }
     s.chain.veto = some 3 ∧ SyncRx.txid (syncFrame 2) = s.txn.txid ∧ pinsStand s quietPins) ∧
    (let r := { readyReturn with tick := spine.lastTick, vetoId := 5 }
     let s := { spine with chain := { spine.chain with merged := some r } }
     s.chain.merged = some r ∧ r.tick = s.lastTick ∧ r.vetoId ≠ 0xFFFF) := by
  unfold settled pinsStand rtrFalls
  decide +kernel

/-- The spine with 16 samples of its link's delay. -/
def delayed : State := { spine with chain := { spine.chain with delays := List.replicate 16 1000 } }

theorem wit_SyncFramesAct_forwarded :
    syncCommand (.syncAbort marredFrame) marredFrame ∧
    (delayed.hearsSync = true ∧ delayed.wayCarries = false ∧ delayed.chain.delayA.isSome = true ∧
      (SyncRx.bytes (syncFrame 0)).length = 28 ∧ SyncRx.cmd (syncFrame 0) = 0 ∧ delayed.portLive .b = true ∧
      delayed.portLive .c = true ∧ delayed.power.role = .spine) ∧
    (SyncRx.bytes marredFrame).length = 28 ∧ SyncRx.sound marredFrame = false := by
  refine ⟨?_, by decide +kernel, by decide +kernel, by decide +kernel⟩
  unfold syncCommand
  exact .inr (.inr (.inr (.inr (.inl rfl))))

/-- A sync frame of tick 0 with a command, TXOPEN set and a TXID of 1. -/
def openFrame (cmd : Nat) : SyncRx := { items := (syncBytes 2 0 cmd 1 0 0 1 0 0 0 0).map RxItem.byte, arrivalPs := 0 }

theorem wit_SyncFramesAct_lateOpen :
    let s := { joinedAs 1 with chain := { (joinedAs 1).chain with causeway := false } }
    (∀ k ∈ [0, 3, 5, 6], takesValid s (openFrame k) k ∧ SyncRx.flag (openFrame k) 1 = true ∧
      s.chain.preparedId ≠ some (SyncRx.txid (openFrame k))) ∧ s.txn.state = .idle ∧ s.chain.veto = none := by
  unfold takesValid
  decide +kernel

/-- A frame within tick 0. -/
def frameAt (s : State) (f : BitVec 48) : State := { s with clock := { s.clock with epoch := f } }

/-- That return as it is received. -/
def readyItems : List RxItem := (Return.bytes readyReturn).map RxItem.byte

theorem wit_ReturnsHeldAndMerged :
    (spine.portLive .b = true ∧ returnSound readyItems true = true ∧ fieldAt (rxBytes readyItems) 0 1 = 2 ∧
      spine.returnCount.map tickOf = some 0 ∧ (readReturn (rxBytes readyItems)).tick = 0 ∧
      spine.chain.returnedTick ≠ some 0) ∧
    (spine.coreRuns = true ∧ returnSound [] false = false) ∧
    ((frameAt spine 8191).returnCount = some 8191 ∧ (8191#48).toNat % 16384 < 8192) ∧
    (let s := { frameAt spine 8192 with chain := { spine.chain with returns := Vector.replicate 2 (some readyReturn) } }
     s.returnCount = some 8192 ∧ s.power.role = .spine ∧ s.power.isGood .link = true ∧
       s.chain.returnedTick ≠ some (tickOf 8192) ∧ s.chain.island = false ∧ 8192 ≤ (8192#48).toNat % 16384 ∧
       s.portLive .a = true ∧ s.portLive .b = true ∧ s.portLive .c = true ∧
       s.heldReturn (tickOf 8192) 0 = some readyReturn ∧ s.heldReturn (tickOf 8192) 1 = some readyReturn) ∧
    (let s := { frameAt root 12288 with chain := { root.chain with causeway := false } }
     s.power.role = .root ∧ s.power.isGood .link = true ∧ s.wayCarries = false ∧
       s.chain.returnedTick ≠ some (tickOf s.clock.epoch) ∧ s.chain.island = false ∧ 12288 ≤ s.clock.frame) := by
  decide +kernel

/-- The root in a frame of tick 0, with what it holds of the returns below. -/
def rootAt (f : BitVec 48) (held : Option Return) : State :=
  { frameAt root f with chain := { root.chain with causeway := false, returns := Vector.replicate 2 held } }

theorem wit_ReturnsHeldAndMerged_root :
    (let s := rootAt 8192 (some readyReturn)
     s.power.role = .root ∧ s.power.isGood .link = true ∧ s.wayCarries = false ∧
       s.chain.returnedTick ≠ some (tickOf s.clock.epoch) ∧ s.chain.island = false ∧ 8192 ≤ s.clock.frame ∧
       s.portLive .b = true ∧ s.portLive .c = true ∧ s.heldReturn (tickOf s.clock.epoch) 0 = some readyReturn ∧
       s.heldReturn (tickOf s.clock.epoch) 1 = some readyReturn) ∧
    (let s := rootAt 8192 none
     s.power.role ≠ .standalone ∧ s.wayCarries = false ∧ s.chain.island = false ∧ 8192 ≤ s.clock.frame ∧
       s.chain.returnedTick ≠ some (tickOf s.clock.epoch) ∧
       (∃ k ∈ s.downstream, s.heldReturn (tickOf s.clock.epoch) k = none) ∧
       s.clock.frame < 12288 - 2 * (s.chain.spine.toNat + s.chain.tooth.toNat)) ∧
    (let s := rootAt 12288 none
     (∃ k ∈ s.downstream, s.heldReturn (tickOf s.clock.epoch) k = none) ∧
       12288 - 2 * (s.chain.spine.toNat + s.chain.tooth.toNat) ≤ s.clock.frame) := by
  decide +kernel

theorem wit_UrgentRetreatsAll :
    (let bytes : Vector Byte 4 := #v[1, 0, 0, crc8 [1, 0, 0]]
     spine.portLive .a = true ∧ bytes[0] = 1 ∧ crc8 (bytes.toList.take 3) = bytes[3] ∧ spine.coreLive = true ∧
       spine.chain.causeway = false) ∧
    (let bytes : Vector Byte 4 := #v[1, 0, 0, ~~~(crc8 [1, 0, 0])]
     bytes[0] = 1 ∧ crc8 (bytes.toList.take 3) ≠ bytes[3]) ∧ spine.coreRuns = true := by decide +kernel

theorem wit_ChainDuties :
    (let s := { spine with clock := { spine.clock with clk := 1 }, chain := { spine.chain with urgentLeft := 1 } }
     0 < s.chain.urgentLeft ∧ s.chain.urgentAt < s.clock.clk) ∧
    (spine.hearsSync = true ∧ spine.portLive .c = true ∧ spine.power.isGood .link = true ∧ spine.chain.measureAt = none) ∧
    (let s := { spine with
       clock := { spine.clock with clk := 1024 }, chain := { spine.chain with measureOut := true, measureAt := some 0 } }
     s.chain.measureOut = true ∧ (255 : Byte) + 1 = s.chain.measureSeq ∧ s.chain.measureAt = some 0 ∧
       s.clock.clk ≤ 0 + 1024 ∧ 0 + 1024 ≤ s.clock.clk) ∧
    (let s := { root with power := { root.power with stage := .join }, chain := { root.chain with joinTicks := 17 } }
     s.power.stage = .join ∧ s.isRoot = true ∧ 17 ≤ s.chain.joinTicks ∧ s.clock.frame = 0) ∧
    (let s := { root with chain := { root.chain with liveRun := some (2, 64) } }
     s.chain.liveRun = some (2, 64) ∧ 64 ≤ 64 ∧ s.isRoot = true ∧ s.pastJoin = true ∧ 2 ≠ s.chain.enumcnt ∧
       s.txn.state = .idle ∧ s.chain.txopen = false ∧ s.chain.rootCmd = .none ∧ s.txn.probation = none) := by
  decide +kernel

theorem wit_IslandAndAlignment :
    (let s := due spine { Due.none with island := true }
     s.txn.due.island = true ∧ s.clock.frame = 0 ∧ s.isRoot = false ∧ (∀ r : Fin 64, s.ledger.deep[r] = false)) ∧
    (let s := { spine with chain := { spine.chain with island := true, validRun := 2, rxBase := some 5 } }
     s.chain.island = true ∧ 2 ≤ s.chain.validRun ∧ s.clock.frame = 0 ∧ s.chain.rxBase = some 5) ∧
    up.chain.rxBase = none ∧
    (let s := { delayed with chain := { delayed.chain with island := true } }
     s.hearsSync = true ∧ s.takesSync = true ∧ s.pastJoin = true ∧ s.chain.island = true ∧
       SyncRx.sound (syncFrame 0) = true ∧ s.syncValid (syncFrame 0) = true ∧ SyncRx.cmd (syncFrame 0) = 0 ∧
       s.chain.delayA = some 500) ∧
    (let s := { spine with chain := { spine.chain with errTicks := 16 } }
     s.pastJoin = true ∧ 16 ≤ s.chain.errTicks ∧ s.power.fault 28 = false) := by decide +kernel


/-! ## Witnesses: the sense path and the drive path -/

/-- Every monitor input at a voltage in nV, over its ground. -/
def volts (nv : Int) : ScanIn := { mon := Vector.replicate 64 nv, mong := Vector.replicate 4 0 }

/-- The sense path changed. -/
def sensing (g : Sense → Sense) : State := { up with sense := g up.sense }

theorem wit_MonitorScanConverts :
    (up.coreRuns = true ∧ up.clock.frame % 2 = 0 ∧ (∀ i : Chan, up.sense.trimming[bankOf i] = false) ∧
      (up.sense.input[16]).settling = 0) ∧
    senseSuspended (sensing fun x => { x with failed := Vector.replicate 4 true }) 3 = true ∧
    (let s := sensing fun x => { x with
       trimming := Vector.replicate 4 true, input := x.input.set 5 { x.input[5] with lastValid := some 7 } }
     s.sense.trimming[bankOf 5] = true ∧ (s.sense.input[5]).lastValid = some 7) := by
  decide +kernel

theorem wit_MonitorScanConverts_codes :
    (¬followsOverrange up (volts 0) 16 ∧ ¬followsOverrange up (volts 1249999999) 17 ∧ ¬overranges up (volts 0) 16) ∧
    (0 ≤ scaledInput up (volts 0) 16 ∧ scaledInput up (volts 1249999999) 16 < 1024 * 1250000000) ∧
    (scaledInput up (volts (-1)) 16 < 0 ∧ ¬overranges up (volts (-1)) 16) ∧
    (1024 * 1250000000 ≤ scaledInput up (volts 1250000000) 16 ∧ ¬overranges up (volts 1250000000) 16) := by
  unfold followsOverrange overranges
  decide +kernel

theorem wit_MonitorScanConverts_overranged :
    (overranges up (volts (-100000001)) 16 ∧ overranges up (volts 1500000001) 16) ∧
    (overranges up (volts (-100000000)) 16 ∧ scaledInput up (volts (-100000000)) 16 < 0) ∧
    (overranges up (volts 1500000000) 16 ∧ 0 ≤ scaledInput up (volts 1500000000) 16) ∧
    followsOverrange up (volts 2000000000) 17 ∧
    followsOverrange (sensing fun x => { x with carry := Vector.replicate 4 true }) (volts 0) 16 := by
  unfold followsOverrange overranges
  decide +kernel

/-- The block with a guard of a scope on every input. -/
def guarded (scope : BitVec 2) : State :=
  let g : Guard := { lo := 100, hi := 900, dwell := 1, scope := scope, en := true }
  let img := { up.txn.live.image with guards := up.txn.live.image.guards.set 0 (some (Vector.replicate 64 g)) }
  { up with txn := { up.txn with live := { up.txn.live with image := img }, probation := some 0 } }

/-- Input 3 changed. -/
def withInput3 (s : State) (x : Input) : State :=
  { s with sense := { s.sense with input := s.sense.input.set 3 x } }

theorem wit_GuardTripsAndRearms :
    (let s := withInput3 (guarded 2) { Input.initial with tripDue := true }
     (s.txn.live.guard 3).isSome = true ∧ (s.sense.input[3]).tripDue = true ∧ s.linked 3 3 = true ∧
       s.power.role = .standalone ∧ s.txn.probation.isSome = true) ∧
    ((guarded 1).txn.live.guard 3).map Guard.scope = some 1 ∧
    (let s := withInput3 (guarded 0) { Input.initial with tripped := true, inCount := 1 }
     (s.sense.input[3]).tripped = true ∧ (s.txn.live.guard 3).map (fun g => g.dwell.toNat) = some 1 ∧
       1 ≤ (s.sense.input[3]).inCount) ∧
    (let s := withInput3 (guarded 0) { Input.initial with tripped := true }
     (s.sense.input[3]).tripped = true ∧ (s.sense.input[3]).inCount < 1) := by decide +kernel

/-- A closed integration. -/
def closingAs (timeout : Bool) : Closing :=
  { iAcc := 1000, qAcc := -1000, n := 4, taint := false, timeout := timeout, epoch := 0 }

theorem wit_DetectorReports :
    (let s := withInput3 up { Input.initial with closing := some (closingAs false) }
     (s.sense.input[3]).closing = some (closingAs false) ∧ 0 < (closingAs false).n ∧ (closingAs false).timeout = false) ∧
    (let s := withInput3 up { Input.initial with closing := some (closingAs true) }
     (s.sense.input[3]).closing = some (closingAs true) ∧ (closingAs true).timeout = true) := by decide +kernel

theorem wit_DetectorReports_met :
    let s := withInput3 up { Input.initial with closing := some (closingAs false) }
    let t := after (.detectorClose 3) s
    exec (.detectorClose 3) s = .next t ∧ (s.sense.input[3]).met = false ∧ s.tel.events.length < 2048 ∧
      (t.tel.results.getLast?.map fun r => (r.met, decide (0 < r.i), decide (r.q < 0))) = some (true, true, true) :=
  ⟨rfl, by decide +kernel, by decide +kernel, by decide +kernel⟩

/-- Channel 0 driven, at a code, in a gain, retreated or not. -/
def slotAt (code : Code) (gain : BitVec 1) (ret window : Bool) : State :=
  let c := { Channel.initial with
    released := false, code := code, latched := code, gainHeld := gain, gainNext := gain, retreated := ret, window := window }
  { up with chan := up.chan.set 0 c }

/-- Channel 0 changed. -/
def withChan0 (s : State) (g : Channel → Channel) : State := { s with chan := s.chan.set 0 (g s.chan[0]) }

/-- Channel 0 driven in its own gain. -/
def slotting : State := slotAt 600 ((up.chanParams 0).gain) false false

theorem wit_EngineSlotMoves :
    (slotRuns slotting 0 ∧ (slotting.chan[0]).retreated = false ∧ (slotting.chan[0]).beyond = false ∧
      slotting.txn.live.params.dev.align = 0) ∧
    ((slotRuns (slotAt 600 ((up.chanParams 0).gain) true false) 0) ∧
      ((slotAt 600 ((up.chanParams 0).gain) true false).chan[0]).retreated = true) ∧
    (up.coreRuns = true ∧ up.slotDone 0 = false ∧ (up.chan[0]).released = true) ∧
    (let s := withChan0 slotting fun c => { c with fog := true }
     s.coreRuns = true ∧ s.slotDone 0 = false ∧ (s.chan[0]).released = false ∧ s.disconnected 0 = true) ∧
    (let s := withChan0 slotting fun c => { c with clipNext := true }
     s.coreRuns = true ∧ s.slotDone 0 = false ∧ (s.chan[0]).clipNext = true ∧ (s.chan[0]).clipRun = false ∧
       s.tel.events.length < 2047) ∧
    (let s := withChan0 up fun c => { c with slotClk := some 0 }
     s.slotDone 0 = true) ∧
    up.ledger.count[excRecord (up.railOf 0)] < up.ledger.value (excRecord (up.railOf 0)) := by
  unfold slotRuns slotDrives
  decide +kernel

theorem wit_ForcedRangeSwitch :
    (let s := slotAt 600 ((up.chanParams 0).gain + 1) false true
     slotDrives s 0 ∧ (s.chan[0]).window = true ∧ (s.chan[0]).gainNext ≠ (s.chanParams 0).gain ∧
       (s.chan[0]).retreated = false) ∧
    (let s := frameAt (slotAt 600 0 false true) 16383
     s.coreRuns = true ∧ (s.chan[0]).window = true ∧ (s.chan[0]).released = false ∧ s.clock.frame = 16383 ∧
       s.slotDone 0 = false) ∧
    (let s := frameAt { up with chan := up.chan.set 0 { Channel.initial with
       released := false, window := true, slotClk := some 0 } } 16382
     s.coreRuns = true ∧ (s.chan[0]).window = true ∧ (s.chan[0]).released = false ∧ s.clock.frame = 16382 ∧
       s.slotDone 0 = true) := by
  unfold slotDrives
  decide +kernel

/-! ## Witnesses: players -/

/-- A step from its opcode and its fields. -/
def stepAs (op fields : Nat) : Step := BitVec.ofNat 128 (op + fields)

/-- Player 0 runs a program in PLAY mode on channel 0, at a step. -/
def playing (steps : List Step) (pc : BitVec 10) : State :=
  let live := up.txn.live
  let bound := { live.params.player[0] with bind := 1 }
  let live' := { live with
    mode := 3, image := { live.image with programs := live.image.programs.set 0 steps }
    params := { live.params with player := live.params.player.set 0 bound } }
  { up with
    txn := { up.txn with live := live' }, player := up.player.set 0 { Player.initial with state := .running, pc := pc } }

/-- Player 0 changed. -/
def withPlayer0 (s : State) (f : Player → Player) : State := s.onPlayer 0 f

/-- TONE for two frames. -/
def toneStep : Step := stepAs 0x02 (2 * 2 ^ 32)
/-- LEVEL for one frame. -/
def levelStep : Step := stepAs 0x06 (2 ^ 32)
/-- WAIT for EV0 to rise, at most three frames, then step 2. -/
def waitStep : Step := stepAs 0x07 (3 * 2 ^ 32 + 2 * 2 ^ 64)
/-- END. -/
def endOfProgram : Step := stepAs 0x0B 0

/-- Player 0 on a channel 0 that is driven. -/
def drivesStep (st : Step) : State := { playing [st] 0 with chan := slotting.chan }

/-- RAMP, falling; NOISE; RAMP, a triangle. -/
def rampStep (shape : Nat) : Step := stepAs 0x04 (2 ^ 32 + shape * 2 ^ 112)

theorem wit_EngineSlotMoves_player (st : Step) (h : st = toneStep ∨ st = rampStep 1 ∨ st = levelStep ∨ st = waitStep) :
    slotRuns (drivesStep st) 0 ∧ ((drivesStep st).chan[0]).retreated = false ∧
      ((drivesStep st).chan[0]).heldNominal = false ∧ (drivesStep st).playerOf 0 = some 0 ∧
      ((drivesStep st).player[0]).state = .running := by
  rcases h with rfl | rfl | rfl | rfl <;> (unfold slotRuns slotDrives; decide +kernel)

theorem wit_EngineSlotMoves_sources :
    (givesSource (drivesStep (rampStep 0)) 0 0 (-512) ∧ givesSource (drivesStep (rampStep 1)) 0 0 511 ∧
      givesSource (drivesStep (rampStep 2)) 0 0 (-512) ∧ givesSource (drivesStep (stepAs 0x05 (2 ^ 32))) 0 0 0) ∧
    ((drivesStep levelStep).stepOf 0).op = .level ∧
    (drivesStep levelStep).txn.live.levelCode ((drivesStep levelStep).stepOf 0) 0 = some 0 ∧
    ((drivesStep waitStep).stepOf 0).op = .wait := by
  refine ⟨⟨.inr (.inr (.inl ?_)), .inr (.inr (.inr (.inl ?_))), .inr (.inr (.inr (.inr (.inl ?_)))),
    .inr (.inr (.inr (.inr (.inr (.inl ?_)))))⟩, ?_⟩ <;> decide +kernel

/-- A CHIRP of four frames through tone table 0, with its extension. -/
def chirpSteps : List Step := [stepAs 0x03 0, stepAs 0xFF (4 * 2 ^ 32)]

/-- Player 0 through tone table 0, whose first sample is 700. -/
def throughTable (steps : List Step) : State :=
  let s := playing steps 0
  let img := { s.txn.live.image with tones := s.txn.live.image.tones.set 0 (some [700]) }
  { s with txn := { s.txn with live := { s.txn.live with image := img } } }

theorem wit_EngineSlotMoves_table :
    givesSource (throughTable [toneStep]) 0 0 188 ∧ givesSource (throughTable chirpSteps) 0 0 188 := by
  refine ⟨.inl ⟨by decide +kernel, [700], 700, by decide +kernel⟩, .inr (.inl ?_)⟩
  exact ⟨by decide +kernel, stepAs 0xFF (4 * 2 ^ 32), [700], 700, by decide +kernel⟩

theorem wit_EngineSlotMoves_target :
    formsTarget (drivesStep (rampStep 0)) 0 0 ((drivesStep (rampStep 0)).chanParams 0).nom ∧
    (let s := withChan0 slotting fun c => { c with heldNominal := true }
     slotRuns s 0 ∧ (s.chan[0]).heldNominal = true) := by
  refine ⟨⟨0, by decide +kernel, by decide +kernel⟩, ?_⟩
  unfold slotRuns slotDrives
  decide +kernel

theorem wit_FrameStepRuns :
    (durStep 0 (.tone 0) .tone ∧ inForce (playing [toneStep, levelStep] 0) 0 .tone ∧
      noWatch (playing [toneStep, levelStep] 0) 0 ∧
      ((playing [toneStep, levelStep] 0).prog 0).lastAt 0 = some 2 ∧ 0 + 1 < 2) ∧
    (let s := withPlayer0 (playing [toneStep, levelStep] 0) fun x => { x with k := 1 }
     inForce s 0 .tone ∧ noWatch s 0 ∧ (s.prog 0).lastAt (s.player[0]).pc.toNat = some 2 ∧ 2 ≤ (s.player[0]).k + 1 ∧
       (s.prog 0).successor (s.player[0]).pc.toNat = some 1 ∧ enterable s 0 1) ∧
    (let s := playing [toneStep, levelStep] 1
     inForce s 0 .level ∧ noWatch s 0 ∧ (s.prog 0).lastAt (s.player[0]).pc.toNat = some 1 ∧ 1 ≤ (s.player[0]).k + 1 ∧
       (s.prog 0).successor (s.player[0]).pc.toNat = none) := by
  unfold inForce noWatch enterable durStep
  decide +kernel

theorem wit_WaitFollowsItsEvent :
    (let s := playing [waitStep, levelStep, endOfProgram] 0
     inForce s 0 .wait ∧ s.sees 0 (s.stepOf 0).evc = false ∧ (s.player[0]).k + 1 < (s.stepOf 0).tmo) ∧
    (let s := { playing [waitStep, levelStep, endOfProgram] 0 with pins := { up.pins with raised := 1 } }
     inForce s 0 .wait ∧ s.sees 0 (s.stepOf 0).evc = true ∧
       (s.prog 0).successor (s.player[0]).pc.toNat = some 1 ∧ enterable s 0 1) ∧
    (let s := withPlayer0 (playing [waitStep, levelStep, endOfProgram] 0) fun x => { x with k := 2 }
     inForce s 0 .wait ∧ s.sees 0 (s.stepOf 0).evc = false ∧ (s.stepOf 0).tmo ≠ 0 ∧
       (s.stepOf 0).tmo ≤ (s.player[0]).k + 1) ∧
    (let s := withPlayer0 (playing [waitStep, levelStep, endOfProgram] 0) fun x => { x with timeoutDue := true }
     s.plays = true ∧ (s.player[0]).state = .running ∧ (s.player[0]).timeoutDue = true ∧
       enterable s 0 (s.stepOf 0).tot) := by
  unfold inForce enterable
  decide +kernel

/-- LOOP twice, a LEVEL, NEXT and END. -/
def looping : List Step := [stepAs 0x08 (2 * 2 ^ 32), levelStep, stepAs 0x09 0, endOfProgram]

theorem wit_LoopAndNext :
    (let s := playing looping 0
     s.standsAt 0 .loop = true ∧ (s.prog 0).successor (s.player[0]).pc.toNat = some 1 ∧ enterable s 0 1) ∧
    (let s := withPlayer0 (playing looping 2) fun x => { x with loops := [0, 7] }
     s.standsAt 0 .next = true ∧ (s.player[0]).pend = none ∧ (s.prog 0).loopOf (s.player[0]).pc.toNat = some 0 ∧
       (s.player[0]).loops = 0 :: [7] ∧ (0 : BitVec 24) ≠ 1 ∧ enterable s 0 (0 + 1)) ∧
    (let s := withPlayer0 (playing looping 2) fun x => { x with loops := [1] }
     s.standsAt 0 .next = true ∧ (s.player[0]).loops = 1 :: [] ∧
       (s.prog 0).successor (s.player[0]).pc.toNat = some 3 ∧ enterable s 0 3) ∧
    (let d : Pend := { target := 1, bnd := 2, depth := 1 }
     let s := withPlayer0 (playing looping 2) fun x => { x with loops := [2], pend := some d }
     s.standsAt 0 .next = true ∧ (s.player[0]).pend = some d ∧ d.depth = (s.prog 0).depth (s.player[0]).pc.toNat + 1 ∧
       (s.prog 0).loopOf (s.player[0]).pc.toNat = some 0 ∧ (s.player[0]).loops ≠ [] ∧ enterable s 0 d.target.toNat) := by
  unfold enterable
  decide +kernel

theorem wit_JumpsAndEnd :
    (let s := playing [stepAs 0x0A (2 * 2 ^ 32), levelStep, endOfProgram] 0
     s.standsAt 0 .jump = true ∧ enterable s 0 (s.stepOf 0).target) ∧
    (let d : Pend := { target := 1, bnd := 0, depth := 0 }
     let s := withPlayer0 (playing [toneStep, levelStep] 0) fun x => { x with jumpDue := true, pend := some d }
     s.plays = true ∧ (s.player[0]).state = .running ∧ (s.player[0]).jumpDue = true ∧ (s.player[0]).pend = some d ∧
       enterable s 0 d.target.toNat) ∧
    (playing [endOfProgram] 0).standsAt 0 .finish = true := by
  unfold enterable
  decide +kernel

/-- A step with a watch of EV0's rise for step 1, at a boundary. -/
def watched (st : Step) (bnd : Nat) : State :=
  { playing [st ||| BitVec.ofNat 128 (bnd * 2 ^ 8 + 2 ^ 15 + 2 ^ 22), levelStep] 0 with pins := { up.pins with raised := 1 } }

/-- The jump that the watch makes pending. -/
def jumpOf (bnd : BitVec 2) : Pend := { target := 1, bnd := bnd, depth := 0 }

theorem wit_JumpsAndEnd_boundary :
    (let s := watched toneStep 0
     inForce s 0 .tone ∧ pendingThen s 0 (jumpOf 0) ∧ boundaryHere s 0 .tone (jumpOf 0)) ∧
    (let s := withPlayer0 (watched toneStep 1) fun x => { x with phase := BitVec.allOnes 48, word := 1 }
     inForce s 0 .tone ∧ pendingThen s 0 (jumpOf 1) ∧ boundaryHere s 0 .tone (jumpOf 1)) ∧
    (let s := watched (stepAs 0x06 0) 2
     inForce s 0 .level ∧ pendingThen s 0 (jumpOf 2) ∧ boundaryHere s 0 .level (jumpOf 2)) := by
  unfold inForce pendingThen boundaryHere forSegment phaseWraps lastOfDur passEnds
  refine ⟨⟨by decide +kernel, by decide +kernel, .inl (by decide +kernel)⟩,
    ⟨by decide +kernel, by decide +kernel, .inr ⟨by decide +kernel, .inl (by decide +kernel)⟩⟩,
    ⟨by decide +kernel, by decide +kernel, .inr ⟨by decide +kernel, .inr (.inl ⟨by decide +kernel, .inl (by decide +kernel)⟩)⟩⟩⟩

theorem wit_JumpsAndEnd_waits :
    (let s := watched toneStep 1
     inForce s 0 .tone ∧ pendingThen s 0 (jumpOf 1) ∧ forSegment (jumpOf 1) ∧ ¬phaseWraps s 0) ∧
    (let s := watched (stepAs 0x06 (2 * 2 ^ 32)) 1
     inForce s 0 .level ∧ pendingThen s 0 (jumpOf 1) ∧ (s.stepOf 0).dur ≠ 0 ∧ ¬lastOfDur s 0) := by
  unfold inForce pendingThen forSegment phaseWraps lastOfDur
  refine ⟨by decide +kernel, by decide +kernel, by decide +kernel, by decide +kernel, ?_⟩
  rintro ⟨d, h, k⟩
  have e : some 2 = some d := (show _ = some 2 by decide +kernel).symm.trans h
  cases e
  exact absurd k (by decide +kernel)

/-- A segment of two pages' worth of samples, READY. -/
def seg1 : Segment :=
  { id := 1, state := .ready, whole := false, listLost := false, len := 960, rcvd := 960, lists := [64], peakHi := 600,
    peakLo := 400, pages := [65], lastChunk := 0, sealHold := false, lostPages := [], wanted := []
    readable := [], lostLists := [] }

/-- Segment 1 in a fitted DRAM. -/
def loaded (s : State) (g : Segment) : State :=
  { s with mem := { s.mem with fitted := true, density := 16, ranks := 2, segs := [g], used := [64, 65] } }

/-- Player 0 plays segment 1. -/
def playsSegment : State := loaded (playing [stepAs 0x01 (2 ^ 32 + 2 ^ 88)] 0) seg1

theorem wit_PlayAdvancesAndStops :
    (inForce playsSegment 0 .play ∧ noWatch playsSegment 0 ∧ playsSegment.dramDown = false ∧
      (playsSegment.player[0]).fallback = false ∧ (∀ n : Chan, ((playsSegment.player[0]).lanes[n]).bogged = false) ∧
      playsSegment.playSegments 0 (playsSegment.stepOf 0) = [1] ∧ playsSegment.segment 1 = some seg1 ∧
      seg1.state ≠ .quarantined ∧
      (playsSegment.player[0]).pos.toNat + (playsSegment.stepOf 0).ratio <
        playsSegment.passLength (playsSegment.stepOf 0) * 2 ^ 24) ∧
    (playsSegment.plays = true ∧ (playsSegment.player[0]).state = .running ∧ playsSegment.prefetchEmpty 0 = true) ∧
    playsSegment.mem.waiting = [] ∧ playsSegment.boundTo 0 0 = true ∧ playsSegment.boundTo 0 1 = false := by
  unfold inForce noWatch
  decide +kernel

theorem wit_EngineSlotMoves_segment :
    givesSource playsSegment 0 0 (playsSegment.playSource 0 0 seg1 0) :=
  .inr (.inr (.inr (.inr (.inr (.inr ⟨by decide +kernel, by decide +kernel, seg1, by decide +kernel, rfl⟩)))))

/-- PLAY of segment 1, with FBK and FBT = 2. -/
def playFbk (fbk : Nat) : Step := stepAs 0x01 (2 ^ 32 + 2 ^ 88 + fbk * 2 ^ 11 + 2 * 2 ^ 96)

/-- A JUMP to a PLAY of segment 1, which is quarantined. -/
def toQuarantined (fbk : Nat) : State :=
  loaded (playing [stepAs 0x0A (2 ^ 32), playFbk fbk, levelStep] 0) { seg1 with state := .quarantined }

theorem wit_PlayAdvancesAndStops_fallsBack :
    (let s := loaded (withPlayer0 (playing [playFbk 0, levelStep] 0) fun x => { x with pos := BitVec.ofNat 56 (959 * 2 ^ 24) }) seg1
     inForce s 0 .play ∧ noWatch s 0 ∧ passEnds s 0 ∧ (s.prog 0).successor (s.player[0]).pc.toNat = some 1 ∧ enterable s 0 1) ∧
    (∀ k : Fin 2, (toQuarantined k.val).standsAt 0 .jump = true ∧ ((toQuarantined k.val).stepOf 0).target < 3 ∧
      ((toQuarantined k.val).prog 0).at? ((toQuarantined k.val).stepOf 0).target = some (playFbk k.val) ∧
      (playFbk k.val).op = .play ∧ (toQuarantined k.val).mustFallBack 0 (playFbk k.val) = true ∧
      (playFbk k.val).fbk = (k == 1)) ∧
    (plainStep (toQuarantined 1) 0 (playFbk 1).fbt ∧ ((toQuarantined 1).player[0]).followed ≤ 6) := by
  unfold inForce noWatch passEnds enterable plainStep
  decide +kernel

theorem wit_PlayAdvancesAndStops_bogged (k : Fin 2) :
    let s := withPlayer0 (loaded (playing [playFbk k.val, levelStep, levelStep] 0) seg1) fun x =>
      { x with lanes := x.lanes.set 0 { x.lanes[0] with bogged := true } }
    inForce s 0 .play ∧ noWatch s 0 ∧ (s.player[0]).fallback = false ∧ ¬passEnds s 0 ∧ 0 ∈ s.txn.live.lanes 0 ∧
      ((s.player[0]).lanes[(0 : Chan)]).bogged = true ∧ ((s.player[0]).lanes[(0 : Chan)]).held ≤
        min (((s.player[0]).pos + BitVec.ofNat 56 (s.stepOf 0).ratio).toNat / 2 ^ 24 + 4) (s.passLength (s.stepOf 0) - 1) ∧
      (s.stepOf 0).fbk = (k == 1) ∧ plainStep s 0 (s.stepOf 0).fbt ∧ (s.player[0]).followed < 8 := by
  unfold inForce noWatch passEnds plainStep
  revert k
  decide +kernel

/-! ## Witnesses: memory and ledger -/

/-- The block with DRAM, in a self-refresh stage. -/
def stageSr (st : SrStage) : State := { withDram with mem := { withDram.mem with sr := st } }

theorem wit_MemoryServiceRuns :
    (let s := { frameAt withDram 16383 with mem := { withDram.mem with scrubDue := 2000000000 } }
     serves s ∧ s.mem.squall = false ∧ s.scrubReady = true ∧ s.mem.isProbeLine (lineAt s.mem.scrubPos) = false) ∧
    (let s := { frameAt withDram 16383 with mem := { withDram.mem with scrubDue := 2000000000, scrubPos := 65534 } }
     s.scrubReady = true ∧ s.mem.isProbeLine (lineAt s.mem.scrubPos) = true ∧
       s.mem.scrubPos + 1 < s.mem.lineCount) ∧
    (let s := { frameAt withDram 16383 with mem := { withDram.mem with scrubDue := 2000000000, scrubPos := 536870911 } }
     s.scrubReady = true ∧ s.mem.isProbeLine (lineAt s.mem.scrubPos) = true ∧ s.mem.scrubbing = false ∧
       s.mem.lineCount ≤ s.mem.scrubPos + 1) ∧
    (withDram.mem.squall = false ∧ ∀ b : Fin 4, withDram.mem.targets 1 1 b.val = false) ∧
    (let s := { withDram with mem := { withDram.mem with squall := true } }
     s.mem.squall = true ∧ serves s ∧ (1 : Fin 2).val < s.mem.ranks ∧
       (∀ b : Fin 4, (s.mem.credit[rankSub 1 1])[b] < 4)) ∧
    (let s := { withDram with mem := { withDram.mem with squall := true, credit := Vector.replicate 4 (Vector.replicate 4 4) } }
     (s.mem.credit[rankSub 1 1])[(0 : Fin 4)] ≤ 4) ∧
    (let s := { withDram with mem := { withDram.mem with squall := true, credit := Vector.replicate 4 (Vector.replicate 4 5) } }
     s.mem.squall = true ∧ serves s ∧ 4 < (s.mem.credit[rankSub 1 1])[(0 : Fin 4)]) ∧
    8 ≤ ({ withDram with mem := { withDram.mem with scrubSlot := (0, 8) } } : State).scrubIssued.2 := by
  unfold serves
  decide +kernel

theorem wit_MemoryServiceRuns_selfRefresh :
    (let s := { stageSr .idleCount with mem := { (stageSr .idleCount).mem with srCount := 64 } }
     s.dramRuns = true ∧ s.srAllowed = true ∧ s.mem.sr = .idleCount ∧
       s.txn.live.params.dev.srIdle.toNat ≤ s.mem.srCount ∧ s.mem.merge = Vector.replicate 2 [] ∧ s.mem.mapDue = []) ∧
    ((stageSr .drain).dramRuns = true ∧ (stageSr .drain).srAllowed = true ∧ (stageSr .drain).mem.sr = .drain ∧
      (stageSr .drain).mem.waiting = [] ∧ (stageSr .drain).mem.mapDue = [] ∧
      ∀ k : Fin 2, (stageSr .drain).mem.reads[k] = [] ∧ (stageSr .drain).mem.writes[k] = [] ∧
        (stageSr .drain).mem.merge[k] = []) ∧
    (let s := { stageSr .committed with mem := { (stageSr .committed).mem with wakeDue := true } }
     s.dramRuns = true ∧ s.mem.sr = .committed ∧ s.mem.wakeDue = true) ∧
    ((stageSr .exit).dramRuns = true ∧ (stageSr .exit).mem.sr = .exit) := by
  decide +kernel

/-- The read-backs of a probe in which one device, lane 2, answers 0. -/
def oneFails : ProbeRead :=
  let bad (pattern : Byte) : Vector Byte 80 := Vector.ofFn fun i => if laneOf i = 2 then 0 else pattern
  { after55 := bad 0x55, afterAA := bad 0xAA }

theorem wit_ProbesAndLostDram :
    (let s := { withDram with mem := { withDram.mem with badLines := Vector.replicate 4 [lineAt 0, lineAt 1] } }
     serves s ∧ s.mem.probe = none ∧ (0 : Fin 2).val < s.mem.ranks ∧ s.mem.probeDue 0 1 = true) ∧
    (let s := { withDram with mem := { withDram.mem with probe := some (0, 1, 5) } }
     s.dramRuns = true ∧ s.mem.probe = some (0, 1, 5) ∧ s.mem.retired[(1 : Fin 2)] = none) ∧
    ProbeRead.failing { after55 := Vector.replicate 80 0x55, afterAA := Vector.replicate 80 0xAA } = [] ∧
    ProbeRead.failing oneFails = [2] ∧
    2 ≤ (ProbeRead.failing { after55 := Vector.replicate 80 0, afterAA := Vector.replicate 80 0 }).length ∧
    (withDram.coreRuns = true ∧ withDram.mem.fitted = true ∧ withDram.power.stage ≠ .dram ∧
      withDram.power.fault 33 = false) := by
  unfold serves
  decide +kernel

/-- The first line of segment 1. -/
def firstLine : LineAddr := { page := 65, line := 0 }

/-- A fetch of that line for lane 0 of player 0. -/
def fetchReq : MemReq := { port := .p0, addr := firstLine, owner := 1, asked := 0, read := some (.lane 0 0 0 0), tag := 0 }

/-- A read of that line admitted, and asked for by the lane. -/
def reading (r : MemReq) : State :=
  let s := withPlayer0 playsSegment fun x => { x with lanes := x.lanes.set 0 { x.lanes[0] with outstanding := true } }
  { s with mem := { s.mem with reads := s.mem.reads.set (subOf firstLine 1) [r] } }

/-- Nine wrong symbols, more than the code corrects. -/
def nineFlips : Flips := (List.finRange 80).take 9 |>.map fun i => (i, 1)

theorem wit_LineReadsAct :
    (serves (reading fetchReq) ∧ (reading fetchReq).mem.holds firstLine = true ∧
      (reading fetchReq).mem.admitted .p0 firstLine ((reading fetchReq).mem.pageKind firstLine.page).owner =
        some fetchReq ∧ fetchReq.read = some (.lane 0 0 0 0) ∧ (reading fetchReq).laneWaits fetchReq 0 0 0 0 0 = true) ∧
    ((reading fetchReq).mem.pageKind firstLine.page = .data 1 0 ∧ (reading fetchReq).mem.seg 1 = some seg1 ∧
      fetchReq.owner = 1 ∧ ((reading fetchReq).mem.readResult firstLine 1 nineFlips).outcome = .uncorrectable ∧
      (reading fetchReq).mem.bogEntry firstLine = none ∧ (reading fetchReq).mem.bog.length < Config.bogMax) ∧
    (reading fetchReq).mem.holds { page := 10000000, line := 0 } = false := by
  unfold serves
  decide +kernel

/-- A scrub read of that line. -/
def scrubReq : MemReq := { fetchReq with port := .p4, read := some .scrub }

/-- The read of a listed line at a retirement. -/
def rereadReq : MemReq := { scrubReq with read := some .reread }

/-- The entry of that line. -/
def firstBog : BogEntry :=
  { addr := firstLine, owner := 1, cause := .scrub, state := .active, tick := 0, first := 0, born := 0, slot := 0 }

/-- A line of the ring of stream 2, at page 70. -/
def ringLine : CapLine :=
  { input := 0, preset := 1, epoch := 0, words := List.replicate 32 0, born := 0, index := 3, got := false }

/-- Where that line lies. -/
def ringAddr : LineAddr := { page := 70, line := 3 }

/-- The read of that line. -/
def ringReq : MemReq := { port := .p3, addr := ringAddr, owner := 0, asked := 0, read := some (.ring 2), tag := 0 }

/-- Stream 2 with that line. -/
def ringed (s : State) (lines : List CapLine) : State :=
  let c := { Capture.initial with lines := lines, pages := [70], written := 4 }
  { s with mem := { s.mem with capture := s.mem.capture.set 2 c } }

theorem wit_LineReadsAct_others :
    (let s := reading rereadReq
     let s := { s with mem := { s.mem with bog := [firstBog] } }
     serves s ∧ s.mem.holds firstLine = true ∧
       s.mem.admitted .p4 firstLine (s.mem.pageKind firstLine.page).owner = some rereadReq ∧
       rereadReq.read = some .reread ∧ s.mem.bogEntry firstLine = some firstBog) ∧
    (let s := ringed withDram [ringLine]
     let s := { s with mem := { s.mem with reads := s.mem.reads.set (subOf ringAddr 0) [ringReq] } }
     serves s ∧ s.mem.holds ringAddr = true ∧ s.mem.pageKind ringAddr.page = .ring 2 ∧
       s.mem.admitted .p3 ringAddr 0 = some ringReq ∧ (s.mem.capture[(2 : Fin 8)]).lineAt ringAddr = some ringLine) := by
  unfold serves
  decide +kernel

theorem wit_LineReadsAct_scrub :
    ((reading scrubReq).mem.admitted .p4 firstLine ((reading scrubReq).mem.pageKind firstLine.page).owner = some scrubReq ∧
      (reading scrubReq).mem.erasureMode firstLine ((reading scrubReq).mem.pageKind firstLine.page).owner = false ∧
      (reading scrubReq).mem.scrubPos < (reading scrubReq).mem.lineCount) ∧
    (let s := { reading scrubReq with mem := { (reading scrubReq).mem with scrubPos := 536870912 } }
     s.mem.lineCount ≤ s.mem.scrubPos ∧ (s.finishRead scrubReq).mem.scrubbing = false) := by
  decide +kernel

/-- A whole line in the merge buffer. -/
def wholeLine : Merge :=
  { addr := firstLine, owner := 1, data := Vector.replicate 64 7, mask := BitVec.allOnes 64, since := 0, repair := false
    map := false }

theorem wit_MergeFlushWritesLine :
    let s := { playsSegment with mem := { playsSegment.mem with merge := playsSegment.mem.merge.set (subOf firstLine 1) [wholeLine] } }
    serves s ∧ s.memoryCanonical ∧ s.mem.squall = false ∧
      (s.mem.merge[subOf firstLine 1]).find? (s.flushDue (subOf firstLine 1)) = some wholeLine ∧
      wholeLine.repair = false ∧ wholeLine.map = false ∧ wholeLine.mask = BitVec.allOnes 64 ∧
      s.mem.onSpare wholeLine.addr wholeLine.owner = false := by
  unfold serves State.memoryCanonical
  decide +kernel

theorem wit_MergeFlushWritesLine_partial :
    let e := { wholeLine with mask := 255 }
    let full := List.replicate 16 e
    let s := { playsSegment with mem := { playsSegment.mem with merge := playsSegment.mem.merge.set (subOf firstLine 1) full } }
    let s := { s with clock := { s.clock with clk := 16384 } }
    serves s ∧ s.mem.squall = false ∧ (s.mem.merge[subOf firstLine 1]).find? (s.flushDue (subOf firstLine 1)) = some e ∧
      e.repair = false ∧ e.mask ≠ BitVec.allOnes 64 ∧ s.mem.admitted .p2 e.addr e.owner = none ∧
      s.mem.mergeRead e = false := by
  unfold serves
  decide +kernel

/-- The ledger with an operation that runs. -/
def flashRuns (s : State) (op : LedgerOp) : State :=
  { s with ledger := { s.ledger with op := some op, compacting := true, retryTicks := 64 } }

theorem wit_LedgerFlashRuns :
    (up.coreRuns = true ∧ up.power.fault 27 = false) ∧
    ((flashRuns up (.tally 3 5 7)).ledger.op = some (.tally 3 5 7) ∧ 5 < 7 ∧
      (flashRuns up .header).ledger.op = some .header ∧ (flashRuns up .header).ledger.compacting = true ∧
      (flashRuns up (.record 4)).ledger.op = some (.record 4) ∧ (flashRuns up .commit).ledger.op = some .commit) ∧
    ((flashRuns up (.again 1)).ledger.op = some (.again (flashRuns up (.again 1)).ledger.other) ∧
      (flashRuns up (.again 0)).ledger.op = some (.again (flashRuns up (.again 0)).ledger.live)) ∧
    ((flashRuns up (.erase 0)).ledger.op = some (.erase 0) ∧ (flashRuns up (.erase 0)).ledger.compacting = true) ∧
    (let s := flashRuns up (.erase 7)
     let s := { s with ledger := { s.ledger with sectors := 7 } }
     s.ledger.op = some (.erase 7) ∧ s.ledger.sectors + 1 = 8) ∧
    (let s := flashRuns (faulty up 0x8000000) .header
     s.coreRuns = true ∧ s.power.fault 27 = true ∧ s.ledger.op.isSome = true ∧ 64 ≤ s.ledger.retryTicks) := by
  decide +kernel

theorem wit_CountsNeverPassFlash :
    let s := { slotAt 600 ((up.chanParams 0).gain) false false with pending := [.engineSlot 0] }
    countsCovered s ∧ (match step s with
      | .next t => t.ledger.count[excRecord (up.railOf 0)] == s.ledger.count[excRecord (up.railOf 0)] + 1
      | _ => false) = true := by
  refine ⟨fun i => ?_, by decide +kernel⟩
  have zero : ∀ j : Fin 128, Ledger.initial.count[j] = 0 := by decide
  exact (zero i).le.trans (Nat.zero_le _)

theorem wit_CountsNeverPassFlash_bases :
    let s := flashRuns up (.erase 7)
    let s := { s with ledger := { s.ledger with sectors := 7 } }
    s.coreRuns = true ∧ s.power.fault 27 = false ∧ s.ledger.op = some (.erase 7) ∧ s.ledger.compacting = true ∧
      s.ledger.sectors = 7 ∧ s.ledger.count = up.ledger.count ∧ s.ledger.region = up.ledger.region := by decide +kernel

/-! ## Witnesses: calibration, sensor, straps -/

/-- The weights of the worked case of chapter 11, less 1,024. -/
def drv17 : List Int := [6, 4, 3, 2, 1, 0, -1, -2, -3, -4, -5, 8, -7, 200, -1000, 2, -2, 5]

/-- Its readings, over a zero of 0 and a ladder on its goal. -/
def drv17Readings : CalReadings :=
  { items := Vector.ofFn fun k => if 2 ≤ k.val ∧ k.val < 20 then 1024 + drv17.getD (k.val - 2) 0 else if k.val = 22 then 1008 else 0
    rsetOhm := 0 }

theorem test_units_of_DRV17 :
    (Channel.calibrated 0 drv17Readings Channel.initial).positions = [5, 6, 4, 7, 3, 16, 15, 8, 2, 9, 1, 10, 17, 12, 0] ∧
    (Channel.calibrated 0 drv17Readings Channel.initial).badUnits = 0x6000 := by decide +kernel

/-- A channel driven at nominal under the gain of channel 0. -/
def driven0 : Channel :=
  let gain := (up.chanParams 0).gain
  { Channel.initial with released := false, gainHeld := gain, gainNext := gain }

/-- Row 8 due, channel 0 driven at nominal, and 4,096 ticks since the last start. -/
def rotating : State :=
  let s := due { up with chan := up.chan.set 0 driven0 }
    { Due.none with calibration := true }
  { s with cal := { s.cal with since := 4096 }, power := { s.power with powerUp := false } }

/-- The item that calibration has taken. -/
def itemAt (ticks : Nat) (checked : Bool) : CalItem := { chan := 0, kind := .background, ticks := ticks, checked := checked }

/-- Readings in which every unit weighs `w` codes. -/
def readingsOf (w : Int) : CalReadings := { items := Vector.ofFn fun k => if 2 ≤ k.val then w else 0, rsetOhm := 4990 }

theorem wit_CalibrationRuns :
    up.txn.due.calibration = false ∧
    (rotating.txn.due.calibration = true ∧ rotating.cal.pass = none ∧ rotating.returnedBank = none ∧
      rotating.isUp = true ∧ rotating.power.powerUp = false ∧ rotating.txn.live.mode = 0 ∧
      rotating.clock.frame = 0 ∧ rotating.power.isGood .ref = true ∧ (frameAt up 1).clock.frame ≠ 0 ∧
      rotating.txn.live.params.dev.calInterval ≠ 0 ∧
      rotating.txn.live.params.dev.calInterval.toNat ≤ rotating.cal.since ∧ rotating.cal.item = none ∧
      rotating.sense.trimming.toList.any id = false ∧ rotating.rotation.find? rotating.itemEligible = some 0) ∧
    (let s := { up with cal := { up.cal with item := some (itemAt 0 false) } }
     s.cal.item = some (itemAt 0 false) ∧ (itemAt 0 false).checked = false) ∧
    (let s := { up with cal := { up.cal with item := some (itemAt 2 true) } }
     s.cal.item = some (itemAt 2 true) ∧ (itemAt 2 true).checked = true ∧ 2 ≤ (itemAt 2 true).ticks ∧
       (goodUnits (readingsOf 900) (s.chan[(itemAt 2 true).chan]).badUnits).length < 15 ∧
       15 ≤ (goodUnits (readingsOf 1024) (s.chan[(itemAt 2 true).chan]).badUnits).length) ∧
    (let s := { up with
       clock := { up.clock with clk := 16384 }, sense := { up.sense with trimming := Vector.replicate 4 true } }
     s.trimOver (2 : Bank) = true) := by decide +kernel

/-- A junction, in quarters of a degree, that the thermal rules have not judged. -/
def heated (q : Int) : State := { up with power := { up.power with junction := q } }

theorem wit_ThermalAndStrapWindows :
    up.sensorReads = true ∧
    (∀ k : Fin 3, let s := heated ([479, 480, 500].getD k.val 0)
      s.pending = [] ∧ s.txn.due = Due.none ∧ s.clock.frame + 1 < 16384 ∧ s.power.junctionActs ≠ s.power.junction) ∧
    ((heated 500).power.junction = 500 ∧ (heated 499).power.junction < 500 ∧ (heated 480).inReset = false ∧
      (heated 479).power.junction < 480) ∧
    (frameAt up 1).sensorReads = false ∧ (up.coreRuns = true ∧ (frameAt up 123).endsWindow 3 = true) ∧
    up.endsWindow 3 = false := by
  decide +kernel

/-! ## Witnesses: the content port -/

/-- The port with its link up. -/
def linked : State := { up with port := { up.port with linkUp := true } }

/-- A state 8,192 ticks after it began. -/
def late (s : State) : State := { s with clock := { s.clock with clk := 2 ^ 27 } }

/-- The port with a stream in its buffer. -/
def streaming (s : State) (bytes : List Byte) : State :=
  { s with port := { s.port with linkUp := true, stream := bytes } }

/-- A frame to the broadcast address with an EtherType, padded to 64 bytes with its FCS. -/
def frameOf (type : List Byte) (rest : List Byte) : List Byte :=
  broadcastMac ++ [2, 0, 0, 0, 0, 1] ++ type ++ rest ++ List.replicate (46 - rest.length) 0

/-- The header of a content frame (Table 13.2) with a payload. -/
def contentOf (flags off : Nat) (payload : List Byte) : List Byte :=
  frameOf [0x88, 0xB5] ([1, 0] ++ leBytes 1 flags ++ [0] ++ leBytes 4 off ++ leBytes 2 payload.length ++ [0, 0] ++ payload)

theorem wit_PortFollowsLinkAndFrames_link :
    (let s := late (faulty up 0x800)
     s.coreRuns = true ∧ s.power.isGood .cport = true ∧ s.power.fault 11 = true ∧
       s.port.goodAt + 16384 ≤ s.clock.clk) ∧
    (linked.portRuns = true ∧ linked.port.linkUp = true) ∧ up.port.pauseEnd ≤ up.clock.clk ∧
    (let s := { up with port := { up.port with pauseEnd := 1 } }
     s.clock.clk < s.port.pauseEnd) ∧
    (let s := streaming (late up) [0x10]
     s.portRuns = true ∧ s.port.lastByte + 64 * 16384 ≤ s.clock.clk ∧ s.port.partialRecord = true) := by decide +kernel

theorem wit_PortFollowsLinkAndFrames :
    linked.frameRow (contentOf 1 0 [5]) false = .malformed ∧
    linked.frameRow (frameOf [0x88, 0x08] [0, 2]) true = .otherControl ∧
    linked.frameRow (frameOf [0x08, 0x00] []) true = .otherType ∧
    linked.frameRow (contentOf 2 0 [5]) true = .badHeader ∧
    linked.frameRow (List.replicate 60 7) true = .notForUs ∧
    linked.frameRow (frameOf [0x88, 0x08] [0, 1, 0xFF, 0xFF]) true = .pause 0xFFFF ∧
    linked.frameRow (contentOf 1 0 [5]) true = .accept ∧
    (fieldAt (contentOf 1 0 [5]) 16 1 = 1 ∧ linked.port.partialRecord = false) ∧
    ((streaming up [0x10]).frameRow (contentOf 1 0 [5]) true = .accept ∧
      (streaming up [0x10]).port.partialRecord = true) ∧
    (let s := { linked with port := { linked.port with expect := some 9 } }
     s.frameRow (contentOf 0 9 [5]) true = .accept ∧ fieldAt (contentOf 0 9 [5]) 16 1 ≠ 1 ∧
       s.port.expect = some (BitVec.ofNat 32 (fieldAt (contentOf 0 9 [5]) 18 4)) ∧
       s.port.expect ≠ some (BitVec.ofNat 32 (fieldAt (contentOf 0 10 [5]) 18 4))) := by decide +kernel

theorem frameRow_overflow (fr l : List Byte) (h1 : fr.length = 60) (h2 : fr.take 6 = broadcastMac)
    (h3 : beNat (slice fr 12 2) = 0x88B5) (h4 : frameHeaderBad fr = false)
    (h5 : Config.bufferSize < l.length + framePlen fr) : (streaming up l).frameRow fr true = .overflow := by
  have h6 : Config.bufferSize < (streaming up l).port.stream.length + framePlen fr := h5
  unfold State.frameRow
  simp [h1, h2, h3, h4, h6]

theorem wit_PortFollowsLinkAndFrames_overflow :
    (streaming up (List.replicate 262144 0)).frameRow (contentOf 1 0 [5]) true = .overflow := by
  have hp : framePlen (contentOf 1 0 [5]) = 1 := by decide +kernel
  exact frameRow_overflow _ _ (by decide +kernel) (by decide +kernel) (by decide +kernel) (by decide +kernel)
    (by rw [hp, List.length_replicate]; exact Nat.lt_succ_self _)

/-! ## Witnesses: records -/

/-- The straps of a sealed device. -/
def sealedOf (s : State) : State := { s with power := { s.power with straps := s.power.straps.set 1 13 } }

/-- A BASE record whose instance does not exist. -/
def badBase : List Byte := record 0x10 0 (leBytes 2 0x0101 ++ [9, 0] ++ leBytes 8 0)

theorem wit_ConfigRecordsReachShadow_command : configCommand (.base baseRecord) 0x10 baseRecord := .inl ⟨rfl, rfl⟩

theorem wit_ConfigRecordsReachShadow :
    (let s := inTxn (streaming up baseRecord) .opened
     soundRecord s .afterBringUp 0x10 baseRecord ∧ s.tagOk baseRecord = true ∧ s.txn.state = .opened ∧
       s.txn.shadow = some s.txn.boot ∧ structureOk baseRecord (some s.txn.boot) = true) ∧
    (let s := streaming up baseRecord
     soundRecord s .afterBringUp 0x10 baseRecord ∧ s.txn.state ≠ .opened ∧ structureOk baseRecord none = true) ∧
    (let s := sealedOf (streaming up baseRecord)
     soundRecord s .afterBringUp 0x10 baseRecord ∧ s.tagOk baseRecord = false ∧ s.tel.events.length < 2048) ∧
    (let s := inTxn (streaming up badBase) .opened
     soundRecord s .afterBringUp 0x10 badBase ∧ s.tagOk badBase = true ∧
       structureOk badBase (some s.txn.boot) = false) := by
  unfold soundRecord
  decide +kernel

/-- The HEADER of an image of `ilen` bytes and two records. -/
def headerRecord (ilen flags : Nat) : List Byte :=
  record 0x01 0 (leBytes 4 0x3158524C ++ leBytes 2 1 ++ leBytes 2 0x6410 ++ leBytes 1 0 ++ leBytes 1 flags ++ [0, 0] ++
    leBytes 4 ilen ++ leBytes 4 2 ++ leBytes 4 0)

/-- IMAGE with the flash known. -/
def inImage : State :=
  { at_ .image with power := { powerAt .image with flashAddr := some .dedicated, flashMbit := 256 } }

/-- IMAGE with the HEADER read. -/
def afterHeader (ilen flags : Nat) (complete : Bool) (bytes : List Byte) : State :=
  { inImage with port := { inImage.port with image :=
      { ImageRead.initial with
        started := true, ilen := ilen, nrec := 2, sealedFlag := flags == 1, bytes := bytes, records := 1
        built := some inImage.txn.boot, complete := complete } } }

theorem wit_ImageAndKeyRecords_header :
    soundRecord inImage .flashImage 1 (headerRecord 56 0) ∧ Place.flashImage.inImage = true ∧
      inImage.port.image.started = false ∧ inImage.headerFault .flashImage (headerRecord 56 0) = none := by
  unfold soundRecord
  decide +kernel

theorem wit_ImageAndKeyRecords_end :
    (let s := afterHeader 56 0 false (headerRecord 56 0)
     soundRecord s .flashImage 2 (record 2 0 []) ∧ s.port.image.started = true ∧
       s.port.image.bytes.length + (record 2 0 []).length = s.port.image.ilen ∧ recIndex (record 2 0 []) = 0 ∧
       s.port.image.records + 1 = s.port.image.nrec ∧ s.port.image.segments = [] ∧ s.power.sealOn = false) ∧
    (let s := sealedOf (afterHeader 88 1 false (headerRecord 88 1))
     let r := record 2 0 (List.replicate 32 0)
     soundRecord s .flashImage 2 r ∧ s.port.image.bytes.length + r.length = s.port.image.ilen ∧
       s.power.sealOn = true) := by
  unfold soundRecord
  decide +kernel

/-- A sealed image read to its end, with a tag of 32 bytes, under a key. -/
def readToEnd (key : Option (List Byte)) (tag : List Byte) : State :=
  let s := sealedOf (afterHeader 40 1 true (List.replicate 4 0 ++ tag ++ List.replicate 4 0))
  { s with power := { s.power with key := key } }

/-- A key. -/
def someKey : List Byte := List.replicate 32 1

theorem wit_ImageAndKeyRecords_seal :
    (let s := readToEnd (some someKey) (hmac someKey (List.replicate 4 0))
     s.power.stage = .image ∧ s.power.sealOn = true ∧ s.port.image.complete = true ∧
       s.power.tagOf (s.port.image.bytes.take (s.port.image.ilen - 36)) =
         some (slice s.port.image.bytes (s.port.image.ilen - 36) 32)) ∧
    (let s := readToEnd none []
     s.power.stage = .image ∧ s.power.sealOn = true ∧ s.port.image.complete = true ∧
       s.power.tagOf (s.port.image.bytes.take (s.port.image.ilen - 36)) ≠
         some (slice s.port.image.bytes (s.port.image.ilen - 36) 32)) := by decide +kernel

/-- A PROVISION record of the key. -/
def keyRecord : List Byte := record 0x03 0 (someKey ++ kcvOf someKey ++ List.replicate 8 0)

theorem wit_ImageAndKeyRecords_key :
    let s := streaming { at_ .provision with power := { powerAt .provision with straps := standaloneStraps.set 1 11 } } keyRecord
    soundRecord s .provisioning 3 keyRecord ∧ s.power.stage = .provision ∧ structureOk keyRecord none = true ∧
      kcvOf (slice (recBody keyRecord) 0 32) = slice (recBody keyRecord) 32 8 ∧
      kcvOf (slice (someKey ++ kcvOf someKey) 0 32) = slice (someKey ++ kcvOf someKey) 32 8 := by
  unfold soundRecord
  decide +kernel

/-- A chunk that starts segment 1, of six samples. -/
def startChunk : List Byte :=
  record 0x30 1 ([1, 0, 0, 0] ++ leBytes 4 0 ++ leBytes 4 6 ++ leBytes 4 6 ++ List.replicate 8 0)

theorem wit_SegmentsLoadAndExpire :
    (let s := streaming withDram startChunk
     let c := chunkOf startChunk
     soundRecord s .afterBringUp 0x30 startChunk ∧ s.tagOk startChunk = true ∧ structureOk startChunk none = true ∧
       s.txn.state = .idle ∧ s.dramUsable = true ∧ s.p2Open = true ∧
       s.mem.merge = Vector.replicate 2 [] ∧ c.ns ≤ 768 ∧ s.mem.seg c.id = none ∧
       c.start = true ∧ c.ns ≤ c.len ∧ c.ns = c.len ∧
       ((s.mem.request.putSeg (beginSegment c false)).grow 8 (beginSegment c false) ((c.ns + 49151) / 49152)).isSome = true) ∧
    (let g := { seg1 with state := .loading, rcvd := 48 }
     let s := loaded (late up) g
     s.coreRuns = true ∧ s.mem.seg 1 = some g ∧ g.state = .loading ∧ g.lastChunk + 4096 * 16384 + s.clock.frame ≤ s.clock.clk ∧
       s.tel.events.length < 2048) ∧
    (let g := { seg1 with state := .quarantined, rcvd := 48 }
     g.state = .quarantined ∧ g.rcvd < g.len) := by
  unfold soundRecord
  decide +kernel

/-! ## Witnesses: telemetry -/

/-- Telemetry with something queued. -/
def queued (f : Telemetry → Telemetry) : State := { linked with tel := f linked.tel }

/-- An outcome, an event, a result, a Bog entry and a capture line. -/
def someOutcome : OutcomeEntry := { code := 0, txid := 0, obj := noObj, epoch := 0, pin := 0, mask := 0 }
/-- An event. -/
def someEvent : EventEntry := { code := 2, sub := 0, obj := 0, epoch := 0, data := 0 }
/-- A detector result. -/
def someResult : DetResult :=
  { input := 0, taint := false, timeout := false, met := false, i := 1330, q := -768, mag := 1536, ph := 0xEAAA, n := 4
    epoch := 0 }
/-- A Bog entry. -/
def someBog : BogEntry :=
  { addr := firstLine, owner := 1, cause := .scrub, state := .active, tick := 0, first := 0, born := 0, slot := 0 }
/-- A capture line one tick old. -/
def someLine : CapLine := { input := 0, preset := 1, epoch := 0, words := List.replicate 32 0, born := 0, index := 0, got := false }

/-- A body that was frozen. -/
def someFrozen : Frozen := { epoch := 7, body := [1, 2, 3] }

theorem wit_TelemetryGoesOut :
    (let s := queued fun t => { t with outcomes := [someOutcome] }
     s.mayEmit 1 = true ∧ s.tel.outcomes ≠ []) ∧
    (let g := { seg1 with state := .quarantined }
     let s := loaded (queued fun t => { t with wanted := [1] }) g
     s.mem.seg 1 = some g ∧ g.state = .quarantined ∧ s.mayEmit 2 = true ∧ s.tel.wanted.contains 1 = true) ∧
    (let s := queued fun t => { t with bogChanges := [someBog] }
     s.mayEmit 3 = true ∧ s.tel.bogChanges ≠ []) ∧
    (let s := queued fun t => { t with status := some someFrozen }
     s.tel.status = some someFrozen ∧ s.mayEmit 4 = true) ∧
    (∀ l : Bool, let s := due linked { Due.none with calibration := true, status := true, ledger := l }
      s.clock.frame = 0 ∧ s.txn.due.calibration = true ∧ s.txn.due.status = true ∧ s.txn.due.ledger = l) ∧
    (let s := queued fun t => { t with events := [someEvent], eventsDue := 1 }
     s.mayEmit 5 = true ∧ s.eventReady = true) ∧
    (let s := queued fun t => { t with ledger := some someFrozen }
     s.tel.ledger = some someFrozen ∧ s.mayEmit 6 = true) ∧
    (let s := queued fun t => { t with results := [someResult], resultsDue := 1 }
     s.mayEmit 7 = true ∧ s.detectorReady = true) := by decide +kernel

theorem wit_TelemetryGoesOut_capture :
    (let s := late (ringed linked [someLine])
     s.mayEmit 8 = true ∧ s.captureReady 2 = true ∧ s.dramDown = false ∧
       (∃ l ∈ (s.mem.capture[(2 : Fin 8)]).lines.take 127, l.got = false) ∧ s.mem.waiting = [] ∧
       ∀ j : Fin 2, s.mem.reads[j] = []) ∧
    (let s := late (ringed linked [{ someLine with got := true }])
     s.mayEmit 8 = true ∧ s.captureReady 2 = true ∧ s.dramDown = false ∧
       ∀ l ∈ (s.mem.capture[(2 : Fin 8)]).lines.take 127, l.got = true) ∧
    (stageSr .idleCount).mem.sr = .idleCount ∧ (stageSr .committed).mem.sr = .committed := by decide +kernel

theorem wit_TestPortReachesNothing : (at_ .rstLow).rstLow = true ∧ up.rstLow = false := by decide

end Sys2Proof.Tests
end

section
/-! PROOFS. Part 1 of the rules: the rail contract. -/

namespace Sys2Proof.Machine

/-! ## Release against retreat -/

/-- The analogue stage of a released channel takes the live gain at once (R254). -/
@[simp] theorem Channel.release_gainHeld (g : BitVec 1) (c : Channel) : (c.release g).gainHeld = g := rfl

/-- A release ends a switch window (R254). -/
@[simp] theorem Channel.release_window (g : BitVec 1) (c : Channel) : (c.release g).window = false := rfl

/-- A retreat that comes to a released channel changes nothing of it (R12). -/
theorem Channel.retreat_of_released {c : Channel} (hc : c.released = true) (r : BitVec 9) (k : Nat) : c.retreat r k = c :=
  if_pos hc

/-- A channel that the release names. -/
theorem State.release_get_of_named (s : State) {who : Chan → Bool} {n : Chan} (hn : who n = true) :
    (s.release who).chan[n] = (s.chan[n]).release (s.txn.live.params.chan[n]).gain := by
  rw [State.release_get, if_pos hn]

/-- A retreat of the state leaves a released channel as it was, named or not (R12). -/
theorem State.retreat_get_of_released {s : State} {n : Chan} (hr : (s.chan[n]).released = true) (who : Chan → Bool) :
    (s.retreat who).chan[n] = s.chan[n] := by
  rw [State.retreat_get]
  split
  · exact Channel.retreat_of_released hr _ _
  · rfl

/-- Settles O11: a released channel is deaf to a retreat that follows the release, and a release that follows a retreat
ends it; the clauses of R254 are the fields of a released channel. -/
theorem releaseWins : Obligations.ReleaseWins := by
  intro s releases retreats n hn
  have hrel (t : State) := t.release_get_of_named hn
  have hkept : ((s.release releases).retreat retreats).chan[n] = (s.release releases).chan[n] :=
    State.retreat_get_of_released (by simp [hrel]) retreats
  rw [hkept, hrel s, hrel (s.retreat retreats)]
  simp

end Sys2Proof.Machine
end

section
/-! PROOFS. Part 3 of the rules: balls and straps. -/

namespace Sys2Proof.Machine

/-! ## The test logic under RST_N -/

/-- The boundary-scan instructions under which the cells drive the outputs while RST_N is low (R101). -/
def TapInstr.drives : TapInstr → Bool
  | .extest | .extestPulse | .extestTrain | .clamp => true
  | .bypass | .idcode | .samplePreload | .highz => false

/-- HIGHZ lets the outputs go: no instruction both drives and floats them. -/
theorem TapInstr.ne_highz_of_drives {ir : TapInstr} (h : ir.drives = true) : ir ≠ .highz := by
  rintro rfl
  exact absurd h (by decide)

@[simp] theorem Tap.settle_driving (t : Tap) (low : Bool) : (t.settle low).driving = (t.ir.drives && low) := by
  unfold Tap.settle
  cases t.ir <;> rfl

@[simp] theorem Tap.settle_hiZ (t : Tap) (low : Bool) : (t.settle low).hiZ = (low && t.ir == .highz) := rfl

/-! ## An instruction put in force -/

@[simp] theorem State.putIr_tap (s : State) (ir : TapInstr) (dr : BitVec 32) :
    (s.putIr ir dr).tap = { s.tap with ir := ir, dr := dr }.settle s.rstLow := rfl

/-- A write to the test logic reaches no device function (R102). -/
theorem State.setTap_moves (s : State) (t : Tap) : s.onlyMoves { s with tap := t } [.tap] := by
  intro p hp
  cases p <;> simp_all [State.agree]

theorem State.putIr_moves (s : State) (ir : TapInstr) (dr : BitVec 32) : s.onlyMoves (s.putIr ir dr) [.tap] :=
  s.setTap_moves _

/-! ## The instructions that drive the cells -/

/-- With RST_N high, the shifted levels are lost, as under BYPASS (R101). -/
theorem State.driveCells_tap (s : State) (ir : TapInstr) (cells : List Bool) :
    (s.driveCells ir cells).tap =
      { (s.putIr ir 0).tap with cells := if s.rstLow = true then cells else s.tap.cells } := by
  unfold State.driveCells
  split <;> rfl

theorem State.driveCells_moves (s : State) (ir : TapInstr) (cells : List Bool) :
    s.onlyMoves (s.driveCells ir cells) [.tap] := by
  unfold State.driveCells
  split
  · exact s.setTap_moves _
  · exact s.putIr_moves ir 0

/-- The three EXTEST instructions move the cells, each under an instruction that drives them. -/
theorem exec_extest_drives (s : State) {c : Instr} {cells : List Bool}
    (hc : c = .extest cells ∨ c = .extestPulse cells ∨ c = .extestTrain cells) :
    ∃ ir : TapInstr, ir.drives = true ∧ exec c s = .next (s.driveCells ir cells) := by
  rcases hc with rfl | rfl | rfl
  · exact ⟨.extest, rfl, rfl⟩
  · exact ⟨.extestPulse, rfl, rfl⟩
  · exact ⟨.extestTrain, rfl, rfl⟩

/-! ## The test access port reaches no device function -/

/-- Settles O60: every instruction writes the test logic alone, and what it drives or floats is what `Tap.settle` allows
under RST_N. -/
theorem testPortReachesNothing : Obligations.TestPortReachesNothing := by
  refine ⟨fun s => ⟨?bypass, ?idcode, ?trstNLow, ?clamp, ?highz⟩, fun s cells => ?preload, fun s c cells hc => ?extest⟩
  case bypass => exact ⟨s.putIr .bypass 0, rfl, rfl, rfl, by simp, s.putIr_moves _ _⟩
  case idcode => exact ⟨s.putIr .idcode 0x1641016B, rfl, rfl, rfl, rfl, by simp, s.putIr_moves _ _⟩
  case trstNLow => exact ⟨s.putIr .idcode 0x1641016B, rfl, rfl, by simp, s.putIr_moves _ _⟩
  case clamp => exact ⟨s.putIr .clamp 0, rfl, rfl, by simp, rfl, s.putIr_moves _ _⟩
  case highz => exact ⟨s.putIr .highz 0, rfl, rfl, by simp, rfl, s.putIr_moves _ _⟩
  case preload => exact ⟨_, rfl, rfl, rfl, by simp, s.setTap_moves _⟩
  case extest =>
    obtain ⟨ir, hdrives, hexec⟩ := exec_extest_drives s hc
    have hne := TapInstr.ne_highz_of_drives hdrives
    exact ⟨s.driveCells ir cells, hexec, by simp [State.driveCells_tap, hdrives],
      by simp [State.driveCells_tap, hne], by rw [State.driveCells_tap], s.driveCells_moves ir cells⟩

end Sys2Proof.Machine
end

section
/-! PROOFS. Part 4 of the rules: bring-up. -/

namespace Sys2Proof.Machine

/-! ## What the filter of RST_N accepts -/

theorem State.resetActs_of_short (s : State) {ns : Nat} (h : ns < 100) : s.resetActs ns = (false, s) := if_pos h

theorem State.resetActs_of_long (s : State) {ns : Nat} (h : 300 ≤ ns) : s.resetActs ns = (true, s) := by
  have hshort : ¬ ns < 100 := by omega
  rw [State.resetActs, if_neg hshort, if_pos h]

/-! ## The pins in a stage -/

/-- The status pins show the stage that begins (R110). -/
theorem State.enterStage_st (s : State) (st : Stage) :
    (s.enterStage st).pins.st = { s with power := { s.power with stage := st, mkCode := st.code } }.stCode := rfl

@[simp] theorem State.enterStage_straps (s : State) (st : Stage) : (s.enterStage st).power.straps = s.power.straps := rfl

/-- RDY_N is released while bring-up is not complete (R171). -/
theorem State.rdyLow_of_not_done {s : State} (h : s.power.stage ≠ .done) : s.rdyLow = false := by
  simp [State.rdyLow, State.isUp, h]

/-- FLT_N is low in failure (R130). -/
theorem State.fltLow_of_failed {s : State} {cause : Byte} (h : s.power.stage = .failed cause) : s.fltLow = true := by
  simp [State.fltLow, h]

/-- FLT_N is released while RST_N is low (Table 3.7). -/
theorem State.fltLow_of_rstLow {s : State} (h : s.power.stage = .rstLow) : s.fltLow = false := by
  simp [State.fltLow, h]

@[simp] theorem State.failBringUp_mkCode (s : State) (cause : Byte) : (s.failBringUp cause).power.mkCode = cause := rfl
@[simp] theorem State.failBringUp_st (s : State) (cause : Byte) : (s.failBringUp cause).pins.st = 7 := rfl

/-! ## A reset of every domain but LINK -/

/-- A reset of the core releases every output (R15, R90). -/
theorem State.coreReset_allReleased (s : State) : s.coreReset.allReleased := by
  intro n
  have hreset : s.coreReset.chan[n] = (s.chan[n]).reset := mapAll_get _ _ _
  rw [hreset]
  rfl

/-- What the filter's acceptance of a low RST_N leaves: the core is reset, the drifts of the tick are dropped, the boundary
cells may drive, and RTR_N is let go (R90, R101, R175). -/
def State.pinReset (s : State) : State :=
  let held := s.coreReset.enterStage .rstLow
  { held with
    power := { held.power with drifted := Vector.replicate 8 false }
    tap := s.tap.settle true
    pins := { held.pins with rtrDrive := false } }

@[simp] theorem State.pinReset_stage (s : State) : s.pinReset.power.stage = .rstLow := rfl
@[simp] theorem State.pinReset_st (s : State) : s.pinReset.pins.st = 0 := rfl
@[simp] theorem State.pinReset_rtrDrive (s : State) : s.pinReset.pins.rtrDrive = false := rfl
@[simp] theorem State.pinReset_txn (s : State) : s.pinReset.txn = Txn.initial (defaultImage s.power.straps) := rfl
@[simp] theorem State.pinReset_mem (s : State) : s.pinReset.mem = { Mem.initial with cells := s.mem.cells } := rfl

theorem State.pinReset_allReleased (s : State) : s.pinReset.allReleased := s.coreReset_allReleased

theorem State.pinReset_rdyLow (s : State) : s.pinReset.rdyLow = false := State.rdyLow_of_not_done (by simp)

theorem State.pinReset_fltLow (s : State) : s.pinReset.fltLow = false := State.fltLow_of_rstLow s.pinReset_stage

/-- What stands outside the reset: the latched straps and the drift fault, the supplies, the one-time cells, the flash, the
memory's bytes and the LINK domain (R90, R133). -/
theorem State.pinReset_keeps (s : State) :
    s.pinReset.power.straps = s.power.straps ∧ s.pinReset.power.strapsLatched = s.power.strapsLatched ∧
      s.pinReset.power.driftLatched = s.power.driftLatched ∧ s.pinReset.power.good = s.power.good ∧
      s.pinReset.power.key = s.power.key ∧ s.pinReset.power.kcv = s.power.kcv ∧
      s.pinReset.ledger.region = s.ledger.region ∧ s.pinReset.mem.cells = s.mem.cells ∧
      s.pinReset.chain = s.chain.keepLink :=
  ⟨rfl, rfl, rfl, rfl, rfl, rfl, rfl, rfl, rfl⟩

theorem exec_rstNLow_of_long {s : State} {ns : Nat} (hlong : 300 ≤ ns) (hpowered : s.power.stage ≠ .reset) :
    exec (.rstNLow ns) s = .next s.pinReset := by
  change execRstNLow ns s = _
  simp only [execRstNLow, s.resetActs_of_long hlong]
  rw [if_pos (by simpa using hpowered)]
  rfl

theorem exec_rstNLow_of_short (s : State) {ns : Nat} (hshort : ns < 100) : exec (.rstNLow ns) s = .next s := by
  change execRstNLow ns s = _
  simp only [execRstNLow, s.resetActs_of_short hshort, Bool.false_and, Bool.false_eq_true, if_false]

/-! ## The rise of RST_N -/

/-- The three ends of a rise that finds codes latched: a drift fault comes before the codes' validity (R97, R99, R133). -/
theorem exec_rstNRise_of_latched {s : State} (hlow : s.power.stage = .rstLow) (hlatched : s.power.strapsLatched = true) :
    exec .rstNRise s = .next
      (let risen := { s with tap := s.tap.settle false }
       if s.power.driftLatched then risen.failBringUp 0x8A
       else if !s.power.strapsValid then risen.failBringUp 0x89 else risen.enterStage .supply) := by
  change execRstNRise s = _
  simp only [execRstNRise, if_pos hlow, hlatched, Bool.not_true, Bool.false_eq_true, if_false]
  split
  · rfl
  · split <;> rfl

/-- Settles O15: an accepted low pulse leaves `State.pinReset`, and a rise takes the end that the latched straps and the
drift fault choose. -/
theorem resetPin : Obligations.ResetPin := by
  refine ⟨fun s ns hlong hpowered => ?accepted, fun s ns hshort => exec_rstNLow_of_short s hshort,
    fun s hlow hlatched hdrift hvalid => ?begins, fun s hlow hlatched hdrift => ?fails⟩
  case accepted =>
    obtain ⟨hidle, hshadow⟩ : s.pinReset.txn.state = .idle ∧ s.pinReset.txn.shadow = none := by simp [Txn.initial]
    have hsegs : s.pinReset.mem.segs = [] := by simp [Mem.initial]
    exact ⟨s.pinReset, exec_rstNLow_of_long hlong hpowered, s.pinReset_stage, s.pinReset_allReleased, s.pinReset_st,
      s.pinReset_rdyLow, s.pinReset_fltLow, s.pinReset_rtrDrive, hidle, hshadow, hsegs, s.pinReset_keeps⟩
  case begins =>
    have hexec := exec_rstNRise_of_latched hlow hlatched
    simp only [hdrift, hvalid, Bool.not_true, Bool.false_eq_true, if_false] at hexec
    refine ⟨_, hexec, ?_⟩
    simp [Stage.code, State.enterStage_st, State.stCode]
  case fails =>
    have hexec := exec_rstNRise_of_latched hlow hlatched
    simp only [hdrift, if_true] at hexec
    refine ⟨_, hexec, State.failBringUp_stage _ _, State.failBringUp_mkCode _ _, State.failBringUp_st _ _, ?_⟩
    exact ⟨State.fltLow_of_failed (State.failBringUp_stage _ _), State.rdyLow_of_not_done (by simp), by simp⟩

end Sys2Proof.Machine
end

section
/-! PROOFS. Part 5 of the rules: the pin command. -/

namespace Sys2Proof.Machine

/-! ## What stands -/

/-- What the statements about a roll-back speak of: the straps, the power-up state, each rail's release and retreat, the
configurations, probation, the transaction, the outcomes sent and the memory's bytes. -/
structure Standing where
  straps : Vector (BitVec 4) 8
  powerUp : Bool
  released : Chan → Bool
  retreated : Chan → Bool
  live : Configuration
  lastGood : Option Configuration
  probation : Option Nat
  state : TxnState
  shadow : Option Image
  outcomes : List OutcomeEntry
  cells : List Host.Cell

/-- What stands of a state. -/
def State.standing (s : State) : Standing where
  straps := s.power.straps
  powerUp := s.power.powerUp
  released n := (s.chan[n]).released
  retreated n := (s.chan[n]).retreated
  live := s.txn.live
  lastGood := s.txn.lastGood
  probation := s.txn.probation
  state := s.txn.state
  shadow := s.txn.shadow
  outcomes := s.tel.outcomes
  cells := s.mem.cells

/-! ## The logs and frames -/

@[simp] theorem State.logEvent_standing (s : State) (code sub : Byte) (obj : BitVec 16) (data : BitVec 48) :
    (s.logEvent code sub obj data).standing = s.standing := by
  unfold State.logEvent
  dsimp only
  split <;> rfl

@[simp] theorem State.raiseFor_standing (s : State) (code : Nat) (who : PlayerNo → Bool) :
    (s.raiseFor code who).standing = s.standing := rfl

@[simp] theorem State.setResident_standing (s : State) : s.setResident.standing = s.standing := rfl

@[simp] theorem State.freezeLedger_standing (s : State) : s.freezeLedger.standing = s.standing := by
  unfold State.freezeLedger
  dsimp only
  split <;> rfl

@[simp] theorem State.freezeStatus_standing (s : State) : s.freezeStatus.standing = s.standing := by
  unfold State.freezeStatus
  dsimp only
  split <;> rfl

@[simp] theorem State.wantContent_standing (s : State) (id : BitVec 16) : (s.wantContent id).standing = s.standing := by
  unfold State.wantContent
  split <;> rfl

@[simp] theorem State.sendPause_standing (s : State) (time : BitVec 16) : (s.sendPause time).standing = s.standing := by
  unfold State.sendPause
  split <;> rfl

/-- A cause that clears is no part of what stands. -/
@[simp] theorem State.clearFault_standing (s : State) (b : Nat) : (s.clearFault b).standing = s.standing := by
  unfold State.clearFault
  split
  · dsimp only
    split
    · exact State.logEvent_standing _ _ _ _ _
    · rfl
  · rfl

/-- Squall moves the queues and the players alone. -/
@[simp] theorem State.judgeSquall_standing (s : State) : s.judgeSquall.standing = s.standing := by
  simp [State.standing]

/-- An outcome adds to the outcomes alone. -/
theorem State.outcome_standing (s : State) (code : Byte) (obj : Obj) (pin : Byte) (mask : BitVec 64) :
    (s.outcome code obj pin mask).standing =
      { s.standing with outcomes := (s.outcome code obj pin mask).tel.outcomes } := by
  simp [State.standing]

/-! ## The players at an apply tick -/

/-- A state but for its players. -/
def State.butPlayers (s : State) : State := { s with player := Vector.replicate 16 Player.initial }

@[simp] theorem State.onPlayer_butPlayers (s : State) (p : PlayerNo) (f : Player → Player) :
    (s.onPlayer p f).butPlayers = s.butPlayers := rfl

/-- What a step does as it begins, it does to its player. -/
@[simp] theorem State.arrive_butPlayers (fuel : Nat) (s : State) (p : PlayerNo) (i : Nat) :
    (State.arrive fuel s p i).butPlayers = s.butPlayers := by
  induction fuel generalizing s i with
  | zero => rfl
  | succ fuel ih =>
    unfold State.arrive
    extract_lets g st here noted clear len head begun left
    split
    · rfl
    · cases st.op with
      | play =>
        dsimp only
        split
        · split
          · exact ih left _
          · rfl
        · rfl
      | _ => rfl

@[simp] theorem State.proceed_butPlayers (s : State) (p : PlayerNo) (i : Nat) :
    (s.proceed p i).butPlayers = s.butPlayers := by
  unfold State.proceed
  split <;> simp

@[simp] theorem State.jumpTo_butPlayers (s : State) (p : PlayerNo) (t : Nat) :
    (s.jumpTo p t).butPlayers = s.butPlayers := by
  simp [State.jumpTo]

@[simp] theorem State.settleNext_butPlayers (s : State) (p : PlayerNo) : (s.settleNext p).butPlayers = s.butPlayers := by
  unfold State.settleNext
  dsimp only
  split
  · split
    · simp [State.passControl]
    · split
      · simp [State.passControl]
      · split <;> simp [State.passControl]
  · rfl

/-- A run of control steps moves its player alone. -/
@[simp] theorem State.settleRun_butPlayers (fuel : Nat) (s : State) (p : PlayerNo) :
    (State.settleRun fuel s p).butPlayers = s.butPlayers := by
  induction fuel generalizing s with
  | zero => rfl
  | succ fuel ih =>
    unfold State.settleRun
    split
    · rfl
    · cases (s.stepOf p).op with
      | loop => exact (ih _).trans (by simp [State.settleLoop, State.passControl])
      | next => exact (ih _).trans (s.settleNext_butPlayers p)
      | jump => exact (ih _).trans (by simp [State.settleJump, State.passControl])
      | _ => rfl

/-- An apply tick starts the players, and nothing else with them. -/
@[simp] theorem State.startPlayers_butPlayers (s : State) : s.startPlayers.butPlayers = s.butPlayers := by
  refine foldl_keeps State.butPlayers (fun s p => ?_) _ s
  dsimp only
  split <;> simp

theorem State.butPlayers_chain (s : State) : s.butPlayers.chain = s.chain := rfl
theorem State.butPlayers_standing (s : State) : s.butPlayers.standing = s.standing := rfl

@[simp] theorem State.startPlayers_chain (s : State) : s.startPlayers.chain = s.chain := by
  rw [← State.butPlayers_chain, State.startPlayers_butPlayers, State.butPlayers_chain]

@[simp] theorem State.startPlayers_standing (s : State) : s.startPlayers.standing = s.standing := by
  rw [← State.butPlayers_standing, State.startPlayers_butPlayers, State.butPlayers_standing]

/-! ## The ledger -/

/-- A budget that is reached is told, and that is all. -/
@[simp] theorem State.judgeBudget_standing (s : State) (i : Fin 128) : (s.judgeBudget i).standing = s.standing := by
  unfold State.judgeBudget State.fireLedger
  dsimp only
  split
  · simp only [State.freezeLedger_standing, State.logEvent_standing, State.raiseFor_standing]
    rfl
  · rfl

@[simp] theorem State.judgeBudget_chain (s : State) (i : Fin 128) : (s.judgeBudget i).chain = s.chain := by
  unfold State.judgeBudget State.fireLedger
  dsimp only
  split <;> simp

@[simp] theorem State.countUp_standing (s : State) (i : Fin 128) : (s.countUp i).standing = s.standing := by
  unfold State.countUp
  exact State.judgeBudget_standing _ _

/-! ## The waveform memory at an apply tick -/

@[simp] theorem Mem.notePage_cells (m : Mem) (p : Nat) : (m.notePage p).cells = m.cells := rfl

/-- Pages that return to the free list keep their bytes. -/
@[simp] theorem Mem.releasePages_cells (m : Mem) (ps : List Nat) : (m.releasePages ps).cells = m.cells := by
  unfold Mem.releasePages
  exact foldl_keeps Mem.cells Mem.notePage_cells _ _

theorem Mem.takePage_cells {m m' : Mem} {p : Nat} (h : m.takePage = some (p, m')) : m'.cells = m.cells := by
  unfold Mem.takePage at h
  split at h
  · cases h; rfl
  · cases h

/-- Pages that are taken keep their bytes. -/
@[simp] theorem Mem.takePages_cells (k : Nat) (m : Mem) : (Mem.takePages k m).2.cells = m.cells := by
  induction k generalizing m with
  | zero => rfl
  | succ k ih =>
    unfold Mem.takePages
    split
    · rfl
    · rename_i p m0 htake
      exact (ih m0).trans (Mem.takePage_cells htake)

@[simp] theorem Mem.armCapture_cells (m : Mem) (k : Fin 8) (old new : Option CapStream) :
    (m.armCapture k old new).cells = m.cells := by
  unfold Mem.armCapture
  dsimp only
  split
  · rfl
  · split
    · rfl
    · split <;> simp

@[simp] theorem Mem.armCaptures_cells (m : Mem) (old new : Option (Vector CapStream 8)) :
    (m.armCaptures old new).cells = m.cells :=
  foldl_keeps Mem.cells (fun m k => m.armCapture_cells k _ _) _ _

@[simp] theorem Mem.wake_cells (m : Mem) : m.wake.cells = m.cells := by
  unfold Mem.wake
  split <;> rfl

/-! ## The drive channels at an apply tick -/

@[simp] theorem State.supply_released (s : State) (n : Chan) (c : Channel) : (s.supply n c).2.released = c.released := rfl
@[simp] theorem State.supply_retreated (s : State) (n : Chan) (c : Channel) : (s.supply n c).2.retreated = c.retreated := rfl
@[simp] theorem State.compute_released (s : State) (n : Chan) (frame0 : Bool) (c : Channel) :
    (s.compute n frame0 c).released = c.released := rfl

/-- Without a HOLD commit no channel leaves release (R13), and none enters it. -/
theorem State.channelTakesEffect_released (s : State) (isCommit : Bool) (n : Chan) (c : Channel) :
    (s.channelTakesEffect isCommit false n c).released = c.released := by
  unfold State.channelTakesEffect
  dsimp only
  split <;> simp

/-- Without a commit no retreat ends (R14), and none begins. -/
theorem State.channelTakesEffect_retreated (s : State) (n : Chan) (c : Channel) :
    (s.channelTakesEffect false false n c).retreated = c.retreated := by
  unfold State.channelTakesEffect
  dsimp only
  split <;> simp

/-! ## A configuration takes effect -/

/-- A state whose channels changed, none of them in its release or retreat. -/
theorem State.standing_mapAll_chan (s : State) {f : Chan → Channel → Channel}
    (hreleased : ∀ n c, (f n c).released = c.released) (hretreated : ∀ n c, (f n c).retreated = c.retreated) :
    ({ s with chan := mapAll f s.chan } : State).standing = s.standing := by
  simp only [State.standing, mapAll_get, hreleased, hretreated]

@[simp] theorem State.abandonCal_standing (s : State) (who : Chan → Bool) : (s.abandonCal who).standing = s.standing := by
  simp [State.standing]

/-- An apply tick ends the Fog of channels, never their release or retreat. -/
@[simp] theorem State.calTakesEffect_standing (s : State) : s.calTakesEffect.standing = s.standing := by
  unfold State.calTakesEffect
  extract_lets mode quiet drops s1 pass
  have hkept (flag : Channel → Bool) (hfog : ∀ c : Channel, flag { c with fog := false } = flag c) (n : Chan)
      (c : Channel) : flag (if drops n then { c with fog := false } else c) = flag c := by
    split
    · exact hfog c
    · rfl
  rw [← s.abandonCal_chan drops]
  exact (s1.standing_mapAll_chan (hkept Channel.released fun _ => rfl) (hkept Channel.retreated fun _ => rfl)).trans
    (s.abandonCal_standing drops)

@[simp] theorem State.calTakesEffect_chain (s : State) : s.calTakesEffect.chain = s.chain := by
  simp [State.calTakesEffect]

/-- A configuration that takes effect without a commit becomes live, and all else stands (R33, R155). -/
theorem State.takeEffect_standing (s : State) (cfg : Configuration) :
    (s.takeEffect cfg false).standing = { s.standing with live := cfg } := by
  unfold State.takeEffect
  -- the names are the definition's; `sArmed` is its second `s3`
  extract_lets old leave _ s1 s2 _ _ _ s3 restarts _ sArmed s4 s5 hold _ s6 s7 stood
  have h2 : s2.standing = { stood with live := cfg } := by
    simp only [s2, State.clearFault_standing, State.startPlayers_standing]
    rfl
  clear_value s2
  have h3 : s3.standing = s2.standing := by
    simp only [s3, State.standing, Mem.armCaptures_cells]
  have hArmed : sArmed.standing = s3.standing := rfl
  have h4 : s4.standing = sArmed.standing := foldl_keeps State.standing State.judgeBudget_standing _ sArmed
  clear_value s4
  have h5 : s5.standing = s4.standing := by simp only [s5, State.standing]
  clear_value s5
  have h6 : s6.standing = s5.standing := by
    simp only [s6, hold, State.standing, mapAll_get, Bool.false_and, Bool.not_false, Bool.and_true,
      State.channelTakesEffect_released, State.channelTakesEffect_retreated]
    rfl
  have h7 : s7.standing = { stood with live := cfg } := by
    simp only [s7, State.judgeSquall_standing, State.calTakesEffect_standing, State.setResident_standing, h6, h5, h4,
      hArmed, h3, h2]
  split
  · exact h7
  · rw [← h7]
    simp only [State.standing, Mem.wake_cells]

/-- No configuration that takes effect touches the chain. -/
@[simp] theorem State.takeEffect_chain (s : State) (cfg : Configuration) (isCommit : Bool) :
    (s.takeEffect cfg isCommit).chain = s.chain := by
  unfold State.takeEffect
  extract_lets old leave _ s1 s2 _ _ _ s3 restarts _ sArmed s4 s5 hold _ s6 s7
  have h4 : s4.chain = sArmed.chain := foldl_keeps State.chain State.judgeBudget_chain _ _
  clear_value s4
  have h7 : s7.chain = s.chain := by
    simp only [s7, State.judgeSquall_chain, State.calTakesEffect_chain, State.setResident_chain, s6, s5, h4, sArmed, s3, s2,
      State.clearFault_chain, State.startPlayers_chain, s1]
  split <;> exact h7

/-! ## The power-up state returns -/

theorem State.releaseAll_standing (s : State) :
    s.releaseAll.standing = { s.standing with released := fun _ => true, retreated := fun _ => false } := by
  unfold State.releaseAll State.release
  rw [State.abandonCal_standing]
  simp only [State.standing, mapAll_get, if_true, Channel.release_released, Channel.release_retreated]

/-- The power-up state releases every output, and its configuration is live with no last-good and no probation (R156). -/
theorem State.toPowerUp_standing (s : State) :
    s.toPowerUp.standing =
      { s.standing with
        powerUp := true, released := fun _ => true, retreated := fun _ => false
        live := powerUpConfiguration s.power.straps, lastGood := none, probation := none } := by
  unfold State.toPowerUp
  extract_lets s1 _ _ _ s2
  have h2 : s2.standing = { s1.standing with powerUp := true, lastGood := none, probation := none } := rfl
  rw [State.takeEffect_standing, h2, s.releaseAll_standing]

@[simp] theorem State.toPowerUp_openDue (s : State) : s.toPowerUp.chain.openDue = s.chain.openDue := by
  simp [State.toPowerUp, State.releaseAll]

/-! ## The roll-back -/

/-- The transaction that a roll-back discards is over. -/
theorem State.discard_endTxn_standing (s : State) (code : Byte) :
    (s.discard code).endTxn.standing =
      { s.standing with state := .idle, shadow := none, outcomes := (s.discard code).tel.outcomes } := by
  unfold State.discard
  split
  · rfl
  · have hend (x : State) : x.closeTxn.endTxn.standing = { x.standing with state := .idle, shadow := none } := rfl
    rw [hend, State.outcome_standing]
    rfl

@[simp] theorem State.endTxn_openDue (s : State) : s.endTxn.chain.openDue = s.chain.openDue := rfl

/-- What a roll-back leaves to the configuration that it applies: no transaction and no probation. -/
def State.rolledOut (s : State) : State :=
  let ended := (s.discard 4).endTxn
  { ended with txn := { ended.txn with
      due := { ended.txn.due with rollback := false }, rollbackPending := false, probation := none } }

theorem State.rolledOut_standing (s : State) :
    s.rolledOut.standing =
      { s.standing with state := .idle, shadow := none, probation := none, outcomes := (s.discard 4).tel.outcomes } := by
  have hover := s.discard_endTxn_standing 4
  have hout : s.rolledOut.standing = { (s.discard 4).endTxn.standing with probation := none } := rfl
  rw [hout, hover]

theorem State.rolledOut_lastGood (s : State) : s.rolledOut.txn.lastGood = s.txn.lastGood :=
  congrArg Standing.lastGood s.rolledOut_standing

theorem State.rolledOut_straps (s : State) : s.rolledOut.power.straps = s.power.straps :=
  congrArg Standing.straps s.rolledOut_standing

@[simp] theorem State.rolledOut_openDue (s : State) : s.rolledOut.chain.openDue = s.chain.openDue := by
  simp [State.rolledOut]

/-- The end of a roll-back, the configuration being live: nothing of the chain waits for it, and outcome 0x08 is sent. -/
def State.endRollback (s : State) : State :=
  State.outcome { s with chain := { s.chain with sysProbation := false, rollbackDue := false, diverged := false } } 8

theorem State.endRollback_standing (s : State) :
    s.endRollback.standing = { s.standing with outcomes := s.endRollback.tel.outcomes } :=
  State.outcome_standing _ _ _ _ _

@[simp] theorem State.endRollback_openDue (s : State) : s.endRollback.chain.openDue = s.chain.openDue := by
  simp [State.endRollback]

theorem State.endRollback_lastOutcome (s : State) : lastOutcome s.endRollback = some 8 := by
  simp [lastOutcome, State.endRollback, State.outcome_last]

/-- A roll-back applies last-good (R33). -/
theorem State.takeRollback_of_lastGood {s : State} {cfg : Configuration} (h : s.txn.lastGood = some cfg) :
    s.takeRollback = (s.rolledOut.takeEffect cfg false).endRollback := by
  have hout := s.rolledOut_lastGood.trans h
  unfold State.takeRollback
  dsimp only
  split
  · rename_i found hfound
    cases hfound.symm.trans hout
    simp only [State.endRollback, State.rolledOut]
  · rename_i hnone
    cases hnone.symm.trans hout

/-- A roll-back with no last-good returns to the power-up state (R35). -/
theorem State.takeRollback_of_none {s : State} (h : s.txn.lastGood = none) :
    s.takeRollback = s.rolledOut.toPowerUp.endRollback := by
  have hout := s.rolledOut_lastGood.trans h
  unfold State.takeRollback
  dsimp only
  split
  · rename_i found hfound
    cases hfound.symm.trans hout
  · simp only [State.endRollback, State.rolledOut]

/-! ## The rows below a roll-back -/

@[simp] theorem State.setEnumcnt_standing (s : State) (v : BitVec 16) : (s.setEnumcnt v).standing = s.standing := by
  unfold State.setEnumcnt
  dsimp only
  split <;> rfl

@[simp] theorem State.setEnumcnt_openDue (s : State) (v : BitVec 16) :
    (s.setEnumcnt v).chain.openDue = s.chain.openDue := by
  unfold State.setEnumcnt
  dsimp only
  split <;> rfl

@[simp] theorem State.row7_standing (s : State) : s.row7.standing = s.standing := by
  unfold State.row7
  extract_lets s1 _ s2 s3
  have h1 : s1.standing = s.standing := foldl_keeps State.standing (fun s r => by split <;> simp) _ s
  clear_value s1
  rw [← h1]
  rfl

@[simp] theorem State.row8_standing (s : State) : s.row8.standing = s.standing := rfl
@[simp] theorem State.row9_standing (s : State) : s.row9.standing = s.standing := rfl

@[simp] theorem State.srBoundary_standing (s : State) : s.srBoundary.standing = s.standing := by
  unfold State.srBoundary
  dsimp only
  split
  · split <;> rfl
  · split <;> rfl
  all_goals rfl

@[simp] theorem State.portBoundary_standing (s : State) : s.portBoundary.standing = s.standing := by
  unfold State.portBoundary
  extract_lets s2 quarantined
  have h2 : s2.standing = s.standing := by
    unfold s2
    split <;> simp
  clear_value s2
  rw [← h2]
  split
  · exact foldl_keeps State.standing (fun s id => s.wantContent_standing id) _ _
  · rfl

@[simp] theorem State.closeNine_standing (s : State) : s.closeNine.standing = s.standing := by
  unfold State.closeNine
  extract_lets d s1 s2
  have h1 : s1.standing = s.standing := by
    unfold s1
    split <;> simp
  have h2 : s2.standing = s1.standing := by
    unfold s2
    split <;> simp
  clear_value s2
  split
  · rfl
  · exact h2.trans h1

/-- From `s` to `t` all stands, but for a transaction that the root's OPEN, due at this boundary, opens. -/
def State.standsOrOpens (s t : State) : Prop :=
  t.standing = s.standing ∨
    (s.isRoot = true ∧ s.chain.openDue = true ∧
      ∃ img, t.standing = { s.standing with state := .opened, shadow := some img })

theorem State.standsOrOpens.of_standing {s t : State} (h : t.standing = s.standing) : s.standsOrOpens t := .inl h

/-- The straps alone choose the role (Table 3.10). -/
theorem State.isRoot_of_straps {s t : State} (h : s.power.straps = t.power.straps) : s.isRoot = t.isRoot := by
  unfold State.isRoot Power.role
  rw [h]

/-- What stands on either side of a boundary's rows may be read on either side of what changes nothing that stands. -/
theorem State.standsOrOpens.congr {s s' t t' : State} (h : s.standsOrOpens t) (hs : s.standing = s'.standing)
    (hdue : s.chain.openDue = s'.chain.openDue) (ht : t'.standing = t.standing) : s'.standsOrOpens t' := by
  unfold State.standsOrOpens at h ⊢
  rwa [ht, ← hs, ← State.isRoot_of_straps (congrArg Standing.straps hs), ← hdue]

theorem State.discard_of_idle {s : State} (h : s.txn.state = .idle) (code : Byte) (obj : Obj) : s.discard code obj = s :=
  if_pos h

/-- With no transaction, the end of one changes nothing that stands. -/
theorem State.endTxn_standing_of_over {s : State} (hidle : s.txn.state = .idle) (hshadow : s.txn.shadow = none) :
    s.endTxn.standing = s.standing := by
  have hend : s.endTxn.standing = { s.standing with state := .idle, shadow := none } := rfl
  rw [hend, ← hidle, ← hshadow]
  rfl

/-- The root's command finds no transaction to discard: it may begin one, and moves nothing else that stands. -/
theorem State.rootCommand_standsOrOpens {s : State} (hroot : s.isRoot = true) (hidle : s.txn.state = .idle)
    (hshadow : s.txn.shadow = none) : s.standsOrOpens s.rootCommand.2 := by
  have hended (c : Chain) (obj : Obj) : (({ s with chain := c } : State).discard 7 obj).endTxn.standing = s.standing := by
    rw [State.discard_of_idle (s := { s with chain := c }) hidle]
    exact State.endTxn_standing_of_over hidle hshadow
  unfold State.rootCommand
  dsimp only
  split
  case isTrue hrollback => exact .of_standing rfl
  split
  case isTrue habort => exact .of_standing (hended _ _)
  split
  case isTrue hopen => exact .inr ⟨hroot, hopen, _, rfl⟩
  split
  case isTrue hprepare => exact .of_standing rfl
  -- a vote that runs: its first tick, its verdict, and none at all
  split
  · exact .of_standing rfl
  · split
    case isTrue hcommit => exact .of_standing rfl
    case isFalse hveto => exact .of_standing (hended _ _)
  · exact .of_standing rfl

theorem State.rootBoundary_standsOrOpens {s : State} (hroot : s.isRoot = true) (hidle : s.txn.state = .idle)
    (hshadow : s.txn.shadow = none) : s.standsOrOpens s.rootBoundary := by
  unfold State.rootBoundary
  extract_lets s0
  have h0 : s0.standing = s.standing ∧ s0.chain.openDue = s.chain.openDue := by
    unfold s0
    split
    · cases s.lastMerged <;> simp
    · exact ⟨rfl, rfl⟩
  obtain ⟨hstanding, hdue⟩ := h0
  have hroot0 : s0.isRoot = true := (State.isRoot_of_straps (congrArg Standing.straps hstanding)).trans hroot
  have hcommand := State.rootCommand_standsOrOpens hroot0 ((congrArg Standing.state hstanding).trans hidle)
    ((congrArg Standing.shadow hstanding).trans hshadow)
  clear_value s0
  generalize s0.rootCommand = command at hcommand ⊢
  obtain ⟨cmd, s1⟩ := command
  refine hcommand.congr hstanding hdue ?_
  simp only [State.standing]

/-- The rows below a roll-back leave what it made stand, but for a transaction that the root's OPEN opens. -/
theorem State.takeRest_standsOrOpens {s : State} (hidle : s.txn.state = .idle) (hshadow : s.txn.shadow = none) :
    s.standsOrOpens s.takeRest := by
  unfold State.takeRest
  extract_lets _ _ s1 s2
  have h1 : s1.standing = s.standing := rfl
  split
  · refine .of_standing ?_
    simp only [State.closeNine_standing, State.portBoundary_standing, State.row9_standing, State.row8_standing, h1]
  · have h2 : s.standsOrOpens s2 := by
      unfold s2
      split
      · rename_i hboundary
        have hroot : s1.isRoot = true := (Bool.and_eq_true_iff.mp hboundary).1
        exact (State.rootBoundary_standsOrOpens hroot hidle hshadow).congr h1 rfl rfl
      · exact .of_standing h1
    refine h2.congr rfl rfl ?_
    simp only [State.closeNine_standing, State.portBoundary_standing, State.srBoundary_standing, State.row9_standing,
      State.row8_standing, State.row7_standing]
    rfl

theorem State.closeBoundary_standsOrOpens {s : State} (hidle : s.txn.state = .idle) (hshadow : s.txn.shadow = none) :
    s.standsOrOpens s.closeBoundary := by
  unfold State.closeBoundary
  split
  · exact State.takeRest_standsOrOpens hidle hshadow
  · exact .of_standing rfl

/-- What does not read the transaction is the same on either side. -/
theorem State.standsOrOpens.same {s t : State} (h : s.standsOrOpens t) {α : Type} (read : Standing → α)
    (hread : ∀ x state shadow, read { x with state := state, shadow := shadow } = read x) :
    read t.standing = read s.standing := by
  obtain h | ⟨-, -, img, h⟩ := h
  · rw [h]
  · rw [h, hread]

/-- Where no OPEN of the root is due, no transaction opens. -/
theorem State.standsOrOpens.over {s t : State} (h : s.standsOrOpens t)
    (hnone : s.isRoot = false ∨ s.chain.openDue = false) : t.standing = s.standing := by
  obtain h | ⟨hroot, hopen, -⟩ := h
  · exact h
  · simp [hroot, hopen] at hnone

/-- What a roll-back that returns to `cfg` makes of what stood, `outcomes` having been sent. -/
def Standing.rolledTo (x : Standing) (cfg : Configuration) (outcomes : List OutcomeEntry) : Standing :=
  { x with state := .idle, shadow := none, probation := none, live := cfg, outcomes := outcomes }

theorem State.takeRollback_standing_of_lastGood {s : State} {cfg : Configuration} (h : s.txn.lastGood = some cfg) :
    s.takeRollback.standing = s.standing.rolledTo cfg s.takeRollback.tel.outcomes := by
  rw [State.takeRollback_of_lastGood h, State.endRollback_standing, State.takeEffect_standing, s.rolledOut_standing]
  rfl

theorem State.takeRollback_standing_of_none {s : State} (h : s.txn.lastGood = none) :
    s.takeRollback.standing =
      { s.standing with
        powerUp := true, released := fun _ => true, retreated := fun _ => false, lastGood := none : Standing }.rolledTo
        (powerUpConfiguration s.power.straps) s.takeRollback.tel.outcomes := by
  rw [State.takeRollback_of_none h, State.endRollback_standing, State.toPowerUp_standing, s.rolledOut_standing,
    s.rolledOut_straps]
  simp only [Standing.rolledTo]

@[simp] theorem State.takeRollback_openDue (s : State) : s.takeRollback.chain.openDue = s.chain.openDue := by
  cases h : s.txn.lastGood with
  | none => simp [State.takeRollback_of_none h]
  | some cfg => simp [State.takeRollback_of_lastGood h]

theorem State.takeRollback_lastOutcome (s : State) : lastOutcome s.takeRollback = some 8 := by
  cases h : s.txn.lastGood with
  | none => rw [State.takeRollback_of_none h, State.endRollback_lastOutcome]
  | some cfg => rw [State.takeRollback_of_lastGood h, State.endRollback_lastOutcome]

theorem exec_rollbackApply_of_due {s : State} (hdue : s.txn.due.rollback = true) (hframe : s.clock.frame = 0) :
    exec .rollbackApply s = .next s.takeRollback.closeBoundary := by
  change execRollbackApply s = _
  simp [execRollbackApply, State.takesNow, hdue, hframe]

/-- Whatever a roll-back returns to, the transaction and probation are over, and the role stands. -/
theorem State.takeRollback_over (s : State) :
    s.takeRollback.txn.state = .idle ∧ s.takeRollback.txn.shadow = none ∧ s.takeRollback.txn.probation = none ∧
      s.takeRollback.isRoot = s.isRoot := by
  obtain ⟨x, cfg, hstraps, hstanding⟩ : ∃ (x : Standing) (cfg : Configuration), x.straps = s.power.straps ∧
      s.takeRollback.standing = x.rolledTo cfg s.takeRollback.tel.outcomes := by
    cases h : s.txn.lastGood with
    | none => exact ⟨_, _, rfl, State.takeRollback_standing_of_none h⟩
    | some cfg => exact ⟨_, _, rfl, State.takeRollback_standing_of_lastGood h⟩
  exact ⟨congrArg Standing.state hstanding, congrArg Standing.shadow hstanding, congrArg Standing.probation hstanding,
    State.isRoot_of_straps ((congrArg Standing.straps hstanding).trans hstraps)⟩

/-- The rows below a roll-back leave what it made stand, but for a transaction that the root's OPEN opens. -/
theorem State.takeRollback_standsOrOpens (s : State) : s.takeRollback.standsOrOpens s.takeRollback.closeBoundary := by
  obtain ⟨hidle, hshadow, -⟩ := s.takeRollback_over
  exact State.closeBoundary_standsOrOpens hidle hshadow

/-- How the transaction, probation and the outcomes stand after a roll-back and the rows below it (R33, R155). -/
theorem State.takeRollback_closeBoundary_ends (s : State) :
    s.takeRollback.closeBoundary.txn.probation = none ∧
      ((s.isRoot = false ∨ s.chain.openDue = false) →
        s.takeRollback.closeBoundary.txn.state = .idle ∧ s.takeRollback.closeBoundary.txn.shadow = none) ∧
      lastOutcome s.takeRollback.closeBoundary = some 8 := by
  obtain ⟨hidle, hshadow, hprobation, hroot⟩ := s.takeRollback_over
  have hrows := s.takeRollback_standsOrOpens
  refine ⟨?probation, fun hnone => ?transaction, ?outcome⟩
  case probation => exact (hrows.same Standing.probation fun _ _ _ => rfl).trans hprobation
  case transaction =>
    have hstanding := hrows.over (by rwa [hroot, State.takeRollback_openDue])
    exact ⟨(congrArg Standing.state hstanding).trans hidle, (congrArg Standing.shadow hstanding).trans hshadow⟩
  case outcome =>
    have houtcomes := hrows.same Standing.outcomes fun _ _ _ => rfl
    exact (congrArg (fun l => l.getLast?.map OutcomeEntry.code) houtcomes).trans s.takeRollback_lastOutcome

/-- Settles O29: what a roll-back makes stand is `Standing.rolledTo` of the configuration that it returns to, and the rows below
it, which no transaction opens but by the root's OPEN, leave the rest of it. -/
theorem rollbackAppliesLastGood : Obligations.RollbackAppliesLastGood := by
  refine ⟨fun s cfg hdue hframe hgood => ?lastGood, fun s hdue hframe hnone => ?powerUp⟩
  all_goals
    obtain ⟨hprobation, htxn, houtcome⟩ := s.takeRollback_closeBoundary_ends
    have hrows {α : Type} := s.takeRollback_standsOrOpens.same (α := α)
  case lastGood =>
    have hstanding := State.takeRollback_standing_of_lastGood hgood
    have hlive := (hrows Standing.live fun _ _ _ => rfl).trans (congrArg _ hstanding)
    have hlastGood := (hrows Standing.lastGood fun _ _ _ => rfl).trans (congrArg _ hstanding)
    have hretreated := (hrows Standing.retreated fun _ _ _ => rfl).trans (congrArg _ hstanding)
    have hcells := (hrows Standing.cells fun _ _ _ => rfl).trans (congrArg _ hstanding)
    exact ⟨_, exec_rollbackApply_of_due hdue hframe, hlive, hlastGood.trans hgood, hprobation, htxn, houtcome,
      fun n hn _ => (congrFun hretreated n).trans hn, hcells⟩
  case powerUp =>
    have hstanding := State.takeRollback_standing_of_none hnone
    have hreleased := (hrows Standing.released fun _ _ _ => rfl).trans (congrArg _ hstanding)
    have hpowerUp := (hrows Standing.powerUp fun _ _ _ => rfl).trans (congrArg _ hstanding)
    have hlastGood := (hrows Standing.lastGood fun _ _ _ => rfl).trans (congrArg _ hstanding)
    exact ⟨_, exec_rollbackApply_of_due hdue hframe, congrFun hreleased, hpowerUp, hlastGood, hprobation, htxn, houtcome⟩

end Sys2Proof.Machine
end

section
/-! PROOFS. What every operation keeps of what a state guards: the queue, the channels' release and retreat, the
memory's form, a failed stage, the drive of RTR_N and the cover of the counts. -/

namespace Sys2Proof.Machine

/-! ## What every operation keeps -/

/-- A channel is released, or stands at a code with nothing held for its next latch. -/
def Channel.StandsAt (nom : Code) (c : Channel) : Prop :=
  c.released = true ∨ (c.code = nom ∧ c.latched = nom ∧ c.delayed = none)

/-- What a channel keeps: its release, its retreat unless it is released, and its release for good; through a quiet operation (`q`) a
code that it stands at too. -/
structure Channel.Keeps (q : Bool) (c d : Channel) : Prop where
  released : c.released = true → d.released = true
  retreated : c.retreated = true → d.retreated = true ∨ d.released = true
  forGood : c.forGood = true → d.forGood = true
  stands : q = true → ∀ nom, c.StandsAt nom → d.StandsAt nom

/-- What of a state an operation may move in one direction alone. -/
structure Guarded where
  pending : List Instr
  chan : Vector Channel 64
  cells : List Host.Cell
  stage : Stage
  drive : Bool
  count : Vector Nat 128
  region : Vector Region 2
  live : Fin 2
  nom : Chan → Code
  defaultsDue : Bool

def State.guarded (s : State) : Guarded where
  pending := s.pending
  chan := s.chan
  cells := s.mem.cells
  stage := s.power.stage
  drive := s.pins.rtrDrive
  count := s.ledger.count
  region := s.ledger.region
  live := s.ledger.live
  nom := fun n => (s.txn.live.params.chan[n]).nom
  defaultsDue := s.txn.defaultsDue

/-- No count stands past what the live region records. -/
def Guarded.covered (g : Guarded) : Prop := ∀ i : Fin 128, g.count[i] ≤ ((g.region[g.live]).counters[i]).value

/-- A channel is released, or stands at its nominal code while no return of the power-up configuration waits to take effect. -/
def Guarded.AtNominal (g : Guarded) (n : Chan) : Prop :=
  (g.chan[n]).released = true ∨ (g.defaultsDue = false ∧ (g.chan[n]).StandsAt (g.nom n))

/-- What holds from one state to a later one through every operation but a commit's apply and a reset. Quiet operations (`q`), those
that a step takes after an apply, leave a channel at nominal too. -/
structure Guarded.Steady (q : Bool) (g k : Guarded) : Prop where
  pending : k.pending = g.pending
  chan : ∀ n : Chan, (g.chan[n]).Keeps false (k.chan[n])
  cells : Memory.wf g.cells = true → Memory.wf k.cells = true
  stage : ∀ cause, g.stage = .failed cause → k.stage = .failed cause
  drive : g.drive = true → k.drive = true
  cover : g.covered → k.covered
  nominal : q = true → ∀ n : Chan, g.AtNominal n → k.AtNominal n

def State.Steady (q : Bool) (s t : State) : Prop := s.guarded.Steady q t.guarded

section
variable {q : Bool}

theorem Channel.Keeps.refl (c : Channel) : c.Keeps q c := ⟨id, .inl, id, fun _ _ => id⟩

theorem Channel.Keeps.trans {c d e : Channel} (h : c.Keeps q d) (h' : d.Keeps q e) : c.Keeps q e where
  released := h'.released ∘ h.released
  retreated hc := (h.retreated hc).elim h'.retreated fun hd => .inr (h'.released hd)
  forGood := h'.forGood ∘ h.forGood
  stands hq nom := h'.stands hq nom ∘ h.stands hq nom

theorem Channel.Keeps.loud {c d : Channel} (h : c.Keeps q d) : c.Keeps false d :=
  ⟨h.released, h.retreated, h.forGood, nofun⟩

theorem Channel.Keeps.ite {p : Prop} [Decidable p] {c d e : Channel} (hd : c.Keeps q d) (he : c.Keeps q e) :
    c.Keeps q (if p then d else e) := by
  split <;> assumption

/-- A channel that moves neither its code nor what it holds keeps what it stands at, if it keeps its release. -/
theorem Channel.Keeps.ofCode {c d : Channel} (hr : c.released = true → d.released = true)
    (ht : c.retreated = true → d.retreated = true ∨ d.released = true) (hg : c.forGood = true → d.forGood = true)
    (hc : d.code = c.code) (hl : d.latched = c.latched) (hd : d.delayed = c.delayed) : c.Keeps q d :=
  ⟨hr, ht, hg, fun _ _ h => h.imp hr fun ⟨h1, h2, h3⟩ => ⟨hc.trans h1, hl.trans h2, hd.trans h3⟩⟩

theorem Guarded.Steady.refl (g : Guarded) : g.Steady q g := ⟨rfl, fun _ => .refl _, id, fun _ => id, id, id, fun _ _ => id⟩

theorem Guarded.Steady.trans {g k l : Guarded} (h : g.Steady q k) (h' : k.Steady q l) : g.Steady q l where
  pending := h'.pending.trans h.pending
  chan n := (h.chan n).trans (h'.chan n)
  cells := h'.cells ∘ h.cells
  stage cause := h'.stage cause ∘ h.stage cause
  drive := h'.drive ∘ h.drive
  cover := h'.cover ∘ h.cover
  nominal hq n := h'.nominal hq n ∘ h.nominal hq n

end

/-- Bring-up has not failed. -/
def State.Unfailed (s : State) : Prop := ∀ cause, s.power.stage ≠ .failed cause

/-- A stage that is not a failed one, known by its name. -/
theorem State.unfailed_of_eq {s : State} {st : Stage} (h : s.power.stage = st) (hst : ∀ cause, st ≠ .failed cause) :
    s.Unfailed := fun cause => h ▸ hst cause

namespace State.Steady

variable {q : Bool} {s t u : State}

theorem refl (s : State) : s.Steady q s := Guarded.Steady.refl _

/-- What is steady quietly is steady. -/
theorem loud (h : s.Steady q t) : s.Steady false t :=
  ⟨h.pending, h.chan, h.cells, h.stage, h.drive, h.cover, nofun⟩

theorem trans (h : s.Steady q t) (h' : t.Steady q u) : s.Steady q u := Guarded.Steady.trans h h'

/-- What moves nothing that is guarded is steady. -/
theorem same (h : s.Steady q t) (e : u.guarded = t.guarded := by dsimp only [State.guarded]) : s.Steady q u := by
  unfold State.Steady
  rw [e]
  exact h

theorem ite {p : Prop} [Decidable p] (ht : s.Steady q t) (hu : s.Steady q u) : s.Steady q (if p then t else u) := by
  split <;> assumption

theorem foldl {α : Type} {f : State → α → State} {l : List α} (h : s.Steady q t)
    (hf : ∀ u x, s.Steady q u → s.Steady q (f u x)) : s.Steady q (l.foldl f t) := by
  induction l generalizing t with
  | nil => exact h
  | cons x xs ih => exact ih (hf t x h)

/-- What moves nothing but channels that keep what they keep is steady. -/
theorem ofChan (h : s.Steady q t) (e : u.guarded = { t.guarded with chan := u.chan } := by dsimp only [State.guarded])
    (hc : ∀ n : Chan, (t.chan[n]).Keeps q (u.chan[n])) : s.Steady q u := by
  refine h.trans ?_
  unfold State.Steady
  rw [e]
  exact ⟨rfl, fun n => (hc n).loud, id, fun _ => id, id, id, fun hq n hn =>
    hn.imp (hc n).released fun ⟨hd, hs⟩ => ⟨hd, (hc n).stands hq _ hs⟩⟩

/-- What a failed bring-up would have held does not bind one that has not failed. -/
theorem unfailed (h : s.Steady q t) (ht : t.Unfailed) : s.Unfailed := fun cause hc => ht cause (h.stage cause hc)

/-- A bring-up that has not failed goes on to any stage. -/
theorem ofStage (h : s.Steady q t) (hs : s.Unfailed)
    (e : u.guarded = { t.guarded with stage := u.power.stage } := by dsimp only [State.guarded]) : s.Steady q u := by
  unfold State.Steady
  rw [e]
  exact ⟨h.pending, h.chan, h.cells, fun cause hc => absurd hc (hs cause), h.drive, h.cover, h.nominal⟩

/-- Bytes that stay in canonical form are steady. -/
theorem ofCells (h : s.Steady q t) (hm : Memory.wf t.mem.cells = true → Memory.wf u.mem.cells = true)
    (e : u.guarded = { t.guarded with cells := u.mem.cells } := by dsimp only [State.guarded]) : s.Steady q u := by
  refine h.trans ?_
  unfold State.Steady
  rw [e]
  exact ⟨rfl, fun _ => .refl _, hm, fun _ => id, id, id, fun _ _ => id⟩

/-- What changes nothing of the ledger but its books, and keeps the counts within them, is steady. -/
theorem ofCover (h : s.Steady q t)
    (hc : (∀ i : Fin 128, t.ledger.count[i] ≤ t.ledger.value i) → ∀ i : Fin 128, u.ledger.count[i] ≤ u.ledger.value i)
    (e : u.guarded = { t.guarded with count := u.ledger.count, region := u.ledger.region, live := u.ledger.live } := by
      dsimp only [State.guarded]) : s.Steady q u := by
  refine h.trans ?_
  unfold State.Steady
  rw [e]
  exact ⟨rfl, fun _ => .refl _, id, fun _ => id, id, hc, fun _ _ => id⟩

/-- What stores bytes and keeps them in canonical form is steady. -/
theorem putMem (h : s.Steady q t) {m : Mem} (hm : Memory.wf t.mem.cells = true → Memory.wf m.cells = true) :
    s.Steady q { t with mem := m } :=
  h.ofCells hm

/-- A state whose outputs are all released has every channel at nominal. -/
theorem ofReleased (h : s.Steady false t) (hr : ∀ n : Chan, (t.chan[n]).released = true) : s.Steady q t :=
  ⟨h.pending, h.chan, h.cells, h.stage, h.drive, h.cover, fun _ n _ => .inl (hr n)⟩

/-- What changes the memory and none of its bytes is steady. -/
theorem sameMem (h : s.Steady q t) {m : Mem} (hm : m.cells = t.mem.cells) : s.Steady q { t with mem := m } :=
  h.putMem fun hw => hm ▸ hw

/-- What moves players alone is steady. -/
theorem ofButPlayers (h : s.Steady q t) (e : u.butPlayers = t.butPlayers) : s.Steady q u :=
  h.same (show u.butPlayers.guarded = t.butPlayers.guarded by rw [e])

/-- Where quiet is not asked, another live configuration, or the wait for one, is steady by itself. -/
theorem ofTxn (h : s.Steady false t)
    (e : u.guarded = { t.guarded with nom := u.guarded.nom, defaultsDue := u.guarded.defaultsDue } := by
      dsimp only [State.guarded]) : s.Steady false u := by
  refine h.trans ?_
  unfold State.Steady
  rw [e]
  exact ⟨rfl, fun _ => .refl _, id, fun _ => id, id, id, nofun⟩

/-- Channels that keep what they keep are steady. -/
theorem mapChan {f : Chan → Channel → Channel} (h : s.Steady q t) (hf : ∀ (n : Chan) (c : Channel), c.Keeps q (f n c)) :
    s.Steady q { t with chan := mapAll f t.chan } :=
  h.ofChan (hc := fun n => by
    dsimp only
    rw [mapAll_get]
    exact hf n _)

end State.Steady

/-! ### Stages -/

@[simp] theorem State.beginFault_stage (s : State) (b : Nat) : (s.beginFault b).power.stage = s.power.stage := by
  unfold State.beginFault
  dsimp only
  split
  · rfl
  · split <;> simp

@[simp] theorem State.clearFault_stage (s : State) (b : Nat) : (s.clearFault b).power.stage = s.power.stage := by
  unfold State.clearFault
  dsimp only
  split
  · split <;> simp
  · rfl

/-! ### The ledger -/

@[simp] theorem Ledger.queueDue_count (l : Ledger) (bound : Vector Nat 128) : (l.queueDue bound).count = l.count := by
  unfold Ledger.queueDue
  split <;> rfl

@[simp] theorem Ledger.queueDue_region (l : Ledger) (bound : Vector Nat 128) : (l.queueDue bound).region = l.region := by
  unfold Ledger.queueDue
  split <;> rfl

@[simp] theorem Ledger.queueDue_live (l : Ledger) (bound : Vector Nat 128) : (l.queueDue bound).live = l.live := by
  unfold Ledger.queueDue
  split <;> rfl

/-! ### The bytes of the memory -/

@[simp] theorem Mem.ite_cells {p : Prop} [Decidable p] (m n : Mem) :
    (if p then m else n).cells = if p then m.cells else n.cells :=
  apply_ite Mem.cells p m n

@[simp] theorem Mem.setCaptures_cells (m : Mem) (f : Fin 8 → Capture → Capture) : (m.setCaptures f).cells = m.cells := by
  refine foldl_keeps Mem.cells (fun m k => ?_) _ m
  refine foldl_keeps Mem.cells (fun m j => ?_) _ _
  dsimp only
  split <;> simp

@[simp] theorem Mem.noteSeg_cells (m : Mem) (id : BitVec 16) : (m.noteSeg id).cells = m.cells := rfl
@[simp] theorem Mem.noteList_cells (m : Mem) (page e : Nat) : (m.noteList page e).cells = m.cells := rfl
@[simp] theorem Mem.noteBog_cells (m : Mem) (slot : Nat) : (m.noteBog slot).cells = m.cells := rfl
@[simp] theorem Mem.toHistory_cells (m : Mem) (e : BogEntry) : (m.toHistory e).cells = m.cells := rfl
@[simp] theorem Mem.toSpare_cells (m : Mem) (a : LineAddr) (owner : BitVec 16) (data : List Byte) :
    (m.toSpare a owner data).cells = m.cells := rfl
@[simp] theorem Mem.dropMerge_cells (m : Mem) (sub : Fin 2) (a : LineAddr) : (m.dropMerge sub a).cells = m.cells := rfl
@[simp] theorem Mem.takeHead_cells (m : Mem) (a : LineAddr) (id : BitVec 16) (wrong : List (Nat × BitVec 64)) :
    (m.takeHead a id wrong).cells = m.cells := rfl
@[simp] theorem Mem.countScrub_cells (m : Mem) (corrected persistent bad : Nat) :
    (m.countScrub corrected persistent bad).cells = m.cells := rfl

@[simp] theorem Mem.putSeg_cells (m : Mem) (g : Segment) : (m.putSeg g).cells = m.cells := by
  unfold Mem.putSeg
  dsimp only
  split <;> simp

@[simp] theorem Mem.updateSeg_cells (m : Mem) (id : BitVec 16) (f : Segment → Segment) :
    (m.updateSeg id f).cells = m.cells := by
  unfold Mem.updateSeg
  cases m.seg id <;> simp

@[simp] theorem Mem.listRead_cells (m : Mem) (a : LineAddr) : (m.listRead a).cells = m.cells := by
  unfold Mem.listRead
  split
  · next id _ _ => cases m.seg id <;> simp
  · rfl

@[simp] theorem Mem.noteBad_cells (m : Mem) (a : LineAddr) (owner : BitVec 16) (tick : Nat) :
    (m.noteBad a owner tick).cells = m.cells := by
  unfold Mem.noteBad
  dsimp only
  split <;> rfl

@[simp] theorem Mem.unwant_cells (m : Mem) (id : BitVec 16) (o : Nat) : (m.unwant id o).cells = m.cells := by
  unfold Mem.unwant
  split <;> simp

@[simp] theorem Mem.takeList_cells (m : Mem) (a : LineAddr) : (m.takeList a).cells = m.cells := by
  unfold Mem.takeList
  split
  · split <;> rfl
  · rfl

@[simp] theorem Mem.ringLine_cells (m : Mem) (k : Fin 8) (a : LineAddr) (f : CapLine → Option CapLine) :
    (m.ringLine k a f).cells = m.cells := by
  unfold Mem.ringLine
  dsimp only
  split <;> rfl

@[simp] theorem Mem.addPage_cells (m : Mem) (g : Segment) (p : Nat) : (m.addPage g p).1.cells = m.cells := rfl

@[simp] theorem Mem.addList_cells (m : Mem) (g : Segment) (p : Nat) : (m.addList g p).1.cells = m.cells := by
  unfold Mem.addList
  dsimp only
  split <;> simp

theorem Mem.grow_cells {fuel : Nat} {m m' : Mem} {g g' : Segment} {n : Nat} (h : m.grow fuel g n = some (m', g')) :
    m'.cells = m.cells := by
  induction fuel generalizing m g with
  | zero =>
    unfold Mem.grow at h
    split at h
    · cases h
      rfl
    · cases h
  | succ fuel ih =>
    unfold Mem.grow at h
    split at h
    · cases h
      rfl
    · split at h
      · cases h
      · next p m1 htake =>
        have hq : (if g.lists.length * 16383 ≤ g.pages.length then m1.addList g p else m1.addPage g p).1.cells = m1.cells := by
          split <;> simp
        exact (ih h).trans (hq.trans (Mem.takePage_cells htake))

/-- A line that is written back keeps the canonical form. -/
theorem Mem.writeBack_wf (m : Mem) (a : LineAddr) (owner : BitVec 16) (data : List Byte)
    (h : Memory.wf m.cells = true) : Memory.wf (m.writeBack a owner data).cells = true := by
  have h1 := m.putLine_wf .p4 a owner data h
  unfold Mem.writeBack
  dsimp only
  split
  · rw [Mem.ringLine_cells]
    exact h1
  · exact h1

/-! ### Channels -/

theorem Channel.release_keeps {q : Bool} (gain : BitVec 1) (c : Channel) : c.Keeps q (c.release gain) :=
  ⟨fun _ => rfl, fun _ => .inr rfl, id, fun _ _ _ => .inl rfl⟩

theorem Channel.retreat_keeps {q : Bool} (retInt : BitVec 9) (clk : Nat) (c : Channel) : c.Keeps q (c.retreat retInt clk) := by
  unfold Channel.retreat
  split
  · exact .refl c
  · split
    · exact .ofCode id .inl id rfl rfl rfl
    · exact .ofCode id (fun _ => .inl rfl) id rfl rfl rfl

theorem Channel.reset_keeps {q : Bool} (c : Channel) : c.Keeps q c.reset :=
  ⟨fun _ => rfl, fun _ => .inr rfl, id, fun _ _ _ => .inl rfl⟩

/-- Whatever comes of a command, its next state is steady. -/
def State.SteadyTo (s : State) (o : Host.Outcome State Fault Refusal) : Prop := ∀ u, o = .next u → s.Steady false u

theorem State.Steady.next {s t : State} (h : s.Steady false t) : s.SteadyTo (.next t) := by
  rintro u ⟨⟩
  exact h

theorem State.SteadyTo.fault {s : State} {r : Fault} : s.SteadyTo (.fault r) := by
  rintro u ⟨⟩

theorem State.SteadyTo.refused {s : State} {r : Refusal} : s.SteadyTo (.refused r) := by
  rintro u ⟨⟩

theorem State.SteadyTo.ite {p : Prop} [Decidable p] {s : State} {a b : Host.Outcome State Fault Refusal}
    (ha : s.SteadyTo a) (hb : s.SteadyTo b) : s.SteadyTo (if p then a else b) := by
  split <;> assumption

end Sys2Proof.Machine
end

section
/-! PROOFS. What a configuration that takes effect leaves of what is guarded. -/

namespace Sys2Proof.Machine

theorem State.butPlayers_guarded (s : State) : s.butPlayers.guarded = s.guarded := rfl

theorem State.butPlayers_txn (s : State) : s.butPlayers.txn = s.txn := rfl

theorem State.startPlayers_txn (s : State) : s.startPlayers.txn = s.txn := by
  rw [← State.butPlayers_txn, State.startPlayers_butPlayers, State.butPlayers_txn]

theorem State.startPlayers_guarded (s : State) : s.startPlayers.guarded = s.guarded := by
  rw [← State.butPlayers_guarded, State.startPlayers_butPlayers, State.butPlayers_guarded]

@[simp] theorem State.judgeBudget_guarded (s : State) (i : Fin 128) : (s.judgeBudget i).guarded = s.guarded := by
  unfold State.judgeBudget State.fireLedger
  dsimp only
  split
  · simp [State.guarded]
  · rfl

@[simp] theorem State.judgeBudget_txn (s : State) (i : Fin 128) : (s.judgeBudget i).txn = s.txn := by
  unfold State.judgeBudget State.fireLedger
  dsimp only
  split <;> simp

@[simp] theorem State.clearFault_guarded (s : State) (b : Nat) : (s.clearFault b).guarded = s.guarded := by
  simp [State.guarded]

theorem State.judgeSquall_guarded (s : State) : s.judgeSquall.guarded = s.guarded := by
  simp [State.guarded]

/-- A calibration that an apply drops takes its Fog flag with it. -/
def Channel.unfog (drops : Bool) (c : Channel) : Channel := if drops then { c with fog := false } else c

@[simp] theorem Channel.unfog_released (drops : Bool) (c : Channel) : (c.unfog drops).released = c.released := by
  unfold Channel.unfog
  split <;> rfl

@[simp] theorem Channel.unfog_retreated (drops : Bool) (c : Channel) : (c.unfog drops).retreated = c.retreated := by
  unfold Channel.unfog
  split <;> rfl

@[simp] theorem Channel.unfog_forGood (drops : Bool) (c : Channel) : (c.unfog drops).forGood = c.forGood := by
  unfold Channel.unfog
  split <;> rfl

theorem Channel.unfog_keeps {q : Bool} (drops : Bool) (c : Channel) : c.Keeps q (c.unfog drops) := by
  unfold Channel.unfog
  split
  · exact .ofCode id .inl id rfl rfl rfl
  · exact .refl c

/-- What is guarded, with other channels and another drive of RTR_N. -/
def Guarded.put (g : Guarded) (chan : Vector Channel 64) (drive : Bool) : Guarded := { g with chan := chan, drive := drive }

theorem Guarded.put_put (g : Guarded) (chan chan' : Vector Channel 64) (drive drive' : Bool) :
    (g.put chan drive).put chan' drive' = g.put chan' drive' := rfl

/-- What is guarded, with another live configuration, which is the one that was due. -/
def Guarded.withLive (g : Guarded) (cfg : Configuration) : Guarded :=
  { g with nom := fun n => (cfg.params.chan[n]).nom, defaultsDue := false }

theorem Guarded.steady_put {q : Bool} (g : Guarded) {chan : Vector Channel 64} {drive : Bool}
    (hc : ∀ n : Chan, (g.chan[n]).Keeps q (chan[n])) (hd : g.drive = true → drive = true) : g.Steady q (g.put chan drive) :=
  ⟨rfl, fun n => (hc n).loud, id, fun _ => id, hd, id, fun hq n hn =>
    hn.imp (hc n).released fun ⟨hdd, hs⟩ => ⟨hdd, (hc n).stands hq _ hs⟩⟩

/-- Channels keep what they keep through another live configuration; while the power-up state's waits to take effect, those at
nominal are the released ones. -/
theorem Guarded.steady_withLive {q : Bool} (g : Guarded) (cfg : Configuration) {chan : Vector Channel 64} {drive : Bool}
    (hc : ∀ n : Chan, (g.chan[n]).Keeps false (chan[n])) (hd : g.drive = true → drive = true)
    (hq : q = true → g.defaultsDue = true) : g.Steady q ((g.withLive cfg).put chan drive) :=
  ⟨rfl, hc, id, fun _ => id, hd, id, fun h n hn =>
    .inl ((hc n).released (hn.resolve_right fun hn => absurd ((hq h).symm.trans hn.1) Bool.true_eq_false.mp))⟩

theorem State.calTakesEffect_guarded (s : State) :
    ∃ drops : Chan → Bool,
      s.calTakesEffect.guarded = s.guarded.put (mapAll (fun n c => c.unfog (drops n)) s.chan) s.pins.rtrDrive :=
  ⟨fun n => s.cal.item.any fun it => it.chan == n && s.applyDrops it, by
    simp only [State.calTakesEffect, State.guarded, Guarded.put, State.abandonCal_power, State.abandonCal_pins, State.abandonCal_txn,
      State.abandonCal_mem, State.abandonCal_ledger, State.abandonCal_pending]
    rfl⟩

@[simp] theorem State.calTakesEffect_txn (s : State) : s.calTakesEffect.txn = s.txn := by
  simp [State.calTakesEffect]

theorem mapAll_mapAll {α : Type} {n : Nat} (f g : Fin n → α → α) (v : Vector α n) :
    mapAll g (mapAll f v) = mapAll (fun i x => g i (f i x)) v := by
  ext i hi
  simp [mapAll]

/-- What a configuration that takes effect leaves of what is guarded: the channels take it up, and a commit lets RTR_N go. -/
theorem State.takeEffect_guarded (s : State) (cfg : Configuration) (isCommit : Bool) :
    ∃ (v : State) (drops : Chan → Bool),
      v.chan = s.chan ∧ v.txn = (s.takeEffect cfg isCommit).txn ∧
      (s.takeEffect cfg isCommit).txn =
        { s.txn with live := cfg, leave := Vector.ofFn cfg.leaves, defaultsDue := false } ∧
      (s.takeEffect cfg isCommit).guarded =
        (s.guarded.withLive cfg).put
          (mapAll (fun n c => (v.channelTakesEffect isCommit (isCommit && cfg.mode == 0) n c).unfog (drops n)) s.chan)
          (s.pins.rtrDrive && !isCommit) := by
  unfold State.takeEffect
  extract_lets old leave _ s1 s2 _ _ _ s3 restarts _ sArmed s4 s5 hold _ s6 s7
  have h2 : s2.guarded = s.guarded.withLive cfg := by
    simp only [s2, State.clearFault_guarded, State.startPlayers_guarded]
    rfl
  have h2t : s2.txn = s1.txn := by simp only [s2, State.clearFault_txn, State.startPlayers_txn]
  clear_value s2
  have h3 : s3.guarded = s2.guarded.put s2.chan (s2.pins.rtrDrive && !isCommit) := by
    simp only [s3, State.guarded, Guarded.put, Mem.armCaptures_cells]
    rfl
  have hA : sArmed.guarded = s3.guarded := rfl
  have hAt : sArmed.txn = s1.txn := h2t
  have h4 : s4.guarded = sArmed.guarded := foldl_keeps State.guarded State.judgeBudget_guarded _ sArmed
  have h4t : s4.txn = sArmed.txn := foldl_keeps State.txn State.judgeBudget_txn _ sArmed
  clear_value sArmed s4
  have h5 : s5.guarded = s4.guarded := by simp only [s5, State.guarded, Ledger.judgeHolds]
  have h5t : s5.txn = s1.txn := Eq.trans (b := s4.txn) rfl (h4t.trans hAt)
  rw [h4, hA, h3, h2] at h5
  clear_value s5
  have hc : s5.chan = s.chan := (congrArg Guarded.chan h5).trans (congrArg Guarded.chan h2)
  have hd : s5.pins.rtrDrive = (s.pins.rtrDrive && !isCommit) :=
    (congrArg Guarded.drive h5).trans (congrArg (· && !isCommit) (congrArg Guarded.drive h2))
  have h6 : s6.guarded = s5.guarded.put (mapAll (s5.channelTakesEffect isCommit hold) s5.chan) s5.pins.rtrDrive := by
    simp only [s6, State.guarded, Guarded.put]
    rfl
  have h7t : s7.txn = s1.txn := by
    simp only [s7, State.judgeSquall_txn, State.calTakesEffect_txn, State.setResident_txn]
    exact h5t
  obtain ⟨drops, hdrops⟩ := s6.setResident.calTakesEffect_guarded
  have h7 : s7.guarded = (s.guarded.withLive cfg).put
      (mapAll (fun n c => (s5.channelTakesEffect isCommit hold n c).unfog (drops n)) s.chan) (s.pins.rtrDrive && !isCommit) := by
    have h6r : s6.setResident.guarded = s6.guarded := rfl
    have h6c : s6.setResident.chan = s6.chan := rfl
    have h6d : s6.setResident.pins.rtrDrive = s6.pins.rtrDrive := rfl
    have hq : s7.guarded = s6.setResident.calTakesEffect.guarded := State.judgeSquall_guarded _
    rw [hq, hdrops, h6r, h6c, h6d, h6, h5, ← hc, ← hd]
    simp only [Guarded.put, s6, mapAll_mapAll]
  refine ⟨s5, drops, hc, ?_⟩
  split
  · exact ⟨h5t.trans h7t.symm, h7t, h7⟩
  · refine ⟨h5t.trans h7t.symm, h7t, ?_⟩
    rw [← h7]
    simp only [State.guarded, Mem.wake_cells]

theorem State.takeEffect_txn (s : State) (cfg : Configuration) (isCommit : Bool) :
    (s.takeEffect cfg isCommit).txn = { s.txn with live := cfg, leave := Vector.ofFn cfg.leaves, defaultsDue := false } := by
  obtain ⟨_, _, _, _, htxn, _⟩ := s.takeEffect_guarded cfg isCommit
  exact htxn

theorem State.Steady.calTakesEffect {q : Bool} {s t : State} (h : s.Steady q t) : s.Steady q t.calTakesEffect := by
  obtain ⟨drops, hg⟩ := t.calTakesEffect_guarded
  refine h.trans ?_
  unfold State.Steady
  rw [hg]
  refine t.guarded.steady_put (fun n => ?_) id
  rw [mapAll_get]
  exact Channel.unfog_keeps _ _

/-! ### A configuration that takes effect without a commit -/

@[simp] theorem State.channelTakesEffect_forGood (s : State) (isCommit hold : Bool) (n : Chan) (c : Channel) :
    (s.channelTakesEffect isCommit hold n c).forGood = c.forGood := by
  unfold State.channelTakesEffect
  dsimp only
  split
  · split <;> rfl
  · rfl

/-- Without a commit a channel keeps its release and its retreat. -/
theorem State.channelTakesEffect_keeps (s : State) (n : Chan) (c : Channel) (drops : Bool) :
    c.Keeps false ((s.channelTakesEffect false false n c).unfog drops) where
  released h := by simp [State.channelTakesEffect_released, h]
  retreated h := by simp [State.channelTakesEffect_retreated, h]
  forGood h := by simp [h]
  stands := nofun

/-- Without a commit what takes effect is steady, and quiet where it is the power-up configuration that was due. -/
theorem State.Steady.takeEffectDue {q : Bool} {s t : State} (h : s.Steady q t) {cfg : Configuration}
    (hq : q = true → t.txn.defaultsDue = true) : s.Steady q (t.takeEffect cfg false) := by
  obtain ⟨v, drops, -, -, -, hg⟩ := t.takeEffect_guarded cfg false
  refine h.trans ?_
  unfold State.Steady
  rw [hg]
  refine t.guarded.steady_withLive cfg (fun n => ?_) (fun hd => ?_) hq
  · rw [mapAll_get]
    exact v.channelTakesEffect_keeps n _ _
  · rw [Bool.not_false, Bool.and_true]
    exact hd

theorem State.Steady.takeEffect {s t : State} (h : s.Steady false t) {cfg : Configuration} :
    s.Steady false (t.takeEffect cfg false) :=
  h.takeEffectDue nofun

/-! ### Stages that are not the failed one -/

theorem State.unfailed_of_runs {s : State} (h : s.power.stage.runs = true) : s.Unfailed := fun cause hc => by
  simp [hc, Stage.runs] at h

theorem State.unfailed_of_afterClock {s : State} (h : s.power.stage.afterClock = true) : s.Unfailed := fun cause hc => by
  simp [hc, Stage.afterClock] at h

theorem State.unfailed_of_clock {s : State} (h : (decide (s.power.stage = .clock) || s.power.stage.afterClock) = true) :
    s.Unfailed := fun cause hc => by
  simp [hc, Stage.afterClock] at h

theorem State.unfailed_of_isUp {s : State} (h : s.isUp = true) : s.Unfailed := fun cause hc => by
  simp [State.isUp, hc] at h

/-! ### One channel -/

theorem chanSet_get (v : Vector Channel 64) (n k : Chan) (c : Channel) : (v.set n c)[k] = if n = k then c else v[k] := by
  simp only [Fin.getElem_fin, Vector.getElem_set, Fin.ext_iff]

/-- A channel that keeps what it keeps is steady. -/
theorem State.Steady.setChan {q : Bool} {s t : State} (h : s.Steady q t) {n : Chan} {c : Channel} (hc : (t.chan[n]).Keeps q c) :
    s.Steady q { t with chan := t.chan.set n c } :=
  h.ofChan (hc := fun k => by
    dsimp only
    rw [chanSet_get]
    split
    · next e => exact e ▸ hc
    · exact .refl _)

end Sys2Proof.Machine
end

section
/-! PROOFS. Every operation of the model is steady. -/

-- one theorem at a time: elaborated side by side they wait for the kernel on more threads than memory allows
set_option Elab.async false

namespace Sys2Proof.Machine

theorem State.Steady.showSt {q : Bool} {s t : State} (h : s.Steady q t) : s.Steady q t.showSt := by
  unfold State.showSt
  exact h.same

theorem State.Steady.bump {q : Bool} {s t : State} (h : s.Steady q t) {i : Fin 18} : s.Steady q (t.bump i) := by
  unfold State.bump
  exact h.same

theorem State.Steady.logEvent {q : Bool} {s t : State} (h : s.Steady q t) {code : Byte} {sub : Byte} {obj : BitVec 16} {data : (BitVec 48)} : s.Steady q (t.logEvent code sub obj data) := by
  unfold State.logEvent
  extract_lets e grown
  exact .ite (h.same) (h.bump.same)

theorem State.Steady.outcome {q : Bool} {s t : State} (h : s.Steady q t) {code : Byte} {obj : Obj} {pin : Byte} {mask : (BitVec 64)} : s.Steady q (t.outcome code obj pin mask) := by
  unfold State.outcome
  extract_lets e grown
  exact .ite (h.same) (h.bump.same)

theorem State.Steady.freeChoice {q : Bool} {s t : State} (h : s.Steady q t) : s.Steady q t.freeChoice.2 := by
  unfold State.freeChoice
  exact h.same

theorem State.Steady.raiseFor {q : Bool} {s t : State} (h : s.Steady q t) {code : ℕ} {who : PlayerNo → Bool} : s.Steady q (t.raiseFor code who) := by
  unfold State.raiseFor
  exact h.same

theorem State.Steady.setCaptures {q : Bool} {s t : State} (h : s.Steady q t) {f : Fin 8 → Capture → Capture} :
    s.Steady q (t.setCaptures f) := by
  unfold State.setCaptures
  exact h.same (by simp [State.guarded])

theorem State.Steady.fireCaptures {q : Bool} {s t : State} (h : s.Steady q t) {cond : CapStream → Bool} : s.Steady q (t.fireCaptures cond) := by
  unfold State.fireCaptures
  split
  · exact h
  · exact h.setCaptures

theorem State.Steady.raisePin {q : Bool} {s t : State} (h : s.Steady q t) {code : ℕ} : s.Steady q (t.raisePin code) := by
  unfold State.raisePin
  exact h.same.fireCaptures

theorem State.Steady.abandonCal {q : Bool} {s t : State} (h : s.Steady q t) {who : Chan → Bool} : s.Steady q (t.abandonCal who) := by
  unfold State.abandonCal
  split
  · exact .ite (h.same) (h)
  · exact h

theorem State.Steady.release {q : Bool} {s t : State} (h : s.Steady q t) {who : Chan → Bool} : s.Steady q (t.release who) := by
  unfold State.release
  exact (h.mapChan fun _ c => .ite (c.release_keeps _) (.refl c)).abandonCal

theorem State.Steady.releaseAll {q : Bool} {s t : State} (h : s.Steady q t) : s.Steady q t.releaseAll := by
  unfold State.releaseAll
  exact h.release

theorem State.Steady.retreat {q : Bool} {s t : State} (h : s.Steady q t) {who : Chan → Bool} : s.Steady q (t.retreat who) := by
  unfold State.retreat
  exact (h.mapChan fun _ c => .ite (c.retreat_keeps _ _) (.refl c)).abandonCal

theorem State.Steady.retreatAll {q : Bool} {s t : State} (h : s.Steady q t) : s.Steady q t.retreatAll := by
  unfold State.retreatAll
  exact h.retreat

theorem State.Steady.setResident {q : Bool} {s t : State} (h : s.Steady q t) : s.Steady q t.setResident := by
  unfold State.setResident
  extract_lets ids loading
  exact h.same

theorem State.Steady.closeTxn {q : Bool} {s t : State} (h : s.Steady q t) : s.Steady q t.closeTxn := by
  unfold State.closeTxn
  exact h.same.setResident

theorem State.Steady.discard {q : Bool} {s t : State} (h : s.Steady q t) {code : Byte} {obj : Obj} : s.Steady q (t.discard code obj) := by
  unfold State.discard
  exact .ite (h) (h.outcome.closeTxn)

theorem State.Steady.holdVeto {q : Bool} {s t : State} (h : s.Steady q t) {code : Byte} : s.Steady q (t.holdVeto code) := by
  unfold State.holdVeto
  split
  · exact h
  · extract_lets _ c
    exact .ite (h.same) (h.same)

theorem State.Steady.endsProbation {q : Bool} {s t : State} (h : s.Steady q t) {b : ℕ} : s.Steady q (t.endsProbation b) := by
  unfold State.endsProbation
  exact .ite (h.same) (h)

theorem State.Steady.faultDiscards {q : Bool} {s t : State} (h : s.Steady q t) : s.Steady q t.faultDiscards := by
  unfold State.faultDiscards
  extract_lets s'
  have hs' : s.Steady q s' := h.discard
  exact .ite (hs'.holdVeto) (hs')

theorem State.Steady.beginFault {q : Bool} {s t : State} (h : s.Steady q t) {b : ℕ} : s.Steady q (t.beginFault b) := by
  unfold State.beginFault
  split
  · exact h
  · extract_lets _ s1 s2
    have hs1 : s.Steady q s1 := h.same
    have hs2 : s.Steady q s2 := .ite (hs1.logEvent) (hs1)
    exact hs2.faultDiscards.endsProbation

theorem State.Steady.clearFault {q : Bool} {s t : State} (h : s.Steady q t) {b : ℕ} : s.Steady q (t.clearFault b) := by
  unfold State.clearFault
  split
  · extract_lets _ s1
    have hs1 : s.Steady q s1 := h.same
    exact .ite (hs1.logEvent) (hs1)
  · exact h

theorem Guarded.covered_of_reset {g : Guarded} (h : g.count = Ledger.initial.count) : g.covered := fun i => by
  rw [h]
  simp [Ledger.initial]

/-- A reset of the core releases every output and begins the counts at zero. -/
theorem State.coreReset_guarded (s : State) :
    s.coreReset.guarded =
      { s.guarded with
        chan := s.coreReset.chan, stage := .reset, count := Ledger.initial.count, live := Ledger.initial.live,
        nom := s.coreReset.guarded.nom, defaultsDue := false } := by
  dsimp only [State.guarded, State.coreReset, Power.initial, Txn.initial]

theorem State.coreReset_chan_keeps {q : Bool} (s : State) (n : Chan) : (s.chan[n]).Keeps q (s.coreReset.chan[n]) := by
  have hn : s.coreReset.chan[n] = (s.chan[n]).reset := mapAll_get _ _ _
  rw [hn]
  exact Channel.reset_keeps _

theorem State.Steady.coreReset {q : Bool} {s t : State} (h : s.Steady q t) (hs : s.Unfailed) : s.Steady q t.coreReset := by
  refine State.Steady.ofReleased ?_ t.coreReset_allReleased
  unfold State.Steady
  rw [State.coreReset_guarded]
  exact ⟨h.pending, fun n => (h.chan n).trans (t.coreReset_chan_keeps n), h.cells, fun cause hc => absurd hc (hs cause),
    h.drive, fun _ => Guarded.covered_of_reset rfl, nofun⟩

theorem State.Steady.enterStage {q : Bool} {s t : State} (h : s.Steady q t) {st : Stage} (hs : s.Unfailed) :
    s.Steady q (t.enterStage st) := by
  unfold State.enterStage
  exact State.Steady.showSt (h.ofStage hs)

theorem State.Steady.failBringUp {q : Bool} {s t : State} (h : s.Steady q t) {cause : Byte} (hs : s.Unfailed) :
    s.Steady q (t.failBringUp cause) := by
  unfold State.failBringUp
  exact h.beginFault.enterStage hs

theorem State.Steady.coreRestart {q : Bool} {s t : State} (h : s.Steady q t) (hs : s.Unfailed) : s.Steady q t.coreRestart := by
  unfold State.coreRestart
  exact (h.coreReset hs).same

theorem State.Steady.restartAtSupply {q : Bool} {s t : State} (h : s.Steady q t) (hs : s.Unfailed) : s.Steady q t.restartAtSupply := by
  unfold State.restartAtSupply
  exact (h.coreRestart hs).enterStage hs

theorem State.Steady.returnToClock {q : Bool} {s t : State} (h : s.Steady q t) (hs : s.Unfailed) : s.Steady q t.returnToClock := by
  unfold State.returnToClock
  exact State.Steady.enterStage (h.coreRestart hs).same hs

theorem State.Steady.completeBringUp {q : Bool} {s t : State} (h : s.Steady q t) (hs : s.Unfailed) : s.Steady q t.completeBringUp := by
  unfold State.completeBringUp
  exact State.Steady.enterStage h.same hs

theorem State.Steady.enterTrimWait {q : Bool} {s t : State} (h : s.Steady q t) (hs : s.Unfailed) : s.Steady q t.enterTrimWait := by
  unfold State.enterTrimWait
  exact .ite (h.completeBringUp hs) (h.enterStage hs)

theorem State.Steady.beginFrame {q : Bool} {s t : State} (h : s.Steady q t) : s.Steady q t.beginFrame := by
  unfold State.beginFrame
  exact h.same

theorem State.Steady.judgeMode {q : Bool} {s t : State} (h : s.Steady q t) : s.Steady q t.judgeMode := by
  unfold State.judgeMode
  exact .ite (h.beginFault) (h)

theorem State.Steady.settlePins {q : Bool} {s t : State} (h : s.Steady q t) : s.Steady q t.settlePins := by
  unfold State.settlePins
  split
  · split
    · exact State.Steady.judgeMode (h.same (by dsimp only [State.guarded, Pins.setFrom]))
    · exact h
  · exact h

theorem State.Steady.syncDetectors {q : Bool} {s t : State} (h : s.Steady q t) {p : PlayerNo} : s.Steady q (t.syncDetectors p) := by
  unfold State.syncDetectors
  extract_lets restart
  exact h.same

theorem State.Steady.pulse {q : Bool} {s t : State} (h : s.Steady q t) {p : PlayerNo} : s.Steady q (t.pulse p) := by
  unfold State.pulse
  extract_lets ends
  exact .ite (h.same) (h.same)

theorem State.Steady.setLevel {q : Bool} {s t : State} (h : s.Steady q t) {p : PlayerNo} {level : Bool} : s.Steady q (t.setLevel p level) := by
  unfold State.setLevel
  exact .ite (h.same) (h.same)

theorem State.Steady.marker {q : Bool} {s t : State} (h : s.Steady q t) {p : PlayerNo} {act : BitVec 2} : s.Steady q (t.marker p act) := by
  unfold State.marker
  exact .ite (h.setLevel) (.ite (h.pulse) (h))

theorem State.Steady.onPlayer {q : Bool} {s t : State} (h : s.Steady q t) {p : PlayerNo} {f : Player → Player} : s.Steady q (t.onPlayer p f) := by
  unfold State.onPlayer
  exact h.same

theorem State.Steady.arrive {q : Bool} {s t : State} (h : s.Steady q t) {fuel : ℕ} {p : PlayerNo} {i : ℕ} :
    s.Steady q (State.arrive fuel t p i) :=
  h.ofButPlayers (State.arrive_butPlayers fuel t p i)

theorem State.Steady.proceed {q : Bool} {s t : State} (h : s.Steady q t) {p : PlayerNo} {i : ℕ} : s.Steady q (t.proceed p i) := by
  unfold State.proceed
  split
  · exact h.arrive
  · exact h.onPlayer

theorem State.Steady.jumpTo {q : Bool} {s t : State} (h : s.Steady q t) {p : PlayerNo} {t' : ℕ} : s.Steady q (t.jumpTo p t') := by
  unfold State.jumpTo
  exact h.onPlayer.arrive

theorem State.Steady.passControl {q : Bool} {s t : State} (h : s.Steady q t) {p : PlayerNo} : s.Steady q (t.passControl p) := by
  unfold State.passControl
  exact h.onPlayer

theorem State.Steady.settleLoop {q : Bool} {s t : State} (h : s.Steady q t) {p : PlayerNo} : s.Steady q (t.settleLoop p) := by
  unfold State.settleLoop
  extract_lets st s1
  have hs1 : s.Steady q s1 := h.passControl.onPlayer
  exact hs1.proceed

theorem State.Steady.settleNext {q : Bool} {s t : State} (h : s.Steady q t) {p : PlayerNo} : s.Steady q (t.settleNext p) := by
  unfold State.settleNext
  extract_lets x g i s1
  have hs1 : s.Steady q s1 := h.passControl
  split
  · exact .ite (hs1.jumpTo) (.ite (hs1.arrive) (.ite (hs1.onPlayer.proceed) (hs1.onPlayer.arrive)))
  · exact hs1.onPlayer

theorem State.Steady.settleJump {q : Bool} {s t : State} (h : s.Steady q t) {p : PlayerNo} : s.Steady q (t.settleJump p) := by
  unfold State.settleJump
  exact h.passControl.jumpTo

theorem State.Steady.settleEnd {q : Bool} {s t : State} (h : s.Steady q t) {p : PlayerNo} : s.Steady q (t.settleEnd p) := by
  unfold State.settleEnd
  exact h.passControl.onPlayer

theorem State.Steady.settleRun {q : Bool} {s t : State} (h : s.Steady q t) {fuel : ℕ} {p : PlayerNo} :
    s.Steady q (State.settleRun fuel t p) :=
  h.ofButPlayers (State.settleRun_butPlayers fuel t p)

theorem State.Steady.startPlayers {q : Bool} {s t : State} (h : s.Steady q t) : s.Steady q t.startPlayers :=
  h.ofButPlayers t.startPlayers_butPlayers

theorem State.Steady.playMarker {q : Bool} {s t : State} (h : s.Steady q t) {p : PlayerNo} {st : Step} : s.Steady q (t.playMarker p st) := by
  unfold State.playMarker
  split
  · exact h.pulse
  · exact h.onPlayer
  · exact h

theorem State.Steady.leaveStep {q : Bool} {s t : State} (h : s.Steady q t) {p : PlayerNo} {st : Step} : s.Steady q (t.leaveStep p st) := by
  unfold State.leaveStep
  exact .ite (h.marker) (h)

theorem State.Steady.fallBackNow {q : Bool} {s t : State} (h : s.Steady q t) {p : PlayerNo} {st : Step} : s.Steady q (t.fallBackNow p st) := by
  unfold State.fallBackNow
  split
  · extract_lets s1
    have hs1 : s.Steady q s1 := h.leaveStep.onPlayer
    exact hs1.jumpTo
  · exact .ite (h.onPlayer) (h.onPlayer)

theorem State.Steady.meetBogged {q : Bool} {s t : State} (h : s.Steady q t) {p : PlayerNo} {st : Step} : s.Steady q (t.meetBogged p st) := by
  unfold State.meetBogged
  exact .ite (h.raiseFor) (h)

theorem State.Steady.bookkeep {q : Bool} {s t : State} (h : s.Steady q t) {p : PlayerNo} {o : Op} : s.Steady q (t.bookkeep p o) := by
  unfold State.bookkeep
  extract_lets x g i st s1 s2 s3 dur wrapped moved s4 k ended seen pend s5
  have hs1 : s.Steady q s1 := .ite (h.marker) (h)
  have hs2 : s.Steady q s2 := .ite (hs1.syncDetectors) (hs1)
  have hs3 : s.Steady q s3 := .ite (hs2.playMarker) (hs2)
  have hs4 : s.Steady q s4 := hs3.onPlayer
  have hs5 : s.Steady q s5 := hs4.onPlayer
  exact .ite (h) (.ite (.ite (hs4.leaveStep.proceed) (.ite (hs4.onPlayer) (hs4))) (.ite (hs5.leaveStep.onPlayer) (.ite (hs5.leaveStep.proceed) (.ite (hs5.meetBogged.fallBackNow) (.ite (hs5.onPlayer) (hs5))))))

theorem State.Steady.enqueue {q : Bool} {s t : State} (h : s.Steady q t) {r : MemReq} : s.Steady q (t.enqueue r) := by
  unfold State.enqueue
  extract_lets sub _ q' r1 s1
  have hs1 : s.Steady q s1 := h.same
  split
  · exact h.same
  · split
    · split
      · extract_lets serves
        exact hs1.onPlayer
      · exact hs1
    · exact hs1
    · exact hs1
    · exact hs1
    · exact hs1
    · exact hs1
    · exact hs1

theorem State.Steady.issueWrites {q : Bool} {s t : State} (h : s.Steady q t) : s.Steady q t.issueWrites := by
  unfold State.issueWrites
  exact h.same

theorem State.Steady.settleQueues {q : Bool} {s t : State} (h : s.Steady q t) : s.Steady q t.settleQueues := by
  unfold State.settleQueues
  exact .ite (h.issueWrites) (h.issueWrites.foldl (fun _ _ hu => hu.foldl (fun _ _ hu => .ite (hu.same.enqueue.issueWrites) (hu))))

theorem State.Steady.askRead {q : Bool} {s t : State} (h : s.Steady q t) {port : MemPort} {a : LineAddr} {owner : BitVec 16}
    {kind : ReadKind} : s.Steady q (t.askRead port a owner kind) :=
  h.same (by simp [State.guarded])

theorem State.Steady.finishRead {q : Bool} {s t : State} (h : s.Steady q t) {r : MemReq} : s.Steady q (t.finishRead r) :=
  h.same (by simp [State.guarded])

theorem State.Steady.judgeSquall {q : Bool} {s t : State} (h : s.Steady q t) : s.Steady q t.judgeSquall :=
  h.same t.judgeSquall_guarded

theorem State.Steady.loadHeads {q : Bool} {s t : State} (h : s.Steady q t) {c : Configuration} : s.Steady q (t.loadHeads c) := by
  unfold State.loadHeads
  refine h.foldl fun u id hu => ?_
  split
  · exact hu
  · refine hu.foldl fun u o hu => ?_
    split
    · exact .ite hu.askRead hu
    · exact hu

theorem State.Steady.walkList {q : Bool} {s t : State} (h : s.Steady q t) {g : Segment} {j : ℕ} : s.Steady q (t.walkList g j) := by
  unfold State.walkList
  extract_lets k l cached outstanding
  split
  · exact .ite (h) (h.askRead)
  · exact h

theorem State.Steady.askLane {q : Bool} {s t : State} (h : s.Steady q t) {p : PlayerNo} {st : Step} {i : ℕ} {n : Chan} : s.Steady q (t.askLane p st i n) := by
  unfold State.askLane
  extract_lets x f o serves s1
  have hs1 : s.Steady q s1 := h.onPlayer
  split
  · exact h
  · split
    · exact h
    · split
      · exact h.onPlayer.raiseFor
      · split
        · exact h
        · extract_lets s2
          have hs2 : s.Steady q s2 := hs1.askRead
          exact .ite (hs2.walkList) (hs2)

theorem State.Steady.askLines {q : Bool} {s t : State} (h : s.Steady q t) {p : PlayerNo} : s.Steady q (t.askLines p) := by
  unfold State.askLines
  split
  · extract_lets st lanes asks
    exact h.foldl (fun _ _ hu => hu.askLane)
  · exact h

theorem State.Steady.freezeLedger {q : Bool} {s t : State} (h : s.Steady q t) : s.Steady q t.freezeLedger := by
  unfold State.freezeLedger
  extract_lets s1
  have hs1 : s.Steady q s1 := .ite (h.bump) (h)
  exact hs1.same

theorem State.Steady.fireLedger {q : Bool} {s t : State} (h : s.Steady q t) {i : Fin 128} : s.Steady q (t.fireLedger i) := by
  unfold State.fireLedger
  extract_lets r s1
  have hs1 : s.Steady q s1 := h.raiseFor
  exact hs1.logEvent.freezeLedger

theorem State.Steady.judgeBudget {q : Bool} {s t : State} (h : s.Steady q t) {i : Fin 128} : s.Steady q (t.judgeBudget i) := by
  unfold State.judgeBudget
  extract_lets now _ s1
  have hs1 : s.Steady q s1 := h.same
  exact .ite (hs1.fireLedger) (hs1)

/-- A count that rises stays within what the flash records (R346). -/
theorem Ledger.countUp_covered (l : Ledger) (i : Fin 128) (h : ∀ j : Fin 128, l.count[j] ≤ l.value j) (j : Fin 128) :
    (l.count.set i (if l.count[i] < l.value i then l.count[i] + 1 else l.count[i]))[j] ≤ l.value j := by
  by_cases hij : i = j
  · subst hij
    have hi := h i
    simp only [Fin.getElem_fin, Vector.getElem_set_self] at hi ⊢
    split <;> omega
  · have hv : i.val ≠ j.val := fun e => hij (Fin.ext e)
    simpa [Fin.getElem_fin, Vector.getElem_set_ne _ _ hv] using h j

theorem State.Steady.countUp {q : Bool} {s t : State} (h : s.Steady q t) {i : Fin 128} : s.Steady q (t.countUp i) := by
  unfold State.countUp
  exact State.Steady.judgeBudget (h.ofCover (t.ledger.countUp_covered i))

/-- Which operation the flash runs moves no count and no region. -/
def Ledger.books (l : Ledger) : Vector Nat 128 × Vector Region 2 × Fin 2 := (l.count, l.region, l.live)

@[simp] theorem Ledger.startCompaction_books (l : Ledger) : l.startCompaction.books = l.books := by
  unfold Ledger.startCompaction
  split <;> rfl

@[simp] theorem Ledger.startNext_books (l : Ledger) (bound : Vector Nat 128) (failed : Bool) :
    (l.startNext bound failed).books = l.books := by
  unfold Ledger.startNext
  split
  · rfl
  · split
    · rfl
    · split <;> rfl

/-- What changes of the ledger nothing but which operation runs is steady. -/
theorem State.Steady.ofBooks {q : Bool} {s t u : State} (h : s.Steady q t) (hl : u.ledger.books = t.ledger.books)
    (e : u.guarded = { t.guarded with count := u.ledger.count, region := u.ledger.region, live := u.ledger.live } := by
      dsimp only [State.guarded]) : s.Steady q u := by
  obtain ⟨hc, hr, hv⟩ : u.ledger.count = t.ledger.count ∧ u.ledger.region = t.ledger.region ∧ u.ledger.live = t.ledger.live := by
    simpa [Ledger.books] using hl
  exact h.same (by rw [e, hc, hr, hv]; rfl)

theorem State.Steady.ledgerNext {q : Bool} {s t : State} (h : s.Steady q t) : s.Steady q t.ledgerNext := by
  unfold State.ledgerNext
  exact h.ofBooks (by simp)

theorem State.Steady.loseSight {q : Bool} {s t : State} (h : s.Steady q t) : s.Steady q t.loseSight := by
  unfold State.loseSight
  extract_lets blind s1
  have hs1 : s.Steady q s1 := h.retreat
  exact hs1.mapChan fun _ c => .ite (.ofCode id .inl id rfl rfl rfl) (.refl c)



theorem State.Steady.toPowerUp {s t : State} (h : s.Steady false t) : s.Steady false t.toPowerUp := by
  unfold State.toPowerUp
  extract_lets s1 _ _ _ s2
  have hs1 : s.Steady false s1 := h.releaseAll
  have hs2 : s.Steady false s2 := hs1.same
  exact hs2.takeEffect

theorem State.Steady.rtrRecognised {q : Bool} {s t : State} (h : s.Steady q t) : s.Steady q t.rtrRecognised := by
  unfold State.rtrRecognised
  exact .ite (h) (h.retreatAll.logEvent)

theorem State.Steady.observe {q : Bool} {s t : State} (h : s.Steady q t) {o : PinObs} : s.Steady q (t.observe o) := by
  unfold State.observe
  extract_lets levels rtr _ s1
  have hs1 : s.Steady q s1 := h.same.judgeMode
  exact .ite (hs1.rtrRecognised) (hs1)

theorem State.Steady.noteChanges {q : Bool} {s t : State} (h : s.Steady q t) {es : List BogEntry} : s.Steady q (t.noteChanges es) := by
  unfold State.noteChanges
  exact h.same

theorem State.Steady.leaveBog {q : Bool} {s t : State} (h : s.Steady q t) {who : BogEntry → Bool} {st : BogState} :
    s.Steady q (t.leaveBog who st) := by
  unfold State.leaveBog
  extract_lets gone _ m
  have hm : m.cells = t.mem.cells :=
    foldl_keeps Mem.cells (f := fun m (e : BogEntry) => (m.noteBog e.slot).toHistory e) (fun _ _ => rfl) gone _
  exact (h.sameMem hm).noteChanges

theorem State.Steady.wantContent {q : Bool} {s t : State} (h : s.Steady q t) {id : BitVec 16} : s.Steady q (t.wantContent id) := by
  unfold State.wantContent
  exact .ite (h.bump) (h.same)

theorem State.Steady.bogLine {q : Bool} {s t : State} (h : s.Steady q t) {g : Segment} {a : LineAddr} {cause : BogCause} {o : ℕ}
    {listed : Option (List ℕ)} : s.Steady q (t.bogLine g a cause o listed) := by
  unfold State.bogLine
  split
  · exact h
  · extract_lets room e lost lines newly g' m s1 s2
    have hm : m.cells = t.mem.cells := t.mem.putSeg_cells g'
    have hs1 : s.Steady q s1 := h.same (by simp [State.guarded, s1, hm])
    exact (State.Steady.ite hs1.noteChanges hs1).wantContent

theorem State.Steady.settleQuarantine {q : Bool} {s t : State} (h : s.Steady q t) {id : BitVec 16} : s.Steady q (t.settleQuarantine id) := by
  unfold State.settleQuarantine
  split
  · exact h
  · split
    · extract_lets st
      exact h.same (by simp [State.guarded])
    · exact h

theorem State.Steady.loseDram {q : Bool} {s t : State} (h : s.Steady q t) {cause : ℕ} : s.Steady q (t.loseDram cause) := by
  unfold State.loseDram
  extract_lets s1
  have hs1 : s.Steady q s1 := h.beginFault.retreat
  exact hs1.same

theorem State.Steady.retire {q : Bool} {s t : State} (h : s.Steady q t) {dev : DramDevice} {since : ℕ} : s.Steady q (t.retire dev since) := by
  unfold State.retire
  extract_lets _ s1 s2 owner here
  have hs1 : s.Steady q s1 := h.same
  have hs2 : s.Steady q s2 := hs1.logEvent
  exact hs2.foldl (fun _ _ hu => hu.askRead)

theorem State.Steady.attribute {q : Bool} {s t : State} (h : s.Steady q t) {dev : DramDevice} {since : ℕ} : s.Steady q (t.attribute dev since) := by
  unfold State.attribute
  split
  · exact h.retire
  · exact .ite (h) (h.loseDram)

theorem State.Steady.charge {q : Bool} {s t : State} (h : s.Steady q t) {a : LineAddr} {owner : BitVec 16} {errs : List (Fin 80 × Byte)} : s.Steady q (t.charge a owner errs) := by
  unfold State.charge
  extract_lets dev devs _ s1
  have hs1 : s.Steady q s1 := h.same
  exact hs1.foldl (fun _ _ hu => .ite (hu.attribute) (hu))

theorem State.Steady.chargeRead {q : Bool} {s t : State} (h : s.Steady q t) {a : LineAddr} {owner : BitVec 16} {out : Decoded} : s.Steady q (t.chargeRead a owner out) := by
  unfold State.chargeRead
  split
  · exact h
  · exact h.charge
  · exact h.same (by simp [State.guarded])

theorem State.Steady.persistent {q : Bool} {s t : State} (h : s.Steady q t) {a : LineAddr} {owner : BitVec 16} {data : List Byte} : s.Steady q (t.persistent a owner data) := by
  unfold State.persistent
  exact .ite (h) (.ite (h.same (by simp [State.guarded])) (h.bump))

theorem State.Steady.repairFailed {q : Bool} {s t : State} (h : s.Steady q t) {a : LineAddr} : s.Steady q (t.repairFailed a) := by
  unfold State.repairFailed
  extract_lets mark changed
  refine State.Steady.noteChanges (h.sameMem ?_)
  exact foldl_keeps Mem.cells (fun m (e : BogEntry) => m.noteBog_cells e.slot) changed _

theorem State.Steady.putRepaired {q : Bool} {s t : State} (h : s.Steady q t) {a : LineAddr} {owner : BitVec 16} {data : List Byte}
    {verify : Flips} : s.Steady q (t.putRepaired a owner data verify).2 := by
  unfold State.putRepaired
  extract_lets done guarded m
  have hdone {m : Mem} (hm : Memory.wf t.mem.cells = true → Memory.wf m.cells = true) : s.Steady q (done m).2 :=
    (h.putMem hm).leaveBog
  have hput : Memory.wf t.mem.cells = true → Memory.wf (t.mem.putLine .p4 a owner data).cells = true :=
    t.mem.putLine_wf .p4 a owner data
  split
  · exact hdone hput
  · split
    · exact hdone id
    · split
      · exact hdone hput
      · exact (h.putMem hput).chargeRead.repairFailed

theorem State.Steady.writeRepaired {q : Bool} {s t : State} (h : s.Steady q t) {a : LineAddr} {owner : BitVec 16} {data : List Byte} {verify : Flips} : s.Steady q (t.writeRepaired a owner data verify) := by
  unfold State.writeRepaired
  exact h.putRepaired

theorem State.Steady.errsFor {q : Bool} {s t : State} (h : s.Steady q t) {errs : Option (List LineErrs)} {a : LineAddr} :
    s.Steady q (t.errsFor errs a).2 := by
  unfold State.errsFor
  split
  · exact h
  · exact h.same

theorem State.Steady.rewriteLists {q : Bool} {s t : State} (h : s.Steady q t) {id : BitVec 16} {errs : Option (List LineErrs)} :
    s.Steady q (t.rewriteLists id errs) := by
  unfold State.rewriteLists
  split
  · exact h
  · extract_lets ready
    refine h.foldl fun u a hu => ?_
    have hput := (hu.errsFor (errs := errs) (a := a)).putRepaired (a := a) (owner := 0)
      (data := (u.errsFor errs a).2.mem.arrayLine a 0) (verify := (u.errsFor errs a).1.verify)
    exact .ite (hput.sameMem (Mem.listRead_cells _ a)) hput

theorem State.Steady.elim {q : Bool} {α : Type} {s t : State} (h : s.Steady q t) {o : Option α} {f : α → State}
    (hf : ∀ x, s.Steady q (f x)) : s.Steady q (o.elim t f) := by
  cases o
  · exact h
  · exact hf _

theorem State.Steady.badLine {q : Bool} {s t : State} (h : s.Steady q t) {a : LineAddr} {cause : BogCause}
    {errs : Option (List LineErrs)} : s.Steady q (t.badLine a cause errs) := by
  unfold State.badLine
  split
  · exact h.elim fun g => h.bogLine
  · exact h.elim fun g => h.bogLine.rewriteLists.settleQuarantine
  all_goals exact h

theorem State.Steady.widenPeaks {q : Bool} {s t : State} (h : s.Steady q t) {id : BitVec 16} {data : List Byte} : s.Steady q (t.widenPeaks id data) := by
  unfold State.widenPeaks
  split
  · split
    · exact h.same (by simp [State.guarded])
  · exact h

theorem State.Steady.flushRepair {q : Bool} {s t : State} (h : s.Steady q t) {sub : Fin 2} {e : Merge} {verify : Flips} :
    s.Steady q (t.flushRepair sub e verify) := by
  unfold State.flushRepair
  extract_lets s1 s2 o moved s3
  have hs2 : s.Steady q s2 := (h.sameMem (Mem.dropMerge_cells _ sub e.addr)).writeRepaired
  have hmoved : s.Steady q moved := hs2.leaveBog
  exact (State.Steady.ite hs2 (hmoved.sameMem (Mem.unwant_cells _ _ _)).widenPeaks).settleQuarantine

@[simp] theorem State.errsFor_mem (s : State) (errs : Option (List LineErrs)) (a : LineAddr) :
    (s.errsFor errs a).2.mem = s.mem := by
  unfold State.errsFor
  split <;> rfl

theorem State.Steady.flushEntry {q : Bool} {s t : State} (h : s.Steady q t) {sub : Fin 2} {e : Merge} {errs : Option (List LineErrs)} :
    s.Steady q (t.flushEntry sub e errs) := by
  unfold State.flushEntry
  extract_lets m
  split
  · exact h.putMem (m.putLine_wf .p2 e.addr e.owner _)
  · have h0 : s.Steady q (t.errsFor errs e.addr).2 := h.errsFor
    have hm : (t.errsFor errs e.addr).2.mem.cells = m.cells := by simp [m]
    generalize t.errsFor errs e.addr = x at h0 hm
    obtain ⟨le, s0⟩ := x
    have hwrote {data : List Byte} {out : Decoded} :
        s.Steady q (State.chargeRead { s0 with mem := m.putLine .p2 e.addr e.owner data } e.addr e.owner out) :=
      (h0.putMem fun hw => m.putLine_wf .p2 e.addr e.owner _ (hm ▸ hw)).chargeRead
    dsimp only
    split
    · exact .ite (h0.sameMem hm.symm).loseDram (.ite hwrote hwrote.badLine)
    · exact hwrote
    · exact hwrote

theorem State.Steady.flush {q : Bool} {s t : State} (h : s.Steady q t) {sub : Fin 2} {e : Merge} {errs : Option (List LineErrs)} :
    s.Steady q (t.flush sub e errs) := by
  unfold State.flush
  exact .ite h.flushEntry (.ite h.errsFor.flushRepair (h.same (by simp [State.guarded])))

theorem State.Steady.throughMerge {q : Bool} {s t : State} (h : s.Steady q t) {new : Merge} {errs : Option (List LineErrs)} : s.Steady q (t.throughMerge new errs) := by
  unfold State.throughMerge
  extract_lets sub joined entries _ s1
  have hs1 : s.Steady q s1 := by
    dsimp only [s1]
    split
    · exact .ite (h.flush) (h)
    · exact h
  exact .ite (h.same) (hs1.same)

theorem State.Steady.enterMaps {q : Bool} {s t : State} (h : s.Steady q t) {errs : Option (List LineErrs)} : s.Steady q (t.enterMaps errs) := by
  unfold State.enterMaps
  exact h.same.foldl (fun _ _ hu => .ite (hu.throughMerge) (hu.same))

theorem State.Steady.offerMaps {q : Bool} {s t : State} (h : s.Steady q t) : s.Steady q t.offerMaps := by
  unfold State.offerMaps
  exact .ite (h) (.ite (h.same (by simp [State.guarded])) (.ite (h) (h.enterMaps)))

theorem State.Steady.askMerge {q : Bool} {s t : State} (h : s.Steady q t) {e : Merge} : s.Steady q (t.askMerge e) := by
  unfold State.askMerge
  exact .ite (h) (h.askRead)

theorem State.Steady.fence {q : Bool} {s t : State} (h : s.Steady q t) {errs : Option (List LineErrs)} : s.Steady q (t.fence errs) := by
  unfold State.fence
  extract_lets s1
  have hs1 : s.Steady q s1 := h.enterMaps
  exact hs1.foldl (fun _ _ hu => hu.foldl (fun _ _ hu => .ite (hu.flush) (hu.askMerge)))

theorem State.Steady.freePages {q : Bool} {s t : State} (h : s.Steady q t) {ps : List ℕ} : s.Steady q (t.freePages ps) := by
  unfold State.freePages
  extract_lets s1
  have hs1 : s.Steady q s1 := h.leaveBog
  exact hs1.same (by simp [State.guarded])

theorem State.Steady.freeSegment {q : Bool} {s t : State} (h : s.Steady q t) {id : BitVec 16} : s.Steady q (t.freeSegment id) := by
  unfold State.freeSegment
  split
  · exact h
  · next g _ =>
    have hpages : s.Steady q (t.freePages (g.pages ++ g.lists)) := h.freePages
    exact hpages.same (by simp [State.guarded])

theorem State.Steady.sendPause {q : Bool} {s t : State} (h : s.Steady q t) {time : BitVec 16} : s.Steady q (t.sendPause time) := by
  unfold State.sendPause
  split
  · extract_lets s1
    have hs1 : s.Steady q s1 := h.bump
    exact hs1.same
  · exact h

theorem State.Steady.settlePause {q : Bool} {s t : State} (h : s.Steady q t) : s.Steady q t.settlePause := by
  unfold State.settlePause
  extract_lets fill
  exact .ite (h.same.sendPause) (.ite (h.same.sendPause) (h))

theorem State.Steady.discardPartial {q : Bool} {s t : State} (h : s.Steady q t) {sub : Byte} : s.Steady q (t.discardPartial sub) := by
  unfold State.discardPartial
  split
  · extract_lets s1
    have hs1 : s.Steady q s1 := h.logEvent.bump
    exact hs1.same
  · exact h

theorem State.Steady.awaitSor {q : Bool} {s t : State} (h : s.Steady q t) : s.Steady q t.awaitSor := by
  unfold State.awaitSor
  exact h.same

theorem State.Steady.dropPartial {q : Bool} {s t : State} (h : s.Steady q t) {sub : Byte} : s.Steady q (t.dropPartial sub) := by
  unfold State.dropPartial
  exact h.discardPartial.awaitSor.settlePause

theorem State.Steady.linkLost {q : Bool} {s t : State} (h : s.Steady q t) : s.Steady q t.linkLost := by
  unfold State.linkLost
  extract_lets _ s0 s1
  have hs0 : s.Steady q s0 := h.same
  have hs1 : s.Steady q s1 := hs0.bump
  exact .ite (hs1.same.dropPartial) (hs0)

theorem State.Steady.dipActs {q : Bool} {s t : State} (h : s.Steady q t) {ns : ℕ} : s.Steady q (t.dipActs ns).2 := by
  unfold State.dipActs
  split
  · exact h
  · split
    · exact h
    · exact h.freeChoice

theorem State.Steady.resetActs {q : Bool} {s t : State} (h : s.Steady q t) {ns : ℕ} : s.Steady q (t.resetActs ns).2 := by
  unfold State.resetActs
  split
  · exact h
  · split
    · exact h
    · exact h.freeChoice

theorem State.Steady.setGood {q : Bool} {s t : State} (h : s.Steady q t) {d : Domain} {good : Bool} : s.Steady q (t.setGood d good) := by
  unfold State.setGood
  exact h.same (by dsimp only [State.guarded, Power.setGood])

theorem State.Steady.onBankInputs {q : Bool} {s t : State} (h : s.Steady q t) {who : Bank → Bool} {f : Input → Input} : s.Steady q (t.onBankInputs who f) := by
  unfold State.onBankInputs
  exact h.same

theorem State.Steady.suspendSense {q : Bool} {s t : State} (h : s.Steady q t) : s.Steady q t.suspendSense := by
  unfold State.suspendSense
  exact h.same.onBankInputs

theorem State.Steady.bankTested {q : Bool} {s t : State} (h : s.Steady q t) {b : Bank} {t' : SelfTest} : s.Steady q (t.bankTested b t') := by
  unfold State.bankTested
  extract_lets pass _ s0 s1
  have hs0 : s.Steady q s0 := h.same
  have hs1 : s.Steady q s1 := .ite (hs0.onBankInputs) (hs0)
  exact .ite (hs1.clearFault) (hs1.retreat.beginFault)

theorem State.Steady.settleMon {q : Bool} {s t : State} (h : s.Steady q t) : s.Steady q t.settleMon := by
  unfold State.settleMon
  exact .ite (h.clearFault) (h)

theorem State.Steady.testBanks {q : Bool} {s t : State} (h : s.Steady q t) {tests : Vector SelfTest 4} : s.Steady q (t.testBanks tests) := by
  unfold State.testBanks
  exact State.Steady.settleMon (h.foldl fun _ _ hu => hu.bankTested)

theorem State.Steady.settleRelease {q : Bool} {s t : State} (h : s.Steady q t) : s.Steady q t.settleRelease := by
  unfold State.settleRelease
  split
  · have hr : t.releaseAll.allReleased := t.releaseAll_allReleased
    have h1 : s.Steady false t.releaseAll := h.loud.releaseAll
    generalize t.releaseAll = s1 at hr h1
    exact State.Steady.ofReleased (h1.ofTxn) hr
  · exact h

theorem State.Steady.settleThermal {q : Bool} {s t : State} (h : s.Steady q t) : s.Steady q t.settleThermal := by
  unfold State.settleThermal
  extract_lets t' _ s1
  have hs1 : s.Steady q s1 := h.same
  exact .ite (h) (.ite (hs1.beginFault.releaseAll) (.ite (hs1.clearFault.settleRelease) (hs1)))

theorem State.Steady.loseReference {q : Bool} {s t : State} (h : s.Steady q t) : s.Steady q t.loseReference := by
  unfold State.loseReference
  split
  · next hstage => exact h.returnToClock (h.unfailed (State.unfailed_of_afterClock hstage))
  · exact .ite (State.Steady.beginFault h.same).releaseAll h.same

theorem State.Steady.loseCoreSupply {q : Bool} {s t : State} (h : s.Steady q t) {d : Domain} {bit : ℕ} :
    s.Steady q (t.loseCoreSupply d bit) := by
  unfold State.loseCoreSupply
  extract_lets s1 s2
  have hs1 : s.Steady q s1 := h.setGood
  have hs2 : s.Steady q s2 := hs1.beginFault.releaseAll
  split
  · next hstage =>
    rw [Bool.and_eq_true] at hstage
    exact hs1.beginFault.restartAtSupply (h.unfailed (State.unfailed_of_runs hstage.1))
  · exact .ite hs1 (.ite hs2.suspendSense hs2)

theorem State.Steady.loseMon {q : Bool} {s t : State} (h : s.Steady q t) : s.Steady q t.loseMon := by
  unfold State.loseMon
  extract_lets s1
  have hs1 : s.Steady q s1 := h.setGood
  split
  · next hstage =>
    rw [Bool.and_eq_true] at hstage
    exact hs1.beginFault.restartAtSupply (h.unfailed (State.unfailed_of_runs hstage.1))
  · exact .ite hs1.beginFault.retreatAll.suspendSense.loseSight (.ite hs1 hs1.beginFault)

theorem State.Steady.loseDphy {q : Bool} {s t : State} (h : s.Steady q t) : s.Steady q t.loseDphy := by
  unfold State.loseDphy
  extract_lets s1
  have hs1 : s.Steady q s1 := h.setGood
  refine .ite hs1 (.ite hs1.loseDram ?_)
  split
  · next hstage => exact hs1.failBringUp (h.unfailed (State.unfailed_of_clock hstage))
  · exact hs1

theorem State.Steady.loseCport {q : Bool} {s t : State} (h : s.Steady q t) : s.Steady q t.loseCport := by
  unfold State.loseCport
  extract_lets s0 _ s1 s2
  have hs1 : s.Steady q s1 := State.Steady.same (h.setGood (d := .cport) (good := false))
  have hs2 : s.Steady q s2 := hs1.linkLost.beginFault
  refine .ite hs1 ?_
  split
  · next hstage =>
    rw [Bool.and_eq_true] at hstage
    exact hs2.failBringUp (h.unfailed (State.unfailed_of_clock hstage.2))
  · exact hs2

theorem State.Steady.loseLink {q : Bool} {s t : State} (h : s.Steady q t) : s.Steady q t.loseLink := by
  unfold State.loseLink
  extract_lets s1 s2 s3
  have hs1 : s.Steady q s1 := h.setGood
  have hs2 : s.Steady q s2 := hs1.same
  have hs3 : s.Steady q s3 := hs2.beginFault
  exact .ite (hs2) (.ite (hs3.loseReference) (hs3))

theorem State.Steady.loseDac {q : Bool} {s t : State} (h : s.Steady q t) {d : Domain} {b : Bank} : s.Steady q (t.loseDac d b) := by
  unfold State.loseDac
  extract_lets s1 s2 pass
  have hs1 : s.Steady q s1 := h.setGood
  have hs2 : s.Steady q s2 := hs1.beginFault.release
  exact .ite (hs1) (hs2.same)

theorem State.Steady.execSupplyBrownOut {s t : State} (h : s.Steady false t) {d : Domain} {dipNs : ℕ} (hd : d.hasOwnRow = false) :
    s.SteadyTo (Machine.execSupplyBrownOut d dipNs t) := by
  unfold Machine.execSupplyBrownOut
  have hs1 : s.Steady false (t.dipActs dipNs).2 := h.dipActs
  generalize t.dipActs dipNs = x at hs1
  obtain ⟨acts, s1⟩ := x
  refine .ite hs1.next ?_
  cases d with
  | aon | vddio => cases hd
  | ref | pll | core => exact hs1.loseCoreSupply.next
  | mon => exact hs1.loseMon.next
  | dphy => exact hs1.loseDphy.next
  | cport => exact hs1.loseCport.next
  | link => exact hs1.loseLink.next
  | daca | dacb | dacc | dacd => exact hs1.loseDac.next

theorem State.Steady.returnCoreSupply {q : Bool} {s t : State} (h : s.Steady q t) {bit : ℕ} : s.Steady q (t.returnCoreSupply bit) := by
  unfold State.returnCoreSupply
  dsimp only
  split
  · split
    · next hup => exact h.clearFault.restartAtSupply (h.unfailed (State.unfailed_of_isUp hup))
    · exact h.clearFault
  · exact h

theorem State.Steady.execSupplyGood {s t : State} (h : s.Steady false t) {d : Domain} {tests : Vector SelfTest 4} :
    s.SteadyTo (Machine.execSupplyGood d tests t) := by
  unfold Machine.execSupplyGood
  extract_lets s1
  have hs1 : s.Steady false s1 := h.setGood
  cases d with
  | ref | pll | core => exact hs1.returnCoreSupply.next
  | mon => exact (State.Steady.ite hs1.testBanks hs1).next
  | link => exact hs1.clearFault.next
  | cport => exact (State.Steady.ite h hs1.same).next
  | _ => exact hs1.next

theorem State.Steady.execRstNRise {s t : State} (h : s.Steady false t) : s.SteadyTo (Machine.execRstNRise t) := by
  unfold Machine.execRstNRise
  split
  · next hstage =>
    have hu : s.Unfailed := h.unfailed (State.unfailed_of_eq hstage nofun)
    extract_lets s1
    have hs1 : s.Steady false s1 := h.same
    exact .ite (hs1.failBringUp hu).next (.ite (hs1.failBringUp hu).next (.ite (hs1.failBringUp hu).next (hs1.enterStage hu).next))
  · exact h.next

theorem State.Steady.execStrapStageEnd {s t : State} (h : s.Steady false t) {sums : Vector ℕ 8} :
    s.SteadyTo (Machine.execStrapStageEnd sums t) := by
  unfold Machine.execStrapStageEnd
  split
  · next hstage =>
    have hu : s.Unfailed := h.unfailed (State.unfailed_of_eq hstage nofun)
    refine .ite (h.failBringUp hu).next ?_
    extract_lets _ power s1
    have hs1 : s.Steady false s1 := h.ofTxn
    exact .ite (hs1.enterStage hu).next (hs1.failBringUp hu).next
  · exact h.next

theorem State.Steady.judgeSupplies {q : Bool} {s t : State} (h : s.Steady q t) : s.Steady q t.judgeSupplies := by
  unfold State.judgeSupplies
  extract_lets p fitted causes
  exact h.same

theorem State.Steady.execSupplyStageEnd {s t : State} (h : s.Steady false t) : s.SteadyTo (Machine.execSupplyStageEnd t) := by
  unfold Machine.execSupplyStageEnd
  split
  · next hstage =>
    rw [Bool.and_eq_true, decide_eq_true_iff] at hstage
    have hu : s.Unfailed := h.unfailed (State.unfailed_of_eq hstage.1 nofun)
    extract_lets s1 absent s2
    have hs1 : s.Steady false s1 := h.judgeSupplies
    have hs2 : s.Steady false s2 := .ite hs1.beginFault hs1
    exact .ite (hs2.failBringUp hu).next (.ite (hs2.failBringUp hu).next (hs2.enterStage hu).next)
  · exact h.next

theorem State.Steady.execSupplyStageTimeout {s t : State} (h : s.Steady false t) : s.SteadyTo (Machine.execSupplyStageTimeout t) := by
  unfold Machine.execSupplyStageTimeout
  split
  · next hstage =>
    rw [Bool.and_eq_true, decide_eq_true_iff] at hstage
    have hu : s.Unfailed := h.unfailed (State.unfailed_of_eq hstage.1 nofun)
    exact .ite (h.failBringUp hu).next (.ite (h.failBringUp hu).next
      (.ite (h.failBringUp hu).next (.ite (h.failBringUp hu).next h.next)))
  · exact h.next

theorem State.Steady.execReferenceValid {s t : State} (h : s.Steady false t) {edges cleanChars : ℕ} :
    s.SteadyTo (Machine.execReferenceValid edges cleanChars t) := by
  unfold Machine.execReferenceValid
  split
  · extract_lets _ s1
    have hs1 : s.Steady false s1 := h.same
    split
    · next hstage => exact (hs1.clearFault.enterStage (h.unfailed (State.unfailed_of_eq hstage nofun))).next
    · exact .ite hs1.clearFault.settleRelease.next (.ite hs1.clearFault.next h.next)
  · exact h.next

theorem State.Steady.execReferenceWaitTimeout {s t : State} (h : s.Steady false t) : s.SteadyTo (Machine.execReferenceWaitTimeout t) := by
  unfold Machine.execReferenceWaitTimeout
  extract_lets s1
  have hs1 : s.Steady false s1 := h.beginFault
  exact .ite hs1.same.next h.next

theorem State.Steady.execReferenceLost {s t : State} (h : s.Steady false t) {edges : ℕ} {aligned : Bool} :
    s.SteadyTo (Machine.execReferenceLost edges aligned t) := by
  unfold Machine.execReferenceLost
  exact .ite h.loseReference.next h.next

theorem State.Steady.measureRefin {q : Bool} {s t : State} (h : s.Steady q t) {mv : ℕ} : s.Steady q (t.measureRefin mv) := by
  unfold State.measureRefin
  exact .ite (h.same) (h.loseCoreSupply)

theorem State.Steady.lock {q : Bool} {s t : State} (h : s.Steady q t) {samples : Vector PinSample 3} : s.Steady q (t.lock samples) := by
  unfold State.lock
  exact h.same

theorem State.Steady.execPllLock {s t : State} (h : s.Steady false t) {pins : Vector PinSample 3} {refinMv : ℕ} :
    s.SteadyTo (Machine.execPllLock pins refinMv t) := by
  unfold Machine.execPllLock
  refine .ite h.next ?_
  split
  · next hstage =>
    have hu : s.Unfailed := h.unfailed (State.unfailed_of_eq hstage nofun)
    have hlock : s.Steady false (t.lock pins) := h.lock
    generalize t.lock pins = s1 at hlock
    have hclocked : s.Steady false { s1 with power := { s1.power with clocked := true } } := hlock.same
    exact (hclocked.enterStage hu).measureRefin.next
  · exact .ite h.lock.clearFault.measureRefin.settleRelease.next h.next

theorem State.Steady.execPllLockTimeout {s t : State} (h : s.Steady false t) : s.SteadyTo (Machine.execPllLockTimeout t) := by
  unfold Machine.execPllLockTimeout
  split
  · next hstage =>
    simp only [Bool.and_eq_true, decide_eq_true_iff] at hstage
    exact (h.failBringUp (h.unfailed (State.unfailed_of_eq hstage.1.1 nofun))).next
  · exact h.next

theorem State.Steady.execPllLockLost {s t : State} (h : s.Steady false t) : s.SteadyTo (Machine.execPllLockLost t) := by
  unfold Machine.execPllLockLost
  refine .ite h.next ?_
  split
  · next hstage => exact (h.returnToClock (h.unfailed (State.unfailed_of_afterClock hstage))).next
  · exact (State.Steady.beginFault h.same).releaseAll.next

theorem State.Steady.execCoreStageEnd {s t : State} (h : s.Steady false t) {sramOk : Bool} {tests : Vector SelfTest 4}
    {cportLocked : Bool} : s.SteadyTo (Machine.execCoreStageEnd sramOk tests cportLocked t) := by
  unfold Machine.execCoreStageEnd
  split
  · next hstage =>
    rw [Bool.and_eq_true, decide_eq_true_iff] at hstage
    have hu : s.Unfailed := h.unfailed (State.unfailed_of_eq hstage.1 nofun)
    refine .ite (h.failBringUp hu).next (.ite (h.failBringUp hu).next (.ite (h.failBringUp hu).next ?_))
    extract_lets s1
    have hs1 : s.Steady false s1 := h.testBanks
    exact State.Steady.next (State.Steady.enterStage hs1.same hu)
  · exact h.next

theorem State.Steady.execSfdpDiscoveryDone {s t : State} (h : s.Steady false t) {r : SfdpReport} :
    s.SteadyTo (Machine.execSfdpDiscoveryDone r t) := by
  unfold Machine.execSfdpDiscoveryDone
  split
  · next hstage =>
    have hu : s.Unfailed := h.unfailed (State.unfailed_of_eq hstage nofun)
    refine .ite (h.failBringUp hu).next (.ite (h.failBringUp hu).next ?_)
    extract_lets _ s1
    have hs1 : s.Steady false s1 := h.same
    exact (hs1.enterStage hu).next
  · exact h.next

theorem State.Steady.afterLedger {q : Bool} {s t : State} (h : s.Steady q t) (hs : s.Unfailed) : s.Steady q t.afterLedger := by
  unfold State.afterLedger
  exact h.enterStage hs

/-- A selected region's values are its counts. -/
theorem Ledger.select_covered (l : Ledger) (k : Fin 2) (ahead : Bool) (i : Fin 128) :
    (l.select k ahead).count[i] ≤ (l.select k ahead).value i := by
  simp [Ledger.select, Ledger.judgeHolds, Ledger.value, Ledger.liveRegion]

theorem State.Steady.select {q : Bool} {s t : State} (h : s.Steady q t) {l : Ledger} {k : Fin 2} {ahead : Bool} :
    s.Steady q { t with ledger := l.select k ahead } :=
  h.ofCover fun _ => l.select_covered k ahead

theorem State.Steady.execLedgerSelected {s t : State} (h : s.Steady false t) {lower upper : RegionRead} {formatOk : Bool} :
    s.SteadyTo (Machine.execLedgerSelected lower upper formatOk t) := by
  unfold Machine.execLedgerSelected
  split
  · next hstage =>
    have hu : s.Unfailed := h.unfailed (State.unfailed_of_eq hstage nofun)
    extract_lets _ base took
    have htook : ∀ l k ahead, s.SteadyTo (.next (took l k ahead)) := fun _ _ _ => (h.select.afterLedger hu).next
    generalize took = took at htook
    generalize base = base
    have hfail : ∀ cause, s.SteadyTo (.next (t.failBringUp cause)) := fun _ => (h.failBringUp hu).next
    split
    · exact .ite (htook _ _ _) (.ite (htook _ _ _) (hfail _))
    · exact htook _ _ _
    · exact htook _ _ _
    · exact .ite (.ite (htook _ _ _) (hfail _)) (hfail _)
  · exact h.next

theorem State.Steady.execDramTrainingDone {s t : State} (h : s.Steady false t) {r : TrainReport} :
    s.SteadyTo (Machine.execDramTrainingDone r t) := by
  unfold Machine.execDramTrainingDone
  split
  · next hstage =>
    have hu : s.Unfailed := h.unfailed (State.unfailed_of_eq hstage nofun)
    refine .ite (h.failBringUp hu).next ?_
    extract_lets failed _ m s1
    have hm : s.Steady false { t with mem := m } := h.sameMem (by dsimp only [m])
    have hs1 : s.Steady false s1 := hm.foldl fun _ _ hv => hv.retire
    exact .ite (h.failBringUp hu).next (hs1.enterStage hu).next
  · exact h.next

theorem State.Steady.execDramStageTimeout {s t : State} (h : s.Steady false t) : s.SteadyTo (Machine.execDramStageTimeout t) := by
  unfold Machine.execDramStageTimeout
  split
  · next hstage => exact (h.failBringUp (h.unfailed (State.unfailed_of_eq hstage nofun))).next
  · exact h.next

theorem State.Steady.execImageWaitTimeout {s t : State} (h : s.Steady false t) : s.SteadyTo (Machine.execImageWaitTimeout t) := by
  unfold Machine.execImageWaitTimeout
  extract_lets s1
  have hs1 : s.Steady false s1 := h.beginFault
  exact .ite hs1.same.next h.next

theorem State.Steady.execJoinWaitTimeout {s t : State} (h : s.Steady false t) : s.SteadyTo (Machine.execJoinWaitTimeout t) := by
  unfold Machine.execJoinWaitTimeout
  extract_lets s1
  have hs1 : s.Steady false s1 := h.beginFault
  exact .ite hs1.same.next h.next

theorem State.Steady.execTrimWaitTimeout {s t : State} (h : s.Steady false t) : s.SteadyTo (Machine.execTrimWaitTimeout t) := by
  unfold Machine.execTrimWaitTimeout
  split
  · next hstage =>
    simp only [Bool.and_eq_true, decide_eq_true_iff] at hstage
    exact (h.failBringUp (h.unfailed (State.unfailed_of_eq hstage.1.1 nofun))).next
  · exact h.next

theorem State.Steady.endImage {q : Bool} {s t : State} (h : s.Steady q t) (hs : s.Unfailed) : s.Steady q t.endImage := by
  unfold State.endImage
  exact .ite (h.clearFault.enterTrimWait hs) (h.clearFault.enterStage hs)

theorem State.Steady.endJoin {q : Bool} {s t : State} (h : s.Steady q t) (hs : s.Unfailed) : s.Steady q t.endJoin := by
  unfold State.endJoin
  exact h.clearFault.enterTrimWait hs

theorem State.Steady.countFrame {q : Bool} {s t : State} (h : s.Steady q t) {n : Chan} : s.Steady q (t.countFrame n) := by
  unfold State.countFrame
  extract_lets c one c1 s1
  have hs1 : s.Steady q s1 := h.setChan (.ofCode id .inl id rfl rfl rfl)
  exact .ite hs1.raiseFor.logEvent hs1

theorem State.Steady.judgeExcursion {q : Bool} {s t : State} (h : s.Steady q t) {n : Chan} {gain : BitVec 1} :
    s.Steady q (t.judgeExcursion n gain) := by
  unfold State.judgeExcursion
  extract_lets c cp off beyond r s1 _ s2
  have hs1 : s.Steady q s1 := h.setChan (.ofCode id .inl id rfl rfl rfl)
  have hs2 : s.Steady q s2 := .ite hs1.same hs1
  exact .ite hs2.countUp hs2

/-- A code latches; quietly where one was held for the latch, which a channel at nominal has none of. -/
theorem State.Steady.putCode {q : Bool} {s t : State} (h : s.Steady q t) {n : Chan} {code : Code} {gain : BitVec 1}
    (hq : q = true → (t.chan[n]).delayed ≠ none) : s.Steady q (t.putCode n code gain) := by
  unfold State.putCode
  have hset : s.Steady q { t with chan := t.chan.set n { t.chan[n] with latched := code, gainHeld := gain, delayed := none } } :=
    h.setChan ⟨id, .inl, id, fun hq' _ hs => hs.imp id fun hs => absurd hs.2.2 (hq hq')⟩
  exact hset.judgeExcursion

theorem State.Steady.latch {s t : State} (h : s.Steady false t) {n : Chan} : s.Steady false (t.latch n) := by
  unfold State.latch
  extract_lets c s1
  have hs1 : s.Steady false s1 := .ite (h.setChan ⟨id, .inl, id, nofun⟩) (h.putCode nofun)
  exact hs1.countFrame

theorem State.Steady.latchAligned {q : Bool} {s t : State} (h : s.Steady q t) : s.Steady q t.latchAligned := by
  unfold State.latchAligned
  refine .ite (h.foldl fun u n hu => ?_) h
  split
  · next d hd => exact hu.putCode fun _ => by rw [hd]; nofun
  · exact hu

theorem State.Steady.endFrame {q : Bool} {s t : State} (h : s.Steady q t) : s.Steady q t.endFrame := by
  unfold State.endFrame
  extract_lets s1 idle
  have hs1 : s.Steady q s1 := h.judgeSquall.offerMaps
  exact .ite (hs1) (hs1.settleQueues)

theorem State.Steady.scrubTime {q : Bool} {s t : State} (h : s.Steady q t) {frames : ℕ} : s.Steady q (t.scrubTime frames) := by
  unfold State.scrubTime
  exact .ite (h.same) (h)

theorem State.Steady.passFrame {q : Bool} {s t : State} (h : s.Steady q t) : s.Steady q t.passFrame := by
  unfold State.passFrame
  extract_lets _ s1
  have hframe : s.Steady q ((t.scrubTime 1).endFrame).beginFrame := h.scrubTime.endFrame.beginFrame
  have hs1 : s.Steady q s1 := State.Steady.latchAligned hframe.same
  exact (State.Steady.settlePins (hs1.same (by dsimp only [State.guarded, Pins.showMarkers]))).settleThermal

theorem State.Steady.idleFrame {q : Bool} {s t : State} (h : s.Steady q t) : s.Steady q t.idleFrame := by
  unfold State.idleFrame
  exact .ite (h.same.showSt.settleThermal) (.ite (h.passFrame) (h))

theorem State.supply_keeps (s : State) (n : Chan) (c : Channel) : c.Keeps false (s.supply n c).2 := ⟨id, .inl, id, nofun⟩

theorem State.compute_keeps (s : State) (n : Chan) (frame0 : Bool) (c : Channel) : c.Keeps false (s.compute n frame0 c) :=
  ⟨id, .inl, id, nofun⟩

theorem State.Steady.execEngineSlot {s t : State} (h : s.Steady false t) {n : Chan} : s.SteadyTo (Machine.execEngineSlot n t) := by
  unfold Machine.execEngineSlot
  extract_lets c s1 s1'
  have hs1 : s.Steady false s1 := h.countFrame
  have hs1' : s.Steady false s1' := .ite h.countFrame h.latch
  exact .ite h.next (.ite (hs1.setChan (s1.supply_keeps n _)).next (hs1'.setChan (s1'.compute_keeps n false _)).next)

theorem State.Steady.execRangeSwitchForced {s t : State} (h : s.Steady false t) {n : Chan} :
    s.SteadyTo (Machine.execRangeSwitchForced n t) := by
  unfold Machine.execRangeSwitchForced
  extract_lets c f here cp
  refine .ite ?_ h.next
  split
  exact State.Steady.next (h.setChan ⟨id, .inl, id, nofun⟩)

theorem State.Steady.freezeStatus {q : Bool} {s t : State} (h : s.Steady q t) : s.Steady q t.freezeStatus := by
  unfold State.freezeStatus
  extract_lets s1
  have hs1 : s.Steady q s1 := .ite (h.bump) (h)
  exact hs1.same

theorem State.Steady.closeNine {q : Bool} {s t : State} (h : s.Steady q t) : s.Steady q t.closeNine := by
  unfold State.closeNine
  extract_lets d s1 s2
  have hs1 : s.Steady q s1 := .ite (h.freezeStatus) (h)
  have hs2 : s.Steady q s2 := .ite (hs1.freezeLedger) (hs1)
  exact .ite (h) (hs2.same)

theorem State.Steady.startChannel {q : Bool} {s t : State} (h : s.Steady q t) {n : Chan} {kind : CalKind} :
    s.Steady q (t.startChannel n kind) := by
  unfold State.startChannel
  have hfog : s.Steady q { t with chan := t.chan.set n { t.chan[n] with fog := true } } := h.setChan (.ofCode id .inl id rfl rfl rfl)
  exact State.Steady.raiseFor hfog.same

theorem State.Steady.startBank {q : Bool} {s t : State} (h : s.Steady q t) {b : Bank} : s.Steady q (t.startBank b) := by
  unfold State.startBank
  extract_lets _ _ s1
  have hs1 : s.Steady q s1 := h.same.onBankInputs
  exact hs1.loseSight

theorem State.Steady.passChannel {q : Bool} {s t : State} (h : s.Steady q t) {p : CalPass} : s.Steady q (t.passChannel p) := by
  unfold State.passChannel
  split
  · exact h
  · split
    · exact h.same.startChannel
    · exact h.same

theorem State.Steady.passBank {q : Bool} {s t : State} (h : s.Steady q t) {p : CalPass} : s.Steady q (t.passBank p) := by
  unfold State.passBank
  split
  · extract_lets b _ s1
    have hs1 : s.Steady q s1 := h.same
    exact .ite (h) (.ite (hs1) (.ite (hs1.startBank) (h)))
  · exact h

theorem State.Steady.passStart {q : Bool} {s t : State} (h : s.Steady q t) {p : CalPass} : s.Steady q (t.passStart p) := by
  unfold State.passStart
  extract_lets s1
  have hs1 : s.Steady q s1 := h.passChannel
  split
  · exact hs1.passBank
  · exact hs1

theorem State.Steady.settlePass {q : Bool} {s t : State} (h : s.Steady q t) : s.Steady q t.settlePass := by
  unfold State.settlePass
  split
  · split
    · exact h
    · extract_lets owed whole _ s1 s2
      have hs1 : s.Steady q s1 := h.same
      have hs2 : s.Steady q s2 := hs1.foldl fun _ _ hu => .ite hu.clearFault hu
      split
      · next hstage => exact hs2.completeBringUp (hs2.unfailed (State.unfailed_of_eq hstage.2 nofun))
      · exact hs2
  · exact h

theorem State.Steady.rotate {q : Bool} {s t : State} (h : s.Steady q t) : s.Steady q t.rotate := by
  unfold State.rotate
  extract_lets interval quiet items s1
  have hs1 : s.Steady q s1 := h.foldl (fun _ _ hu => hu.bump)
  split
  · exact h
  · split
    · extract_lets fresh s2
      have hs2 : s.Steady q s2 := hs1.same
      split
      · exact hs2.startChannel
      · exact hs2.startBank
    · exact hs1

theorem State.Steady.takeCalibration {q : Bool} {s t : State} (h : s.Steady q t) : s.Steady q t.takeCalibration := by
  unfold State.takeCalibration
  extract_lets _ _ s0
  have hs0 : s.Steady q s0 := h.same
  split
  · exact hs0
  · split
    · exact .ite (hs0.passStart.settlePass) (hs0)
    · split
      · extract_lets p s1
        have hs1 : s.Steady q s1 := hs0.same
        exact .ite (hs1.passStart.settlePass) (hs1)
      · exact hs0.rotate

theorem State.Steady.execCalibrationStart {s t : State} (h : s.Steady false t) : s.SteadyTo (Machine.execCalibrationStart t) := by
  unfold Machine.execCalibrationStart
  exact .ite h.takeCalibration.closeNine.next h.next

theorem State.Steady.noteRset {q : Bool} {s t : State} (h : s.Steady q t) {kind : CalKind} {b : Bank} {ohm : ℕ} : s.Steady q (t.noteRset kind b ohm) := by
  unfold State.noteRset
  exact .ite (h.same) (h)

theorem Channel.calibrated_keeps (gain : BitVec 1) (r : CalReadings) (c : Channel) : c.Keeps false (c.calibrated gain r) := by
  unfold Channel.calibrated
  dsimp only
  split
  · exact ⟨fun _ => rfl, fun _ => .inr rfl, fun _ => rfl, nofun⟩
  · exact ⟨id, .inl, id, nofun⟩

theorem State.Steady.execCalibrationDone {s t : State} (h : s.Steady false t) {r : CalReadings} :
    s.SteadyTo (Machine.execCalibrationDone r t) := by
  unfold Machine.execCalibrationDone
  split
  · next it _ =>
    extract_lets n c _ s1
    have hc : s.Steady false { t with chan := t.chan.set n c } := h.setChan (Channel.calibrated_keeps _ r _)
    have hs1 : s.Steady false s1 := hc.same
    exact .ite hs1.noteRset.settlePass.next h.next
  · exact h.next

theorem State.Steady.execMonitorTrimDone {s t : State} (h : s.Steady false t) {b : Bank} {test : SelfTest} {missed : BitVec 16} : s.SteadyTo (Machine.execMonitorTrimDone b test missed t) := by
  unfold Machine.execMonitorTrimDone
  split
  · extract_lets at_ trimmed _ s1
    have hs1 : s.Steady false s1 := h.same
    exact hs1.bankTested.settleMon.loseSight.settlePass.next
  · exact h.next

theorem State.Steady.execConverterCheckDone {s t : State} (h : s.Steady false t) {error : Int} :
    s.SteadyTo (Machine.execConverterCheckDone error t) := by
  unfold Machine.execConverterCheckDone
  split
  · next it _ =>
    refine .ite h.next (.ite ?_ ?_)
    · exact (State.Steady.clearFault h.same).next
    · have h1 : s.Steady false { t with chan := t.chan.set it.chan { t.chan[it.chan] with fog := false, joinsAt := t.clock.clk + 1 } } :=
        h.setChan (.ofCode id .inl id rfl rfl rfl)
      exact (State.Steady.settlePass (State.Steady.beginFault h1.same)).next
  · exact h.next

theorem State.Steady.captureWord {q : Bool} {s t : State} (h : s.Steady q t) {i : Chan} {word : BitVec 16} : s.Steady q (t.captureWord i word) := by
  unfold State.captureWord
  split
  · exact h
  · split
    · extract_lets preset
      exact h.setCaptures
    · exact h

theorem State.Steady.scanOne {q : Bool} {s t : State} (h : s.Steady q t) {v : ScanIn} {replace : Bool} {i : Chan} :
    s.Steady q (State.scanOne v (t, replace) i).1 := by
  unfold State.scanOne
  dsimp only
  split
  · exact State.Steady.captureWord h.same
  · exact h.same

theorem State.Steady.scanInputs {q : Bool} {s : State} {v : ScanIn} {l : List Chan} {acc : State × Bool} (h : s.Steady q acc.1) :
    s.Steady q (l.foldl (State.scanOne v) acc).1 := by
  induction l generalizing acc with
  | nil => exact h
  | cons i l ih => exact ih (acc := State.scanOne v acc i) h.scanOne

theorem State.Steady.scanBank {q : Bool} {s t : State} (h : s.Steady q t) {v : ScanIn} {b : Bank} : s.Steady q (State.scanBank v t b) := by
  unfold State.scanBank
  have h1 : s.Steady q ((bankInputs b).foldl (State.scanOne v) (t, t.sense.carry[b])).1 := h.scanInputs
  generalize (bankInputs b).foldl (State.scanOne v) (t, t.sense.carry[b]) = r at h1
  exact h1.same

theorem State.Steady.execMonitorScan {s t : State} (h : s.Steady false t) {v : ScanIn} :
    s.SteadyTo (Machine.execMonitorScan v t) := by
  unfold Machine.execMonitorScan
  exact .ite (h.foldl fun _ _ hu => hu.scanBank).loseSight.next h.next

theorem State.Steady.sendUrgent {q : Bool} {s t : State} (h : s.Steady q t) {frame : List Byte} {butPort : Option LinkPort} : s.Steady q (t.sendUrgent frame butPort) := by
  unfold State.sendUrgent
  extract_lets goes
  exact h.same

theorem State.Steady.execGuardTrip {s t : State} (h : s.Steady false t) {i : Chan} : s.SteadyTo (Machine.execGuardTrip i t) := by
  unfold Machine.execGuardTrip
  extract_lets x x1 _ s1
  split
  · next g _ =>
    refine .ite h.next ?_
    extract_lets s2 s3 s4 wide _ s5 sent _ s6 _ _ s7
    have h1 : s.Steady false s1 := h.same (by dsimp only [s1, State.guarded])
    clear_value s1
    have h4 : s.Steady false s4 := h1.retreat.logEvent.raiseFor.fireCaptures
    clear_value s4
    have h5 : s.Steady false s5 := .ite (h4.trans ⟨rfl, fun _ => .refl _, id, fun _ => id, fun _ => rfl, id, nofun⟩) h4
    have hsent : s.Steady false sent := h5.sendUrgent
    clear_value s5 sent
    have h6 : s.Steady false s6 := .ite hsent.same h5
    clear_value s6
    have h7 : s.Steady false s7 := .ite (.ite h6.same h6) (.ite h6.same h6)
    exact h7.loseSight.next
  · exact h.next

theorem State.Steady.execGuardRearm {s t : State} (h : s.Steady false t) {i : Chan} : s.SteadyTo (Machine.execGuardRearm i t) := by
  unfold Machine.execGuardRearm
  extract_lets x
  split
  · split
    · exact h.same.next
    · exact h.next
  · exact h.next

theorem State.Steady.pushResult {q : Bool} {s t : State} (h : s.Steady q t) {r : DetResult} : s.Steady q (t.pushResult r) := by
  unfold State.pushResult
  extract_lets grown
  exact .ite (h.same) (h.bump.same)

theorem State.Steady.reportClosing {q : Bool} {s t : State} (h : s.Steady q t) {i : Chan} {c : Closing} : s.Steady q (t.reportClosing i c) := by
  unfold State.reportClosing
  extract_lets x m plain above met x1 _ s1 s2
  have hs1 : s.Steady q s1 := h.same.pushResult
  have hs2 : s.Steady q s2 := hs1.raiseFor
  exact .ite (hs2.fireCaptures.logEvent) (hs1)

theorem State.Steady.execDetectorClose {s t : State} (h : s.Steady false t) {i : Chan} : s.SteadyTo (Machine.execDetectorClose i t) := by
  unfold Machine.execDetectorClose
  split
  · split
    · exact h.next
    · exact h.reportClosing.next
  · exact h.next

theorem State.Steady.execDetectorTimeout {s t : State} (h : s.Steady false t) {i : Chan} : s.SteadyTo (Machine.execDetectorTimeout i t) := by
  unfold Machine.execDetectorTimeout
  split
  · split
    · exact h.reportClosing.next
    · exact h.next
  · exact h.next

theorem Txn.patch_live (t : Txn) (img : Image) (rec : List Byte) (arrived now : Nat) :
    (t.patch img rec arrived now).live = t.live ∧ (t.patch img rec arrived now).defaultsDue = t.defaultsDue := ⟨rfl, rfl⟩

theorem State.Steady.takeConfig {q : Bool} {s t : State} (h : s.Steady q t) {rec : List Byte} {arrived : Nat} :
    s.Steady q (t.takeConfig rec arrived) := by
  unfold State.takeConfig
  refine .ite h.logEvent (.ite h.logEvent ?_)
  split
  · next img _ =>
    obtain ⟨hlive, hdue⟩ := t.txn.patch_live img rec arrived t.clock.clk
    exact h.same (by simp only [State.guarded, hlive, hdue])
  · exact h.outcome

theorem State.Steady.drainRecords {q : Bool} {s t : State} (h : s.Steady q t) {fuel off : Nat} :
    s.Steady q (State.drainRecords fuel t off) := by
  induction fuel generalizing t off with
  | zero => exact h
  | succ fuel ih =>
    unfold State.drainRecords
    split
    · exact h
    · exact .ite h (.ite (ih h) (ih (State.Steady.takeConfig (State.Steady.settlePause h.same))))

theorem State.Steady.freezeShadow {q : Bool} {s t : State} (h : s.Steady q t) : s.Steady q t.freezeShadow := by
  unfold State.freezeShadow
  split
  · exact h
  · extract_lets _ s1 s2
    have hs1 : s.Steady q s1 := by
      dsimp only [s1]
      split
      · exact .ite (h.same.foldl (fun _ _ hu => hu.outcome)) (h)
      · exact h
    have hs2 : s.Steady q s2 := .ite (hs1.drainRecords) (hs1)
    exact hs2.same

theorem State.Steady.openShadow {q : Bool} {s t : State} (h : s.Steady q t) : s.Steady q t.openShadow := by
  unfold State.openShadow
  exact h.same

theorem State.Steady.closeShadow {q : Bool} {s t : State} (h : s.Steady q t) {mode : BitVec 3} {var : BitVec 2} {stable : Bool}
    {fence : List LineErrs} : s.Steady q (t.closeShadow mode var stable fence) := by
  unfold State.closeShadow
  extract_lets frozen img cfg s1 s2 txn s3
  have hs1 : s.Steady q s1 := .ite h.freezeShadow.fence h.freezeShadow
  have hs2 : s.Steady q s2 := .ite (hs1.same (by simp [State.guarded])) hs1
  have hs3 : s.Steady q s3 := hs2.same (by simp only [State.guarded, s3, txn])
  exact .ite hs3.loadHeads hs3

theorem State.Steady.raiseTxid {q : Bool} {s t : State} (h : s.Steady q t) : s.Steady q t.raiseTxid := by
  unfold State.raiseTxid
  exact h.same

theorem State.Steady.txFalls {q : Bool} {s t : State} (h : s.Steady q t) {pin : TxPin} {samples : List Bool} : s.Steady q (t.txFalls pin samples) := by
  unfold State.txFalls
  exact .ite (h.same) (h)

theorem State.Steady.ignorePulse {q : Bool} {s t : State} (h : s.Steady q t) {pin : TxPin} : s.Steady q (t.ignorePulse pin) := by
  unfold State.ignorePulse
  exact h.outcome

theorem State.Steady.execTxb {s t : State} (h : s.Steady false t) {samples : List Bool} {others : List TxPin} : s.SteadyTo (Machine.execTxb samples others t) := by
  unfold Machine.execTxb
  extract_lets t' s1
  have ht' : s.Steady false t' := h.txFalls
  have hs1 : s.Steady false s1 := ht'.raiseTxid
  split
  · exact ht'.next
  · split
    · exact ht'.ignorePulse.next
    · split
      · exact hs1.same.next
      · exact hs1.openShadow.next

theorem State.Steady.execTxc {s t : State} (h : s.Steady false t) {samples : List Bool} {others : List TxPin} {obs : PinObs} : s.SteadyTo (Machine.execTxc samples others obs t) := by
  unfold Machine.execTxc
  extract_lets t' s1 s2
  have ht' : s.Steady false t' := h.txFalls
  have hs1 : s.Steady false s1 := ht'.observe
  have hs2 : s.Steady false s2 := .ite (hs1) (hs1.raiseTxid)
  split
  · exact ht'.next
  · split
    · exact ht'.ignorePulse.next
    · exact hs2.closeShadow.next

theorem State.Steady.execTxa {s t : State} (h : s.Steady false t) {samples : List Bool} {_others : List TxPin} : s.SteadyTo (Machine.execTxa samples _others t) := by
  unfold Machine.execTxa
  extract_lets t' s1
  have ht' : s.Steady false t' := h.txFalls
  have hs1 : s.Steady false s1 := .ite (ht'.outcome) (ht'.discard)
  split
  · exact ht'.next
  · split
    · exact hs1.same.holdVeto.next
    · split
      · exact ht'.ignorePulse.next
      · exact ht'.discard.holdVeto.next

theorem State.Steady.execValidationDone {s t : State} (h : s.Steady false t) : s.SteadyTo (Machine.execValidationDone t) := by
  unfold Machine.execValidationDone
  refine .ite h.next ?_
  split
  · extract_lets _ s1 s2 s3 s4
    have h2 : s.Steady false s2 := State.Steady.setResident (h.same (by dsimp only [s1, State.guarded]))
    clear_value s2
    have h3 : s.Steady false s3 := h2.same (by simp [State.guarded, s3])
    clear_value s3
    have h4 : s.Steady false s4 := h3.ledgerNext
    exact .ite (State.Steady.next h4.same) h4.next
  · exact h.discard.holdVeto.next
  · exact h.next

theorem State.Steady.endTxn {q : Bool} {s t : State} (h : s.Steady q t) : s.Steady q t.endTxn := by
  unfold State.endTxn
  extract_lets s1
  have hs1 : s.Steady q s1 := h.closeTxn
  exact hs1.same

theorem State.Steady.takeRollback {s t : State} (h : s.Steady false t) : s.Steady false t.takeRollback := by
  unfold State.takeRollback
  extract_lets s0 _ _ s1 s2
  have hs0 : s.Steady false s0 := h.discard.endTxn
  have hs1 : s.Steady false s1 := hs0.same
  have hs2 : s.Steady false s2 := by
    dsimp only [s2]
    split
    · exact hs1.takeEffect
    · exact hs1.toPowerUp
  exact hs2.same.outcome

theorem State.Steady.endProbation {q : Bool} {s t : State} (h : s.Steady q t) : s.Steady q t.endProbation := by
  unfold State.endProbation
  exact h.same.setResident

theorem State.Steady.timeOutTxn {q : Bool} {s t : State} (h : s.Steady q t) : s.Steady q t.timeOutTxn := by
  unfold State.timeOutTxn
  extract_lets s1 s2
  have hs1 : s.Steady q s1 := h.discard
  have hs2 : s.Steady q s2 := .ite (hs1.holdVeto) (hs1)
  exact hs2.same

theorem State.Steady.countBad {q : Bool} {s t : State} (h : s.Steady q t) : s.Steady q t.countBad := by
  unfold State.countBad
  exact .ite (h.bump) (h)

theorem State.Steady.forwardSync {q : Bool} {s t : State} (h : s.Steady q t) {f : SyncRx} : s.Steady q (t.forwardSync f) := by
  unfold State.forwardSync
  extract_lets way spineLike spine tooth bound wait acc onB onC sendB sendC out count keeps
  exact h.same

theorem State.Steady.judgeIndex {q : Bool} {s t : State} (h : s.Steady q t) {f : SyncRx} (hs : s.Unfailed) : s.Steady q (t.judgeIndex f) := by
  unfold State.judgeIndex
  refine .ite h (.ite ?_ h.same)
  split
  · exact h.same
  · exact h.failBringUp hs

theorem State.Steady.stepAlign {q : Bool} {s t : State} (h : s.Steady q t) {count : BitVec 48} : s.Steady q (t.stepAlign count) := by
  unfold State.stepAlign
  exact h.same.clearFault

theorem State.Steady.slewAlign {q : Bool} {s t : State} (h : s.Steady q t) {f : SyncRx} {dA : ℤ} : s.Steady q (t.slewAlign f dA) := by
  unfold State.slewAlign
  extract_lets left _ s1
  have hs1 : s.Steady q s1 := h.same
  exact .ite (hs1.clearFault) (hs1)

theorem State.Steady.align {q : Bool} {s t : State} (h : s.Steady q t) {f : SyncRx} : s.Steady q (t.align f) := by
  unfold State.align
  split
  · exact h.same
  · extract_lets _ s1
    have hs1 : s.Steady q s1 := h.same
    exact .ite (hs1) (.ite (hs1.stepAlign) (hs1.slewAlign))

theorem State.Steady.noteTxid {q : Bool} {s t : State} (h : s.Steady q t) {t' : Byte} : s.Steady q (t.noteTxid t') := by
  unfold State.noteTxid
  exact .ite (h) (h.same)

theorem State.Steady.promote {q : Bool} {s t : State} (h : s.Steady q t) {prob : Bool} : s.Steady q (t.promote prob) := by
  unfold State.promote
  exact .ite (h.same.setResident) (h)

theorem State.Steady.noteMissedCommit {q : Bool} {s t : State} (h : s.Steady q t) {prob : Bool} : s.Steady q (t.noteMissedCommit prob) := by
  unfold State.noteMissedCommit
  extract_lets late
  exact .ite (h.same) (h)

theorem State.Steady.openLate {q : Bool} {s t : State} (h : s.Steady q t) {f : SyncRx} : s.Steady q (t.openLate f) := by
  unfold State.openLate
  exact .ite (h.openShadow) (h)

theorem State.Steady.takeSync {q : Bool} {s t : State} (h : s.Steady q t) {f : SyncRx} : s.Steady q (t.takeSync f) := by
  unfold State.takeSync
  extract_lets run _ s1 s2 s3
  have h2 : s.Steady q s2 := State.Steady.align h.same
  split
  · next hj =>
    have hs : s.Unfailed := h.unfailed (State.unfailed_of_eq hj nofun)
    have h3 : s.Steady q s3 := h2.judgeIndex hs
    exact .ite (h3.endJoin hs) h3
  · exact .ite h2.noteTxid.promote.noteMissedCommit h2

theorem State.Steady.receiveSync {q : Bool} {s t : State} (h : s.Steady q t) {f : SyncRx} {is : Nat → Bool} {act : State → State}
    (ha : ∀ u, s.Steady q u → s.Steady q (act u)) : s.Steady q (t.receiveSync f is act) := by
  unfold State.receiveSync
  refine .ite h (.ite h ?_)
  extract_lets s1 s2 _ _ s3 s4
  have h1 : s.Steady q s1 := h.forwardSync
  clear_value s1
  have h2 : s.Steady q s2 := h1.countBad
  have h4 : s.Steady q s4 := .ite h1.takeSync.bump h1.takeSync
  exact .ite h2.same (.ite h1 (.ite h1.same (.ite (ha _ h4) h4)))

theorem State.Steady.execSyncNone {s t : State} (h : s.Steady false t) {f : SyncRx} : s.SteadyTo (Machine.execSyncNone f t) :=
  State.Steady.next (h.receiveSync fun _ hu => hu.openLate)

theorem State.Steady.execSyncOpen {s t : State} (h : s.Steady false t) {f : SyncRx} : s.SteadyTo (Machine.execSyncOpen f t) :=
  State.Steady.next (h.receiveSync fun _ hu => .ite hu.openShadow hu)

theorem State.Steady.vetoUnready {q : Bool} {s t : State} (h : s.Steady q t) : s.Steady q t.vetoUnready := by
  unfold State.vetoUnready
  exact .ite (h) (h.discard.holdVeto)

theorem State.Steady.execSyncPrepare {s t : State} (h : s.Steady false t) {f : SyncRx} {obs : PinObs} :
    s.SteadyTo (Machine.execSyncPrepare f obs t) := by
  refine State.Steady.next (h.receiveSync fun u hu => ?_)
  extract_lets mv s1 _ s2
  have h1 : s.Steady false s1 := hu.observe.vetoUnready
  clear_value s1
  have h2 : s.Steady false s2 := h1.same (by dsimp only [s2, State.guarded])
  exact .ite h2 h2.closeShadow

theorem State.Steady.execSyncCommit {s t : State} (h : s.Steady false t) {f : SyncRx} : s.SteadyTo (Machine.execSyncCommit f t) :=
  State.Steady.next (h.receiveSync fun _ hu => State.Steady.same hu.openLate)

theorem State.Steady.execSyncAbort {s t : State} (h : s.Steady false t) {f : SyncRx} : s.SteadyTo (Machine.execSyncAbort f t) :=
  State.Steady.next (h.receiveSync fun _ hu => hu.discard.endTxn)

theorem State.Steady.execSyncRollback {s t : State} (h : s.Steady false t) {f : SyncRx} : s.SteadyTo (Machine.execSyncRollback f t) :=
  State.Steady.next (h.receiveSync fun _ hu => State.Steady.same hu.openLate)

theorem State.Steady.execSyncReservedCommand {s t : State} (h : s.Steady false t) {f : SyncRx} : s.SteadyTo (Machine.execSyncReservedCommand f t) :=
  State.Steady.next (h.receiveSync fun _ hu => hu.openLate)

theorem State.Steady.takeIsland {s t : State} (h : s.Steady false t) : s.Steady false t.takeIsland := by
  unfold State.takeIsland
  extract_lets s1 s2 _ _ _ s3
  have hs1 : s.Steady false s1 := h.retreatAll.discard.endTxn
  have hs2 : s.Steady false s2 := hs1.takeEffect
  have hs3 : s.Steady false s3 := hs2.same
  exact hs3.logEvent

theorem State.Steady.execIslandRejoin {s t : State} (h : s.Steady false t) : s.SteadyTo (Machine.execIslandRejoin t) := by
  unfold Machine.execIslandRejoin
  split
  · split
    · extract_lets s1 _ s2
      have hs1 : s.Steady false s1 := h.stepAlign
      have hs2 : s.Steady false s2 := hs1.same
      exact hs2.logEvent.next
    · exact h.next
  · exact h.next

theorem State.Steady.execAlignmentFault {s t : State} (h : s.Steady false t) : s.SteadyTo (Machine.execAlignmentFault t) := by
  unfold Machine.execAlignmentFault
  split
  · exact h.beginFault.next
  · exact h.next

theorem State.Steady.execReturnFrame {s t : State} (h : s.Steady false t) {port : LinkPort} {items : List RxItem} {ended : Bool} : s.SteadyTo (Machine.execReturnFrame port items ended t) := by
  unfold Machine.execReturnFrame
  split
  · exact h.next
  · split
    · exact h.countBad.next
    · extract_lets r
      split
      · split
        · exact h.same.next
        · exact h.next
      · exact h.next

theorem State.Steady.execReturnSend {s t : State} (h : s.Steady false t) : s.SteadyTo (Machine.execReturnSend t) := by
  unfold Machine.execReturnSend
  split
  · split
    · extract_lets t' r _ sent held
      split
      · exact h.same.next
      · exact h.same.next
    · exact h.next
  · exact h.next

theorem State.Steady.setEnumcnt {q : Bool} {s t : State} (h : s.Steady q t) {v : BitVec 16} : s.Steady q (t.setEnumcnt v) := by
  unfold State.setEnumcnt
  extract_lets s1
  have hs1 : s.Steady q s1 := .ite (h) (h.bump)
  exact hs1.same

theorem State.Steady.execRootEnumeration {s t : State} (h : s.Steady false t) : s.SteadyTo (Machine.execRootEnumeration t) := by
  unfold Machine.execRootEnumeration
  split
  · next hj =>
    have hj : t.power.stage = .join := by simp_all
    have hs : s.Unfailed := h.unfailed (State.unfailed_of_eq hj nofun)
    exact (State.Steady.endJoin (h.same) hs).next
  · exact h.next

theorem State.Steady.execEnumcntUpdate {s t : State} (h : s.Steady false t) : s.SteadyTo (Machine.execEnumcntUpdate t) := by
  unfold Machine.execEnumcntUpdate
  split
  · split
    · exact h.setEnumcnt.next
    · exact h.next
  · exact h.next

theorem State.Steady.rootCommand {q : Bool} {s t : State} (h : s.Steady q t) : s.Steady q t.rootCommand.2 := by
  unfold State.rootCommand
  dsimp only
  split
  · exact h.same
  split
  · exact State.Steady.endTxn (State.Steady.discard h.same)
  split
  · dsimp only
    have h1 : s.Steady q { t with chain := { t.chain with openDue := false } } := h.same
    exact .ite h1.openShadow h1
  split
  · exact h.same
  split
  · exact h.same
  · split
    · exact h.same
    · exact State.Steady.endTxn (State.Steady.discard h.same)
  · exact h

theorem State.Steady.rootBoundary {q : Bool} {s t : State} (h : s.Steady q t) : s.Steady q t.rootBoundary := by
  unfold State.rootBoundary
  extract_lets s0
  have h0 : s.Steady q s0 := by
    refine .ite ?_ h
    cases t.lastMerged
    · exact h
    · exact h.setEnumcnt
  have h1 : s.Steady q s0.rootCommand.2 := h0.rootCommand
  clear_value s0
  generalize s0.rootCommand = r at h1
  exact h1.same

theorem State.Steady.chainBoundary {q : Bool} {s t : State} (h : s.Steady q t) : s.Steady q t.chainBoundary := by
  unfold State.chainBoundary
  exact h.same

theorem State.Steady.probtripBoundary {q : Bool} {s t : State} (h : s.Steady q t) : s.Steady q t.probtripBoundary := by
  unfold State.probtripBoundary
  exact h.same

theorem State.Steady.execUrgentRetreat {s t : State} (h : s.Steady false t) {port : LinkPort} {frame : UrgentRx} : s.SteadyTo (Machine.execUrgentRetreat port frame t) := by
  unfold Machine.execUrgentRetreat
  extract_lets bs sound out s1
  have hs1 : s.Steady false s1 := h.sendUrgent
  split
  · exact h.next
  · split
    · exact h.countBad.next
    · split
      · exact h.next
      · split
        · exact hs1.retreatAll.logEvent.next
        · exact hs1.next

theorem State.Steady.execUrgentRepeat {s t : State} (h : s.Steady false t) : s.SteadyTo (Machine.execUrgentRepeat t) := by
  unfold Machine.execUrgentRepeat
  split
  · extract_lets s1
    have hs1 : s.Steady false s1 := h.sendUrgent
    exact hs1.same.next
  · exact h.next

theorem State.Steady.execMeasureSend {s t : State} (h : s.Steady false t) : s.SteadyTo (Machine.execMeasureSend t) := by
  unfold Machine.execMeasureSend
  split
  · extract_lets misses c
    exact h.same.next
  · exact h.next

theorem State.Steady.execMeasureRequest {s t : State} (h : s.Steady false t) {port : LinkPort} {set : SetRx} {turnPs : BitVec 16} : s.SteadyTo (Machine.execMeasureRequest port set turnPs t) := by
  unfold Machine.execMeasureRequest
  split
  · exact h.next
  · split
    · exact h.countBad.next
    · extract_lets c
      exact h.same.next

theorem State.Steady.execMeasureEcho {s t : State} (h : s.Steady false t) {set : SetRx} {turnPs : BitVec 16} {rttPs : ℕ} : s.SteadyTo (Machine.execMeasureEcho set turnPs rttPs t) := by
  unfold Machine.execMeasureEcho
  split
  · exact h.next
  · split
    · exact h.countBad.next
    · split
      · exact h.same.next
      · exact h.next

theorem State.Steady.execCausewayHandover {s t : State} (h : s.Steady false t) : s.SteadyTo (Machine.execCausewayHandover t) := by
  unfold Machine.execCausewayHandover
  exact h.same.next

theorem State.Steady.execPortConnected {s t : State} (h : s.Steady false t) {port : LinkPort} : s.SteadyTo (Machine.execPortConnected port t) := by
  unfold Machine.execPortConnected
  split
  · exact h.same.next
  · exact h.next

theorem State.Steady.execPortDisconnected {s t : State} (h : s.Steady false t) {port : LinkPort} : s.SteadyTo (Machine.execPortDisconnected port t) := by
  unfold Machine.execPortDisconnected
  exact h.same.next

theorem State.Steady.deliver {q : Bool} {s t : State} (h : s.Steady q t) {p : PlayerNo} {waits : Chan → Bool} {good : Option (List (ℕ × BitVec 64))} : s.Steady q (t.deliver p waits good) := by
  unfold State.deliver
  extract_lets take s1
  have hs1 : s.Steady q s1 := h.onPlayer
  exact .ite (hs1.raiseFor) (hs1)

theorem State.Steady.fetched {q : Bool} {s t : State} (h : s.Steady q t) {r : MemReq} {flips : Flips} {verify : Flips} : s.Steady q (t.fetched r flips verify) := by
  unfold State.fetched
  extract_lets res wrong bad s1 s2
  have hs1 : s.Steady q s1 := by
    dsimp only [s1]
    split
    · exact h.deliver
    · exact .ite (h) (h.same (by simp [State.guarded]))
    · exact .ite (h) (h.same (by simp [State.guarded]))
    · exact h
    · exact h
    · exact h
    · exact h
    · exact h
  have hs2 : s.Steady q s2 := hs1.chargeRead
  exact .ite (hs2.badLine) (hs2)

theorem State.Steady.scrubBad {q : Bool} {s t : State} (h : s.Steady q t) {a : LineAddr} {owner : BitVec 16}
    {errs : Option (List LineErrs)} : s.Steady q (t.scrubBad a owner errs) := by
  unfold State.scrubBad
  split
  · exact h.badLine
  · exact h.badLine
  · exact h.putMem fun hw => Mem.putLine_wf _ _ _ _ _ hw
  · next k _ =>
    exact h.putMem fun hw => Mem.putLine_wf _ _ _ _ _ ((t.mem.ringLine_cells k a _).symm ▸ hw)
  · exact h.loseDram
  · exact h.loseDram

theorem State.Steady.scrubbed {q : Bool} {s t : State} (h : s.Steady q t) {a : LineAddr} {owner : BitVec 16} {flips verify : Flips} :
    s.Steady q (t.scrubbed a owner flips verify) := by
  unfold State.scrubbed
  extract_lets r data
  split
  · exact .ite (h.putMem (t.mem.writeBack_wf a owner _)) h
  · next errs _ =>
    extract_lets charged
    have hc : s.Steady q charged := State.Steady.charge (h.putMem (m := (t.mem.writeBack a owner _).countScrub 1 0 0) fun hw => by
      rw [Mem.countScrub_cells]
      exact t.mem.writeBack_wf a owner _ hw)
    clear_value charged
    refine .ite hc ?_
    split
    · exact hc
    · extract_lets s1
      have h1 : s.Steady q s1 := hc.chargeRead
      exact State.Steady.persistent (h1.sameMem (Mem.countScrub_cells _ 0 1 0))
  · exact State.Steady.scrubBad (h.sameMem (by simp))

theorem State.Steady.reservedRead {q : Bool} {s t : State} (h : s.Steady q t) {a : LineAddr} {flips : Flips} : s.Steady q (t.reservedRead a flips) := by
  unfold State.reservedRead
  split
  · exact h
  · exact h.charge.askRead
  · exact h.loseDram

theorem State.Steady.captureRead {q : Bool} {s t : State} (h : s.Steady q t) {k : Fin 8} {a : LineAddr} {flips : Flips} :
    s.Steady q (t.captureRead k a flips) := by
  unfold State.captureRead
  extract_lets r read m
  refine State.Steady.chargeRead (h.sameMem ?_)
  dsimp only [m]
  split <;> simp

/-- A line that decodes is rewritten in canonical form. -/
theorem State.Steady.reread {q : Bool} {s t : State} (h : s.Steady q t) {a : LineAddr} {owner : BitVec 16} {data : List Byte} :
    s.Steady q { t with mem := (t.mem.putLine .p4 a owner data).listRead a } :=
  h.putMem fun hw => (Mem.listRead_cells _ a).symm ▸ Mem.putLine_wf _ _ _ _ _ hw

theorem State.Steady.rereadDone {q : Bool} {s t : State} (h : s.Steady q t) {a : LineAddr} {owner : BitVec 16} {flips : Flips} :
    s.Steady q (t.rereadDone a owner flips) := by
  unfold State.rereadDone
  dsimp only
  split
  · exact h.reread.chargeRead.leaveBog.settleQuarantine
  · exact h.reread.chargeRead.leaveBog.settleQuarantine
  · exact h.chargeRead

theorem State.Steady.mergeReadDone {q : Bool} {s t : State} (h : s.Steady q t) {r : MemReq} {flips : Flips} {verify : Flips} : s.Steady q (t.mergeReadDone r flips verify) := by
  unfold State.mergeReadDone
  extract_lets sub s1
  have hs1 : s.Steady q s1 := h.finishRead
  split
  · exact hs1.flush
  · exact hs1

theorem State.Steady.flushNow {q : Bool} {s t : State} (h : s.Steady q t) {sub : Fin 2} {e : Merge} {flips verify : Flips} :
    s.Steady q (t.flushNow sub e flips verify) := by
  unfold State.flushNow
  refine .ite (State.Steady.flush (h.sameMem (by simp))) ?_
  split
  · exact h.mergeReadDone
  · exact h.askMerge

theorem State.Steady.endPass {q : Bool} {s t : State} (h : s.Steady q t) : s.Steady q t.endPass := by
  unfold State.endPass
  split
  · extract_lets n counter
    exact h.same

theorem State.Steady.passOver {q : Bool} {s t : State} (h : s.Steady q t) : s.Steady q t.passOver := by
  unfold State.passOver
  exact .ite (h.endPass) (h)

theorem State.Steady.execScrubRead {s t : State} (h : s.Steady false t) : s.SteadyTo (Machine.execScrubRead t) := by
  unfold Machine.execScrubRead
  split
  · extract_lets a slot _ s1
    have hs1 : s.Steady false s1 := h.same
    split
    · exact hs1.passOver.next
    · exact hs1.askRead.next
  · exact h.next

theorem State.Steady.execLineReadDone {s t : State} (h : s.Steady false t) {src : ReadSource} {a : LineAddr} {flips verify : Flips} :
    s.SteadyTo (Machine.execLineReadDone src a flips verify t) := by
  unfold Machine.execLineReadDone
  have hr : s.Steady false { t with mem := t.mem.request } := h.sameMem (by simp)
  refine .ite h.next (.ite .fault ?_)
  dsimp only
  split
  · split
    · exact h.finishRead.fetched.next
    · exact .ite hr.fetched.next h.next
    · exact h.next
  · split
    · exact .ite h.finishRead.rereadDone.next h.finishRead.scrubbed.passOver.next
    · exact h.next
  · split
    · exact h.mergeReadDone.next
    · exact h.next
  · split
    · exact h.finishRead.captureRead.next
    · exact h.finishRead.next
    · exact h.next
  · exact .ite hr.reservedRead.next h.next

theorem State.Steady.execProbeStart {s t : State} (h : s.Steady false t) {rank : Fin 2} {sub : Fin 2} : s.SteadyTo (Machine.execProbeStart rank sub t) := by
  unfold Machine.execProbeStart
  split
  · extract_lets s1 i
    have hs1 : s.Steady false s1 := h.bump
    exact hs1.same.next
  · exact h.next

theorem State.Steady.execProbeDone {s t : State} (h : s.Steady false t) {r : ProbeRead} :
    s.SteadyTo (Machine.execProbeDone r t) := by
  unfold Machine.execProbeDone
  split
  · extract_lets line _ s1
    have h1 : s.Steady false s1 := h.putMem (m := { t.mem.writeLine line 0 (List.replicate 64 0xAA) with probe := none })
      (Mem.writeLine_wf _ _ _ _)
    split
    · exact h1.next
    · exact h1.attribute.next
    · exact h1.loseDram.next
  · exact h.next

theorem State.Steady.execDdrAlertFault {s t : State} (h : s.Steady false t) : s.SteadyTo (Machine.execDdrAlertFault t) := by
  unfold Machine.execDdrAlertFault
  split
  · exact h.loseDram.next
  · exact h.next

theorem State.Steady.execMergeFlush {s t : State} (h : s.Steady false t) {sub : Fin 2} {flips : Flips} {verify : Flips} : s.SteadyTo (Machine.execMergeFlush sub flips verify t) := by
  unfold Machine.execMergeFlush
  split
  · split
    · exact h.flushNow.next
    · exact h.next
  · exact h.next

theorem State.Steady.execRefreshDue {s t : State} (h : s.Steady false t) {rank : Fin 2} {sub : Fin 2} {busy : BitVec 4} : s.SteadyTo (Machine.execRefreshDue rank sub busy t) := by
  unfold Machine.execRefreshDue
  split
  · extract_lets i all left waits
    exact h.same.next
  · exact h.next

theorem State.Steady.execSelfRefreshDrain {s t : State} (h : s.Steady false t) : s.SteadyTo (Machine.execSelfRefreshDrain t) := by
  unfold Machine.execSelfRefreshDrain
  extract_lets reached s1 _ s2
  have hs1 : s.Steady false s1 := h.fence
  have hs2 : s.Steady false s2 := hs1.same
  split
  · exact hs2.settleQueues.next
  · exact h.next

theorem State.Steady.execSelfRefreshEntry {s t : State} (h : s.Steady false t) : s.SteadyTo (Machine.execSelfRefreshEntry t) := by
  unfold Machine.execSelfRefreshEntry
  extract_lets m quiet
  split
  · exact h.same.next
  · exact h.next

theorem State.Steady.execSelfRefreshExit {s t : State} (h : s.Steady false t) : s.SteadyTo (Machine.execSelfRefreshExit t) := by
  unfold Machine.execSelfRefreshExit
  split
  · exact h.same.next
  · exact h.next

theorem State.Steady.execSelfRefreshExitDone {s t : State} (h : s.Steady false t) : s.SteadyTo (Machine.execSelfRefreshExitDone t) := by
  unfold Machine.execSelfRefreshExitDone
  split
  · exact h.same.settleQueues.next
  · exact h.next

theorem State.Steady.abandonLoad {q : Bool} {s t : State} (h : s.Steady q t) {id : BitVec 16} {sub : Byte} : s.Steady q (t.abandonLoad id sub) := by
  unfold State.abandonLoad
  exact h.freeSegment.logEvent

theorem State.Steady.execSegmentLoadTimeout {s t : State} (h : s.Steady false t) {id : BitVec 16} : s.SteadyTo (Machine.execSegmentLoadTimeout id t) := by
  unfold Machine.execSegmentLoadTimeout
  split
  · extract_lets open_
    split
    · exact h.abandonLoad.next
    · exact h.next
  · exact h.next

theorem State.Steady.storeLines {q : Bool} {s t : State} (h : s.Steady q t) {g : Segment} {c : Chunk} {errs : List LineErrs} :
    s.Steady q (t.storeLines g c errs) := by
  unfold State.storeLines
  refine h.foldl fun u i hu => ?_
  split
  · exact hu.throughMerge
  · exact hu

theorem State.Steady.storeChunk {q : Bool} {s t u : State} (h : s.Steady q t) {g : Segment} {c : Chunk} {errs : List LineErrs}
    (hu : t.storeChunk g c errs = some u) : s.Steady q u := by
  unfold State.storeChunk at hu
  extract_lets need grown at hu
  have hgrown : ∀ m g', grown = some (m, g') → m.cells = t.mem.cells := fun m g' hg => by
    dsimp only [grown] at hg
    split at hg
    · cases hg
      rfl
    · split at hg
      · exact Mem.grow_cells hg
      · cases hg
  clear_value grown
  cases grown with
  | none => cases hu
  | some mg =>
    cases hu
    refine State.Steady.storeLines (h.sameMem ?_)
    rw [Mem.putSeg_cells]
    exact hgrown _ _ rfl

theorem State.Steady.loadChunk {q : Bool} {s t : State} (h : s.Steady q t) {g : Segment} {c : Chunk} {errs : List LineErrs} :
    s.Steady q (t.loadChunk g c errs).2 := by
  unfold State.loadChunk
  split
  · split
    · next hu => exact h.storeChunk hu
    · exact h.abandonLoad
  · exact h.abandonLoad

theorem State.Steady.startLoad {q : Bool} {s t : State} (h : s.Steady q t) {c : Chunk} {held : Bool} {errs : List LineErrs} :
    s.Steady q (t.startLoad c held errs).2 :=
  State.Steady.loadChunk (h.sameMem (Mem.putSeg_cells _ _))

theorem State.Steady.wantsLine {q : Bool} {s t : State} (h : s.Steady q t) {g : Segment} {o : Nat} {errs : List LineErrs} :
    s.Steady q (t.wantsLine g o errs).2 := by
  unfold State.wantsLine
  split
  · exact h
  · split
    · exact h
    · next a _ =>
      split
      · have h0 : s.Steady q (t.errsFor (some errs) a).2 := h.errsFor
        generalize t.errsFor (some errs) a = r at h0
        have h1 : ∀ out, s.Steady q (State.chargeRead { r.2 with mem := r.2.mem.request } a g.id out) := fun _ =>
          State.Steady.chargeRead (h0.sameMem (Mem.request_cells _))
        dsimp only
        split
        · exact (h1 _).bogLine
        · exact (h1 _).sameMem (Mem.updateSeg_cells _ _ _)
      · exact h

theorem State.Steady.retakePage {q : Bool} {s t u : State} (h : s.Steady q t) {id : BitVec 16} {j : Nat} {errs : List LineErrs}
    (hu : t.retakePage id j errs = some u) : s.Steady q u := by
  unfold State.retakePage at hu
  split at hu
  · next htake =>
    cases hu
    refine State.Steady.rewriteLists (h.sameMem ?_)
    rw [Mem.putSeg_cells]
    exact Mem.takePage_cells htake
  · cases hu

theorem State.Steady.repairLine {q : Bool} {s t u : State} (h : s.Steady q t) {c : Chunk} {errs : List LineErrs} {first count : Nat}
    (hu : t.repairLine c errs first count = some u) : s.Steady q u := by
  unfold State.repairLine at hu
  split at hu
  · cases hu
    exact h
  · next g _ =>
    extract_lets o at hu
    have h1 : s.Steady q (t.wantsLine g o errs).2 := h.wantsLine
    generalize t.wantsLine g o errs = r at hu h1
    obtain ⟨keep, s1⟩ := r
    dsimp only at hu h1
    split at hu
    · cases hu
      exact h1
    · have h2 : ∀ s2, (if g.lostPages.contains (o / 1024) then s1.retakePage c.id (o / 1024) errs else some s1) = some s2 →
          s.Steady q s2 := fun s2 hr => by
        split at hr
        · exact h1.retakePage hr
        · cases hr
          exact h1
      generalize (if g.lostPages.contains (o / 1024) then s1.retakePage c.id (o / 1024) errs else some s1) = ready at hu h2
      cases ready with
      | none => cases hu
      | some s2 =>
        dsimp only at hu
        split at hu
        · cases hu
          exact h2 _ rfl
        · cases hu
          exact (h2 _ rfl).throughMerge

theorem State.Steady.repairLines {q : Bool} {s u : State} {c : Chunk} {errs : List LineErrs} {ns : Nat} {lines : List Nat}
    {acc : Option State} (h : ∀ t, acc = some t → s.Steady q t)
    (hu : lines.foldl (fun (acc : Option State) i =>
      acc.bind fun s => s.repairLine c errs (48 * i) (min 48 (ns - 48 * i))) acc = some u) : s.Steady q u := by
  induction lines generalizing acc with
  | nil => exact h u hu
  | cons i lines ih =>
    refine ih (fun t ht => ?_) hu
    obtain ⟨v, hv, hr⟩ := Option.bind_eq_some_iff.mp ht
    exact (h v hv).repairLine hr

theorem State.Steady.repairChunk {q : Bool} {s t : State} (h : s.Steady q t) {g : Segment} {c : Chunk} {errs : List LineErrs} :
    s.Steady q (t.repairChunk g c errs).2 := by
  unfold State.repairChunk
  extract_lets ns s1 lines
  have h1 : s.Steady q s1 := State.Steady.rewriteLists (h.sameMem (Mem.putSeg_cells _ _))
  split
  · next hu => exact (State.Steady.repairLines (fun v hv => by cases hv; exact h1) hu).settleQuarantine
  · exact h.abandonLoad

theorem State.Steady.takeChunk {q : Bool} {s t : State} (h : s.Steady q t) {c : Chunk} {held : Bool} {errs : List LineErrs} : s.Steady q (t.takeChunk c held errs).2 := by
  unfold State.takeChunk
  split
  · split
    · exact h.startLoad
    · exact h.logEvent
  · split
    · split
      · exact h.abandonLoad.startLoad
      · exact h.loadChunk
    · split
      · exact h.logEvent
      · split
        · exact h.freeSegment.startLoad
        · exact h.logEvent
    · exact h.repairChunk

theorem State.Steady.takeOff {q : Bool} {s t : State} (h : s.Steady q t) {pl : Place} {n : ℕ} : s.Steady q (t.takeOff pl n) := by
  unfold State.takeOff
  exact .ite (h.same.settlePause) (h)

theorem State.Steady.distrust {q : Bool} {s t : State} (h : s.Steady q t) : s.Steady q t.distrust := by
  unfold State.distrust
  extract_lets rest kept
  exact h.same.settlePause

theorem State.Steady.failImage {q : Bool} {s t : State} (h : s.Steady q t) {cause : Byte} (hs : s.Unfailed) :
    s.Steady q (t.failImage cause) := by
  unfold State.failImage
  have h1 : s.Steady q (t.port.image.segments.foldl State.freeSegment t) := h.foldl fun _ _ hu => hu.freeSegment
  generalize t.port.image.segments.foldl State.freeSegment t = s1 at h1
  exact State.Steady.failBringUp (h1.same) hs

theorem State.Steady.execFlashTimeout {s t : State} (h : s.Steady false t) {op : FlashOp} :
    s.SteadyTo (Machine.execFlashTimeout op t) := by
  unfold Machine.execFlashTimeout
  extract_lets _ background
  have hb : s.Steady false background := State.Steady.beginFault (h.same)
  have hf : ∀ {st : Stage} {cause : Byte}, t.power.stage = st → (∀ c, st ≠ .failed c) →
      s.SteadyTo (.next (t.failBringUp cause)) := fun e hst => (h.failBringUp (h.unfailed (State.unfailed_of_eq e hst))).next
  clear_value background
  split
  iterate 6 exact h.next
  · next e => exact hf e nofun
  · next e => exact hf e nofun
  · next e _ => exact hf e nofun
  · next e => exact .ite (h.failImage (h.unfailed (State.unfailed_of_eq e nofun))).next hb.next
  · exact hb.next

theorem State.Steady.startImage {q : Bool} {s t : State} (h : s.Steady q t) {rec : List Byte} : s.Steady q (t.startImage rec) := by
  unfold State.startImage
  extract_lets b
  exact h.same

theorem State.Steady.imageActs {q : Bool} {s t : State} (h : s.Steady q t) (hs : s.Unfailed) : s.Steady q t.imageActs := by
  unfold State.imageActs
  refine State.Steady.endImage (State.Steady.same (h.sameMem ?_)) hs
  exact foldl_keeps Mem.cells (fun m g => Mem.putSeg_cells m _) _ _

theorem State.Steady.takeEnd {q : Bool} {s t : State} (h : s.Steady q t) {rec : List Byte} (hs : s.Unfailed) :
    s.Steady q (t.takeEnd rec) := by
  unfold State.takeEnd
  have hf : ∀ {cause}, s.Steady q (t.failImage cause) := h.failImage hs
  exact .ite hf (.ite hf (.ite hf (.ite h.same (State.Steady.imageActs (h.same) hs))))

theorem State.Steady.takeImageConfig {q : Bool} {s t : State} (h : s.Steady q t) {rec : List Byte} : s.Steady q (t.takeImageConfig rec) := by
  unfold State.takeImageConfig
  extract_lets i i1
  exact h.same

theorem State.Steady.takeImageChunk {q : Bool} {s t : State} (h : s.Steady q t) {rec : List Byte} {errs : List LineErrs}
    (hs : s.Unfailed) : s.Steady q (t.takeImageChunk rec errs) := by
  unfold State.takeImageChunk
  extract_lets c i i1 _ s1
  have h1 : s.Steady q s1 := h.same (by dsimp only [s1, State.guarded])
  have h2 : s.Steady q (s1.takeChunk c t.power.sealOn errs).2 := h1.takeChunk
  generalize s1.takeChunk c t.power.sealOn errs = r at h2
  exact .ite (h1.failImage hs) (.ite (h2.failImage hs) h2)

theorem State.Steady.takeInImage {q : Bool} {s t : State} (h : s.Steady q t) {rec : List Byte} {errs : List LineErrs}
    (hs : s.Unfailed) : s.Steady q (t.takeInImage rec errs) := by
  unfold State.takeInImage
  have hf : ∀ {cause}, s.Steady q (t.failImage cause) := h.failImage hs
  exact .ite hf (.ite hf (.ite (h.takeEnd hs) (.ite hf (.ite hf (.ite (h.takeImageChunk hs) h.takeImageConfig)))))

theorem State.Steady.takeFirst {q : Bool} {s t : State} (h : s.Steady q t) {pl : Place} {rec : List Byte} (hs : s.Unfailed) :
    s.Steady q (t.takeFirst pl rec) := by
  unfold State.takeFirst
  refine .ite ?_ (.ite (h.failImage hs) h)
  split
  · exact h.failImage hs
  · exact h.startImage

theorem State.Steady.damagedInImage {q : Bool} {s t : State} (h : s.Steady q t) {pl : Place} (hs : s.Unfailed) :
    s.Steady q (t.damagedInImage pl) := by
  unfold State.damagedInImage
  exact .ite (h.failImage hs) (.ite (h.failImage hs) h.distrust)

theorem State.Steady.takeKey {q : Bool} {s t : State} (h : s.Steady q t) {rec readBack : List Byte} (hs : s.Unfailed) :
    s.Steady q (t.takeKey rec readBack) := by
  unfold State.takeKey
  exact .ite h.logEvent (.ite (State.Steady.enterStage (h.same) hs) (State.Steady.failBringUp (h.same) hs))

theorem State.Steady.takeInProvision {q : Bool} {s t : State} (h : s.Steady q t) {rec readBack : List Byte} (hs : s.Unfailed) :
    s.Steady q (t.takeInProvision rec readBack) := by
  unfold State.takeInProvision
  exact .ite h.logEvent (.ite h.logEvent (h.takeKey hs))

theorem State.Steady.takeOnPort {q : Bool} {s t : State} (h : s.Steady q t) {rec : List Byte} {errs : List LineErrs} {arrived : ℕ} : s.Steady q (t.takeOnPort rec errs arrived) := by
  unfold State.takeOnPort
  exact .ite (h.takeConfig) (.ite (h.logEvent) (.ite (h.logEvent) (h.takeChunk)))

theorem State.Steady.takeWhole {q : Bool} {s t : State} (h : s.Steady q t) {pl : Place} {rec : List Byte} {errs : List LineErrs}
    {readBack : List Byte} (hs : s.Unfailed) : s.Steady q (t.takeWhole pl rec errs readBack) := by
  unfold State.takeWhole
  extract_lets after
  have ha : s.Steady q after := h.takeOff
  have hd : s.Steady q (t.damagedInImage pl) := h.damagedInImage hs
  have hi : s.Steady q (if t.port.image.started then after.takeInImage rec errs else after.takeFirst pl rec) :=
    .ite (ha.takeInImage hs) (ha.takeFirst hs)
  split
  · exact hd
  · exact hd
  · exact h.logEvent.distrust
  · exact h.logEvent.distrust
  · exact hi
  · exact hi
  · exact ha.takeInProvision hs
  · exact ha.takeOnPort

/-- Where records are taken, bring-up has not failed. -/
theorem State.unfailed_of_place {s : State} {pl : Place} (h : s.place = some pl) : s.Unfailed := fun cause hc => by
  simp [State.place, hc] at h

theorem State.Steady.takeRecord {q : Bool} {s t : State} (h : s.Steady q t) {n : Nat} {rec : List Byte} {errs : List LineErrs}
    {readBack : List Byte} : s.Steady q (t.takeRecord n rec errs readBack) := by
  unfold State.takeRecord
  split
  · exact h
  · next pl hpl =>
    have hs : s.Unfailed := h.unfailed (State.unfailed_of_place hpl)
    have hr : s.Steady q { t with mem := t.mem.request } := h.sameMem (Mem.request_cells _)
    refine .ite h (.ite (.ite (h.damagedInImage hs) h.logEvent.distrust) (.ite (h.failImage hs) (.ite h (.ite hr ?_))))
    exact State.Steady.takeWhole (.ite hr h) hs

theorem State.Steady.execHeader {s t : State} (h : s.Steady false t) {rec : List Byte} : s.SteadyTo (Machine.execHeader rec t) := by
  unfold Machine.execHeader
  exact h.takeRecord.next

theorem State.Steady.execEndRecord {s t : State} (h : s.Steady false t) {rec : List Byte} : s.SteadyTo (Machine.execEndRecord rec t) := by
  unfold Machine.execEndRecord
  exact h.takeRecord.next

theorem State.Steady.execProvision {s t : State} (h : s.Steady false t) {rec : List Byte} {readBack : List Byte} : s.SteadyTo (Machine.execProvision rec readBack t) := by
  unfold Machine.execProvision
  exact h.takeRecord.next

theorem State.Steady.execBase {s t : State} (h : s.Steady false t) {rec : List Byte} : s.SteadyTo (Machine.execBase rec t) := by
  unfold Machine.execBase
  exact h.takeRecord.next

theorem State.Steady.execOverlay {s t : State} (h : s.Steady false t) {rec : List Byte} : s.SteadyTo (Machine.execOverlay rec t) := by
  unfold Machine.execOverlay
  exact h.takeRecord.next

theorem State.Steady.execProgram {s t : State} (h : s.Steady false t) {rec : List Byte} : s.SteadyTo (Machine.execProgram rec t) := by
  unfold Machine.execProgram
  exact h.takeRecord.next

theorem State.Steady.execToneTable {s t : State} (h : s.Steady false t) {rec : List Byte} : s.SteadyTo (Machine.execToneTable rec t) := by
  unfold Machine.execToneTable
  exact h.takeRecord.next

theorem State.Steady.execMarginTable {s t : State} (h : s.Steady false t) {rec : List Byte} : s.SteadyTo (Machine.execMarginTable rec t) := by
  unfold Machine.execMarginTable
  exact h.takeRecord.next

theorem State.Steady.execCoefficientSet {s t : State} (h : s.Steady false t) {rec : List Byte} : s.SteadyTo (Machine.execCoefficientSet rec t) := by
  unfold Machine.execCoefficientSet
  exact h.takeRecord.next

theorem State.Steady.execGuardTable {s t : State} (h : s.Steady false t) {rec : List Byte} : s.SteadyTo (Machine.execGuardTable rec t) := by
  unfold Machine.execGuardTable
  exact h.takeRecord.next

theorem State.Steady.execLinkMap {s t : State} (h : s.Steady false t) {rec : List Byte} : s.SteadyTo (Machine.execLinkMap rec t) := by
  unfold Machine.execLinkMap
  exact h.takeRecord.next

theorem State.Steady.execCapturePlan {s t : State} (h : s.Steady false t) {rec : List Byte} : s.SteadyTo (Machine.execCapturePlan rec t) := by
  unfold Machine.execCapturePlan
  exact h.takeRecord.next

theorem State.Steady.execBudgets {s t : State} (h : s.Steady false t) {rec : List Byte} : s.SteadyTo (Machine.execBudgets rec t) := by
  unfold Machine.execBudgets
  exact h.takeRecord.next

theorem State.Steady.execSegmentChunk {s t : State} (h : s.Steady false t) {rec : List Byte} {errs : List LineErrs} : s.SteadyTo (Machine.execSegmentChunk rec errs t) := by
  unfold Machine.execSegmentChunk
  exact h.takeRecord.next

theorem State.Steady.execSealVerifyDone {s t : State} (h : s.Steady false t) : s.SteadyTo (Machine.execSealVerifyDone t) := by
  unfold Machine.execSealVerifyDone
  dsimp only
  split
  · next hi =>
    have hi : t.power.stage = .image := by simp_all
    have hs : s.Unfailed := h.unfailed (State.unfailed_of_eq hi nofun)
    exact .ite (h.imageActs hs).next (h.failImage hs).next
  · exact h.next

theorem State.Steady.execTxStuckPin {s t : State} (h : s.Steady false t) {pin : TxPin} {samples : List Bool} : s.SteadyTo (Machine.execTxStuckPin pin samples t) := by
  unfold Machine.execTxStuckPin
  split
  · extract_lets _ s1
    have hs1 : s.Steady false s1 := h.same
    exact hs1.beginFault.next
  · exact h.next

theorem State.Steady.execTxStuckPinClear {s t : State} (h : s.Steady false t) {pin : TxPin} {samples : List Bool} : s.SteadyTo (Machine.execTxStuckPinClear pin samples t) := by
  unfold Machine.execTxStuckPinClear
  extract_lets last _ s1
  have hs1 : s.Steady false s1 := h.same
  split
  · exact hs1.clearFault.next
  · exact h.next

theorem State.Steady.execModeInvalid {s t : State} (h : s.Steady false t) {samples : List (BitVec 3)} : s.SteadyTo (Machine.execModeInvalid samples t) := by
  unfold Machine.execModeInvalid
  split
  · split
    · exact h.same.beginFault.next
    · exact h.next
  · exact h.next

theorem State.Steady.execModeValidClear {s t : State} (h : s.Steady false t) {samples : List (BitVec 3)} : s.SteadyTo (Machine.execModeValidClear samples t) := by
  unfold Machine.execModeValidClear
  extract_lets last
  split
  · exact h.same.clearFault.next
  · exact h.next

theorem State.Steady.execEvDebounced {s t : State} (h : s.Steady false t) {k : Fin 8} {samples : List Bool} : s.SteadyTo (Machine.execEvDebounced k samples t) := by
  unfold Machine.execEvDebounced
  extract_lets n new last _ s1 s2
  have hs1 : s.Steady false s1 := h.same
  have hs2 : s.Steady false s2 := hs1.raisePin
  split
  · split
    · exact hs2.same.next
    · exact hs2.next
  · exact h.next

theorem State.Steady.execSystemEvent {s t : State} (h : s.Steady false t) : s.SteadyTo (Machine.execSystemEvent t) := by
  unfold Machine.execSystemEvent
  split
  · extract_lets s1
    have hs1 : s.Steady false s1 := h.foldl (fun _ _ hu => .ite (hu.raisePin) (hu))
    exact hs1.same.next
  · exact h.next

theorem State.Steady.execRtrNLow {s t : State} (h : s.Steady false t) {samples : List Bool} : s.SteadyTo (Machine.execRtrNLow samples t) := by
  unfold Machine.execRtrNLow
  extract_lets levels
  split
  · exact h.next
  · split
    · exact h.same.next
    · split
      · exact h.next
      · exact h.same.rtrRecognised.next
    · exact h.next

theorem State.Steady.execMkPulseEnd {s t : State} (h : s.Steady false t) {k : Fin 8} : s.SteadyTo (Machine.execMkPulseEnd k t) := by
  unfold Machine.execMkPulseEnd
  split
  · split
    · exact h.same.next
    · exact h.next
  · exact h.next

theorem State.Steady.runFrame {q : Bool} {s t : State} (h : s.Steady q t) {p : PlayerNo} {o : Op} : s.Steady q (t.runFrame p o) := by
  unfold State.runFrame
  exact .ite (h.bookkeep) (h)

theorem State.Steady.execTone {s t : State} (h : s.Steady false t) {p : PlayerNo} : s.SteadyTo (Machine.execTone p t) := by
  unfold Machine.execTone
  exact h.runFrame.next

theorem State.Steady.execChirp {s t : State} (h : s.Steady false t) {p : PlayerNo} : s.SteadyTo (Machine.execChirp p t) := by
  unfold Machine.execChirp
  exact h.runFrame.next

theorem State.Steady.execRamp {s t : State} (h : s.Steady false t) {p : PlayerNo} : s.SteadyTo (Machine.execRamp p t) := by
  unfold Machine.execRamp
  exact h.runFrame.next

theorem State.Steady.execNoise {s t : State} (h : s.Steady false t) {p : PlayerNo} : s.SteadyTo (Machine.execNoise p t) := by
  unfold Machine.execNoise
  exact h.runFrame.next

theorem State.Steady.execLevel {s t : State} (h : s.Steady false t) {p : PlayerNo} : s.SteadyTo (Machine.execLevel p t) := by
  unfold Machine.execLevel
  exact h.runFrame.next

theorem State.Steady.execWait {s t : State} (h : s.Steady false t) {p : PlayerNo} : s.SteadyTo (Machine.execWait p t) := by
  unfold Machine.execWait
  exact h.runFrame.next

theorem State.Steady.execPlay {s t : State} (h : s.Steady false t) {p : PlayerNo} : s.SteadyTo (Machine.execPlay p t) := by
  unfold Machine.execPlay
  split
  · exact h.bookkeep.askLines.next
  · exact h.next

theorem State.Steady.execLoop {s t : State} (h : s.Steady false t) {p : PlayerNo} : s.SteadyTo (Machine.execLoop p t) := by
  unfold Machine.execLoop
  split
  · exact h.settleLoop.next
  · exact h.next

theorem State.Steady.execNext {s t : State} (h : s.Steady false t) {p : PlayerNo} : s.SteadyTo (Machine.execNext p t) := by
  unfold Machine.execNext
  split
  · exact h.settleNext.next
  · exact h.next

theorem State.Steady.execJump {s t : State} (h : s.Steady false t) {p : PlayerNo} : s.SteadyTo (Machine.execJump p t) := by
  unfold Machine.execJump
  split
  · exact h.settleJump.next
  · exact h.next

theorem State.Steady.execEndStep {s t : State} (h : s.Steady false t) {p : PlayerNo} : s.SteadyTo (Machine.execEndStep p t) := by
  unfold Machine.execEndStep
  split
  · exact h.settleEnd.next
  · exact h.next

theorem State.Steady.execEventJump {s t : State} (h : s.Steady false t) {p : PlayerNo} : s.SteadyTo (Machine.execEventJump p t) := by
  unfold Machine.execEventJump
  extract_lets x
  split
  · exact h.jumpTo.next
  · exact h.next

theorem State.Steady.execWaitTimeout {s t : State} (h : s.Steady false t) {p : PlayerNo} : s.SteadyTo (Machine.execWaitTimeout p t) := by
  unfold Machine.execWaitTimeout
  extract_lets x st
  split
  · exact h.leaveStep.jumpTo.next
  · exact h.next

theorem State.Steady.stopPlayer {q : Bool} {s t : State} (h : s.Steady q t) {p : PlayerNo} {cause : Fin 4} : s.Steady q (t.stopPlayer p cause) := by
  unfold State.stopPlayer
  extract_lets s1 s2
  have hs1 : s.Steady q s1 := h.onPlayer
  have hs2 : s.Steady q s2 := hs1.logEvent
  exact hs2.beginFault.retreat

theorem State.Steady.execPlayerStop {s t : State} (h : s.Steady false t) {p : PlayerNo} {cause : Fin 4} : s.SteadyTo (Machine.execPlayerStop p cause t) := by
  unfold Machine.execPlayerStop
  extract_lets finds
  split
  · exact h.stopPlayer.next
  · exact h.next

theorem State.Steady.execCportRecover {s t : State} (h : s.Steady false t) : s.SteadyTo (Machine.execCportRecover t) := by
  unfold Machine.execCportRecover
  split
  · exact h.clearFault.next
  · exact h.next

theorem State.Steady.execLinkUp {s t : State} (h : s.Steady false t) : s.SteadyTo (Machine.execLinkUp t) := by
  unfold Machine.execLinkUp
  split
  · exact h.same.next
  · exact h.next

theorem State.Steady.execLinkDown {s t : State} (h : s.Steady false t) : s.SteadyTo (Machine.execLinkDown t) := by
  unfold Machine.execLinkDown
  exact State.Steady.next (.ite (h.linkLost) (h))

theorem State.Steady.execLinkFaultReceived {s t : State} (h : s.Steady false t) : s.SteadyTo (Machine.execLinkFaultReceived t) := by
  unfold Machine.execLinkFaultReceived
  split
  · exact h.same.next
  · exact h.next

theorem State.Steady.execLinkFaultCleared {s t : State} (h : s.Steady false t) : s.SteadyTo (Machine.execLinkFaultCleared t) := by
  unfold Machine.execLinkFaultCleared
  exact h.same.next

theorem State.Steady.execPauseTimerExpired {s t : State} (h : s.Steady false t) : s.SteadyTo (Machine.execPauseTimerExpired t) := by
  unfold Machine.execPauseTimerExpired
  split
  · exact h.same.next
  · exact h.next

theorem State.Steady.acceptFrame {q : Bool} {s t : State} (h : s.Steady q t) {bytes : List Byte} : s.Steady q (t.acceptFrame bytes) := by
  unfold State.acceptFrame
  extract_lets sor off payload _ s1 s2
  have hs1 : s.Steady q s1 := h.same
  have hs2 : s.Steady q s2 := .ite (hs1.discardPartial) (hs1)
  exact .ite (hs2.same.settlePause) (hs1.discardPartial.bump.awaitSor.settlePause)

theorem State.Steady.receiveFrame {q : Bool} {s t : State} (h : s.Steady q t) {bytes : List Byte} {fcsOk : Bool} : s.Steady q (t.receiveFrame bytes fcsOk) := by
  unfold State.receiveFrame
  split
  · exact h.bump
  · exact h.bump
  · exact h.bump
  · exact h.bump
  · exact h
  · exact h.same
  · exact h.bump.dropPartial
  · exact h.acceptFrame

theorem State.Steady.execContentFrame {s t : State} (h : s.Steady false t) {bytes : List Byte} {fcsOk : Bool} : s.SteadyTo (Machine.execContentFrame bytes fcsOk t) := by
  unfold Machine.execContentFrame
  split
  · exact h.receiveFrame.next
  · exact h.next

theorem State.Steady.execPause {s t : State} (h : s.Steady false t) {bytes : List Byte} {fcsOk : Bool} : s.SteadyTo (Machine.execPause bytes fcsOk t) := by
  unfold Machine.execPause
  split
  · exact h.receiveFrame.next
  · exact h.next

theorem State.Steady.execPartialRecordTimeout {s t : State} (h : s.Steady false t) : s.SteadyTo (Machine.execPartialRecordTimeout t) := by
  unfold Machine.execPartialRecordTimeout
  split
  · exact h.dropPartial.next
  · exact h.next

theorem State.Steady.putIr {q : Bool} {s t : State} (h : s.Steady q t) {ir : TapInstr} {dr : BitVec 32} : s.Steady q (t.putIr ir dr) := by
  unfold State.putIr
  exact h.same

theorem State.Steady.driveCells {q : Bool} {s t : State} (h : s.Steady q t) {ir : TapInstr} {cells : List Bool} : s.Steady q (t.driveCells ir cells) := by
  unfold State.driveCells
  extract_lets s1
  have hs1 : s.Steady q s1 := h.putIr
  exact .ite (hs1.same) (hs1)

theorem State.Steady.execBypass {s t : State} (h : s.Steady false t) : s.SteadyTo (Machine.execBypass t) := by
  unfold Machine.execBypass
  exact h.putIr.next

theorem State.Steady.execIdcode {s t : State} (h : s.Steady false t) : s.SteadyTo (Machine.execIdcode t) := by
  unfold Machine.execIdcode
  exact h.putIr.next

theorem State.Steady.execSamplePreload {s t : State} (h : s.Steady false t) {cells : List Bool} : s.SteadyTo (Machine.execSamplePreload cells t) := by
  unfold Machine.execSamplePreload
  extract_lets s1
  have hs1 : s.Steady false s1 := h.putIr
  exact hs1.same.next

theorem State.Steady.execExtest {s t : State} (h : s.Steady false t) {cells : List Bool} : s.SteadyTo (Machine.execExtest cells t) := by
  unfold Machine.execExtest
  exact h.driveCells.next

theorem State.Steady.execExtestPulse {s t : State} (h : s.Steady false t) {cells : List Bool} : s.SteadyTo (Machine.execExtestPulse cells t) := by
  unfold Machine.execExtestPulse
  exact h.driveCells.next

theorem State.Steady.execExtestTrain {s t : State} (h : s.Steady false t) {cells : List Bool} : s.SteadyTo (Machine.execExtestTrain cells t) := by
  unfold Machine.execExtestTrain
  exact h.driveCells.next

theorem State.Steady.execClamp {s t : State} (h : s.Steady false t) : s.SteadyTo (Machine.execClamp t) := by
  unfold Machine.execClamp
  exact h.putIr.next

theorem State.Steady.execHighz {s t : State} (h : s.Steady false t) : s.SteadyTo (Machine.execHighz t) := by
  unfold Machine.execHighz
  exact h.putIr.next

theorem State.Steady.execTrstNLow {s t : State} (h : s.Steady false t) : s.SteadyTo (Machine.execTrstNLow t) := by
  unfold Machine.execTrstNLow
  exact h.putIr.next

theorem State.Steady.execThermalReading {s t : State} (h : s.Steady false t) {quarterDeg : ℤ} : s.SteadyTo (Machine.execThermalReading quarterDeg t) := by
  unfold Machine.execThermalReading
  split
  · exact h.next
  · extract_lets readings
    exact h.same.next

theorem State.Steady.execStrapWindow {s t : State} (h : s.Steady false t) {k : Fin 8} {sum : ℕ} : s.SteadyTo (Machine.execStrapWindow k sum t) := by
  unfold Machine.execStrapWindow
  split
  · exact h.same.next
  · exact h.next

theorem State.Steady.emit {q : Bool} {s t : State} (h : s.Steady q t) {type : Byte} {epoch : BitVec 48} {body : List Byte} : s.Steady q (t.emit type epoch body) := by
  unfold State.emit
  extract_lets bytes frame
  exact h.same

theorem State.Steady.execStatus {s t : State} (h : s.Steady false t) : s.SteadyTo (Machine.execStatus t) := by
  unfold Machine.execStatus
  split
  · exact h.same.emit.next
  · exact h.next

theorem State.Steady.askRing {q : Bool} {s t : State} (h : s.Steady q t) {k : Fin 8} : s.Steady q (t.askRing k) := by
  unfold State.askRing
  exact h.foldl fun _ _ hu => .ite hu hu.askRead

theorem State.Steady.execCapture {s t : State} (h : s.Steady false t) {k : Fin 8} : s.SteadyTo (Machine.execCapture k t) := by
  unfold Machine.execCapture
  split
  · exact h.next
  · extract_lets c body _ s1
    have hs1 : s.Steady false s1 := h.same
    split
    · exact hs1.emit.next
    · exact h.askRing.next

theorem State.Steady.execDetector {s t : State} (h : s.Steady false t) : s.SteadyTo (Machine.execDetector t) := by
  unfold Machine.execDetector
  split
  · extract_lets sent body
    exact h.same.emit.next
  · exact h.next

theorem State.Steady.execEvent {s t : State} (h : s.Steady false t) : s.SteadyTo (Machine.execEvent t) := by
  unfold Machine.execEvent
  split
  · extract_lets sent body
    exact h.same.emit.next
  · exact h.next

theorem State.Steady.execBog {s t : State} (h : s.Steady false t) : s.SteadyTo (Machine.execBog t) := by
  unfold Machine.execBog
  split
  · extract_lets sent body
    exact h.same.emit.next
  · exact h.next

theorem State.Steady.execLedger {s t : State} (h : s.Steady false t) : s.SteadyTo (Machine.execLedger t) := by
  unfold Machine.execLedger
  split
  · exact h.same.emit.next
  · exact h.next

theorem State.Steady.execOutcome {s t : State} (h : s.Steady false t) : s.SteadyTo (Machine.execOutcome t) := by
  unfold Machine.execOutcome
  split
  · extract_lets sent body
    exact h.same.emit.next
  · exact h.next

theorem State.Steady.execWanted {s t : State} (h : s.Steady false t) {id : BitVec 16} : s.SteadyTo (Machine.execWanted id t) := by
  unfold Machine.execWanted
  split
  · split
    · extract_lets rs body
      exact h.same.emit.next
    · exact h.next
  · exact h.next

theorem State.Steady.toBoundary {q : Bool} {s t : State} (h : s.Steady q t) : s.Steady q t.toBoundary := by
  unfold State.toBoundary
  extract_lets s0' left s0 b s1
  have h0' : s.Steady q s0' := .ite h.passFrame h
  clear_value s0'
  have h0 : s.Steady q s0 := h0'.scrubTime.endFrame.beginFrame
  clear_value s0
  have h1 : s.Steady q s1 := .ite h0 (State.Steady.same h0.beginFrame (by simp [b, State.guarded, Pins.showMarkers]))
  clear_value s1
  exact (State.Steady.settlePins (h1.same)).latchAligned.settleThermal

theorem State.Steady.strapCheck {q : Bool} {s t : State} (h : s.Steady q t) : s.Steady q t.strapCheck.2 := by
  unfold State.strapCheck
  extract_lets bad _ s1 _ s2 s3 s4
  have h1 : s.Steady q s1 := h.same (by dsimp only [s1, State.guarded])
  have h2 : s.Steady q s2 := h.same (by dsimp only [s2, s1, State.guarded])
  have h3 : s.Steady q s3 := .ite h2.discard.holdVeto h2.discard
  clear_value s1 s2 s3
  have h4 : s.Steady q s4 := h3.beginFault.releaseAll
  clear_value s4
  split
  · exact h1
  · dsimp only
    split
    · next hr => exact h4.failBringUp (h.unfailed (State.unfailed_of_runs hr))
    · exact h4

theorem State.Steady.missedTick {q : Bool} {s t : State} (h : s.Steady q t) : s.Steady q t.missedTick.2 := by
  unfold State.missedTick
  have h1 : s.Steady q (t.bump 7) := h.bump
  generalize t.bump 7 = s1 at h1
  dsimp only
  split
  · exact h
  split
  · exact h.same
  split
  · exact h1
  · exact h1.same

theorem State.Steady.rows34 {q : Bool} {s t : State} (h : s.Steady q t) {skip : Bool} : s.Steady q (t.rows34 skip) := by
  unfold State.rows34
  extract_lets back apply
  exact h.same

theorem State.Steady.rowDefaults {q : Bool} {s t : State} (h : s.Steady q t) : s.Steady q t.rowDefaults := by
  unfold State.rowDefaults
  extract_lets d
  split
  · next hd =>
    simp only [Bool.and_eq_true] at hd
    exact h.takeEffectDue fun _ => hd.1.1.1
  · exact h

theorem State.Steady.row5 {q : Bool} {s t : State} (h : s.Steady q t) : s.Steady q t.row5 := by
  unfold State.row5
  extract_lets d n
  exact .ite (h.same) (h.same)

theorem State.Steady.row6 {q : Bool} {s t : State} (h : s.Steady q t) : s.Steady q t.row6 := by
  unfold State.row6
  extract_lets d
  split
  · exact .ite (h.same) (h.same)
  · exact h.same

theorem State.Steady.row7 {q : Bool} {s t : State} (h : s.Steady q t) : s.Steady q t.row7 := by
  unfold State.row7
  extract_lets s1 l s2 s3
  have h1 : s.Steady q s1 := h.foldl fun _ _ hu => .ite hu.countUp hu
  clear_value s1
  have h3 : s.Steady q s3 := h1.same (by simp [State.guarded, l, s2, s3])
  exact h3.ledgerNext

theorem State.Steady.row8 {q : Bool} {s t : State} (h : s.Steady q t) : s.Steady q t.row8 := by
  unfold State.row8
  exact h.same

theorem State.Steady.row9 {q : Bool} {s t : State} (h : s.Steady q t) : s.Steady q t.row9 := by
  unfold State.row9
  extract_lets t' status ledger
  exact h.same

theorem State.Steady.srBoundary {q : Bool} {s t : State} (h : s.Steady q t) : s.Steady q t.srBoundary := by
  unfold State.srBoundary
  extract_lets m quiet m1
  refine h.sameMem ?_
  dsimp only [m1]
  split
  · split <;> rfl
  · split <;> rfl
  all_goals rfl

theorem State.Steady.memBoundary {q : Bool} {s t : State} (h : s.Steady q t) {hotRank : Vector Bool 2} : s.Steady q (t.memBoundary hotRank) := by
  unfold State.memBoundary
  extract_lets m hot
  exact h.same

theorem State.Steady.portBoundary {q : Bool} {s t : State} (h : s.Steady q t) : s.Steady q t.portBoundary := by
  unfold State.portBoundary
  extract_lets s2 quarantined
  have h2 : s.Steady q s2 := .ite h.sendPause h
  clear_value s2
  exact .ite (State.Steady.foldl (h2.same) fun _ _ hu => hu.wantContent) h2.same

theorem State.Steady.takeRest {q : Bool} {s t : State} (h : s.Steady q t) : s.Steady q t.takeRest := by
  unfold State.takeRest
  extract_lets txn _ s1
  have h1 : s.Steady q s1 := h.same (by simp [txn, s1, State.guarded, Pins.showMarkers])
  clear_value s1
  split
  · exact h1.row8.row9.portBoundary.closeNine
  · have h2 : s.Steady q (if s1.isRoot && (s1.rootJoins || s1.coreLive) then s1.rootBoundary else s1) := .ite h1.rootBoundary h1
    exact h2.probtripBoundary.row7.row8.row9.srBoundary.portBoundary.closeNine

theorem State.Steady.closeBoundary {q : Bool} {s t : State} (h : s.Steady q t) : s.Steady q t.closeBoundary := by
  unfold State.closeBoundary
  exact .ite (h.takeRest) (h)

theorem State.Steady.settleRows {q : Bool} {s t : State} (h : s.Steady q t) {strapFailed : Bool} :
    s.Steady q (t.settleRows strapFailed) := by
  unfold State.settleRows
  have h2 : s.Steady q t.missedTick.2 := h.missedTick
  generalize t.missedTick = r at h2
  exact State.Steady.closeBoundary (State.Steady.same h2.rows34.rowDefaults.row5.row6.chainBoundary)

theorem State.Steady.execIsland {s t : State} (h : s.Steady false t) : s.SteadyTo (Machine.execIsland t) := by
  unfold Machine.execIsland
  split
  · exact h.takeIsland.closeBoundary.next
  · exact h.next

theorem State.Steady.execRollbackApply {s t : State} (h : s.Steady false t) : s.SteadyTo (Machine.execRollbackApply t) := by
  unfold Machine.execRollbackApply
  split
  · exact h.takeRollback.closeBoundary.next
  · exact h.next

theorem State.Steady.execTxnTimeout {s t : State} (h : s.Steady false t) : s.SteadyTo (Machine.execTxnTimeout t) := by
  unfold Machine.execTxnTimeout
  split
  · exact h.timeOutTxn.closeBoundary.next
  · exact h.next

theorem State.Steady.execProbationEnd {s t : State} (h : s.Steady false t) : s.SteadyTo (Machine.execProbationEnd t) := by
  unfold Machine.execProbationEnd
  split
  · exact h.endProbation.closeBoundary.next
  · exact h.next

end Sys2Proof.Machine
end

section
/-! PROOFS. The ledger's flash operations keep the counts covered. -/

namespace Sys2Proof.Machine

/-! ## The ledger's flash -/

/-- The tally counts at most `n` exactly when every bit from `n` on is still erased. -/
theorem tallyCount_le_iff (t : BitVec 1024) (n : Nat) :
    tallyCount t ≤ n ↔ ∀ j, n ≤ j → j < 1024 → t.getLsbD j = true := by
  unfold tallyCount
  have hsorted : ((List.range 1024).filter fun j => !t.getLsbD j).Pairwise (· < ·) :=
    List.pairwise_lt_range.filter _
  have hmem : ∀ j, j ∈ ((List.range 1024).filter fun j => !t.getLsbD j) ↔ j < 1024 ∧ t.getLsbD j = false := fun j => by
    simp
  generalize ((List.range 1024).filter fun j => !t.getLsbD j) = l at hsorted hmem
  rcases List.eq_nil_or_concat l with rfl | ⟨l, m, rfl⟩
  · have hall : ∀ j, j < 1024 → t.getLsbD j = true := fun j hj => by
      simpa [hj] using hmem j
    have ht : t = BitVec.allOnes 1024 := BitVec.eq_of_getLsbD_eq fun j hj => by
      rw [hall j hj, BitVec.getLsbD_allOnes, decide_eq_true hj]
    rw [List.getLastD_nil, if_pos ht]
    exact ⟨fun _ j _ hj => hall j hj, fun _ => Nat.zero_le n⟩
  · obtain ⟨hm, hbit⟩ := (hmem m).mp (by simp)
    have ht : t ≠ BitVec.allOnes 1024 := fun e => by
      rw [e, BitVec.getLsbD_allOnes, decide_eq_true hm] at hbit
      cases hbit
    have hle : ∀ j, j < 1024 → t.getLsbD j = false → j ≤ m := fun j hj hb => by
      have hjl := (hmem j).mpr ⟨hj, hb⟩
      rw [List.concat_eq_append, List.mem_append, List.mem_singleton] at hjl
      rw [List.concat_eq_append, List.pairwise_append] at hsorted
      rcases hjl with hjl | rfl
      · exact (hsorted.2.2 j hjl m (List.mem_singleton_self m)).le
      · exact le_rfl
    rw [List.concat_eq_append, List.getLastD_concat, if_neg ht]
    constructor
    · intro hmn j hnj hj
      by_contra hb
      have := hle j hj (by simpa using hb)
      omega
    · intro hall
      by_contra hn
      rw [hall m (by omega) hm] at hbit
      cases hbit

/-- Bits that are programmed never lower a tally. -/
theorem tallyCount_and (t m : BitVec 1024) : tallyCount t ≤ tallyCount (t &&& m) := by
  refine (tallyCount_le_iff t _).mpr fun j hj hlt => ?_
  have h := (tallyCount_le_iff (t &&& m) _).mp le_rfl j hj hlt
  rw [BitVec.getLsbD_and, Bool.and_eq_true] at h
  exact h.1

theorem Counter.value_le_tally (c : Counter) (m : BitVec 1024) :
    c.value ≤ ({ c with tally := c.tally &&& m } : Counter).value := by
  unfold Counter.value
  have := Nat.mul_le_mul_right (2 ^ c.grain.toNat) (tallyCount_and c.tally m)
  dsimp only
  omega

/-- No count stands past its value. -/
def Ledger.Covered (l : Ledger) : Prop := ∀ i : Fin 128, l.count[i] ≤ l.value i

/-- The marker that a compaction programs last makes a region live that covers the counts. -/
def Ledger.MarkerCovers (l : Ledger) : Prop :=
  l.op = some (.again l.other) → ∀ i : Fin 128, l.count[i] ≤ ((l.region[l.other]).counters[i]).value

theorem Ledger.other_ne (l : Ledger) : l.other ≠ l.live := by
  unfold Ledger.other
  split
  · next h => rw [h]; decide
  · next h => exact Ne.symm h

theorem Ledger.eq_other {l : Ledger} {r : Fin 2} (h : r ≠ l.live) : r = l.other := by
  unfold Ledger.other
  split <;> omega

theorem regionSet_get (v : Vector Region 2) (k j : Fin 2) (r : Region) : (v.set k r)[j] = if k = j then r else v[j] := by
  simp only [Fin.getElem_fin, Vector.getElem_set, Fin.ext_iff]

/-- What changes the other region alone keeps the counts covered. -/
theorem Ledger.Covered.setOther {l l' : Ledger} (h : l.Covered) (hc : l'.count = l.count) (hl : l'.live = l.live)
    (hr : ∃ r, l'.region = l.region.set l.other r) : l'.Covered := by
  obtain ⟨r, hr⟩ := hr
  intro i
  have hi := h i
  unfold Ledger.value Ledger.liveRegion at hi ⊢
  simpa only [hc, hl, hr, regionSet_get, if_neg l.other_ne] using hi

/-- What changes no counter's record of the live region keeps the counts covered. -/
theorem Ledger.Covered.ofValue {l l' : Ledger} (h : l.Covered) (hc : l'.count = l.count)
    (hv : ∀ i, l.value i ≤ l'.value i) : l'.Covered := fun i => hc ▸ (h i).trans (hv i)

/-- The flash operation that ends keeps the counts covered. -/
theorem Ledger.Covered.finishOp {l : Ledger} (h : l.Covered) (hm : l.MarkerCovers) (bound : Vector Nat 128) :
    (l.finishOp bound).Covered := by
  unfold Ledger.finishOp
  extract_lets old
  split
  · exact h
  · next i t goal _ =>
    refine h.ofValue rfl fun j => ?_
    unfold Ledger.value Ledger.liveRegion
    rw [regionSet_get, if_pos rfl]
    dsimp only
    simp only [Fin.getElem_fin, Vector.getElem_set]
    split
    · next e =>
      have e : i = j := Fin.ext e
      subst e
      exact Counter.value_le_tally _ _
    · exact le_rfl
  · exact h.setOther rfl rfl ⟨_, rfl⟩
  · exact h.setOther rfl rfl ⟨_, rfl⟩
  · exact h.setOther rfl rfl ⟨_, rfl⟩
  · exact h.setOther rfl rfl ⟨_, rfl⟩
  · next r hop =>
    extract_lets old' l1
    have hv : ∀ (k : Fin 2) (i : Fin 128), ((l1.region[k]).counters[i]) = ((l.region[k]).counters[i]) := fun k i => by
      dsimp only [l1]
      rw [regionSet_get]
      split
      · next e => subst e; rfl
      · rfl
    split
    · refine h.ofValue rfl fun i => ?_
      unfold Ledger.value Ledger.liveRegion
      rw [hv]
    · next hr =>
      have hr := Ledger.eq_other hr
      subst hr
      intro i
      have hi := hm hop i
      unfold Ledger.value Ledger.liveRegion
      dsimp only
      rw [hv]
      exact hi

end Sys2Proof.Machine
end

section
/-! PROOFS. An apply, and what is due at a boundary. -/

namespace Sys2Proof.Machine

/-! ## An apply -/

/-- What a commit's apply makes of one channel; `hold` says that its MODE is HOLD, `seen` that the channel had sight, and `nom` is its
nominal code from then on. -/
structure Channel.Applies (hold seen : Bool) (nom : Code) (c d : Channel) : Prop where
  forGood : d.forGood = c.forGood
  released : c.released = true → d.released = true ∨ (hold = true ∧ c.forGood = false)
  retreated : c.released = false → c.retreated = true → d.retreated = true ∨ seen = true
  lands : c.released = true → d.StandsAt nom

theorem Channel.unfog_standsAt (drops : Bool) (nom : Code) (c : Channel) : (c.unfog drops).StandsAt nom ↔ c.StandsAt nom := by
  unfold Channel.unfog
  split <;> exact Iff.rfl

theorem State.channelTakesEffect_applies (v : State) (hold : Bool) (n : Chan) (drops : Bool) :
    (v.chan[n]).Applies hold (v.txn.seen[n]) (v.chanParams n).nom ((v.channelTakesEffect true hold n (v.chan[n])).unfog drops) where
  forGood := by simp
  released hc := by
    rw [Channel.unfog_released]
    unfold State.channelTakesEffect
    dsimp only
    rw [if_pos hc]
    split
    · next h =>
      simp only [Bool.and_eq_true, State.mayLeaveRelease, Bool.not_eq_true'] at h
      exact .inr ⟨h.1, h.2.1.2⟩
    · left
      simpa using hc
  retreated hc hr := by
    rw [Channel.unfog_retreated]
    unfold State.channelTakesEffect
    dsimp only
    rw [if_neg (hc ▸ Bool.false_ne_true)]
    dsimp only
    rw [hr]
    cases v.txn.seen[n]
    · exact .inl rfl
    · exact .inr rfl
  lands hc := by
    rw [Channel.unfog_standsAt]
    unfold State.channelTakesEffect
    dsimp only
    rw [if_pos hc]
    split
    · exact .inr ⟨rfl, rfl, rfl⟩
    · exact .inl (by simpa using hc)

/-- What an apply leaves of a state. -/
structure State.Applied (s u : State) : Prop where
  due : s.txn.due.apply = true
  pending : u.pending = s.pending
  chan : ∀ n : Chan,
    (s.chan[n]).Applies (modeTaken s.txn.selMode == 0) (s.txn.seen[n]) (u.txn.live.params.chan[n]).nom (u.chan[n])
  defaultsDue : u.txn.defaultsDue = false
  cells : u.mem.cells = s.mem.cells
  stage : u.power.stage = s.power.stage
  cover : s.ledger.Covered → u.ledger.Covered

@[simp] theorem State.endTxn_guarded (s : State) : s.endTxn.guarded = s.guarded := rfl

@[simp] theorem State.setResident_guarded (s : State) : s.setResident.guarded = s.guarded := rfl

@[simp] theorem State.outcome_guarded (s : State) (code : Byte) (obj : Obj) (pin : Byte) (mask : BitVec 64) :
    (s.outcome code obj pin mask).guarded = s.guarded := by
  simp [State.guarded]

/-- Where a shadow waits, the apply makes it live: what is guarded is what its taking effect leaves. -/
theorem State.takeApply_guarded {s : State} {img : Image} (h : s.txn.shadow = some img) :
    s.takeApply.guarded =
      (State.takeEffect { s with txn := { s.txn with due := { s.txn.due with apply := false } } }
        (img.configure s.txn.selMode s.txn.selVar) true).guarded := by
  unfold State.takeApply
  rw [h]
  dsimp only
  rw [State.setResident_guarded, State.endTxn_guarded, State.outcome_guarded]
  rfl

theorem Guarded.covered_put (g : Guarded) (chan : Vector Channel 64) (drive : Bool) :
    (g.put chan drive).covered ↔ g.covered := Iff.rfl

theorem Guarded.covered_withLive (g : Guarded) (cfg : Configuration) : (g.withLive cfg).covered ↔ g.covered := Iff.rfl

theorem State.takeEffect_applies (s : State) (cfg : Configuration) (n : Chan) :
    (s.chan[n]).Applies (cfg.mode == 0) (s.txn.seen[n]) (cfg.params.chan[n]).nom ((s.takeEffect cfg true).chan[n]) := by
  obtain ⟨v, drops, hvc, hvt, ht, hput⟩ := s.takeEffect_guarded cfg true
  have hseen : v.txn.seen = s.txn.seen := by rw [hvt, ht]
  have hchan : (s.takeEffect cfg true).chan =
      mapAll (fun n c => (v.channelTakesEffect true (true && cfg.mode == 0) n c).unfog (drops n)) s.chan :=
    congrArg Guarded.chan hput
  have hnom : (v.chanParams n).nom = (cfg.params.chan[n]).nom := by
    unfold State.chanParams
    rw [hvt, ht]
  rw [hchan, mapAll_get, ← hvc, ← hseen, ← hnom, Bool.true_and]
  exact v.channelTakesEffect_applies _ n _

theorem State.Applied.takeApply {s : State} {img : Image} (hd : s.txn.due.apply = true) (h : s.txn.shadow = some img) :
    s.Applied s.takeApply := by
  have hg := State.takeApply_guarded h
  have hs0 : State.guarded { s with txn := { s.txn with due := { s.txn.due with apply := false } } } = s.guarded := by
    dsimp only [State.guarded]
  have hseen : State.txn { s with txn := { s.txn with due := { s.txn.due with apply := false } } } =
    { s.txn with due := { s.txn.due with apply := false } } := rfl
  generalize { s with txn := { s.txn with due := { s.txn.due with apply := false } } } = s0 at hg hs0 hseen
  obtain ⟨_, _, _, _, _, hput⟩ := s0.takeEffect_guarded (img.configure s.txn.selMode s.txn.selVar) true
  have hchan (n : Chan) : s.takeApply.chan[n] =
      (s0.takeEffect (img.configure s.txn.selMode s.txn.selVar) true).chan[n] :=
    congrArg (fun g : Guarded => g.chan[n]) hg
  rw [hput, hs0] at hg
  have hnom (n : Chan) : (s.takeApply.txn.live.params.chan[n]).nom =
      ((img.configure s.txn.selMode s.txn.selVar).params.chan[n]).nom :=
    congrArg (fun g : Guarded => g.nom n) hg
  refine ⟨hd, congrArg Guarded.pending hg, fun n => ?_, congrArg Guarded.defaultsDue hg, congrArg Guarded.cells hg, congrArg Guarded.stage hg, ?_⟩
  · have happ := s0.takeEffect_applies (img.configure s.txn.selMode s.txn.selVar) n
    have hn : s0.chan[n] = s.chan[n] := congrArg (fun g : Guarded => g.chan[n]) hs0
    rw [hchan, hnom, ← hn]
    rw [hseen] at happ
    exact happ
  · have hl : s.takeApply.guarded.covered ↔ s.guarded.covered := by
      rw [hg, Guarded.covered_put, Guarded.covered_withLive]
    exact hl.mpr

/-- Without a shadow an apply that is due moves nothing. -/
theorem State.Steady.takeApply {s t : State} (h : s.Steady false t) (hs : t.txn.shadow = none) : s.Steady false t.takeApply := by
  unfold State.takeApply
  rw [hs]
  exact h.same

theorem State.endTxn_shadow (s : State) : s.endTxn.txn.shadow = none := rfl

theorem State.takeIsland_shadow (s : State) : s.takeIsland.txn.shadow = none := by
  simp [State.takeIsland, State.takeEffect_txn, State.endTxn_shadow]

theorem State.toPowerUp_shadow (s : State) : s.toPowerUp.txn.shadow = s.txn.shadow := by
  simp [State.toPowerUp, State.takeEffect_txn, State.releaseAll]

theorem State.takeRollback_shadow (s : State) : s.takeRollback.txn.shadow = none := by
  unfold State.takeRollback
  rw [State.outcome_txn]
  dsimp only
  split
  · rw [State.takeEffect_txn]
    rfl
  · rw [State.toPowerUp_shadow]
    rfl

/-- A later state that keeps what is guarded, or that an apply came before. -/
def State.SettlesTo (s t : State) : Prop := s.Steady false t ∨ ∃ u, s.Applied u ∧ u.Steady true t

theorem State.SettlesTo.trans {s t u : State} (h : s.SettlesTo t) (h' : t.Steady true u) : s.SettlesTo u :=
  h.imp (·.trans h'.loud) fun ⟨v, hv, ht⟩ => ⟨v, hv, ht.trans h'⟩

/-- What is due is settled with an apply, or steadily. -/
theorem State.settlesTo_settleDue (s : State) : s.SettlesTo s.settleDue := by
  unfold State.settleDue
  extract_lets s1 s2 s3 s4 s5 s6
  have h2 : s.Steady false s2 ∧ (s2.txn.shadow = none ∨ s2 = s) := by
    dsimp only [s2, s1]
    split
    · have h1 : s.Steady false s.takeIsland := (State.Steady.refl s).takeIsland
      split
      · exact ⟨h1.takeRollback, .inl (State.takeRollback_shadow _)⟩
      · exact ⟨h1, .inl s.takeIsland_shadow⟩
    · split
      · exact ⟨(State.Steady.refl s).takeRollback, .inl s.takeRollback_shadow⟩
      · exact ⟨.refl s, .inr rfl⟩
  clear_value s2
  have h3 : s.SettlesTo s3 := by
    dsimp only [s3]
    obtain ⟨hst, hs2⟩ := h2
    split
    · next hdue =>
      cases hsh : s2.txn.shadow with
      | none => exact .inl (hst.takeApply hsh)
      | some img =>
        rcases hs2 with hs2 | rfl
        · rw [hsh] at hs2
          cases hs2
        · exact .inr ⟨_, .takeApply hdue hsh, .refl _⟩
    · exact .inl hst
  clear_value s3
  have h6 : s3.Steady true s6 := State.Steady.closeBoundary (.ite (State.Steady.endProbation (.ite (.timeOutTxn (.refl _)) (.refl _)))
    (.ite (.timeOutTxn (.refl _)) (.refl _)))
  clear_value s4 s5 s6
  exact h3.trans (.ite h6.takeCalibration.closeNine h6)

end Sys2Proof.Machine
end

section
/-! PROOFS. The ledger's commands. -/

namespace Sys2Proof.Machine

/-! ## What each command keeps -/

/-- What a command that is neither a reset nor an apply keeps. A ledger operation that ends keeps the counts covered where the region
that it makes live covers them. -/
structure State.Kept (s t : State) : Prop where
  pending : t.pending = s.pending
  chan : ∀ n : Chan, (s.chan[n]).Keeps false (t.chan[n])
  cells : Memory.wf s.mem.cells = true → Memory.wf t.mem.cells = true
  stage : ∀ cause, s.power.stage = .failed cause → t.power.stage = .failed cause
  drive : s.pins.rtrDrive = true → t.pins.rtrDrive = true
  cover : s.ledger.MarkerCovers → s.ledger.Covered → t.ledger.Covered

theorem State.Steady.kept {s t : State} (h : s.Steady false t) : s.Kept t :=
  ⟨h.pending, h.chan, h.cells, h.stage, h.drive, fun _ => h.cover⟩

theorem State.Steady.thenKept {s t u : State} (h : s.Steady false t) (h' : t.Kept u)
    (hm : s.ledger.MarkerCovers → t.ledger.MarkerCovers) : s.Kept u where
  pending := h'.pending.trans h.pending
  chan n := (h.chan n).trans (h'.chan n)
  cells := h'.cells ∘ h.cells
  stage cause := h'.stage cause ∘ h.stage cause
  drive := h'.drive ∘ h.drive
  cover hs hc := h'.cover (hm hs) (h.cover hc)

/-- Another ledger changes nothing else that is guarded. -/
theorem State.Kept.ofLedger {s t : State} {l : Ledger} (h : State.Steady false { s with ledger := l } t)
    (hl : s.ledger.MarkerCovers → s.ledger.Covered → l.Covered) : s.Kept t :=
  ⟨h.pending, h.chan, h.cells, h.stage, h.drive, fun hm hc => h.cover (hl hm hc)⟩

/-- The counts and the live region's records are all that the cover looks at. -/
theorem Ledger.Covered.congr {l l' : Ledger} (h : l.Covered) (hc : l'.count = l.count) (hr : l'.region = l.region)
    (hl : l'.live = l.live) : l'.Covered :=
  h.ofValue hc fun i => by
    unfold Ledger.value Ledger.liveRegion
    simp only [hr, hl, le_refl]

theorem Ledger.MarkerCovers.congr {l l' : Ledger} (h : l.MarkerCovers) (ho : l'.op = l.op) (hc : l'.count = l.count)
    (hr : l'.region = l.region) (hl : l'.live = l.live) : l'.MarkerCovers := by
  rcases l' with ⟨⟩
  dsimp only at ho hc hr hl
  subst ho hc hr hl
  exact h

theorem Ledger.Covered.judgeHolds {l : Ledger} (h : l.Covered) : l.judgeHolds.Covered := by
  unfold Ledger.judgeHolds
  exact h.congr (by dsimp only) (by dsimp only) (by dsimp only)

/-- The operation that has ended leaves its result in the flash, and the ledger goes on steadily from there. -/
theorem State.steady_ledgerDone (s : State) :
    State.Steady false { s with ledger := (s.ledger.finishOp s.wideBounds).judgeHolds } s.ledgerDone := by
  unfold State.ledgerDone
  extract_lets compacted s1 s2
  have h2 : s1.Steady false s2 := .ite (.freezeLedger (.refl s1)) (.refl s1)
  exact h2.ledgerNext

theorem State.Kept.ledgerDone (s : State) : s.Kept s.ledgerDone :=
  .ofLedger (l := (s.ledger.finishOp s.wideBounds).judgeHolds) s.steady_ledgerDone fun hm hc => (hc.finishOp hm _).judgeHolds

theorem State.Kept.execLedgerProgramDone {s t : State} (h : execLedgerProgramDone s = .next t) : s.Kept t := by
  unfold Machine.execLedgerProgramDone at h
  split at h
  · cases h
    exact .ledgerDone s
  · cases h
    exact (State.Steady.refl s).kept

theorem State.Kept.execLedgerEraseDone {s t : State} (h : execLedgerEraseDone s = .next t) : s.Kept t := by
  unfold Machine.execLedgerEraseDone at h
  split at h
  · cases h
    exact .ledgerDone s
  · cases h
    exact (State.Steady.refl s).kept

theorem State.Kept.execLedgerRetry {ok : Bool} {s t : State} (h : execLedgerRetry ok s = .next t) : s.Kept t := by
  unfold Machine.execLedgerRetry at h
  split at h
  · extract_lets _ s1 at h
    have h1 : s.Steady false s1 := (State.Steady.refl s).same
    have hl : s1.ledger = { s.ledger with retryTicks := 0 } := rfl
    clear_value s1
    split at h
    · cases h
      have hk : s.Steady false (s1.clearFault 27) := h1.clearFault
      have hkl : (s1.clearFault 27).ledger = { s.ledger with retryTicks := 0 } := (State.clearFault_ledger s1 27).trans hl
      exact hk.thenKept (.ledgerDone _) fun hm => by
        rw [hkl]
        exact hm.congr rfl rfl rfl rfl
    · cases h
      exact h1.kept
  · cases h
    exact (State.Steady.refl s).kept

end Sys2Proof.Machine
end

section
/-! PROOFS. The resets, and every command. -/

namespace Sys2Proof.Machine

/-! ## The resets -/

/-- What a reset leaves: every output released, the memory's bytes, the queue, and counts of zero. -/
structure State.Wiped (s t : State) : Prop where
  pending : t.pending = s.pending
  released : t.allReleased
  cells : Memory.wf s.mem.cells = true → Memory.wf t.mem.cells = true
  cover : t.ledger.Covered

theorem Ledger.covered_initial (region : Vector Region 2) : ({ Ledger.initial with region := region } : Ledger).Covered :=
  fun i => by simp [Ledger.initial]

theorem State.reset_allReleased : State.reset.allReleased := fun n => by
  have hn : State.reset.chan[n] = Channel.initial := by simp [State.reset]
  rw [hn]
  rfl

theorem State.powerReset_allReleased (s : State) : s.powerReset.allReleased := State.reset_allReleased

theorem State.Wiped.powerReset (s : State) : s.Wiped s.powerReset :=
  ⟨rfl, s.powerReset_allReleased, id, Ledger.covered_initial _⟩

theorem State.Wiped.coreReset (s : State) : s.Wiped s.coreReset :=
  ⟨rfl, s.coreReset_allReleased, id, Ledger.covered_initial _⟩

/-- A reset wipes the same from any earlier state that it steadily follows. -/
theorem State.Wiped.of_steady {s t u : State} (h : s.Steady false t) (h' : t.Wiped u) : s.Wiped u :=
  ⟨h'.pending.trans h.pending, h'.released, h'.cells ∘ h.cells, h'.cover⟩

/-- What a reset leaves apart from the stage, the supplies' states and the pins stands with them. -/
theorem State.Wiped.same {s t u : State} (h : s.Wiped t) (hp : u.pending = t.pending) (hc : u.chan = t.chan)
    (hm : u.mem = t.mem) (hl : u.ledger = t.ledger) : s.Wiped u :=
  ⟨hp.trans h.pending, fun n => by rw [hc]; exact h.released n, hm ▸ h.cells, hl ▸ h.cover⟩

/-- What a command can make of a state, as far as what is guarded goes: it keeps it, a reset wipes it, or an apply that was due
changes the channels. -/
inductive State.CommandsTo (c : Instr) (s t : State) : Prop where
  | kept (h : s.Kept t)
  | powerLost (h : s.Wiped t) (hstage : t.power.stage = .reset)
  | powerOn (h : s.Wiped t) (hc : c = .powerOnReset) (hstage : s.power.stage = .reset)
  | pinReset (h : s.Wiped t) (hc : ∃ ns, c = .rstNLow ns) (hstage : t.power.stage = .rstLow)
      (hchan : ∀ n : Chan, (s.chan[n]).Keeps false (t.chan[n]))
  | applied (u : State) (hc : c = .commitApply ∨ ∃ obs, c = .tickBoundary obs) (h : s.Applied u) (hu : u.Steady true t)

theorem State.CommandsTo.steady {c : Instr} {s t : State} (h : s.Steady false t) : s.CommandsTo c t := .kept h.kept

theorem State.CommandsTo.ofSettles {c : Instr} {s t : State} (hc : c = .commitApply ∨ ∃ obs, c = .tickBoundary obs)
    (h : s.SettlesTo t) : s.CommandsTo c t := by
  rcases h with h | ⟨u, hu, ht⟩
  · exact .steady h
  · exact .applied u hc hu ht

theorem execPowerOnReset_cases {s t : State} (h : exec .powerOnReset s = .next t) : s.CommandsTo .powerOnReset t := by
  change execPowerOnReset s = .next t at h
  unfold execPowerOnReset at h
  split at h
  · next hs =>
    cases h
    exact .powerOn ((State.Wiped.powerReset s).same rfl rfl rfl rfl) rfl hs
  · cases h
    exact .steady (.refl s)

theorem State.Wiped.loseAon {s t : State} (h : s.Steady false t) (d : Domain) : s.Wiped (t.loseAon d) :=
  .of_steady (h.setGood) ((State.Wiped.powerReset (t.setGood d false)).same rfl rfl rfl rfl)

theorem execAonBrownOut_cases {w : AonSupply} {ns : Nat} {s t : State} (h : exec (.aonBrownOut w ns) s = .next t) :
    s.CommandsTo (.aonBrownOut w ns) t := by
  change execAonBrownOut w ns s = .next t at h
  unfold execAonBrownOut at h
  have h1 : s.Steady false (s.dipActs ns).2 := (State.Steady.refl s).dipActs
  generalize s.dipActs ns = r at h h1
  obtain ⟨acts, s1⟩ := r
  dsimp only at h
  split at h
  · cases h
    exact .powerLost (.loseAon h1 _) rfl
  · cases h
    exact .steady h1

theorem execSupplyBrownOut_cases {d : Domain} {ns : Nat} {s t : State} (h : exec (.supplyBrownOut d ns) s = .next t) :
    s.CommandsTo (.supplyBrownOut d ns) t := by
  cases hd : d.hasOwnRow with
  | false => exact .steady ((State.Steady.refl s).execSupplyBrownOut hd t h)
  | true =>
    change execSupplyBrownOut d ns s = .next t at h
    unfold execSupplyBrownOut at h
    have h1 : s.Steady false (s.dipActs ns).2 := (State.Steady.refl s).dipActs
    generalize s.dipActs ns = r at h h1
    obtain ⟨acts, s1⟩ := r
    dsimp only at h
    split at h
    · cases h
      exact .steady h1
    · cases d <;> cases hd
      all_goals
        cases h
        exact .powerLost (.loseAon h1 _) rfl

theorem execRstNLow_cases {ns : Nat} {s t : State} (h : exec (.rstNLow ns) s = .next t) : s.CommandsTo (.rstNLow ns) t := by
  change execRstNLow ns s = .next t at h
  unfold execRstNLow at h
  have h1 : s.Steady false (s.resetActs ns).2 := (State.Steady.refl s).resetActs
  generalize s.resetActs ns = r at h h1
  obtain ⟨acts, s1⟩ := r
  dsimp only at h
  split at h
  · cases h
    have hw := State.Wiped.coreReset s1
    have hchan : ∀ n : Chan, (s1.chan[n]).Keeps false (s1.coreReset.chan[n]) := fun n => by
      have hn : s1.coreReset.chan[n] = (s1.chan[n]).reset := mapAll_get _ _ _
      rw [hn]
      exact Channel.reset_keeps _
    generalize s1.coreReset = v at hw hchan ⊢
    exact .pinReset (.of_steady h1 (hw.same rfl rfl rfl rfl)) ⟨ns, rfl⟩ rfl fun n => (h1.chan n).trans (hchan n)
  · cases h
    exact .steady h1

/-! ## Where an apply is taken -/

theorem State.settlesTo_takeApply {s : State} (hd : s.txn.due.apply = true) : s.SettlesTo s.takeApply := by
  cases hsh : s.txn.shadow with
  | none => exact .inl ((State.Steady.refl s).takeApply hsh)
  | some img => exact .inr ⟨_, .takeApply hd hsh, .refl _⟩

theorem settlesTo_execCommitApply {s t : State} (h : exec .commitApply s = .next t) : s.SettlesTo t := by
  change execCommitApply s = .next t at h
  unfold execCommitApply at h
  split at h
  · next hd =>
    cases h
    have hd : s.txn.due.apply = true := ((Bool.and_eq_true _ _).mp hd).1
    exact (State.settlesTo_takeApply hd).trans (State.Steady.refl _).closeBoundary
  · cases h
    exact .inl (.refl s)

/-- The rows of the boundary that follow what was due move nothing that is guarded but steadily. -/
theorem settlesTo_execTickBoundary {obs : TickObs} {s t : State} (h : exec (.tickBoundary obs) s = .next t) :
    s.SettlesTo t := by
  change execTickBoundary obs s = .next t at h
  unfold execTickBoundary at h
  split at h
  · cases h
    exact .inl (.refl s)
  · extract_lets s0 at h
    have h0 : s.SettlesTo s0 := s.settlesTo_settleDue.trans (State.Steady.refl _).toBoundary.measureRefin
    clear_value s0
    have h1 : s0.Steady true s0.strapCheck.2 := (State.Steady.refl s0).strapCheck
    generalize s0.strapCheck = r at h h1
    obtain ⟨failed, s1⟩ := r
    dsimp only at h h1
    split at h
    · cases h
      exact h0
    · split at h
      · cases h
        exact h0.trans h1
      · cases h
        exact h0.trans h1.memBoundary.settleRows

theorem State.settlesTo_idleStep (s : State) : s.SettlesTo s.idleStep :=
  s.settlesTo_settleDue.trans (State.Steady.refl _).idleFrame

/-! ## Every command -/

/-- What each command does to what is guarded. -/
theorem exec_commandsTo {c : Instr} {s t : State} (h : exec c s = .next t) : s.CommandsTo c t := by
  cases c with
  | powerOnReset => exact execPowerOnReset_cases h
  | aonBrownOut => exact execAonBrownOut_cases h
  | supplyBrownOut => exact execSupplyBrownOut_cases h
  | supplyGood => exact .steady ((State.Steady.refl s).execSupplyGood t h)
  | rstNLow => exact execRstNLow_cases h
  | rstNRise => exact .steady ((State.Steady.refl s).execRstNRise t h)
  | strapStageEnd => exact .steady ((State.Steady.refl s).execStrapStageEnd t h)
  | supplyStageEnd => exact .steady ((State.Steady.refl s).execSupplyStageEnd t h)
  | supplyStageTimeout => exact .steady ((State.Steady.refl s).execSupplyStageTimeout t h)
  | referenceValid => exact .steady ((State.Steady.refl s).execReferenceValid t h)
  | referenceWaitTimeout => exact .steady ((State.Steady.refl s).execReferenceWaitTimeout t h)
  | referenceLost => exact .steady ((State.Steady.refl s).execReferenceLost t h)
  | pllLock => exact .steady ((State.Steady.refl s).execPllLock t h)
  | pllLockTimeout => exact .steady ((State.Steady.refl s).execPllLockTimeout t h)
  | pllLockLost => exact .steady ((State.Steady.refl s).execPllLockLost t h)
  | coreStageEnd => exact .steady ((State.Steady.refl s).execCoreStageEnd t h)
  | sfdpDiscoveryDone => exact .steady ((State.Steady.refl s).execSfdpDiscoveryDone t h)
  | flashTimeout => exact .steady ((State.Steady.refl s).execFlashTimeout t h)
  | ledgerSelected => exact .steady ((State.Steady.refl s).execLedgerSelected t h)
  | dramTrainingDone => exact .steady ((State.Steady.refl s).execDramTrainingDone t h)
  | dramStageTimeout => exact .steady ((State.Steady.refl s).execDramStageTimeout t h)
  | imageWaitTimeout => exact .steady ((State.Steady.refl s).execImageWaitTimeout t h)
  | sealVerifyDone => exact .steady ((State.Steady.refl s).execSealVerifyDone t h)
  | joinWaitTimeout => exact .steady ((State.Steady.refl s).execJoinWaitTimeout t h)
  | rootEnumeration => exact .steady ((State.Steady.refl s).execRootEnumeration t h)
  | enumcntUpdate => exact .steady ((State.Steady.refl s).execEnumcntUpdate t h)
  | trimWaitTimeout => exact .steady ((State.Steady.refl s).execTrimWaitTimeout t h)
  | txb => exact .steady ((State.Steady.refl s).execTxb t h)
  | txc => exact .steady ((State.Steady.refl s).execTxc t h)
  | txa _ others => exact .steady ((State.Steady.refl s).execTxa (_others := others) t h)
  | txStuckPin => exact .steady ((State.Steady.refl s).execTxStuckPin t h)
  | txStuckPinClear => exact .steady ((State.Steady.refl s).execTxStuckPinClear t h)
  | modeInvalid => exact .steady ((State.Steady.refl s).execModeInvalid t h)
  | modeValidClear => exact .steady ((State.Steady.refl s).execModeValidClear t h)
  | evDebounced => exact .steady ((State.Steady.refl s).execEvDebounced t h)
  | systemEvent => exact .steady ((State.Steady.refl s).execSystemEvent t h)
  | rtrNLow => exact .steady ((State.Steady.refl s).execRtrNLow t h)
  | validationDone => exact .steady ((State.Steady.refl s).execValidationDone t h)
  | tickBoundary obs => exact .ofSettles (.inr ⟨obs, rfl⟩) (settlesTo_execTickBoundary h)
  | commitApply => exact .ofSettles (.inl rfl) (settlesTo_execCommitApply h)
  | rollbackApply => exact .steady ((State.Steady.refl s).execRollbackApply t h)
  | probationEnd => exact .steady ((State.Steady.refl s).execProbationEnd t h)
  | txnTimeout => exact .steady ((State.Steady.refl s).execTxnTimeout t h)
  | island => exact .steady ((State.Steady.refl s).execIsland t h)
  | islandRejoin => exact .steady ((State.Steady.refl s).execIslandRejoin t h)
  | alignmentFault => exact .steady ((State.Steady.refl s).execAlignmentFault t h)
  | syncNone => exact .steady ((State.Steady.refl s).execSyncNone t h)
  | syncOpen => exact .steady ((State.Steady.refl s).execSyncOpen t h)
  | syncPrepare => exact .steady ((State.Steady.refl s).execSyncPrepare t h)
  | syncCommit => exact .steady ((State.Steady.refl s).execSyncCommit t h)
  | syncAbort => exact .steady ((State.Steady.refl s).execSyncAbort t h)
  | syncRollback => exact .steady ((State.Steady.refl s).execSyncRollback t h)
  | syncReservedCommand => exact .steady ((State.Steady.refl s).execSyncReservedCommand t h)
  | returnFrame => exact .steady ((State.Steady.refl s).execReturnFrame t h)
  | returnSend => exact .steady ((State.Steady.refl s).execReturnSend t h)
  | urgentRetreat => exact .steady ((State.Steady.refl s).execUrgentRetreat t h)
  | urgentRepeat => exact .steady ((State.Steady.refl s).execUrgentRepeat t h)
  | measureSend => exact .steady ((State.Steady.refl s).execMeasureSend t h)
  | measureRequest => exact .steady ((State.Steady.refl s).execMeasureRequest t h)
  | measureEcho => exact .steady ((State.Steady.refl s).execMeasureEcho t h)
  | causewayHandover => exact .steady ((State.Steady.refl s).execCausewayHandover t h)
  | monitorScan => exact .steady ((State.Steady.refl s).execMonitorScan t h)
  | guardTrip => exact .steady ((State.Steady.refl s).execGuardTrip t h)
  | guardRearm => exact .steady ((State.Steady.refl s).execGuardRearm t h)
  | detectorClose => exact .steady ((State.Steady.refl s).execDetectorClose t h)
  | detectorTimeout => exact .steady ((State.Steady.refl s).execDetectorTimeout t h)
  | engineSlot => exact .steady ((State.Steady.refl s).execEngineSlot t h)
  | rangeSwitchForced => exact .steady ((State.Steady.refl s).execRangeSwitchForced t h)
  | play => exact .steady ((State.Steady.refl s).execPlay t h)
  | tone => exact .steady ((State.Steady.refl s).execTone t h)
  | chirp => exact .steady ((State.Steady.refl s).execChirp t h)
  | ramp => exact .steady ((State.Steady.refl s).execRamp t h)
  | noise => exact .steady ((State.Steady.refl s).execNoise t h)
  | level => exact .steady ((State.Steady.refl s).execLevel t h)
  | wait => exact .steady ((State.Steady.refl s).execWait t h)
  | waitTimeout => exact .steady ((State.Steady.refl s).execWaitTimeout t h)
  | loop => exact .steady ((State.Steady.refl s).execLoop t h)
  | next => exact .steady ((State.Steady.refl s).execNext t h)
  | jump => exact .steady ((State.Steady.refl s).execJump t h)
  | endStep => exact .steady ((State.Steady.refl s).execEndStep t h)
  | eventJump => exact .steady ((State.Steady.refl s).execEventJump t h)
  | mkPulseEnd => exact .steady ((State.Steady.refl s).execMkPulseEnd t h)
  | playerStop => exact .steady ((State.Steady.refl s).execPlayerStop t h)
  | lineReadDone => exact .steady ((State.Steady.refl s).execLineReadDone t h)
  | scrubRead => exact .steady ((State.Steady.refl s).execScrubRead t h)
  | probeStart => exact .steady ((State.Steady.refl s).execProbeStart t h)
  | probeDone => exact .steady ((State.Steady.refl s).execProbeDone t h)
  | ddrAlertFault => exact .steady ((State.Steady.refl s).execDdrAlertFault t h)
  | mergeFlush => exact .steady ((State.Steady.refl s).execMergeFlush t h)
  | refreshDue => exact .steady ((State.Steady.refl s).execRefreshDue t h)
  | selfRefreshDrain => exact .steady ((State.Steady.refl s).execSelfRefreshDrain t h)
  | selfRefreshEntry => exact .steady ((State.Steady.refl s).execSelfRefreshEntry t h)
  | selfRefreshExit => exact .steady ((State.Steady.refl s).execSelfRefreshExit t h)
  | selfRefreshExitDone => exact .steady ((State.Steady.refl s).execSelfRefreshExitDone t h)
  | segmentLoadTimeout => exact .steady ((State.Steady.refl s).execSegmentLoadTimeout t h)
  | ledgerProgramDone => exact .kept (State.Kept.execLedgerProgramDone h)
  | ledgerEraseDone => exact .kept (State.Kept.execLedgerEraseDone h)
  | ledgerRetry => exact .kept (State.Kept.execLedgerRetry h)
  | calibrationStart => exact .steady ((State.Steady.refl s).execCalibrationStart t h)
  | calibrationDone => exact .steady ((State.Steady.refl s).execCalibrationDone t h)
  | monitorTrimDone => exact .steady ((State.Steady.refl s).execMonitorTrimDone t h)
  | thermalReading => exact .steady ((State.Steady.refl s).execThermalReading t h)
  | strapWindow => exact .steady ((State.Steady.refl s).execStrapWindow t h)
  | cportRecover => exact .steady ((State.Steady.refl s).execCportRecover t h)
  | linkUp => exact .steady ((State.Steady.refl s).execLinkUp t h)
  | linkDown => exact .steady ((State.Steady.refl s).execLinkDown t h)
  | contentFrame => exact .steady ((State.Steady.refl s).execContentFrame t h)
  | pause => exact .steady ((State.Steady.refl s).execPause t h)
  | partialRecordTimeout => exact .steady ((State.Steady.refl s).execPartialRecordTimeout t h)
  | header => exact .steady ((State.Steady.refl s).execHeader t h)
  | endRecord => exact .steady ((State.Steady.refl s).execEndRecord t h)
  | provision => exact .steady ((State.Steady.refl s).execProvision t h)
  | base => exact .steady ((State.Steady.refl s).execBase t h)
  | overlay => exact .steady ((State.Steady.refl s).execOverlay t h)
  | program => exact .steady ((State.Steady.refl s).execProgram t h)
  | toneTable => exact .steady ((State.Steady.refl s).execToneTable t h)
  | marginTable => exact .steady ((State.Steady.refl s).execMarginTable t h)
  | coefficientSet => exact .steady ((State.Steady.refl s).execCoefficientSet t h)
  | guardTable => exact .steady ((State.Steady.refl s).execGuardTable t h)
  | linkMap => exact .steady ((State.Steady.refl s).execLinkMap t h)
  | capturePlan => exact .steady ((State.Steady.refl s).execCapturePlan t h)
  | budgets => exact .steady ((State.Steady.refl s).execBudgets t h)
  | segmentChunk => exact .steady ((State.Steady.refl s).execSegmentChunk t h)
  | status => exact .steady ((State.Steady.refl s).execStatus t h)
  | capture => exact .steady ((State.Steady.refl s).execCapture t h)
  | detector => exact .steady ((State.Steady.refl s).execDetector t h)
  | event => exact .steady ((State.Steady.refl s).execEvent t h)
  | bog => exact .steady ((State.Steady.refl s).execBog t h)
  | ledger => exact .steady ((State.Steady.refl s).execLedger t h)
  | outcome => exact .steady ((State.Steady.refl s).execOutcome t h)
  | wanted => exact .steady ((State.Steady.refl s).execWanted t h)
  | bypass => exact .steady ((State.Steady.refl s).execBypass t h)
  | idcode => exact .steady ((State.Steady.refl s).execIdcode t h)
  | samplePreload => exact .steady ((State.Steady.refl s).execSamplePreload t h)
  | extest => exact .steady ((State.Steady.refl s).execExtest t h)
  | extestPulse => exact .steady ((State.Steady.refl s).execExtestPulse t h)
  | extestTrain => exact .steady ((State.Steady.refl s).execExtestTrain t h)
  | clamp => exact .steady ((State.Steady.refl s).execClamp t h)
  | highz => exact .steady ((State.Steady.refl s).execHighz t h)
  | portConnected => exact .steady ((State.Steady.refl s).execPortConnected t h)
  | portDisconnected => exact .steady ((State.Steady.refl s).execPortDisconnected t h)
  | pauseTimerExpired => exact .steady ((State.Steady.refl s).execPauseTimerExpired t h)
  | linkFaultReceived => exact .steady ((State.Steady.refl s).execLinkFaultReceived t h)
  | linkFaultCleared => exact .steady ((State.Steady.refl s).execLinkFaultCleared t h)
  | converterCheckDone => exact .steady ((State.Steady.refl s).execConverterCheckDone t h)
  | trstNLow => exact .steady ((State.Steady.refl s).execTrstNLow t h)

end Sys2Proof.Machine
end

section
/-! PROOFS. The statements about every step. -/

namespace Sys2Proof.Machine

/-! ## One step -/

/-- A step runs the command at the front of the queue, or settles what is due and lets a frame pass. -/
theorem step_cases {s t : State} (h : step s = .next t) :
    (s.pending = [] ∧ s.SettlesTo t) ∨
      ∃ c rest, s.pending = c :: rest ∧ State.CommandsTo c { s with pending := rest } t := by
  unfold step at h
  split at h
  · next hp =>
    cases h
    exact .inl ⟨hp, s.settlesTo_idleStep⟩
  · next c rest hp => exact .inr ⟨c, rest, hp, exec_commandsTo h⟩

/-- Of a settled state: what an idle step and a boundary make of it, told as what a command makes of it. -/
theorem State.SettlesTo.elim {p : Prop} {s t : State} (h : s.SettlesTo t) (hk : s.Kept t → p)
    (ha : ∀ u, s.Applied u → u.Steady true t → p) : p := by
  rcases h with h | ⟨u, hu, ht⟩
  · exact hk h.kept
  · exact ha u hu ht

/-! ### The queue -/

theorem State.CommandsTo.pending {c : Instr} {s t : State} (h : s.CommandsTo c t) : t.pending = s.pending := by
  cases h with
  | kept h => exact h.pending
  | powerLost h | powerOn h | pinReset h => exact h.pending
  | applied u _ h hu => exact hu.pending.trans h.pending

/-- Settles O2: what is guarded holds the queue. -/
theorem commandsLeaveTheQueue : Obligations.CommandsLeaveTheQueue := by
  unfold Obligations.CommandsLeaveTheQueue
  exact fun c s t h => (exec_commandsTo h).pending

/-! ### The memory's form -/

theorem State.CommandsTo.cells {c : Instr} {s t : State} (h : s.CommandsTo c t) :
    Memory.wf s.mem.cells = true → Memory.wf t.mem.cells = true := by
  cases h with
  | kept h => exact h.cells
  | powerLost h | powerOn h | pinReset h => exact h.cells
  | applied u _ h hu => exact fun hw => hu.cells (by rw [show u.guarded.cells = s.mem.cells from h.cells]; exact hw)

/-- Settles O5: every write goes through the memory's own laws, which keep the form. -/
theorem stepKeepsMemoryCanonical : Obligations.StepKeepsMemoryCanonical := by
  unfold Obligations.StepKeepsMemoryCanonical
  intro s t hs h
  rcases step_cases h with ⟨-, h⟩ | ⟨c, rest, -, h⟩
  · exact h.elim (fun hk => hk.cells hs) fun u hu ht => ht.cells (by rw [show u.guarded.cells = s.mem.cells from hu.cells]; exact hs)
  · exact h.cells hs

/-! ### Retreats -/

/-- A retreat that an apply ends, or a later release. -/
theorem State.Applied.retreat_ends {s u t : State} (hu : s.Applied u) (ht : u.Steady true t) {n : Chan}
    (hr : (s.chan[n]).retreated = true) (he : (t.chan[n]).retreated = false) :
    (t.chan[n]).released = true ∨ (s.txn.due.apply = true ∧ ((s.chan[n]).released = false → s.txn.seen[n] = true)) := by
  rcases Bool.eq_false_or_eq_true (t.chan[n]).released with hrel | hrel
  · exact .inl hrel
  · refine .inr ⟨hu.due, fun hs => ?_⟩
    rcases (hu.chan n).retreated hs hr with hur | hseen
    · rcases (ht.chan n).retreated hur with h | h
      · exact absurd (h.symm.trans he) Bool.true_eq_false.mp
      · exact absurd (h.symm.trans hrel) Bool.true_eq_false.mp
    · exact hseen

theorem State.Kept.retreat_ends {s t : State} (h : s.Kept t) {n : Chan} (hr : (s.chan[n]).retreated = true)
    (he : (t.chan[n]).retreated = false) : (t.chan[n]).released = true :=
  ((h.chan n).retreated hr).resolve_left fun h => absurd (h.symm.trans he) Bool.true_eq_false.mp

theorem State.CommandsTo.retreat_ends {c : Instr} {s t : State} (h : s.CommandsTo c t) {n : Chan}
    (hr : (s.chan[n]).retreated = true) (he : (t.chan[n]).retreated = false) :
    (t.chan[n]).released = true ∨
      ((c = .commitApply ∨ ∃ obs, c = .tickBoundary obs) ∧ s.txn.due.apply = true ∧
        ((s.chan[n]).released = false → s.txn.seen[n] = true)) := by
  cases h with
  | kept h => exact .inl (h.retreat_ends hr he)
  | powerLost h | powerOn h | pinReset h => exact .inl (h.released n)
  | applied u hc h hu => exact (h.retreat_ends hu hr he).imp id fun h => ⟨hc, h⟩

/-- Settles O7: only an apply ends a retreat without a release, and only where the channel had sight. -/
theorem retreatEndsOnlyAtCommitOrRelease : Obligations.RetreatEndsOnlyAtCommitOrRelease := by
  unfold Obligations.RetreatEndsOnlyAtCommitOrRelease
  refine ⟨fun c s t n h hr he => (exec_commandsTo h).retreat_ends hr he, fun s t n h hr he => ?_⟩
  rcases step_cases h with ⟨-, h⟩ | ⟨c, rest, -, h⟩
  · exact h.elim (fun hk => .inl (hk.retreat_ends hr he)) fun u hu ht => hu.retreat_ends ht hr he
  · exact (h.retreat_ends hr he).imp id And.right

/-! ### Release -/

theorem State.Kept.release_stays {s t : State} (h : s.Kept t) {n : Chan} (hr : (s.chan[n]).released = true)
    (he : (t.chan[n]).released = false) {p : Prop} : p :=
  absurd (((h.chan n).released hr).symm.trans he) Bool.true_eq_false.mp

/-- A release that an apply ends: its MODE is HOLD, and the channel stands at its nominal code. -/
theorem State.Applied.release_ends {s u t : State} (hu : s.Applied u) (ht : u.Steady true t) {n : Chan}
    (hr : (s.chan[n]).released = true) (he : (t.chan[n]).released = false) :
    s.txn.due.apply = true ∧ modeTaken s.txn.selMode = 0 ∧
      (t.chan[n]).code = (t.txn.live.params.chan[n]).nom ∧ (t.chan[n]).latched = (t.txn.live.params.chan[n]).nom := by
  have hut : (u.chan[n]).released = false := by
    rw [← Bool.not_eq_true]
    exact fun h => absurd (((ht.chan n).released h).symm.trans he) Bool.true_eq_false.mp
  obtain ⟨hhold, -⟩ := ((hu.chan n).released hr).resolve_left fun h => absurd (h.symm.trans hut) Bool.true_eq_false.mp
  have hnom : t.guarded.AtNominal n := ht.nominal rfl n (.inr ⟨hu.defaultsDue, (hu.chan n).lands hr⟩)
  obtain ⟨-, hs⟩ := hnom.resolve_left fun h => absurd (h.symm.trans he) Bool.true_eq_false.mp
  obtain ⟨hcode, hlatched, -⟩ := hs.resolve_left fun h => absurd (h.symm.trans he) Bool.true_eq_false.mp
  exact ⟨hu.due, beq_iff_eq.mp hhold, hcode, hlatched⟩

theorem State.CommandsTo.release_ends {c : Instr} {s t : State} (h : s.CommandsTo c t) {n : Chan}
    (hr : (s.chan[n]).released = true) (he : (t.chan[n]).released = false) :
    ((c = .commitApply ∨ ∃ obs, c = .tickBoundary obs) ∧ s.txn.due.apply = true ∧ modeTaken s.txn.selMode = 0) ∧
      (t.chan[n]).code = (t.txn.live.params.chan[n]).nom ∧ (t.chan[n]).latched = (t.txn.live.params.chan[n]).nom := by
  cases h with
  | kept h => exact h.release_stays hr he
  | powerLost h | powerOn h | pinReset h => exact absurd ((h.released n).symm.trans he) Bool.true_eq_false.mp
  | applied u hc h hu =>
    obtain ⟨hdue, hmode, hnom⟩ := h.release_ends hu hr he
    exact ⟨⟨hc, hdue, hmode⟩, hnom⟩

theorem step_release_ends {s t : State} (h : step s = .next t) {n : Chan} (hr : (s.chan[n]).released = true)
    (he : (t.chan[n]).released = false) :
    (s.txn.due.apply = true ∧ modeTaken s.txn.selMode = 0) ∧
      (t.chan[n]).code = (t.txn.live.params.chan[n]).nom ∧ (t.chan[n]).latched = (t.txn.live.params.chan[n]).nom := by
  rcases step_cases h with ⟨-, h⟩ | ⟨c, rest, -, h⟩
  · refine h.elim (fun hk => hk.release_stays hr he) fun u hu ht => ?_
    obtain ⟨hdue, hmode, hnom⟩ := hu.release_ends ht hr he
    exact ⟨⟨hdue, hmode⟩, hnom⟩
  · obtain ⟨⟨-, hdue⟩, hnom⟩ := h.release_ends hr he
    exact ⟨hdue, hnom⟩

/-- Settles O6: only an apply ends a release, and what a step takes after it leaves the channel where the apply put it. -/
theorem releaseEndsOnlyAtHoldCommit : Obligations.ReleaseEndsOnlyAtHoldCommit := by
  unfold Obligations.ReleaseEndsOnlyAtHoldCommit
  exact ⟨fun c s t n h hr he => ((exec_commandsTo h).release_ends hr he).1, fun s t n h hr he => (step_release_ends h hr he).1,
    fun s t n h hr he => (step_release_ends h hr he).2⟩

/-! ### Release for good -/

theorem State.Applied.forGood {s u t : State} (hu : s.Applied u) (ht : u.Steady true t) {n : Chan}
    (hg : (s.chan[n]).forGood = true) (hr : (s.chan[n]).released = true) :
    (t.chan[n]).forGood = true ∧ (t.chan[n]).released = true := by
  have hug : (u.chan[n]).forGood = true := (hu.chan n).forGood.trans hg
  have hur : (u.chan[n]).released = true :=
    ((hu.chan n).released hr).resolve_right fun h => absurd (hg.symm.trans h.2) Bool.true_eq_false.mp
  exact ⟨(ht.chan n).forGood hug, (ht.chan n).released hur⟩

theorem State.CommandsTo.forGood {c : Instr} {s t : State} (h : s.CommandsTo c t) {n : Chan}
    (hg : (s.chan[n]).forGood = true) (hr : (s.chan[n]).released = true) :
    ((t.chan[n]).forGood = true ∧ (t.chan[n]).released = true) ∨ t.power.stage = .reset ∨ c = .powerOnReset := by
  cases h with
  | kept h => exact .inl ⟨(h.chan n).forGood hg, (h.chan n).released hr⟩
  | powerLost h hstage => exact .inr (.inl hstage)
  | powerOn h hc => exact .inr (.inr hc)
  | pinReset h _ _ hchan => exact .inl ⟨(hchan n).forGood hg, (hchan n).released hr⟩
  | applied u _ h hu => exact .inl (h.forGood hu hg hr)

/-- Settles O8: an apply leaves out the channels that are released for good, and RST_N keeps them so. -/
theorem releasedForGoodStays : Obligations.ReleasedForGoodStays := by
  unfold Obligations.ReleasedForGoodStays
  refine ⟨fun c s t n h hg hr => (exec_commandsTo h).forGood hg hr, fun s t n h hg hr => ?_⟩
  rcases step_cases h with ⟨-, h⟩ | ⟨c, rest, hp, h⟩
  · exact .inl (h.elim (fun hk => ⟨(hk.chan n).forGood hg, (hk.chan n).released hr⟩) fun u hu ht => hu.forGood ht hg hr)
  · rcases h.forGood hg hr with h | h | rfl
    · exact .inl h
    · exact .inr (.inl h)
    · exact .inr (.inr ⟨rest, hp⟩)

/-! ### Failed bring-up -/

theorem State.Applied.failed {s u t : State} (hu : s.Applied u) (ht : u.Steady true t) {cause : Byte}
    (hf : s.power.stage = .failed cause) : t.power.stage = .failed cause := ht.stage cause (hu.stage.trans hf)

theorem State.CommandsTo.failed {c : Instr} {s t : State} (h : s.CommandsTo c t) {cause : Byte}
    (hf : s.power.stage = .failed cause) :
    t.power.stage = .failed cause ∨ t.power.stage = .reset ∨ t.power.stage = .rstLow := by
  cases h with
  | kept h => exact .inl (h.stage cause hf)
  | powerLost h hstage => exact .inr (.inl hstage)
  | powerOn h _ hstage => exact absurd (hstage.symm.trans hf) nofun
  | pinReset h _ hstage => exact .inr (.inr hstage)
  | applied u _ h hu => exact .inl (h.failed hu hf)

/-- Settles O9: a stage begins only where bring-up has not failed. -/
theorem failedBringUpHolds : Obligations.FailedBringUpHolds := by
  unfold Obligations.FailedBringUpHolds
  refine ⟨fun c s t cause h hf => (exec_commandsTo h).failed hf, fun s t cause h hf => ?_⟩
  rcases step_cases h with ⟨-, h⟩ | ⟨c, rest, -, h⟩
  · exact .inl (h.elim (fun hk => hk.stage cause hf) fun u hu ht => hu.failed ht hf)
  · exact h.failed hf

/-! ### The driver of RTR_N -/

theorem State.CommandsTo.drive {c : Instr} {s t : State} (h : s.CommandsTo c t) (hd : s.pins.rtrDrive = true)
    (he : t.pins.rtrDrive = false) :
    ((c = .commitApply ∨ ∃ obs, c = .tickBoundary obs) ∧ s.txn.due.apply = true) ∨ (∃ ns, c = .rstNLow ns) ∨
      c = .powerOnReset ∨ t.power.stage = .reset := by
  cases h with
  | kept h => exact absurd ((h.drive hd).symm.trans he) Bool.true_eq_false.mp
  | powerLost h hstage => exact .inr (.inr (.inr hstage))
  | powerOn h hc => exact .inr (.inr (.inl hc))
  | pinReset h hc => exact .inr (.inl hc)
  | applied u hc h hu => exact .inl ⟨hc, h.due⟩

/-- Settles O12: apart from an apply and the resets every operation keeps RTR_N driven. -/
theorem rtrDriveHeld : Obligations.RtrDriveHeld := by
  unfold Obligations.RtrDriveHeld
  refine ⟨fun c s t h hd he => (exec_commandsTo h).drive hd he, fun s t h hd he => ?_⟩
  rcases step_cases h with ⟨-, h⟩ | ⟨c, rest, hp, h⟩
  · exact .inl (h.elim (fun hk => absurd ((hk.drive hd).symm.trans he) Bool.true_eq_false.mp) fun u hu _ => hu.due)
  · rcases h.drive hd he with ⟨-, h⟩ | ⟨ns, rfl⟩ | rfl | h
    · exact .inl h
    · exact .inr (.inl ⟨ns, rest, hp⟩)
    · exact .inr (.inr (.inl ⟨rest, hp⟩))
    · exact .inr (.inr (.inr h))

/-! ### Counts -/

theorem State.CommandsTo.cover {c : Instr} {s t : State} (h : s.CommandsTo c t) (hm : s.ledger.MarkerCovers)
    (hc : s.ledger.Covered) : t.ledger.Covered := by
  cases h with
  | kept h => exact h.cover hm hc
  | powerLost h | powerOn h | pinReset h => exact h.cover
  | applied u _ h hu => exact hu.cover (h.cover hc)

theorem countsCovered_reset : countsCovered State.reset := Ledger.covered_initial _

theorem Counter.value_le (c : Counter) : c.value ≤ 2 ^ 32 - 1 := Nat.min_le_right _ _

theorem Ledger.newBases_get (l : Ledger) (bound : Vector Nat 128) (i : Fin 128) :
    ((l.newBases bound)[i]).toNat = min (l.value i + 2 ^ (grainOf i).toNat + 1024 * bound[i]) (2 ^ 32 - 1) := by
  unfold Ledger.newBases
  rw [Fin.getElem_fin, Vector.getElem_ofFn, BitVec.toNat_ofNat]
  exact Nat.mod_eq_of_lt ((Nat.min_le_right _ _).trans_lt (by decide))

theorem Ledger.value_le_newBases (l : Ledger) (bound : Vector Nat 128) (i : Fin 128) :
    l.value i ≤ ((l.newBases bound)[i]).toNat := by
  rw [l.newBases_get]
  exact le_min ((Nat.le_add_right _ _).trans (Nat.le_add_right _ _)) (Counter.value_le _)

theorem Ledger.startCompaction_of_compacting {l : Ledger} (h : l.compacting = true) : l.startCompaction = l := by
  unfold Ledger.startCompaction
  simp [h]

/-- The next operation moves neither the counts nor the new BASEs. -/
theorem Ledger.startNext_stands (l : Ledger) (bound : Vector Nat 128) (failed : Bool) :
    (l.startNext bound failed).newBase = l.newBase ∧ (l.startNext bound failed).count = l.count := by
  unfold Ledger.startNext
  split
  · exact ⟨rfl, rfl⟩
  · split
    · exact ⟨rfl, rfl⟩
    · split <;> exact ⟨rfl, rfl⟩

/-- The eighth erase forms the new BASEs. -/
theorem Ledger.finishOp_erase_last {l : Ledger} {k : Fin 8} (h : l.op = some (.erase k)) (hs : l.sectors = 7)
    (bound : Vector Nat 128) :
    (l.finishOp bound).judgeHolds.newBase = some (l.newBases bound) ∧ (l.finishOp bound).judgeHolds.count = l.count ∧
      (l.finishOp bound).judgeHolds.compacting = l.compacting := by
  unfold Ledger.judgeHolds Ledger.finishOp
  rw [h]
  simp [hs]

theorem State.ledgerDone_erase {s : State} {k : Fin 8} (h : s.ledger.op = some (.erase k)) :
    s.ledgerDone = State.ledgerNext { s with ledger := (s.ledger.finishOp s.wideBounds).judgeHolds } := by
  unfold State.ledgerDone
  have hc : (s.ledger.op == some (.again s.ledger.other)) = false := by
    rw [h]
    rfl
  rw [hc]
  rfl

/-- Settles O52: no operation of the ledger lowers a value, and a count rises only below its own. -/
theorem countsNeverPassFlash : Obligations.CountsNeverPassFlash := by
  unfold Obligations.CountsNeverPassFlash
  refine ⟨countsCovered_reset, fun s t hc hm h => ?_, fun s n hc hruns hf hop hcomp hsec => ?_⟩
  · rcases step_cases h with ⟨-, h⟩ | ⟨c, rest, -, h⟩
    · exact h.elim (fun hk => hk.cover hm hc) fun u hu ht => ht.cover (hu.cover hc)
    · exact h.cover hm hc
  · obtain ⟨hb, hcount, hcomp'⟩ := Ledger.finishOp_erase_last hop hsec s.wideBounds
    have hexec : exec .ledgerEraseDone s = .next s.ledgerDone := by
      change execLedgerEraseDone s = _
      unfold execLedgerEraseDone
      rw [hruns, hf, hop]
      rfl
    have hl : s.ledgerDone.ledger.newBase = some (s.ledger.newBases s.wideBounds) ∧ s.ledgerDone.ledger.count = s.ledger.count := by
      rw [State.ledgerDone_erase hop]
      generalize (s.ledger.finishOp s.wideBounds).judgeHolds = l at hb hcount hcomp'
      unfold State.ledgerNext
      rw [Ledger.startCompaction_of_compacting (hcomp'.trans hcomp)]
      obtain ⟨hnb, hnc⟩ := l.startNext_stands (State.wideBounds { s with ledger := l }) (s.power.fault 27)
      exact ⟨hnb.trans hb, hnc.trans hcount⟩
    refine ⟨_, _, hexec, hl.1, fun i => ?_⟩
    rw [hl.2]
    exact (hc i).trans (s.ledger.value_le_newBases _ i)

end Sys2Proof.Machine
end

section
/-! PROOFS. The block at reset. -/

namespace Sys2Proof.Machine

/-! ## The block at reset, and one step -/

/-- Settles O1: the step is its definition's two branches. -/
theorem stepRunsFrontCommand : Obligations.StepRunsFrontCommand := by
  unfold Obligations.StepRunsFrontCommand
  constructor
  · intro s c rest h
    unfold step
    rw [h]
  · intro s h
    unfold step
    rw [h]

/-- Settles O3: the reset state's outputs are released, and no report of it drives a pin. -/
theorem resetState : Obligations.ResetState := by
  unfold Obligations.ResetState
  refine ⟨State.reset_allReleased, rfl, rfl, State.rdyLow_of_not_done (by simp [State.reset, Power.initial]), rfl, rfl, rfl, rfl, rfl, rfl, rfl, fun p => ?_, rfl⟩
  have hp : State.reset.player[p] = Player.initial := by simp [State.reset]
  rw [hp]
  rfl

/-- Settles O4: the memory at reset holds no byte. -/
theorem resetMemoryCanonical : Obligations.ResetMemoryCanonical := by
  unfold Obligations.ResetMemoryCanonical
  rfl

end Sys2Proof.Machine
end

section
/-! PROOFS. What faults, failures and the end of a transaction leave. -/

namespace Sys2Proof.Machine

/-! ## What the end of a transaction leaves of the memory -/

/-- The memory without what the end of a transaction touches (R304). -/
def Mem.bare (m : Mem) : Mem := { m with resident := [], headWrong := [], listLines := [] }

theorem memoryStands_iff (s t : State) : memoryStands s t ↔ t.mem.bare = s.mem.bare := by
  unfold memoryStands Mem.bare
  constructor
  · intro h
    rw [h]
  · intro h
    rcases hs : s.mem with ⟨⟩
    rcases ht : t.mem with ⟨⟩
    rw [hs, ht] at h
    simp_all

@[simp] theorem State.setResident_bare (s : State) : s.setResident.mem.bare = s.mem.bare := rfl

@[simp] theorem State.closeTxn_bare (s : State) : s.closeTxn.mem.bare = s.mem.bare := rfl

@[simp] theorem State.discard_bare (s : State) (code : Byte) (obj : Obj) : (s.discard code obj).mem.bare = s.mem.bare := by
  unfold State.discard
  split <;> simp

@[simp] theorem State.faultDiscards_bare (s : State) : s.faultDiscards.mem.bare = s.mem.bare := by
  unfold State.faultDiscards
  dsimp only
  split <;> simp

@[simp] theorem State.beginFault_bare (s : State) (b : Nat) : (s.beginFault b).mem.bare = s.mem.bare := by
  unfold State.beginFault
  dsimp only
  split
  · rfl
  · split <;> simp

@[simp] theorem State.failBringUp_bare (s : State) (cause : Byte) : (s.failBringUp cause).mem.bare = s.mem.bare := by
  unfold State.failBringUp
  simp

/-! ## Faults -/

/-- What a cause that begins does to the power state: its bit, and nothing else. -/
theorem State.beginFault_power (s : State) (b : Nat) :
    (s.beginFault b).power = { s.power with faults := (s.beginFault b).power.faults } := by
  unfold State.beginFault
  dsimp only
  split
  · rfl
  · rw [State.endsProbation_power, State.faultDiscards_power]
    split <;> simp

theorem State.clearFault_power (s : State) (b : Nat) :
    (s.clearFault b).power = { s.power with faults := (s.clearFault b).power.faults } := by
  unfold State.clearFault
  dsimp only
  split
  · split <;> simp
  · rfl

/-- A cause stands once it has begun. -/
theorem State.beginFault_has (s : State) {b : Nat} (hb : b < 64) : (s.beginFault b).power.fault b = true := by
  rw [State.beginFault_fault s b b hb]
  simp

/-- A cause that has cleared stands no more. -/
theorem State.clearFault_lacks (s : State) {b : Nat} (hb : b < 64) : (s.clearFault b).power.fault b = false := by
  rw [State.clearFault_fault s b b hb]
  simp

theorem State.faultDiscards_of_idle {s : State} (h : s.txn.state = .idle) : s.faultDiscards = s := by
  unfold State.faultDiscards State.discard
  simp [h]

theorem State.endsProbation_of_not {s : State} {b : Nat} (h : releaseCauses.getLsbD b = false) : s.endsProbation b = s := by
  unfold State.endsProbation
  simp [h]

/-- With no transaction a cause that ends no probation moves only what tells of it. -/
theorem State.beginFault_of_idle {s : State} {b : Nat} (h : s.txn.state = .idle) (hb : releaseCauses.getLsbD b = false) :
    s.onlyMoves (s.beginFault b) [.power, .tel, .port] := by
  unfold State.beginFault
  dsimp only
  split
  · exact s.onlyMoves_refl _
  · rw [State.endsProbation_of_not hb]
    split
    · rw [State.faultDiscards_of_idle (by simpa using h)]
      intro p hp
      cases p <;> simp_all [State.agree]
    · rw [State.faultDiscards_of_idle]
      · intro p hp
        cases p <;> simp_all [State.agree]
      · exact h

theorem State.failBringUp_power (s : State) (cause : Byte) :
    (s.failBringUp cause).power =
      { s.power with faults := (s.beginFault 32).power.faults, stage := .failed cause, mkCode := cause } := by
  change { (s.beginFault 32).power with stage := Stage.failed cause, mkCode := Stage.code (.failed cause) } = _
  rw [State.beginFault_power]
  rfl

/-! What a cause or a failure leaves of the power state. -/

@[simp] theorem State.beginFault_good (s : State) (b : Nat) : (s.beginFault b).power.good = s.power.good := by
  rw [State.beginFault_power]

@[simp] theorem State.beginFault_mkCode (s : State) (b : Nat) : (s.beginFault b).power.mkCode = s.power.mkCode := by
  rw [State.beginFault_power]

@[simp] theorem State.beginFault_straps (s : State) (b : Nat) : (s.beginFault b).power.straps = s.power.straps := by
  rw [State.beginFault_power]

@[simp] theorem State.beginFault_strapsLatched (s : State) (b : Nat) : (s.beginFault b).power.strapsLatched = s.power.strapsLatched := by
  rw [State.beginFault_power]

@[simp] theorem State.beginFault_driftLatched (s : State) (b : Nat) : (s.beginFault b).power.driftLatched = s.power.driftLatched := by
  rw [State.beginFault_power]

@[simp] theorem State.beginFault_fitted (s : State) (b : Nat) : (s.beginFault b).power.fitted = s.power.fitted := by
  rw [State.beginFault_power]

@[simp] theorem State.beginFault_judged (s : State) (b : Nat) : (s.beginFault b).power.judged = s.power.judged := by
  rw [State.beginFault_power]

@[simp] theorem State.beginFault_refValid (s : State) (b : Nat) : (s.beginFault b).power.refValid = s.power.refValid := by
  rw [State.beginFault_power]

@[simp] theorem State.beginFault_locked (s : State) (b : Nat) : (s.beginFault b).power.locked = s.power.locked := by
  rw [State.beginFault_power]

@[simp] theorem State.beginFault_clocked (s : State) (b : Nat) : (s.beginFault b).power.clocked = s.power.clocked := by
  rw [State.beginFault_power]

@[simp] theorem State.beginFault_powerUp (s : State) (b : Nat) : (s.beginFault b).power.powerUp = s.power.powerUp := by
  rw [State.beginFault_power]

@[simp] theorem State.beginFault_refinMv (s : State) (b : Nat) : (s.beginFault b).power.refinMv = s.power.refinMv := by
  rw [State.beginFault_power]

@[simp] theorem State.beginFault_flashAddr (s : State) (b : Nat) : (s.beginFault b).power.flashAddr = s.power.flashAddr := by
  rw [State.beginFault_power]

@[simp] theorem State.beginFault_flashMbit (s : State) (b : Nat) : (s.beginFault b).power.flashMbit = s.power.flashMbit := by
  rw [State.beginFault_power]

@[simp] theorem State.beginFault_key (s : State) (b : Nat) : (s.beginFault b).power.key = s.power.key := by
  rw [State.beginFault_power]

@[simp] theorem State.beginFault_kcv (s : State) (b : Nat) : (s.beginFault b).power.kcv = s.power.kcv := by
  rw [State.beginFault_power]

@[simp] theorem State.clearFault_good (s : State) (b : Nat) : (s.clearFault b).power.good = s.power.good := by
  rw [State.clearFault_power]

@[simp] theorem State.clearFault_mkCode (s : State) (b : Nat) : (s.clearFault b).power.mkCode = s.power.mkCode := by
  rw [State.clearFault_power]

@[simp] theorem State.clearFault_straps (s : State) (b : Nat) : (s.clearFault b).power.straps = s.power.straps := by
  rw [State.clearFault_power]

@[simp] theorem State.clearFault_strapsLatched (s : State) (b : Nat) : (s.clearFault b).power.strapsLatched = s.power.strapsLatched := by
  rw [State.clearFault_power]

@[simp] theorem State.clearFault_driftLatched (s : State) (b : Nat) : (s.clearFault b).power.driftLatched = s.power.driftLatched := by
  rw [State.clearFault_power]

@[simp] theorem State.clearFault_fitted (s : State) (b : Nat) : (s.clearFault b).power.fitted = s.power.fitted := by
  rw [State.clearFault_power]

@[simp] theorem State.clearFault_judged (s : State) (b : Nat) : (s.clearFault b).power.judged = s.power.judged := by
  rw [State.clearFault_power]

@[simp] theorem State.clearFault_refValid (s : State) (b : Nat) : (s.clearFault b).power.refValid = s.power.refValid := by
  rw [State.clearFault_power]

@[simp] theorem State.clearFault_locked (s : State) (b : Nat) : (s.clearFault b).power.locked = s.power.locked := by
  rw [State.clearFault_power]

@[simp] theorem State.clearFault_clocked (s : State) (b : Nat) : (s.clearFault b).power.clocked = s.power.clocked := by
  rw [State.clearFault_power]

@[simp] theorem State.clearFault_powerUp (s : State) (b : Nat) : (s.clearFault b).power.powerUp = s.power.powerUp := by
  rw [State.clearFault_power]

@[simp] theorem State.clearFault_refinMv (s : State) (b : Nat) : (s.clearFault b).power.refinMv = s.power.refinMv := by
  rw [State.clearFault_power]

@[simp] theorem State.clearFault_flashAddr (s : State) (b : Nat) : (s.clearFault b).power.flashAddr = s.power.flashAddr := by
  rw [State.clearFault_power]

@[simp] theorem State.clearFault_flashMbit (s : State) (b : Nat) : (s.clearFault b).power.flashMbit = s.power.flashMbit := by
  rw [State.clearFault_power]

@[simp] theorem State.clearFault_key (s : State) (b : Nat) : (s.clearFault b).power.key = s.power.key := by
  rw [State.clearFault_power]

@[simp] theorem State.clearFault_kcv (s : State) (b : Nat) : (s.clearFault b).power.kcv = s.power.kcv := by
  rw [State.clearFault_power]

@[simp] theorem State.failBringUp_good (s : State) (cause : Byte) : (s.failBringUp cause).power.good = s.power.good :=
  s.beginFault_good 32

@[simp] theorem State.failBringUp_straps (s : State) (cause : Byte) : (s.failBringUp cause).power.straps = s.power.straps :=
  s.beginFault_straps 32

@[simp] theorem State.failBringUp_strapsLatched (s : State) (cause : Byte) : (s.failBringUp cause).power.strapsLatched = s.power.strapsLatched :=
  s.beginFault_strapsLatched 32

@[simp] theorem State.failBringUp_driftLatched (s : State) (cause : Byte) : (s.failBringUp cause).power.driftLatched = s.power.driftLatched :=
  s.beginFault_driftLatched 32

@[simp] theorem State.failBringUp_fitted (s : State) (cause : Byte) : (s.failBringUp cause).power.fitted = s.power.fitted :=
  s.beginFault_fitted 32

@[simp] theorem State.failBringUp_judged (s : State) (cause : Byte) : (s.failBringUp cause).power.judged = s.power.judged :=
  s.beginFault_judged 32

@[simp] theorem State.failBringUp_refValid (s : State) (cause : Byte) : (s.failBringUp cause).power.refValid = s.power.refValid :=
  s.beginFault_refValid 32

@[simp] theorem State.failBringUp_locked (s : State) (cause : Byte) : (s.failBringUp cause).power.locked = s.power.locked :=
  s.beginFault_locked 32

@[simp] theorem State.failBringUp_clocked (s : State) (cause : Byte) : (s.failBringUp cause).power.clocked = s.power.clocked :=
  s.beginFault_clocked 32

@[simp] theorem State.failBringUp_powerUp (s : State) (cause : Byte) : (s.failBringUp cause).power.powerUp = s.power.powerUp :=
  s.beginFault_powerUp 32

@[simp] theorem State.failBringUp_refinMv (s : State) (cause : Byte) : (s.failBringUp cause).power.refinMv = s.power.refinMv :=
  s.beginFault_refinMv 32

@[simp] theorem State.failBringUp_flashAddr (s : State) (cause : Byte) : (s.failBringUp cause).power.flashAddr = s.power.flashAddr :=
  s.beginFault_flashAddr 32

@[simp] theorem State.failBringUp_flashMbit (s : State) (cause : Byte) : (s.failBringUp cause).power.flashMbit = s.power.flashMbit :=
  s.beginFault_flashMbit 32

@[simp] theorem State.failBringUp_key (s : State) (cause : Byte) : (s.failBringUp cause).power.key = s.power.key :=
  s.beginFault_key 32

@[simp] theorem State.failBringUp_kcv (s : State) (cause : Byte) : (s.failBringUp cause).power.kcv = s.power.kcv :=
  s.beginFault_kcv 32

/-- What the straps decide follows from their codes. -/
theorem Power.strapsValid_congr {p p' : Power} (h : p.straps = p'.straps) : p.strapsValid = p'.strapsValid := by
  cases p
  cases p'
  cases h
  rfl

theorem Power.role_congr {p p' : Power} (h : p.straps = p'.straps) : p.role = p'.role := by
  cases p
  cases p'
  cases h
  rfl

/-! ## Supplies -/

theorem Power.setGood_isGood (p : Power) (d e : Domain) (good : Bool) :
    (p.setGood d good).isGood e = if e = d then good else p.isGood e := by
  unfold Power.setGood Power.isGood
  cases d <;> cases e <;> simp [domainIndex]

end Sys2Proof.Machine
end

section
/-! PROOFS. A record takes no effect by arriving. -/

namespace Sys2Proof.Machine

/-! ## What a record that arrives leaves alone -/

/-- What a configuration in force is made of, the players, the channels and the sense path that follow it, the ledger, and the memory's
bytes. -/
def State.inForce (s : State) :
    Configuration × Option Configuration × Vector Channel 64 × Vector Player 16 × Sense × Ledger × List Host.Cell :=
  (s.txn.live, s.txn.lastGood, s.chan, s.player, s.sense, s.ledger, s.mem.cells)

theorem State.inForce_eq_iff (s t : State) :
    t.inForce = s.inForce ↔
      t.txn.live = s.txn.live ∧ t.txn.lastGood = s.txn.lastGood ∧ t.chan = s.chan ∧ t.player = s.player ∧
        t.sense = s.sense ∧ t.ledger = s.ledger ∧ t.mem.cells = s.mem.cells := by
  simp [State.inForce]

@[simp] theorem State.logEvent_inForce (s : State) (code sub : Byte) (obj : BitVec 16) (data : BitVec 48) :
    (s.logEvent code sub obj data).inForce = s.inForce := by
  simp [State.inForce]

@[simp] theorem State.outcome_inForce (s : State) (code : Byte) (obj : Obj) (pin : Byte) (mask : BitVec 64) :
    (s.outcome code obj pin mask).inForce = s.inForce := by
  simp [State.inForce]

@[simp] theorem State.settlePause_inForce (s : State) : s.settlePause.inForce = s.inForce := by
  simp [State.inForce]

@[simp] theorem State.closeTxn_inForce (s : State) : s.closeTxn.inForce = s.inForce := rfl

@[simp] theorem State.discard_inForce (s : State) (code : Byte) (obj : Obj) : (s.discard code obj).inForce = s.inForce := by
  unfold State.discard
  split <;> simp

@[simp] theorem State.holdVeto_inForce (s : State) (code : Byte) : (s.holdVeto code).inForce = s.inForce := by
  simp [State.inForce]

@[simp] theorem State.endsProbation_inForce (s : State) (b : Nat) : (s.endsProbation b).inForce = s.inForce := by
  unfold State.endsProbation
  split <;> rfl

@[simp] theorem State.faultDiscards_inForce (s : State) : s.faultDiscards.inForce = s.inForce := by
  unfold State.faultDiscards
  dsimp only
  split <;> simp

@[simp] theorem State.beginFault_inForce (s : State) (b : Nat) : (s.beginFault b).inForce = s.inForce := by
  unfold State.beginFault
  dsimp only
  split
  · rfl
  · rw [State.endsProbation_inForce, State.faultDiscards_inForce]
    split
    · rw [State.logEvent_inForce]
      rfl
    · rfl

@[simp] theorem State.failBringUp_inForce (s : State) (cause : Byte) : (s.failBringUp cause).inForce = s.inForce :=
  s.beginFault_inForce 32

/-- Entries that leave the Bog list move no byte. -/
@[simp] theorem State.leaveBog_cells (s : State) (who : BogEntry → Bool) (st : BogState) :
    (s.leaveBog who st).mem.cells = s.mem.cells := by
  unfold State.leaveBog
  extract_lets gone _ m
  have hm : m.cells = s.mem.cells :=
    foldl_keeps Mem.cells (f := fun m (e : BogEntry) => (m.noteBog e.slot).toHistory e) (fun _ _ => rfl) gone _
  simpa using hm

@[simp] theorem State.freeSegment_inForce (s : State) (id : BitVec 16) : (s.freeSegment id).inForce = s.inForce := by
  unfold State.freeSegment
  split
  · rfl
  · simp [State.inForce, State.freePages]

@[simp] theorem State.failImage_inForce (s : State) (cause : Byte) : (s.failImage cause).inForce = s.inForce := by
  unfold State.failImage
  rw [State.failBringUp_inForce]
  exact foldl_keeps State.inForce State.freeSegment_inForce _ s

@[simp] theorem State.distrust_inForce (s : State) : s.distrust.inForce = s.inForce := by
  unfold State.distrust
  rw [State.settlePause_inForce]
  rfl

@[simp] theorem State.takeOff_inForce (s : State) (pl : Place) (n : Nat) : (s.takeOff pl n).inForce = s.inForce := by
  unfold State.takeOff
  split
  · rw [State.settlePause_inForce]
    rfl
  · rfl

@[simp] theorem State.damagedInImage_inForce (s : State) (pl : Place) : (s.damagedInImage pl).inForce = s.inForce := by
  unfold State.damagedInImage
  split
  · simp
  · split <;> simp

@[simp] theorem State.takeConfig_inForce (s : State) (rec : List Byte) (arrived : Nat) :
    (s.takeConfig rec arrived).inForce = s.inForce := by
  unfold State.takeConfig
  dsimp only
  split
  · simp
  · split
    · simp
    · split
      · rfl
      · simp

@[simp] theorem State.takeImageConfig_inForce (s : State) (rec : List Byte) : (s.takeImageConfig rec).inForce = s.inForce := rfl

@[simp] theorem State.request_inForce (s : State) : State.inForce { s with mem := s.mem.request } = s.inForce := by
  simp [State.inForce]

/-! ## The records of a configuration -/

section
variable {rec : List Byte} (hhead : rtype rec ≠ 1) (hend : rtype rec ≠ 2) (hkey : rtype rec ≠ 3) (hchunk : rtype rec ≠ 0x30)

include hend hchunk in
theorem State.takeInImage_inForce (s : State) (errs : List LineErrs) : (s.takeInImage rec errs).inForce = s.inForce := by
  unfold State.takeInImage
  dsimp only
  rw [if_neg hend, if_neg hchunk]
  split
  · simp
  · split
    · simp
    · split
      · simp
      · split <;> simp

include hhead in
theorem State.takeFirst_inForce (s : State) (pl : Place) : (s.takeFirst pl rec).inForce = s.inForce := by
  unfold State.takeFirst
  rw [if_neg hhead]
  split <;> simp

include hkey in
theorem State.takeInProvision_inForce (s : State) (readBack : List Byte) : (s.takeInProvision rec readBack).inForce = s.inForce := by
  unfold State.takeInProvision
  dsimp only
  rw [if_pos (.inl hkey)]
  simp

include hchunk in
theorem State.takeOnPort_inForce (s : State) (errs : List LineErrs) (arrived : Nat) :
    (s.takeOnPort rec errs arrived).inForce = s.inForce := by
  unfold State.takeOnPort
  rw [if_pos hchunk]
  simp

include hhead hend hkey hchunk in
/-- A whole record that is no HEADER, END, PROVISION or chunk takes no effect. -/
theorem State.takeWhole_inForce (s : State) (pl : Place) (errs : List LineErrs) (readBack : List Byte) :
    (s.takeWhole pl rec errs readBack).inForce = s.inForce := by
  unfold State.takeWhole
  dsimp only
  have himage : (if s.port.image.started then (s.takeOff pl rec.length).takeInImage rec errs
      else (s.takeOff pl rec.length).takeFirst pl rec).inForce = s.inForce := by
    split
    · rw [State.takeInImage_inForce hend hchunk, State.takeOff_inForce]
    · rw [State.takeFirst_inForce hhead, State.takeOff_inForce]
  split
  · simp
  · simp
  · simp
  · simp
  · exact himage
  · exact himage
  · rw [State.takeInProvision_inForce hkey, State.takeOff_inForce]
  · rw [State.takeOnPort_inForce hchunk, State.takeOff_inForce]

end

/-- A record under a configuration record's command takes no effect: its own type names it, or no known record. -/
theorem State.takeRecord_inForce (s : State) {n : Nat} (hn : n ≠ 1 ∧ n ≠ 2 ∧ n ≠ 3 ∧ n ≠ 0x30)
    (rec : List Byte) (errs : List LineErrs) (readBack : List Byte) :
    (s.takeRecord n rec errs readBack).inForce = s.inForce := by
  unfold State.takeRecord
  split
  · rfl
  · next pl _ =>
    dsimp only
    split
    · rfl
    · next hmine =>
      have htype : rtype rec ≠ 1 ∧ rtype rec ≠ 2 ∧ rtype rec ≠ 3 ∧ rtype rec ≠ 0x30 := by
        obtain ⟨h1, h2, h3, h4⟩ := hn
        have hown : rtype rec = n ∨ rtype rec ∉ knownTypes := by
          by_contra hnone
          rw [not_or, not_not] at hnone
          exact hmine (.inr (.inl (by simp [hnone])))
        have hother {k : Nat} (hk : k ∈ knownTypes) (hne : n ≠ k) : rtype rec ≠ k := fun h =>
          hown.elim (fun e => hne (e.symm.trans h)) fun e => e (h ▸ hk)
        exact ⟨hother (by decide) h1, hother (by decide) h2, hother (by decide) h3, hother (by decide) h4⟩
      obtain ⟨hhead, hend, hkey, hchunk⟩ := htype
      split
      · split <;> simp
      · split
        · simp
        · split
          · rfl
          · split
            · simp
            · rw [State.takeWhole_inForce hhead hend hkey hchunk]
              split <;> simp

/-- Settles O10: a record is judged, held or refused, and only HEADER, END, PROVISION and the chunks do more. -/
theorem recordsTakeNoEffect : Obligations.RecordsTakeNoEffect := by
  unfold Obligations.RecordsTakeNoEffect
  intro c s t rec hc h
  rw [← State.inForce_eq_iff]
  obtain rfl | rfl | rfl | rfl | rfl | rfl | rfl | rfl | rfl | rfl := hc
  all_goals
    cases h
    exact State.takeRecord_inForce s (by decide) rec [] []

end Sys2Proof.Machine
end

section
/-! PROOFS. Power-on reset and the dips that await it. -/

namespace Sys2Proof.Machine

/-! ## Power-on reset (R104, R105) -/

theorem exec_powerOnReset {s : State} (h : s.power.stage = .reset) :
    exec .powerOnReset s = .next (((s.powerReset.setGood .aon true).setGood .vddio true).enterStage .strap) := by
  change execPowerOnReset s = _
  exact if_pos h

theorem exec_powerOnReset_of_ne {s : State} (h : s.power.stage ≠ .reset) : exec .powerOnReset s = .next s := by
  change execPowerOnReset s = _
  exact if_neg h

/-- Settles O13: the wiped state with AON and VDDIO good, in STRAP. -/
theorem powerOnResetBeginsStrap : Obligations.PowerOnResetBeginsStrap := by
  unfold Obligations.PowerOnResetBeginsStrap
  refine ⟨fun s hs => ⟨_, exec_powerOnReset hs, rfl, rfl, rfl, s.powerReset_allReleased, ?_, ?_, rfl, rfl, rfl, rfl, rfl, rfl,
    rfl, rfl, rfl, rfl, rfl, rfl⟩, fun s hs => exec_powerOnReset_of_ne hs⟩
  · change ((s.powerReset.power.setGood .aon true).setGood .vddio true).isGood .aon = true
    simp [Power.setGood_isGood]
  · change ((s.powerReset.power.setGood .aon true).setGood .vddio true).isGood .vddio = true
    simp [Power.setGood_isGood]

/-! ## A dip of VDD_AON or VDDIO -/

theorem State.dipActs_of_long (s : State) {ns : Nat} (h : 1000 ≤ ns) : s.dipActs ns = (true, s) := by
  have hlong : ¬ ns < 500 := by omega
  rw [State.dipActs, if_neg hlong, if_pos h]

theorem State.dipActs_of_short (s : State) {ns : Nat} (h : ns < 500) : s.dipActs ns = (false, s) := by
  rw [State.dipActs, if_pos h]

theorem State.dipActs_between (s : State) {ns : Nat} (h : 500 ≤ ns) (h' : ns < 1000) : s.dipActs ns = s.freeChoice := by
  have hlong : ¬ ns < 500 := by omega
  have hshort : ¬ 1000 ≤ ns := by omega
  rw [State.dipActs, if_neg hlong, if_neg hshort]

/-- The supply that a dip of AON or VDDIO fells. -/
def aonDomain (w : AonSupply) : Domain :=
  match w with
  | .vddAon => .aon
  | .vddIo => .vddio

theorem execAonBrownOut_eq (w : AonSupply) (ns : Nat) (s : State) :
    exec (.aonBrownOut w ns) s =
      if (s.dipActs ns).1 = true then .next ((s.dipActs ns).2.loseAon (aonDomain w)) else .next (s.dipActs ns).2 := by
  cases w <;> rfl

theorem State.loseAon_allReleased (s : State) (d : Domain) : (s.loseAon d).allReleased := State.reset_allReleased

@[simp] theorem State.loseAon_stage (s : State) (d : Domain) : (s.loseAon d).power.stage = .reset := rfl

/-- While AON is down FLT_N is low where VDDIO has power. -/
theorem State.loseAon_fltLow (s : State) (w : AonSupply) :
    (s.loseAon (aonDomain w)).fltLow = (decide (w = .vddAon) && s.power.isGood .vddio) := by
  have hcause : (s.loseAon (aonDomain w)).power.fault 5 = true := by
    change (1#64 <<< 5).getLsbD 5 = true
    decide
  have hgood : (s.loseAon (aonDomain w)).power.isGood .vddio = (s.power.setGood (aonDomain w) false).isGood .vddio := rfl
  unfold State.fltLow
  rw [State.loseAon_stage]
  dsimp only
  rw [hcause, hgood, Power.setGood_isGood]
  cases w <;> simp [aonDomain]

/-- Settles O14: the three bands of a dip. -/
theorem aonBrownOutResets : Obligations.AonBrownOutResets := by
  unfold Obligations.AonBrownOutResets
  refine ⟨fun s w ns h => ?_, fun s w ns h => ?_, fun s w ns h h' => ?_⟩
  · refine ⟨s.loseAon (aonDomain w), ?_, rfl, s.loseAon_allReleased _, rfl, s.loseAon_fltLow w, rfl, rfl, rfl, rfl, rfl, rfl, rfl,
      rfl, rfl, rfl⟩
    rw [execAonBrownOut_eq, s.dipActs_of_long h]
    rfl
  · rw [execAonBrownOut_eq, s.dipActs_of_short h]
    rfl
  · rw [execAonBrownOut_eq, s.dipActs_between h h']
    unfold State.freeChoice
    cases hfree : Config.freeBit s.freeCount
    · refine ⟨_, rfl, rfl, nofun, fun _ p hp => ?_⟩
      cases p <;> simp_all [State.agree]
    · exact ⟨_, rfl, rfl, fun _ => ⟨rfl, State.loseAon_allReleased _ _⟩, nofun⟩

end Sys2Proof.Machine
end

section
/-! PROOFS. How STRAP and SUPPLY end. -/

namespace Sys2Proof.Machine

/-! ## The end of STRAP (R95 to R100) -/

/-- Between 0 and 15 thresholds lie at or below a mean: a strap's code counts them. -/
theorem strapCode_toNat (n sum : Nat) :
    (strapCode n sum).toNat = (strapThresholds.filter fun t => decide (t * 100 * n ≤ sum)).length := by
  unfold strapCode
  rw [BitVec.toNat_ofNat]
  refine Nat.mod_eq_of_lt ?_
  exact (List.length_filter_le _ _).trans_lt (by decide)

/-- The straps' codes are latched, with the defaults that they choose. -/
def State.latchStraps (s : State) (sums : Vector Nat 8) : State :=
  let power := { s.power with straps := mapAll (fun _ x => strapCode 64 x) sums, strapsLatched := true }
  { s with power := power, txn := Txn.initial (defaultImage power.straps) }

theorem exec_strapStageEnd_of_near {s : State} {sums : Vector Nat 8} (hs : s.power.stage = .strap)
    (hn : sums.toList.any (strapNear 64) = true) : exec (.strapStageEnd sums) s = .next (s.failBringUp 0x88) := by
  change execStrapStageEnd sums s = _
  unfold execStrapStageEnd
  rw [if_pos hs, if_pos hn]

theorem exec_strapStageEnd_of_clear {s : State} {sums : Vector Nat 8} (hs : s.power.stage = .strap)
    (hn : sums.toList.any (strapNear 64) = false) :
    exec (.strapStageEnd sums) s =
      .next (if (s.latchStraps sums).power.strapsValid = true then (s.latchStraps sums).enterStage .supply
        else (s.latchStraps sums).failBringUp 0x89) := by
  change execStrapStageEnd sums s = _
  unfold execStrapStageEnd
  rw [if_pos hs, if_neg (by simp [hn])]
  exact (apply_ite Host.Outcome.next _ _ _).symm

theorem State.latchStraps_code (s : State) (sums : Vector Nat 8) (k : Fin 8) :
    ((s.latchStraps sums).power.straps[k]).toNat = (strapThresholds.filter fun th => decide (th * 6400 ≤ sums[k])).length := by
  have hk : (s.latchStraps sums).power.straps[k] = strapCode 64 sums[k] := mapAll_get _ _ _
  rw [hk, strapCode_toNat]
  simp only [Nat.mul_assoc]

/-- Latching the straps leaves no transaction, so that a failure then has nothing to discard. -/
theorem State.latchStraps_fails (s : State) (sums : Vector Nat 8) (cause : Byte) :
    (s.latchStraps sums).onlyMoves ((s.latchStraps sums).failBringUp cause) [.power, .tel, .port, .pins] := by
  refine State.onlyMoves_trans ?_ (State.onlyMoves_mono (State.enterStage_moves _ _) (by decide))
  exact State.onlyMoves_mono (State.beginFault_of_idle rfl (by decide)) (by decide)

/-! ## The end of SUPPLY (R106, R108) -/

/-- What SUPPLY found, with cause 11 where the content port that is strapped on has no supply. -/
def State.supplyFound (s : State) : State :=
  if (s.power.portOn && !s.power.isGood .cport) = true then s.judgeSupplies.beginFault 11 else s.judgeSupplies

theorem exec_supplyStageEnd {s : State} (hs : s.power.stage = .supply) (hg : s.power.mandatoryGood = true) :
    exec .supplyStageEnd s =
      .next (if (s.power.role != .standalone && !s.power.isGood .link) = true then s.supplyFound.failBringUp 0x85
        else if (s.power.portOn && !s.power.isGood .cport && !s.power.bootsFromFlash) = true then s.supplyFound.failBringUp 0x86
        else s.supplyFound.enterStage .clock) := by
  change execSupplyStageEnd s = _
  unfold execSupplyStageEnd
  rw [if_pos (by simp [hs, hg])]
  dsimp only
  split
  · rfl
  · split <;> rfl

/-- What the end of SUPPLY judges stands through the causes that it begins. -/
theorem State.supplyFound_stands (s : State) :
    s.supplyFound.mem.fitted = s.power.isGood .dphy ∧ s.supplyFound.power.judged = true ∧
      s.supplyFound.power.fitted = s.judgeSupplies.power.fitted ∧ s.supplyFound.chan = s.chan ∧
      s.supplyFound.ledger = s.ledger ∧ s.supplyFound.power.straps = s.power.straps := by
  unfold State.supplyFound
  split
  · have hm : (s.judgeSupplies.beginFault 11).mem.fitted = s.power.isGood .dphy := by
      rw [State.beginFault_stands]
      rfl
    exact ⟨hm, by simp [State.judgeSupplies], by simp, State.beginFault_chan _ _, State.beginFault_ledger _ _,
      by simp [State.judgeSupplies]⟩
  · exact ⟨rfl, rfl, rfl, rfl, rfl, rfl⟩

theorem State.judgeSupplies_fitted (s : State) (b : Bank) :
    s.judgeSupplies.power.fitted[b] = (s.power.isGood (dacDomain b) && (!s.power.judged || s.power.fitted[b])) := by
  simp [State.judgeSupplies]

/-- A failure moves none of what the end of SUPPLY judges. -/
theorem State.failBringUp_findings (s : State) (cause : Byte) :
    (s.failBringUp cause).mem.fitted = s.mem.fitted ∧ (s.failBringUp cause).power.judged = s.power.judged ∧
      (s.failBringUp cause).power.fitted = s.power.fitted ∧ (s.failBringUp cause).chan = s.chan ∧
      (s.failBringUp cause).ledger = s.ledger ∧ (s.failBringUp cause).power.straps = s.power.straps := by
  refine ⟨?_, by simp, by simp, by simp, by simp, by simp⟩
  change (s.beginFault 32).mem.fitted = s.mem.fitted
  rw [State.beginFault_stands]

theorem exec_supplyStageTimeout {s : State} (hs : s.power.stage = .supply) (ha : s.power.isGood .aon = true)
    (hv : s.power.isGood .vddio = true) (hg : s.power.mandatoryGood = false) :
    ∃ cause, exec .supplyStageTimeout s = .next (s.failBringUp cause) ∧
      Stage.failed cause =
        (if !s.power.isGood .ref then .failed 0x81 else if !s.power.isGood .pll then .failed 0x82
         else if !s.power.isGood .core then .failed 0x83 else .failed 0x84) := by
  change ∃ cause, execSupplyStageTimeout s = _ ∧ _
  unfold execSupplyStageTimeout
  rw [if_pos (by simp [hs, hg])]
  cases hr : s.power.isGood .ref
  · exact ⟨0x81, rfl, rfl⟩
  cases hp : s.power.isGood .pll
  · exact ⟨0x82, rfl, rfl⟩
  cases hc : s.power.isGood .core
  · exact ⟨0x83, rfl, rfl⟩
  cases hm : s.power.isGood .mon
  · exact ⟨0x84, rfl, rfl⟩
  · simp [Power.mandatoryGood, ha, hv, hr, hp, hc, hm] at hg

/-- Settles O16: each end is a stage that begins or a failure, on what the stage has latched or judged. -/
theorem strapAndSupplyStages : Obligations.StrapAndSupplyStages := by
  unfold Obligations.StrapAndSupplyStages
  refine ⟨fun s sums hs => ⟨fun hn => ?_, fun hn => ?_⟩, fun s hs hg => ?_, fun s hs ha hv hg => ?_, fun s hs hl => ?_⟩
  · exact ⟨_, exec_strapStageEnd_of_near hs hn, rfl, s.failBringUp_straps 0x88⟩
  · refine ⟨_, exec_strapStageEnd_of_clear hs hn, ?_⟩
    split
    · next hv =>
      exact ⟨rfl, s.latchStraps_code sums, fun _ => ⟨rfl, rfl⟩, fun h => absurd (hv.symm.trans h) Bool.true_eq_false.mp, rfl, rfl, rfl, rfl⟩
    · next hv =>
      have hm := s.latchStraps_fails sums 0x89
      refine ⟨State.failBringUp_strapsLatched _ _, fun k => ?_, fun h => absurd ?_ hv, fun _ => rfl, hm .chan (by decide), hm .mem (by decide),
        hm .ledger (by decide), hm .chain (by decide)⟩
      · simpa only [State.failBringUp_straps] using s.latchStraps_code sums k
      · rw [← Power.strapsValid_congr (State.failBringUp_straps _ 0x89)]
        exact h
  · refine ⟨_, exec_supplyStageEnd hs hg, ?_⟩
    obtain ⟨hf, hj, hb, hc, hl, hst⟩ := s.supplyFound_stands
    have hbank (b : Bank) : s.supplyFound.power.fitted[b] =
        (s.power.isGood (dacDomain b) && (!s.power.judged || s.power.fitted[b])) := by
      rw [hb]
      exact s.judgeSupplies_fitted b
    have hfail (cause : Byte) : (s.supplyFound.failBringUp cause).mem.fitted = s.power.isGood .dphy ∧
        (s.supplyFound.failBringUp cause).power.judged = true ∧
        (∀ b : Bank, (s.supplyFound.failBringUp cause).power.fitted[b] =
          (s.power.isGood (dacDomain b) && (!s.power.judged || s.power.fitted[b]))) ∧
        (s.supplyFound.failBringUp cause).power.stage = .failed cause ∧ (s.supplyFound.failBringUp cause).chan = s.chan ∧
        (s.supplyFound.failBringUp cause).ledger = s.ledger ∧ (s.supplyFound.failBringUp cause).power.straps = s.power.straps := by
      obtain ⟨hf', hj', hb', hc', hl', hst'⟩ := s.supplyFound.failBringUp_findings cause
      refine ⟨hf'.trans hf, hj'.trans hj, fun b => ?_, rfl, hc'.trans hc, hl'.trans hl, hst'.trans hst⟩
      rw [hb']
      exact hbank b
    split
    · exact hfail 0x85
    · split
      · exact hfail 0x86
      · exact ⟨hf, hj, hbank, rfl, hc, hl, hst⟩
  · obtain ⟨cause, hexec, hcause⟩ := exec_supplyStageTimeout hs ha hv hg
    exact ⟨_, hexec, State.beginFault_chan _ _, (memoryStands_iff _ _).mpr (State.failBringUp_bare _ _), hcause⟩
  · refine ⟨State.failBringUp { s with tap := s.tap.settle false } 0x88, ?_, rfl, State.beginFault_chan _ _⟩
    change execRstNRise s = _
    unfold execRstNRise
    rw [if_pos hs]
    dsimp only
    rw [hl]
    rfl

end Sys2Proof.Machine
end

section
/-! PROOFS. What causes and resets of the core leave of the supplies. -/

namespace Sys2Proof.Machine

/-! ## What a cause or a reset of the core leaves of the power state -/

@[simp] theorem State.beginFault_isGood (s : State) (b : Nat) (d : Domain) : (s.beginFault b).power.isGood d = s.power.isGood d := by
  unfold Power.isGood
  rw [State.beginFault_good]

@[simp] theorem State.clearFault_isGood (s : State) (b : Nat) (d : Domain) : (s.clearFault b).power.isGood d = s.power.isGood d := by
  unfold Power.isGood
  rw [State.clearFault_good]

@[simp] theorem State.setGood_isGood (s : State) (d e : Domain) (good : Bool) :
    (s.setGood d good).power.isGood e = if e = d then good else s.power.isGood e :=
  Power.setGood_isGood _ _ _ _

@[simp] theorem State.setGood_fault (s : State) (d : Domain) (good : Bool) (b : Nat) :
    (s.setGood d good).power.fault b = s.power.fault b := rfl

@[simp] theorem State.setGood_stage (s : State) (d : Domain) (good : Bool) : (s.setGood d good).power.stage = s.power.stage := rfl

@[simp] theorem State.setGood_straps (s : State) (d : Domain) (good : Bool) : (s.setGood d good).power.straps = s.power.straps := rfl

theorem State.setGood_moves (s : State) (d : Domain) (good : Bool) : s.onlyMoves (s.setGood d good) [.power] := by
  intro p hp
  cases p <;> simp_all [State.agree]

/-- After bring-up a cause that is present pulls FLT_N low (R172). -/
theorem State.fltLow_of_done {s : State} {b : Nat} (hs : s.power.stage = .done) (hb : s.power.fault b = true) : s.fltLow = true := by
  unfold State.fltLow
  rw [hs]
  simp only [bne_iff_ne, ne_eq]
  intro h0
  rw [Power.fault, h0] at hb
  simp at hb

/-- The causes that a restart at SUPPLY leaves are those that lie outside the core's reset. -/
theorem State.restartAtSupply_fault (s : State) (b : Nat) :
    s.restartAtSupply.power.fault b = (s.power.fault b && lastingCauses.getLsbD b) := by
  change (s.power.faults &&& lastingCauses).getLsbD b = _
  simp [Power.fault]

@[simp] theorem State.restartAtSupply_isGood (s : State) (d : Domain) : s.restartAtSupply.power.isGood d = s.power.isGood d := rfl

theorem State.restartAtSupply_allReleased (s : State) : s.restartAtSupply.allReleased := s.coreReset_allReleased

theorem State.returnToClock_fault (s : State) (b : Nat) :
    s.returnToClock.power.fault b = (s.power.fault b && lastingCauses.getLsbD b) := by
  change (s.power.faults &&& lastingCauses).getLsbD b = _
  simp [Power.fault]

@[simp] theorem State.returnToClock_stage (s : State) : s.returnToClock.power.stage = .clock := rfl

@[simp] theorem State.returnToClock_isGood (s : State) (d : Domain) : s.returnToClock.power.isGood d = s.power.isGood d := rfl

theorem State.returnToClock_allReleased (s : State) : s.returnToClock.allReleased := s.coreReset_allReleased

/-! ## A supply that falls (Table 4.3) -/

/-- What the fall of a supply does. -/
def State.loseSupply (s : State) (d : Domain) : State :=
  match d with
  | .aon | .vddio => s.loseAon d
  | .ref => s.loseCoreSupply .ref 2
  | .pll => s.loseCoreSupply .pll 3
  | .core => s.loseCoreSupply .core 4
  | .mon => s.loseMon
  | .dphy => s.loseDphy
  | .cport => s.loseCport
  | .link => s.loseLink
  | .daca => s.loseDac .daca 0
  | .dacb => s.loseDac .dacb 1
  | .dacc => s.loseDac .dacc 2
  | .dacd => s.loseDac .dacd 3

/-- A dip of 1 µs or more of a supply that was good is its fall (R500). -/
theorem exec_supplyBrownOut_of_long {s : State} {d : Domain} {ns : Nat} (hns : 1000 ≤ ns) (hg : s.power.isGood d = true) :
    exec (.supplyBrownOut d ns) s = .next (s.loseSupply d) := by
  change execSupplyBrownOut d ns s = _
  unfold execSupplyBrownOut
  rw [State.dipActs_of_long s hns, hg]
  cases d <;> rfl

theorem State.loseSupply_dac (s : State) (b : Bank) : s.loseSupply (dacDomain b) = s.loseDac (dacDomain b) b :=
  match b with
  | 0 | 1 | 2 | 3 => rfl

/-- The supplies of the core, each with its cause. -/
def coreCause (d : Domain) (bit : Nat) : Prop := d = .ref ∧ bit = 2 ∨ d = .pll ∧ bit = 3 ∨ d = .core ∧ bit = 4

theorem State.loseSupply_core (s : State) {d : Domain} {bit : Nat} (h : coreCause d bit) :
    s.loseSupply d = s.loseCoreSupply d bit := by
  obtain ⟨rfl, rfl⟩ | ⟨rfl, rfl⟩ | ⟨rfl, rfl⟩ := h <;> rfl

theorem coreCause.lasts {d : Domain} {bit : Nat} (h : coreCause d bit) : bit < 64 ∧ lastingCauses.getLsbD bit = true := by
  obtain ⟨rfl, rfl⟩ | ⟨rfl, rfl⟩ | ⟨rfl, rfl⟩ := h <;> decide

/-- The fall of a core supply after bring-up: its cause, every output released, and without REF the sense path suspended. -/
theorem State.loseCoreSupply_of_done {s : State} (d : Domain) (bit : Nat) (hs : s.power.stage = .done) :
    s.loseCoreSupply d bit =
      if d = .ref then (((s.setGood d false).beginFault bit).releaseAll).suspendSense
      else ((s.setGood d false).beginFault bit).releaseAll := by
  unfold State.loseCoreSupply
  rw [hs]
  rfl

theorem State.loseCoreSupply_done_releases {s : State} {d : Domain} {bit : Nat} (hs : s.power.stage = .done) (hb : bit < 64) :
    (s.loseCoreSupply d bit).allReleased ∧ (s.loseCoreSupply d bit).power.fault bit = true ∧
      (s.loseCoreSupply d bit).power.isGood d = false ∧ (s.loseCoreSupply d bit).power.stage = .done ∧
      (s.loseCoreSupply d bit).fltLow = true ∧ memoryStands s (s.loseCoreSupply d bit) ∧
      (s.loseCoreSupply d bit).ledger = s.ledger := by
  have hall := ((s.setGood d false).beginFault bit).releaseAll_allReleased
  have hfault := (s.setGood d false).beginFault_has hb
  rw [State.loseCoreSupply_of_done d bit hs]
  have key (t : State) (hc : t.chan = ((s.setGood d false).beginFault bit).releaseAll.chan)
      (hp : t.power = ((s.setGood d false).beginFault bit).power) (hm : t.mem = ((s.setGood d false).beginFault bit).mem)
      (hl : t.ledger = s.ledger) :
      t.allReleased ∧ t.power.fault bit = true ∧ t.power.isGood d = false ∧ t.power.stage = .done ∧
        t.fltLow = true ∧ memoryStands s t ∧ t.ledger = s.ledger := by
    have hst : t.power.stage = .done := by simp [hp, hs]
    have hf : t.power.fault bit = true := by rw [hp, hfault]
    refine ⟨fun n => ?_, hf, by simp [hp], hst, State.fltLow_of_done hst hf, (memoryStands_iff _ _).mpr ?_, hl⟩
    · rw [hc]
      exact hall n
    · rw [hm]
      exact State.beginFault_bare _ _
  split
  · exact key _ (by simp) (by simp [State.releaseAll]) (by simp [State.releaseAll]) (by simp [State.releaseAll])
  · exact key _ rfl (by simp [State.releaseAll]) (by simp [State.releaseAll]) (by simp [State.releaseAll])

/-- During bring-up the fall of a supply of the core, or of MON, starts again at SUPPLY (R116, R133). -/
theorem State.loseSupply_restarts {s : State} {d : Domain} {bit : Nat} (hd : coreCause d bit ∨ d = .mon ∧ bit = 6)
    (hr : s.power.stage.runs = true) (hs : s.power.stage ≠ .strap) :
    s.loseSupply d = ((s.setGood d false).beginFault bit).restartAtSupply := by
  have hruns : (s.power.stage.runs && s.power.stage != .strap) = true := by simp [hr, hs]
  obtain hd | ⟨rfl, rfl⟩ := hd
  · rw [State.loseSupply_core s hd, State.loseCoreSupply, if_pos hruns]
  · rw [State.loseSupply, State.loseMon, if_pos hruns]

/-- A loss of sight releases nothing and ends no retreat. -/
theorem State.loseSight_get (s : State) (n : Chan) :
    ((s.loseSight).chan[n]).released = (s.chan[n]).released ∧
      ((s.chan[n]).retreated = true → ((s.loseSight).chan[n]).retreated = true) := by
  unfold State.loseSight
  dsimp only
  rw [mapAll_get, State.retreat_get]
  have hret (c : Channel) (r : BitVec 9) (k : Nat) : c.retreated = true → (c.retreat r k).retreated = true := by
    unfold Channel.retreat
    (repeat' split) <;> simp_all
  constructor
  · split <;> split <;> simp
  · intro h
    have held (p : Bool) (c : Channel) : (if p = true then { c with heldNominal := true } else c).retreated = c.retreated := by
      split <;> rfl
    rw [held]
    split
    · exact hret _ _ _ h
    · exact h

/-! ## A supply that returns (Table 16.1) -/

/-- A bank that passes its self-test: its flag and its cause clear, and the inputs of the banks alone move (R488). -/
theorem State.bankTested_of_pass {s : State} {b : Bank} {t : SelfTest} (hp : testPasses t = true) :
    (s.bankTested b t).sense.failed = s.sense.failed.set b false ∧ (s.bankTested b t).chan = s.chan ∧
      (s.bankTested b t).mem = s.mem ∧ (s.bankTested b t).ledger = s.ledger ∧
      (s.bankTested b t).power.isGood = s.power.isGood := by
  unfold State.bankTested
  rw [hp]
  dsimp only [Bool.not_true]
  rw [if_pos rfl]
  have hg (u : State) (hu : u.power = s.power) (k : Nat) : (u.clearFault k).power.isGood = s.power.isGood := by
    funext d
    rw [State.clearFault_isGood, hu]
  split
  · exact ⟨by simp [State.onBankInputs], by simp, by simp, by simp, hg _ (by simp) _⟩
  · exact ⟨by simp, by simp, by simp, by simp, by
      apply hg
      rfl⟩

/-- Banks that pass leave every flag clear that was clear or was tested. -/
theorem State.banksTested_of_pass {tests : Vector SelfTest 4} (hp : ∀ b : Bank, testPasses tests[b] = true) (l : List Bank) (s : State) :
    (∀ b : Bank, (b ∈ l ∨ s.sense.failed[b] = false) →
        (l.foldl (fun s b => s.bankTested b tests[b]) s).sense.failed[b] = false) ∧
      (l.foldl (fun s b => s.bankTested b tests[b]) s).chan = s.chan ∧
      (l.foldl (fun s b => s.bankTested b tests[b]) s).mem = s.mem ∧
      (l.foldl (fun s b => s.bankTested b tests[b]) s).ledger = s.ledger ∧
      (l.foldl (fun s b => s.bankTested b tests[b]) s).power.isGood = s.power.isGood := by
  induction l generalizing s with
  | nil => exact ⟨fun b hb => by simpa using hb, rfl, rfl, rfl, rfl⟩
  | cons x l ih =>
    obtain ⟨hf, hc, hm, hl, hg⟩ := State.bankTested_of_pass (s := s) (b := x) (hp x)
    obtain ⟨ihf, ihc, ihm, ihl, ihg⟩ := ih (s.bankTested x tests[x])
    refine ⟨fun b hb => ihf b ?_, ihc.trans hc, ihm.trans hm, ihl.trans hl, ihg.trans hg⟩
    rw [hf]
    by_cases hx : x = b
    · exact .inr (by simp [hx])
    · have hx' : x.val ≠ b.val := fun h => hx (Fin.ext h)
      obtain hb | hb := hb
      · exact .inl ((List.mem_cons.mp hb).resolve_left (Ne.symm hx))
      · exact .inr (by simpa [Vector.getElem_set, hx'] using hb)

theorem State.testBanks_of_pass {s : State} {tests : Vector SelfTest 4} (hm : s.power.isGood .mon = true)
    (hp : ∀ b : Bank, testPasses tests[b] = true) :
    (s.testBanks tests).power.isGood .mon = true ∧ (s.testBanks tests).power.fault 6 = false ∧
      (∀ b : Bank, (s.testBanks tests).sense.failed[b] = false) ∧ (s.testBanks tests).chan = s.chan ∧
      (s.testBanks tests).mem = s.mem ∧ (s.testBanks tests).ledger = s.ledger := by
  obtain ⟨hf, hc, hm', hl, hg⟩ := State.banksTested_of_pass hp (List.finRange 4) s
  have hnone : ∀ b : Bank, ((List.finRange 4).foldl (fun s b => s.bankTested b tests[b]) s).sense.failed[b] = false :=
    fun b => hf b (.inl (List.mem_finRange b))
  unfold State.testBanks State.settleMon
  generalize (List.finRange 4).foldl (fun s b => s.bankTested b tests[b]) s = u at *
  have hgood : u.power.isGood .mon = true := by rw [hg, hm]
  have hany : u.sense.failed.toList.any id = false := by
    rw [List.any_eq_false]
    intro x hx
    obtain ⟨i, hi, rfl⟩ := List.getElem_of_mem hx
    simpa using hnone ⟨i, by simpa using hi⟩
  rw [if_pos (by simp [hgood, hany])]
  exact ⟨by simp [hgood], State.clearFault_lacks _ (by decide), by simpa using hnone, by simp [hc], by simp [hm'], by simp [hl]⟩

end Sys2Proof.Machine
end

section
/-! PROOFS. How supplies fall and return. -/

namespace Sys2Proof.Machine

/-! ## The content port while causes begin -/

/-- The content port without the counters of STATUS. -/
def Port.bare (p : Port) : Port := { p with counter := Vector.replicate 18 0 }

@[simp] theorem State.bump_portBare (s : State) (i : Fin 18) : (s.bump i).port.bare = s.port.bare := rfl

@[simp] theorem State.logEvent_portBare (s : State) (code sub : Byte) (obj : BitVec 16) (data : BitVec 48) :
    (s.logEvent code sub obj data).port.bare = s.port.bare := by
  unfold State.logEvent
  dsimp only
  split <;> simp

@[simp] theorem State.outcome_portBare (s : State) (code : Byte) (obj : Obj) (pin : Byte) (mask : BitVec 64) :
    (s.outcome code obj pin mask).port.bare = s.port.bare := by
  unfold State.outcome
  dsimp only
  split <;> simp

@[simp] theorem State.discard_portBare (s : State) (code : Byte) (obj : Obj) : (s.discard code obj).port.bare = s.port.bare := by
  unfold State.discard
  split <;> simp

@[simp] theorem State.faultDiscards_portBare (s : State) : s.faultDiscards.port.bare = s.port.bare := by
  unfold State.faultDiscards
  dsimp only
  split <;> simp

@[simp] theorem State.beginFault_portBare (s : State) (b : Nat) : (s.beginFault b).port.bare = s.port.bare := by
  unfold State.beginFault
  dsimp only
  split
  · rfl
  · split <;> simp

theorem Port.linkUp_of_bare {p q : Port} (h : p.bare = q.bare) : p.linkUp = q.linkUp := by
  have hl := congrArg Port.linkUp h
  exact hl

theorem State.beginFault_linkUp (s : State) (b : Nat) : (s.beginFault b).port.linkUp = s.port.linkUp :=
  Port.linkUp_of_bare (s.beginFault_portBare b)

@[simp] theorem State.settlePause_linkUp (s : State) : s.settlePause.port.linkUp = s.port.linkUp := by
  unfold State.settlePause State.sendPause
  dsimp only
  (repeat' split) <;> rfl

@[simp] theorem State.discardPartial_linkUp (s : State) (sub : Byte) : (s.discardPartial sub).port.linkUp = s.port.linkUp := by
  unfold State.discardPartial
  split
  · have h : ((s.logEvent 0x11 sub 0).bump 2).port.bare = s.port.bare := by simp
    have hl := Port.linkUp_of_bare h
    dsimp only
    unfold Port.cut
    exact hl
  · rfl

theorem State.linkLost_linkUp (s : State) : s.linkLost.port.linkUp = false := by
  unfold State.linkLost
  split
  · unfold State.dropPartial
    rw [State.settlePause_linkUp]
    exact State.discardPartial_linkUp _ _
  · next h => simpa using h

theorem State.failBringUp_fault (s : State) (cause : Byte) (b : Nat) :
    (s.failBringUp cause).power.fault b = (s.power.fault b || b == 32) :=
  State.beginFault_fault s 32 b (by decide)

/-! ## The falls of MON, of a DAC supply, of DPHY, CPORT and LINK -/

theorem State.loseMon_of_done {s : State} (hs : s.power.stage = .done) :
    s.loseMon = ((((s.setGood .mon false).beginFault 6).retreatAll).suspendSense).loseSight := by
  unfold State.loseMon State.isUp
  rw [hs]
  rfl

theorem State.loseDac_fitted {s : State} {d : Domain} {b : Bank} (hf : s.power.fitted[b] = true) :
    (s.loseDac d b).power.fault (7 + b.val) = true ∧ (s.loseDac d b).cal.owed[b] = true ∧
      (∀ n : Chan, bankOf n = b → ((s.loseDac d b).chan[n]).released = true) ∧
      (∀ n : Chan, bankOf n ≠ b → (s.loseDac d b).chan[n] = s.chan[n]) ∧ memoryStands s (s.loseDac d b) ∧
      (s.loseDac d b).ledger = s.ledger := by
  unfold State.loseDac
  rw [hf]
  dsimp only
  rw [if_neg (by decide)]
  refine ⟨?_, by simp, fun n hn => ?_, fun n hn => ?_, (memoryStands_iff _ _).mpr ?_, ?_⟩
  · dsimp only
    rw [State.release_power]
    exact State.beginFault_has _ (by omega)
  · dsimp only
    rw [State.release_get_of_named _ (by simp [hn])]
    rfl
  · dsimp only
    rw [State.release_get, if_neg (by simp [hn])]
    simp
  · dsimp only
    rw [State.release_mem, State.beginFault_bare]
    rfl
  · simp

/-- A loss of DRAM retreats what DRAM feeds, and moves no other channel, no byte and nothing that is live (R327). -/
theorem State.loseDram_retreats (s : State) {cause : Nat} (hc : cause < 64) :
    (s.loseDram cause).power.fault cause = true ∧ (s.loseDram cause).power.stage = s.power.stage ∧
      (∀ n : Chan, s.fedFromDram n = true → ((s.loseDram cause).chan[n]).released = true ∨ ((s.loseDram cause).chan[n]).retreated = true) ∧
      (∀ n : Chan, s.fedFromDram n = false → (s.loseDram cause).chan[n] = s.chan[n]) ∧
      (s.loseDram cause).mem.cells = s.mem.cells ∧ (s.loseDram cause).txn.live = s.txn.live := by
  unfold State.loseDram
  refine ⟨?_, by simp, fun n hn => ?_, fun n hn => ?_, by simp, ?_⟩
  · dsimp only
    rw [State.retreat_power]
    exact State.beginFault_has _ hc
  · dsimp only
    rw [State.retreat_get, if_pos hn]
    exact Channel.retreat_retreated _ _ _
  · dsimp only
    rw [State.retreat_get, if_neg (by simp [hn])]
    simp
  · dsimp only
    rw [State.retreat_txn]
    exact ((State.inForce_eq_iff _ _).mp (s.beginFault_inForce cause)).1

/-- A stage before CLOCK ends, or after it, is neither the end of bring-up nor one without supplies. -/
theorem Stage.clock_or_after {st : Stage} (h : st = .clock ∨ st.afterClock = true) :
    (st == Stage.done) = false ∧ (st == .clock || st.afterClock) = true := by
  cases st <;> simp_all [Stage.afterClock]

theorem State.loseDphy_fails {s : State} (hf : s.mem.fitted = true) (hs : s.power.stage = .clock ∨ s.power.stage.afterClock = true) :
    s.loseDphy = (s.setGood .dphy false).failBringUp 0xA3 := by
  obtain ⟨hup, hst⟩ := Stage.clock_or_after hs
  unfold State.loseDphy State.isUp
  rw [hf, hup]
  exact if_pos hst

/-- The stages that the content port and the links belong to: bring-up from SUPPLY on, and after it. -/
theorem Stage.powered {st : Stage} (h : st = .done ∨ st.runs = true ∧ st ≠ .strap) :
    (st == .reset) = false ∧ (st == .rstLow) = false ∧ (st == .strap) = false := by
  cases st <;> simp_all [Stage.runs]

theorem State.loseCport_powered {s : State} (hon : s.power.portOn = true)
    (hs : s.power.stage = .done ∨ s.power.stage.runs = true ∧ s.power.stage ≠ .strap) :
    s.loseCport.power.fault 11 = true ∧ s.loseCport.port.linkUp = false ∧ s.loseCport.chan = s.chan ∧
      s.loseCport.power.stage =
        (if s.power.bootsFromFlash = false ∧ (s.power.stage = .clock ∨ s.power.stage.afterClock = true) then .failed 0x86
         else s.power.stage) := by
  obtain ⟨hr, hl, hst⟩ := Stage.powered hs
  unfold State.loseCport
  dsimp only
  rw [hon, hr, hl, hst]
  rw [if_neg (by decide)]
  generalize hu : ({ s.setGood .cport false with port := { (s.setGood .cport false).port with rxFault := false } } : State) = u
  have huc : u.chan = s.chan := by rw [← hu, State.setGood_chan]
  have hup : u.power = (s.setGood .cport false).power := by rw [← hu]
  split
  · next h =>
    rw [if_pos (by simpa using h)]
    refine ⟨?_, ?_, by simp [huc], rfl⟩
    · rw [State.failBringUp_fault, State.beginFault_has _ (by decide)]
      rfl
    · change ((u.linkLost.beginFault 11).beginFault 32).port.linkUp = false
      rw [State.beginFault_linkUp, State.beginFault_linkUp, State.linkLost_linkUp]
  · next h =>
    rw [if_neg (by simpa using h)]
    exact ⟨State.beginFault_has _ (by decide), by rw [State.beginFault_linkUp, State.linkLost_linkUp], by simp [huc],
      by simp [hup]⟩

/-- LINK without a supply: no port is live. -/
theorem State.portLive_of_low {s : State} (h : s.power.isGood .link = false) (p : LinkPort) : s.portLive p = false := by
  unfold State.portLive
  rw [h]
  rfl

/-- The fall of LINK in a chain: cause 12, and with it the loss of a reference that came over port A (R486). -/
theorem State.loseLink_powered {s : State} (hrole : s.power.role ≠ .standalone)
    (hs : s.power.stage = .done ∨ s.power.stage.runs = true ∧ s.power.stage ≠ .strap) :
    ∃ u : State, s.loseLink = (if s.power.refIsPortA then u.loseReference else u) ∧ u.power.fault 12 = true ∧
      u.power.isGood .link = false ∧ u.power.stage = s.power.stage ∧ u.chan = s.chan := by
  obtain ⟨hr, hl, hst⟩ := Stage.powered hs
  refine ⟨State.beginFault { s.setGood .link false with chain := (s.setGood .link false).chain.dropLink } 12, ?_,
    State.beginFault_has _ (by decide), ?_, ?_, ?_⟩
  · unfold State.loseLink
    dsimp only
    rw [hr, hl, hst, beq_eq_false_iff_ne.mpr hrole]
    rfl
  · rw [State.beginFault_isGood]
    exact (s.setGood_isGood .link .link false).trans (if_pos rfl)
  · rw [State.beginFault_stage]
    rfl
  · rw [State.beginFault_chan]
    rfl

/-- The loss of the reference after bring-up: cause 0, and every output released (R57). -/
theorem State.loseReference_of_done {s : State} (hs : s.power.stage = .done) :
    s.loseReference = (State.beginFault { s with power := { s.power with refValid := false } } 0).releaseAll := by
  unfold State.loseReference State.isUp
  rw [hs]
  rfl

theorem State.loseReference_of_after {s : State} (hs : s.power.stage.afterClock = true) : s.loseReference = s.returnToClock :=
  if_pos hs

/-- The loss of the reference leaves the causes that outlive a reset, and the supplies. -/
theorem State.loseReference_keeps (s : State) {b : Nat} (hb : lastingCauses.getLsbD b = true) (hf : s.power.fault b = true)
    (d : Domain) : s.loseReference.power.fault b = true ∧ s.loseReference.power.isGood d = s.power.isGood d := by
  unfold State.loseReference
  split
  · exact ⟨by rw [State.returnToClock_fault, hf, hb]; rfl, s.returnToClock_isGood d⟩
  · dsimp only
    generalize hu : ({ s with power := { s.power with refValid := false } } : State) = u
    have hf' : u.power.fault b = true := by rw [← hu]; exact hf
    have hg' : u.power.isGood d = s.power.isGood d := by rw [← hu]; rfl
    split
    · unfold State.releaseAll
      rw [State.release_power, State.beginFault_fault _ _ _ (by decide), State.beginFault_isGood, hf']
      exact ⟨rfl, hg'⟩
    · exact ⟨hf', hg'⟩

/-! ## Supplies that are good again -/

theorem exec_supplyGood_core {s : State} {d : Domain} {bit : Nat} (hd : coreCause d bit) (hb : s.power.fault bit = true)
    (hs : s.power.stage = .done) (tests : Vector SelfTest 4) :
    exec (.supplyGood d tests) s = .next (((s.setGood d true).clearFault bit).restartAtSupply) := by
  have key : (s.setGood d true).returnCoreSupply bit = ((s.setGood d true).clearFault bit).restartAtSupply := by
    unfold State.returnCoreSupply State.isUp
    rw [if_pos (show (s.setGood d true).power.fault bit = true from hb)]
    dsimp only
    rw [State.setGood_stage, hs]
    rfl
  rw [← key]
  obtain ⟨rfl, rfl⟩ | ⟨rfl, rfl⟩ | ⟨rfl, rfl⟩ := hd <;> rfl

/-- Settles O17: each fall of a supply that the dip makes is one of the falls above, and each return one of theirs. -/
theorem supplyLossAndReturn : Obligations.SupplyLossAndReturn := by
  unfold Obligations.SupplyLossAndReturn
  refine ⟨fun s ns d bit hd hns hg hs => ?core, fun s ns hns hg hs => ?mon, fun s ns b hns hg hf => ?dac,
    fun s ns hns hg hf => ⟨fun hs h13 => ?dphyDone, fun hs => ?dphyEarly⟩, fun s ns hns hg hf => ?dphyUnfitted,
    fun s ns hns hg hon hs => ?cport, fun s ns hns hg hrole hs => ?link, fun s ns d bit hd hns hg hr hs => ?restart,
    fun s d bit tests hd hb hs => ?coreGood, fun s tests hs hb hg hp => ?monGood, fun s tests => ?linkGood,
    fun s tests => ⟨fun hg => ?cportStays, fun hg => ?cportGood⟩, fun s d tests hd => ?others⟩
  case core =>
    refine ⟨_, exec_supplyBrownOut_of_long hns hg, ?_⟩
    rw [State.loseSupply_core s hd]
    exact State.loseCoreSupply_done_releases hs (coreCause.lasts hd).1
  case mon =>
    refine ⟨_, exec_supplyBrownOut_of_long hns hg, ?_⟩
    rw [State.loseSupply, State.loseMon_of_done hs]
    have hall := ((s.setGood .mon false).beginFault 6).retreatAll_allRetreated
    refine ⟨fun n => ?_, ?_, fun n => ?_, (memoryStands_iff _ _).mpr ?_, by simp [State.retreatAll]⟩
    · obtain ⟨hr, ht⟩ := ((((s.setGood .mon false).beginFault 6).retreatAll).suspendSense).loseSight_get n
      rw [hr]
      rw [State.suspendSense_chan] at ht ⊢
      exact (hall n).imp_right ht
    · rw [State.loseSight_power, State.suspendSense_power, State.retreatAll, State.retreat_power]
      exact State.beginFault_has _ (by decide)
    · rw [(State.loseSight_get _ n).1, State.suspendSense_chan, State.retreatAll, State.retreat_released]
      simp
    · rw [State.loseSight_mem, State.suspendSense_mem, State.retreatAll, State.retreat_mem, State.beginFault_bare]
      rfl
  case dac =>
    refine ⟨_, exec_supplyBrownOut_of_long hns hg, ?_⟩
    rw [State.loseSupply_dac]
    exact State.loseDac_fitted hf
  case dphyDone =>
    refine ⟨(s.setGood .dphy false).loseDram 13, ?_, ?_⟩
    · rw [exec_supplyBrownOut_of_long hns hg, State.loseSupply, State.loseDphy]
      rw [hf, State.isUp, hs]
      rfl
    · obtain ⟨hb, hst, hfed, hnot, hc, hl⟩ := (s.setGood .dphy false).loseDram_retreats (cause := 13) (by decide)
      exact ⟨hb, hst.trans hs, hfed, hnot, hc, hl⟩
  case dphyEarly =>
    refine ⟨_, exec_supplyBrownOut_of_long hns hg, ?_⟩
    rw [State.loseSupply, State.loseDphy_fails hf hs]
    exact ⟨rfl, State.failBringUp_chan _ _⟩
  case dphyUnfitted =>
    refine ⟨s.setGood .dphy false, ?_, (s.setGood_isGood .dphy .dphy false).trans (if_pos rfl), s.setGood_moves _ _⟩
    rw [exec_supplyBrownOut_of_long hns hg, State.loseSupply, State.loseDphy]
    rw [hf]
    rfl
  case cport => exact ⟨_, exec_supplyBrownOut_of_long hns hg, State.loseCport_powered hon hs⟩
  case link =>
    obtain ⟨u, hu, h12, hlow, hst, hc⟩ := State.loseLink_powered hrole hs
    refine ⟨_, exec_supplyBrownOut_of_long hns hg, ?_⟩
    rw [State.loseSupply, hu]
    cases href : s.power.refIsPortA
    · exact ⟨h12, hlow, State.portLive_of_low hlow, fun _ => ⟨hst, hc⟩, fun h => absurd h Bool.false_ne_true,
        fun h => absurd h Bool.false_ne_true⟩
    · obtain ⟨h12', hlow'⟩ := u.loseReference_keeps (by decide) h12 .link
      refine ⟨h12', hlow'.trans hlow, State.portLive_of_low (hlow'.trans hlow), fun h => absurd h.symm Bool.false_ne_true,
        fun _ hd => ?_, fun _ ha => ?_⟩
      · rw [if_pos rfl, State.loseReference_of_done (hst.trans hd)]
        refine ⟨?_, ?_, State.releaseAll_allReleased _⟩
        · rw [State.releaseAll, State.release_power, State.beginFault_stage]
          exact hst.trans hd
        · rw [State.releaseAll, State.release_power]
          exact State.beginFault_has _ (by decide)
      · rw [if_pos rfl, State.loseReference_of_after (by rw [hst, ha])]
        exact ⟨rfl, State.returnToClock_allReleased _⟩
  case restart =>
    have hd' : coreCause d bit ∨ d = .mon ∧ bit = 6 := by simpa only [coreCause, or_assoc] using hd
    have hbit : bit < 64 ∧ lastingCauses.getLsbD bit = true := by
      obtain h | ⟨-, rfl⟩ := hd'
      · exact coreCause.lasts h
      · decide
    refine ⟨_, exec_supplyBrownOut_of_long hns hg, ?_⟩
    rw [State.loseSupply_restarts hd' hr hs]
    refine ⟨rfl, State.restartAtSupply_allReleased _, ?_, by simp, State.beginFault_straps _ _, ?_, State.beginFault_cells _ _⟩
    · rw [State.restartAtSupply_fault, State.beginFault_has _ hbit.1, hbit.2]
      rfl
    · have hl := congrArg Ledger.region ((s.setGood d false).beginFault_ledger bit)
      exact hl
  case coreGood =>
    have hl := congrArg Ledger.region ((s.setGood d true).clearFault_ledger bit)
    refine ⟨_, exec_supplyGood_core hd hb hs tests, rfl, State.restartAtSupply_allReleased _, by simp, ?_,
      State.clearFault_straps _ _, hl⟩
    rw [State.restartAtSupply_fault, State.clearFault_lacks _ (coreCause.lasts hd).1]
    rfl
  case monGood =>
    refine ⟨(s.setGood .mon true).testBanks tests, ?_, State.testBanks_of_pass (by simp) hp⟩
    change execSupplyGood .mon tests s = _
    unfold execSupplyGood State.isUp
    dsimp only
    rw [hs, hb, hg]
    rfl
  case linkGood =>
    exact ⟨(s.setGood .link true).clearFault 12, rfl, by simp, State.clearFault_lacks _ (by decide), by simp, by simp, by simp⟩
  case cportStays =>
    change execSupplyGood .cport tests s = _
    unfold execSupplyGood
    dsimp only
    rw [hg]
    rfl
  case cportGood =>
    refine ⟨{ s.setGood .cport true with port := { s.port with goodAt := s.clock.clk } }, ?_,
      (s.setGood_isGood .cport .cport true).trans (if_pos rfl), rfl, ?_⟩
    · change execSupplyGood .cport tests s = _
      unfold execSupplyGood
      dsimp only
      rw [hg]
      rfl
    · intro p hp
      cases p <;> simp_all [State.agree]
  case others => obtain rfl | rfl | rfl | rfl | rfl := hd <;> rfl

end Sys2Proof.Machine
end

section
/-! PROOFS. The CLOCK stage. -/

namespace Sys2Proof.Machine

/-! ## What the pins show -/

theorem State.stCode_of_runs {s : State} (h : s.power.stage.runs = true) : s.stCode = 1 := by
  unfold State.stCode
  split <;> simp_all [Stage.runs]

/-- A word with a bit set is not 0. -/
theorem bitVec_ne_zero {w : Nat} {x : BitVec w} {b : Nat} (h : x.getLsbD b = true) : x ≠ 0 := by
  rintro rfl
  simp at h

/-- After bring-up a cause that releases every output shows 0b111 (Table 5.7). -/
theorem State.stCode_of_releaseCause {s : State} {b : Nat} (hs : s.power.stage = .done) (hb : s.power.fault b = true)
    (hr : releaseCauses.getLsbD b = true) : s.stCode = 7 := by
  have hand : (s.power.faults &&& releaseCauses).getLsbD b = true := by
    rw [BitVec.getLsbD_and, hr]
    simpa [Power.fault] using hb
  unfold State.stCode
  rw [hs]
  exact if_pos (bitVec_ne_zero hand)

theorem State.fltLow_of_runs {s : State} (h : s.power.stage.runs = true) :
    s.fltLow = (s.power.faults &&& s.stageCauses != 0) := by
  unfold State.fltLow
  split <;> simp_all [Stage.runs]

/-- While a stage runs, a wait that is reported pulls FLT_N low (R110). -/
theorem State.fltLow_of_report {s : State} {b : Nat} (h : s.power.stage.runs = true) (hb : s.power.fault b = true)
    (hr : b = 29 ∨ b = 30 ∨ b = 31) : s.fltLow = true := by
  rw [State.fltLow_of_runs h, bne_iff_ne]
  refine bitVec_ne_zero (b := b) ?_
  have hcause : s.stageCauses.getLsbD b = true := by
    have hw : (0xE0000000#64).getLsbD b = true := by obtain rfl | rfl | rfl := hr <;> rfl
    unfold State.stageCauses
    simp only [BitVec.getLsbD_or, hw, Bool.true_or]
  rw [BitVec.getLsbD_and, hcause]
  simpa [Power.fault] using hb

/-! ## The reference and the lock -/

theorem exec_referenceValid_inClock {s : State} {edges chars : Nat} (hs : s.power.stage = .clock) (hr : s.power.refValid = false)
    (hq : s.power.qualifies edges chars = true) :
    exec (.referenceValid edges chars) s =
      .next ((State.clearFault { s with power := { s.power with refValid := true } } 29).enterStage .clock) := by
  change execReferenceValid edges chars s = _
  unfold execReferenceValid
  rw [hq, hr]
  exact if_pos hs

theorem exec_referenceWaitTimeout {s : State} (hs : s.power.stage = .clock) (hr : s.power.refValid = false) :
    exec .referenceWaitTimeout s =
      .next { s.beginFault 29 with power := { (s.beginFault 29).power with mkCode := 0x8C } } := by
  change execReferenceWaitTimeout s = _
  unfold execReferenceWaitTimeout
  rw [hs, hr]
  rfl

theorem exec_referenceLost_onRefclk {s : State} {edges : Nat} (hr : s.power.refValid = true) (hp : s.power.refIsPortA = false)
    (he : edges < 51200) : exec (.referenceLost edges true) s = .next s.loseReference := by
  change execReferenceLost edges true s = _
  unfold execReferenceLost
  rw [hr, hp, decide_eq_true he]
  rfl

/-- REFIN from 1.10 V to below 1.40 V is taken (R245). -/
theorem State.measureRefin_of_range (s : State) {mv : Nat} (h : 1100 ≤ mv) (h' : mv < 1400) :
    s.measureRefin mv = { s with power := { s.power with refinMv := mv } } :=
  if_pos (.inr ⟨h, h'⟩)

theorem exec_pllLock_inClock {s : State} {mv : Nat} (pins : Vector PinSample 3) (hs : s.power.stage = .clock)
    (hr : s.power.refValid = true) (hl : s.power.locked = false) :
    exec (.pllLock pins mv) s =
      .next ((State.enterStage { s.lock pins with power := { (s.lock pins).power with clocked := true } } .core).measureRefin mv) := by
  change execPllLock pins mv s = _
  unfold execPllLock
  rw [hr, hl]
  exact if_pos hs

theorem exec_pllLockTimeout {s : State} (hs : s.power.stage = .clock) (hr : s.power.refValid = true)
    (hl : s.power.locked = false) : exec .pllLockTimeout s = .next (s.failBringUp 0x90) := by
  change execPllLockTimeout s = _
  unfold execPllLockTimeout
  rw [hs, hr, hl]
  rfl

theorem exec_pllLockLost {s : State} (hl : s.power.locked = true) :
    exec .pllLockLost s =
      .next (if s.power.stage.afterClock = true then s.returnToClock
        else (State.beginFault { s with power := { s.power with locked := false } } 1).releaseAll) := by
  change execPllLockLost s = _
  unfold execPllLockLost
  rw [hl, if_neg (by decide)]
  exact (apply_ite Host.Outcome.next _ _ _).symm

/-- A cause that releases every output, begun after bring-up: its bit stands, FLT_N is low, ST reads 0b111, and the memory and
the ledger stand. -/
theorem State.releasedBy {s : State} {b : Nat} (hs : s.power.stage = .done) (hb : b < 64) (hr : releaseCauses.getLsbD b = true) :
    ((s.beginFault b).releaseAll).allReleased ∧ ((s.beginFault b).releaseAll).power.fault b = true ∧
      ((s.beginFault b).releaseAll).fltLow = true ∧ ((s.beginFault b).releaseAll).stCode = 7 ∧
      memoryStands s ((s.beginFault b).releaseAll) ∧ ((s.beginFault b).releaseAll).ledger = s.ledger := by
  have hst : ((s.beginFault b).releaseAll).power.stage = .done := by
    rw [State.releaseAll, State.release_power, State.beginFault_stage, hs]
  have hf : ((s.beginFault b).releaseAll).power.fault b = true := by
    rw [State.releaseAll, State.release_power]
    exact State.beginFault_has _ hb
  refine ⟨State.releaseAll_allReleased _, hf, State.fltLow_of_done hst hf, State.stCode_of_releaseCause hst hf hr,
    (memoryStands_iff _ _).mpr ?_, by simp [State.releaseAll]⟩
  rw [State.releaseAll, State.release_mem]
  exact State.beginFault_bare _ _

/-- Settles O18: each command is one clear step of CLOCK, a failure, or a cause that releases every output. -/
theorem clockStages : Obligations.ClockStages := by
  unfold Obligations.ClockStages
  refine ⟨fun s edges chars hs hr hq => ?valid, fun s hs hr => ?wait, fun s edges hs hr hp he => ?lost,
    fun s pins mv hs hr hl h1 h2 => ?lock, fun s hs hr hl => ?timeout, fun s hs hl => ?unlock, fun s hs hl => ?back⟩
  case valid =>
    refine ⟨_, exec_referenceValid_inClock hs hr hq, ?_, ?_, rfl, rfl, ?_⟩
    · exact State.clearFault_refValid _ _
    · exact State.clearFault_lacks _ (by decide)
    · exact State.clearFault_chan _ _
  case wait =>
    have hst : (s.beginFault 29).power.stage = .clock := by rw [State.beginFault_stage, hs]
    have hruns : Stage.runs (s.beginFault 29).power.stage = true := by rw [hst]; rfl
    exact ⟨_, exec_referenceWaitTimeout hs hr, rfl, hst,
      State.fltLow_of_report hruns (State.beginFault_has s (by decide)) (.inl rfl), State.stCode_of_runs hruns,
      State.beginFault_chan _ _⟩
  case lost =>
    refine ⟨_, exec_referenceLost_onRefclk hr hp he, ?_⟩
    rw [State.loseReference_of_done hs]
    obtain ⟨hall, hf, hflt, hst, hm, hl⟩ := State.releasedBy (s := { s with power := { s.power with refValid := false } })
      (b := 0) hs (by decide) (by decide)
    refine ⟨hall, hf, hflt, hst, ?_, hm, hl⟩
    rw [State.releaseAll, State.release_power]
    exact State.beginFault_refValid _ _
  case lock =>
    refine ⟨_, exec_pllLock_inClock pins hs hr hl, ?_⟩
    rw [State.measureRefin_of_range _ h1 h2]
    exact ⟨rfl, rfl, rfl, rfl, rfl, rfl, rfl, rfl, rfl⟩
  case timeout =>
    exact ⟨_, exec_pllLockTimeout hs hr hl, rfl, rfl, rfl, State.failBringUp_chan _ _⟩
  case unlock =>
    refine ⟨_, exec_pllLockLost hl, ?_⟩
    rw [hs, if_neg (by decide)]
    obtain ⟨hall, hf, hflt, -, hm, hl'⟩ := State.releasedBy (s := { s with power := { s.power with locked := false } })
      (b := 1) hs (by decide) (by decide)
    refine ⟨?_, hall, hf, hflt, hm, hl'⟩
    rw [State.releaseAll, State.release_power]
    exact State.beginFault_locked _ _
  case back =>
    refine ⟨_, exec_pllLockLost hl, ?_⟩
    rw [if_pos hs]
    exact ⟨rfl, rfl, State.returnToClock_allReleased _, rfl, rfl, rfl⟩

end Sys2Proof.Machine
end

section
/-! PROOFS. How DRAM ends, and the late stages' bounds. -/

namespace Sys2Proof.Machine

/-! ## The end of DRAM training -/

/-- What the retirement of devices leaves of the maps, which nothing then fills: no segment, no page used, no Bog entry. -/
def Mem.mapsEmpty (m : Mem) : Prop := m.segs = [] ∧ m.used = [] ∧ m.bog = [] ∧ m.history = []

/-- The memory as DRAM training finds it. -/
def TrainReport.found (r : TrainReport) (cells : List Host.Cell) : Mem :=
  { Mem.initial with cells := cells, fitted := true, density := r.densities.headD 0, ranks := (r.ranks[0]).val }

/-- The devices of a subchannel that failed training. -/
def TrainReport.failedOf (r : TrainReport) (sub : Fin 2) : List DramDevice := r.failed.dedup.filter fun d => d.sub == sub

/-- A device that is retired while no line is listed asks for nothing again. -/
theorem State.retire_of_noBog {s : State} (h : s.mem.bog = []) (dev : DramDevice) (since : Nat) :
    (s.retire dev since).mem = { s.mem with retired := s.mem.retired.set dev.sub (some (dev.rank, dev.lane)) } ∧
      (s.retire dev since).chan = s.chan ∧ (s.retire dev since).power = s.power := by
  unfold State.retire
  dsimp only
  rw [State.logEvent_mem]
  dsimp only
  rw [h]
  exact ⟨State.logEvent_mem _ _ _ _ _, State.logEvent_chan _ _ _ _ _, State.logEvent_power _ _ _ _ _⟩

/-- Devices retired in turn while no line is listed: a subchannel has the last of its own retired. -/
theorem State.retireAll_of_noBog (l : List DramDevice) {s : State} (h : s.mem.bog = []) :
    ∃ retired, (l.foldl (fun s d => s.retire d 0) s).mem = { s.mem with retired := retired } ∧
      (l.foldl (fun s d => s.retire d 0) s).chan = s.chan ∧ (l.foldl (fun s d => s.retire d 0) s).power = s.power ∧
      ∀ sub : Fin 2, retired[sub] =
        ((l.filter fun d => d.sub == sub).getLast?.map fun d => (d.rank, d.lane)).or s.mem.retired[sub] := by
  induction l generalizing s with
  | nil => exact ⟨s.mem.retired, rfl, rfl, rfl, fun sub => rfl⟩
  | cons d l ih =>
    obtain ⟨hm, hc, hp⟩ := State.retire_of_noBog h d 0
    obtain ⟨retired, hm', hc', hp', hr⟩ := ih (s := s.retire d 0) (by rw [hm]; exact h)
    refine ⟨retired, by rw [List.foldl_cons, hm', hm], hc'.trans hc, hp'.trans hp, fun sub => ?_⟩
    rw [hr sub, hm]
    by_cases hs : d.sub = sub
    · have hbeq : (d.sub == sub) = true := by simpa using hs
      rw [List.filter_cons_of_pos (by simpa using hbeq), List.getLast?_cons]
      cases hl : (l.filter fun d => d.sub == sub).getLast? <;> simp [hs]
    · have hv : d.sub.val ≠ sub.val := fun h => hs (Fin.ext h)
      rw [List.filter_cons_of_neg (by simpa using hs)]
      congr 1
      simp [hv]

/-- Of fewer than two, the last is the first. -/
theorem getLast?_of_length_lt_two {α : Type} {l : List α} (h : l.length < 2) : l.getLast? = l.head? := by
  match l with
  | [] => rfl
  | [x] => rfl
  | _ :: _ :: _ => simp at h

theorem exec_dramTrainingDone {s : State} {r : TrainReport} (hs : s.power.stage = .dram) :
    exec (.dramTrainingDone r) s =
      .next (if TrainReport.unidentified r = true then s.failBringUp 0xA0
        else if ((List.finRange 2).any fun sub => decide (2 ≤ (TrainReport.failedOf r sub).length)) = true then s.failBringUp 0xA1
        else ((r.failed.dedup).foldl (fun s d => State.retire s d 0) { s with mem := TrainReport.found r s.mem.cells }).enterStage .image) := by
  change execDramTrainingDone r s = _
  unfold execDramTrainingDone
  rw [if_pos hs]
  dsimp only
  split
  · rfl
  · exact (apply_ite Host.Outcome.next _ _ _).symm

theorem exec_imageWaitTimeout {s : State} (hs : s.power.stage = .image) (hb : s.power.bootsFromFlash = false) :
    exec .imageWaitTimeout s = .next { s.beginFault 30 with power := { (s.beginFault 30).power with mkCode := 0xAD } } := by
  change execImageWaitTimeout s = _
  unfold execImageWaitTimeout
  rw [hs, hb]
  rfl

theorem exec_trimWaitTimeout {s : State} (hs : s.power.stage = .trimWait) (ht : s.trimmed = false) (hc : 256 ≤ s.cal.sinceCore) :
    exec .trimWaitTimeout s = .next (s.failBringUp 0x95) := by
  change execTrimWaitTimeout s = _
  unfold execTrimWaitTimeout
  rw [hs, ht, decide_eq_true hc]
  rfl

/-- Settles O20: the ends of DRAM, its bound, that of TRIM-WAIT, and the two waits that are reported. -/
theorem lateStageBounds : Obligations.LateStageBounds := by
  unfold Obligations.LateStageBounds
  refine ⟨fun s r hs => ⟨_, exec_dramTrainingDone hs, ?_⟩,
    fun s hs => ⟨s.failBringUp 0xA2, if_pos hs, rfl, State.failBringUp_chan _ _, (memoryStands_iff _ _).mpr (State.failBringUp_bare _ _)⟩,
    fun s hs ht hc => ⟨_, exec_trimWaitTimeout hs ht hc, rfl, State.failBringUp_chan _ _,
      (memoryStands_iff _ _).mpr (State.failBringUp_bare _ _)⟩,
    fun s hs hb => ⟨_, exec_imageWaitTimeout hs hb, ?_⟩, fun s hs => ⟨_, if_pos hs, ?_⟩⟩
  · obtain ⟨retired, hm, hc, hp, hr⟩ := State.retireAll_of_noBog r.failed.dedup (s := { s with mem := TrainReport.found r s.mem.cells }) rfl
    by_cases hu : TrainReport.unidentified r = true
    · rw [if_pos hu]
      exact ⟨State.failBringUp_chan _ _, State.failBringUp_cells _ _, fun _ => rfl,
        fun h => absurd (hu.symm.trans h) Bool.true_eq_false.mp, fun h => absurd (hu.symm.trans h) Bool.true_eq_false.mp⟩
    · rw [if_neg hu]
      have hany : ((List.finRange 2).any fun sub => decide (2 ≤ (TrainReport.failedOf r sub).length)) = true ↔
          ∃ sub : Fin 2, 2 ≤ (r.failed.dedup.filter fun d => d.sub == sub).length := by
        rw [List.any_eq_true]
        simp only [List.mem_finRange, true_and, TrainReport.failedOf]
        exact exists_congr fun _ => decide_eq_true_iff
      generalize (r.failed.dedup).foldl (fun s d => State.retire s d 0) { s with mem := TrainReport.found r s.mem.cells } = u at *
      split
      · next ha =>
        obtain ⟨sub, hsub⟩ := hany.mp ha
        exact ⟨State.failBringUp_chan _ _, State.failBringUp_cells _ _, fun h => absurd h hu, fun _ _ => rfl,
          fun _ h => absurd hsub (Nat.not_le_of_lt (h sub))⟩
      · next ha =>
        refine ⟨hc, ?_, fun h => absurd h hu, fun _ h => absurd (hany.mpr h) ha, fun _ h => ⟨rfl, ?_⟩⟩
        · rw [State.enterStage_mem, hm]
          rfl
        · have hret : (u.enterStage .image).mem.retired = retired := congrArg Mem.retired hm
          refine ⟨congrArg Mem.segs hm, congrArg Mem.used hm, congrArg Mem.bog hm, congrArg Mem.history hm, congrArg Mem.fitted hm,
            congrArg Mem.density hm, congrArg Mem.ranks hm, fun sub => ?_⟩
          refine (congrArg (fun v : Vector _ 2 => v[sub]) hret).trans ?_
          rw [hr sub, getLast?_of_length_lt_two (h sub)]
          have hnone : (TrainReport.found r s.mem.cells).retired[sub] = none := by simp [TrainReport.found, Mem.initial]
          rw [hnone, Option.or_none]
  · have hst : (s.beginFault 30).power.stage = .image := by rw [State.beginFault_stage, hs]
    have hruns : Stage.runs (s.beginFault 30).power.stage = true := by rw [hst]; rfl
    have hport := s.beginFault_portBare 30
    have himage := congrArg Port.image hport
    have hstream := congrArg Port.stream hport
    exact ⟨hst, rfl, State.fltLow_of_report hruns (State.beginFault_has s (by decide)) (.inr (.inl rfl)), State.stCode_of_runs hruns,
      himage, hstream⟩
  · have hst : (s.beginFault 31).power.stage = .join := by rw [State.beginFault_stage, hs]
    have hruns : Stage.runs (s.beginFault 31).power.stage = true := by rw [hst]; rfl
    exact ⟨hst, rfl, State.fltLow_of_report hruns (State.beginFault_has s (by decide)) (.inr (.inr rfl)), State.stCode_of_runs hruns⟩

end Sys2Proof.Machine
end

section
/-! PROOFS. Stuck pins and invalid MODE codes. -/

namespace Sys2Proof.Machine

/-! ## A fault that begins, and the transaction (R144) -/

/-- The queue of outcomes is what the events, the votes and the end of probation leave alone. -/
@[simp] theorem State.logEvent_outcomes (s : State) (code sub : Byte) (obj : BitVec 16) (data : BitVec 48) :
    (s.logEvent code sub obj data).tel.outcomes = s.tel.outcomes := by
  unfold State.logEvent State.bump
  dsimp only
  split <;> rfl

/-- A fault that arises leaves no transaction, and says so where there was one. -/
theorem State.faultDiscards_txn (s : State) :
    s.faultDiscards.txn.state = .idle ∧
      s.faultDiscards.txn.shadow = (if s.txn.state = .idle then s.txn.shadow else none) ∧
      (s.txn.state ≠ .idle → s.faultDiscards.tel.outcomes.getLast?.map OutcomeEntry.code = some 3) := by
  have htxn : s.faultDiscards.txn = (s.discard 3).txn := by
    unfold State.faultDiscards
    dsimp only
    split <;> simp
  have htel : s.faultDiscards.tel = (s.discard 3).tel := by
    unfold State.faultDiscards
    dsimp only
    split <;> simp
  rw [htxn, htel]
  refine ⟨State.discard_state _ _ _, ?_, fun h => ?_⟩
  · unfold State.discard
    split <;> rfl
  · have hd : (s.discard 3).tel.outcomes = (s.outcome 3).tel.outcomes := by
      unfold State.discard
      rw [if_neg h, State.closeTxn_tel]
    rw [hd, State.outcome_last]
    rfl

/-- The same of a cause that begins and was not present. -/
theorem State.beginFault_discards {s : State} {b : Nat} (h : s.power.fault b = false) :
    (s.beginFault b).txn.state = .idle ∧
      (s.beginFault b).txn.shadow = (if s.txn.state = .idle then s.txn.shadow else none) ∧
      (s.txn.state ≠ .idle → lastOutcome (s.beginFault b) = some 3) := by
  unfold State.beginFault
  rw [if_neg (by simp [h])]
  dsimp only
  have hends (u : State) : (u.endsProbation b).txn.state = u.txn.state ∧ (u.endsProbation b).txn.shadow = u.txn.shadow := by
    unfold State.endsProbation
    split <;> exact ⟨rfl, rfl⟩
  unfold lastOutcome
  rw [(hends _).1, (hends _).2, State.endsProbation_tel]
  split
  · obtain ⟨h1, h2, h3⟩ := (State.logEvent { s with power := { s.power with faults := s.power.faults ||| 1#64 <<< b } } 8 0
      (BitVec.ofNat 16 b)).faultDiscards_txn
    rw [State.logEvent_txn] at h2 h3
    exact ⟨h1, h2, h3⟩
  · exact State.faultDiscards_txn _

/-! ## Stuck pins and MODE codes -/

theorem exec_txStuckPin {s : State} {pin : TxPin} {samples : List Bool} (hw : s.watchesPins = true)
    (hp : s.pins.stuck[txIndex pin] = false) (hf : 65536 ≤ s.txHighFor pin samples) :
    exec (.txStuckPin pin samples) s =
      .next (State.beginFault { s with pins := { s.pins with stuck := s.pins.stuck.set (txIndex pin) true } }
        (18 + (txIndex pin).val)) := by
  change execTxStuckPin pin samples s = _
  unfold execTxStuckPin
  rw [if_pos (by simp_all)]

theorem exec_txStuckPinClear {s : State} {pin : TxPin} {samples : List Bool} (hw : s.watchesPins = true)
    (hp : s.pins.stuck[txIndex pin] = true) (hn : (lastN 16 (filtered samples)).length = 16)
    (hl : ∀ x ∈ lastN 16 (filtered samples), x = false) :
    exec (.txStuckPinClear pin samples) s =
      .next (State.clearFault { s with pins := { s.pins with
        stuck := s.pins.stuck.set (txIndex pin) false, txHigh := s.pins.txHigh.set (txIndex pin) none } }
        (18 + (txIndex pin).val)) := by
  have hlow : true ∉ lastN 16 (filtered samples) := fun h => Bool.true_eq_false.mp (hl true h)
  change execTxStuckPinClear pin samples s = _
  unfold execTxStuckPinClear
  rw [if_pos (by simp [hw, hp, hn, hlow])]

theorem exec_modeInvalid {s : State} {samples : List (BitVec 3)} {m : BitVec 3} (hw : s.watchesPins = true)
    (hm : (filteredCodes samples).getLast? = some m) (hi : m = 6 ∨ m = 7) :
    exec (.modeInvalid samples) s = .next (State.beginFault { s with pins := { s.pins with mode := m } } 17) := by
  have hbad : modeInvalid m = true := by obtain rfl | rfl := hi <;> rfl
  change execModeInvalid samples s = _
  unfold execModeInvalid
  rw [hm]
  dsimp only
  rw [hw, hbad]
  rfl

theorem exec_modeValidClear {s : State} {samples : List (BitVec 3)} (hw : s.watchesPins = true) (hf : s.power.fault 17 = true)
    (hn : (lastN 16 (filteredCodes samples)).length = 16)
    (hl : ∀ m ∈ lastN 16 (filteredCodes samples), m.toNat < 6) :
    exec (.modeValidClear samples) s =
      .next (State.clearFault { s with pins := { s.pins with
        mode := (lastN 16 (filteredCodes samples)).getLastD s.pins.mode } } 17) := by
  have hgood : (lastN 16 (filteredCodes samples)).any modeInvalid = false := by
    rw [List.any_eq_false]
    intro m hm
    have hlt := hl m hm
    have h6 : m ≠ 6#3 := by rintro rfl; simp at hlt
    have h7 : m ≠ 7#3 := by rintro rfl; simp at hlt
    simp [modeInvalid, h6, h7]
  change execModeValidClear samples s = _
  unfold execModeValidClear
  rw [if_pos (by simp [hw, hf, hn, hgood])]

/-- A cause that clears after the pins have moved touches the pins, the power state and what reports it. -/
theorem State.clearFault_onPins (s : State) (pins : Pins) (b : Nat) :
    s.onlyMoves (State.clearFault { s with pins := pins } b) [.pins, .power, .tel, .port] := by
  intro p hp
  cases p <;> simp_all [State.agree]

/-- Settles O21: the begin and the end of the causes of the pins. -/
theorem pinFaultsBeginAndEnd : Obligations.PinFaultsBeginAndEnd := by
  unfold Obligations.PinFaultsBeginAndEnd
  refine ⟨fun s pin samples hw hp hlong hf => ?_, fun s pin samples hw hp hn hl => ?_, fun s samples m hw hm hi => ?_,
    fun s samples hw hf hn hl => ?_⟩
  · have hbit : 18 + (txIndex pin).val < 64 := by omega
    refine ⟨_, exec_txStuckPin hw hp hlong, by simp, State.beginFault_has _ hbit, ?_⟩
    obtain ⟨hidle, hshadow, hout⟩ := State.beginFault_discards
      (s := { s with pins := { s.pins with stuck := s.pins.stuck.set (txIndex pin) true } }) (b := 18 + (txIndex pin).val) hf
    exact ⟨hidle, hshadow, hout, State.beginFault_chan _ _,
      ((State.inForce_eq_iff _ _).mp (State.beginFault_inForce _ _)).1, (memoryStands_iff _ _).mpr (State.beginFault_bare _ _)⟩
  · exact ⟨_, exec_txStuckPinClear hw hp hn hl, by simp, State.clearFault_lacks _ (by omega), State.clearFault_onPins _ _ _⟩
  · exact ⟨_, exec_modeInvalid hw hm hi, State.beginFault_has _ (by decide), by simp,
      ((State.inForce_eq_iff _ _).mp (State.beginFault_inForce _ _)).1, State.beginFault_chan _ _, State.beginFault_player _ _⟩
  · exact ⟨_, exec_modeValidClear hw hf hn hl, State.clearFault_lacks _ (by decide), State.clearFault_onPins _ _ _⟩

end Sys2Proof.Machine
end

section
/-! PROOFS. How CORE, FLASH and LEDGER end. -/

namespace Sys2Proof.Machine

/-! ## The end of CORE: the banks are tested (R111, R260) -/

/-- A bank's flag follows its self-test, and its guards resume where it had failed or fails. -/
def State.flagBank (s : State) (b : Bank) (pass : Bool) : State :=
  let s0 := { s with sense := { s.sense with failed := s.sense.failed.set b (!pass) } }
  if s.sense.failed[b] || !pass then s0.onBankInputs (· == b) Input.resumeGuard else s0

theorem State.flagBank_finds (s : State) (b : Bank) (pass : Bool) :
    (s.flagBank b pass).sense.failed = s.sense.failed.set b (!pass) ∧ (s.flagBank b pass).power = s.power := by
  unfold State.flagBank
  dsimp only
  split
  · exact ⟨by simp only [State.onBankInputs], State.onBankInputs_power _ _ _⟩
  · exact ⟨rfl, rfl⟩

theorem State.bankTested_eq (s : State) (b : Bank) (t : SelfTest) :
    s.bankTested b t =
      if testPasses t = true then (s.flagBank b (testPasses t)).clearFault (22 + b.val)
      else ((s.flagBank b (testPasses t)).retreat (s.bankLinked b)).beginFault (22 + b.val) := by
  unfold State.bankTested
  rw [State.flagBank]

theorem State.bankTested_finds (s : State) (b : Bank) (t : SelfTest) :
    (s.bankTested b t).sense.failed = s.sense.failed.set b (!testPasses t) ∧
      ∀ d : Domain, (s.bankTested b t).power.isGood d = s.power.isGood d := by
  obtain ⟨hf, hp⟩ := s.flagBank_finds b (testPasses t)
  rw [State.bankTested_eq]
  split
  · exact ⟨by rw [State.clearFault_sense, hf], fun d => by rw [State.clearFault_isGood, hp]⟩
  · exact ⟨by rw [State.beginFault_sense, State.retreat_sense, hf],
      fun d => by rw [State.beginFault_isGood, State.retreat_power, hp]⟩

theorem State.testBanks_finds (s : State) (tests : Vector SelfTest 4) :
    (∀ b : Bank, (s.testBanks tests).sense.failed[b] = !testPasses tests[b]) ∧
      ∀ d : Domain, (s.testBanks tests).power.isGood d = s.power.isGood d := by
  have hfold (l : List Bank) (u : State) :
      (∀ b : Bank, (l.foldl (fun s b => s.bankTested b tests[b]) u).sense.failed[b] =
          if b ∈ l then !testPasses tests[b] else u.sense.failed[b]) ∧
        ∀ d : Domain, (l.foldl (fun s b => s.bankTested b tests[b]) u).power.isGood d = u.power.isGood d := by
    induction l generalizing u with
    | nil => exact ⟨fun b => rfl, fun d => rfl⟩
    | cons x l ih =>
      obtain ⟨hf, hg⟩ := u.bankTested_finds x tests[x]
      obtain ⟨ihf, ihg⟩ := ih (u.bankTested x tests[x])
      refine ⟨fun b => (ihf b).trans ?_, fun d => (ihg d).trans (hg d)⟩
      rw [hf]
      by_cases hx : x = b
      · simp [hx]
      · have hx' : x.val ≠ b.val := fun h => hx (Fin.ext h)
        simp [Ne.symm hx, hx']
  obtain ⟨hf, hg⟩ := hfold (List.finRange 4) s
  have hsettle (u : State) : u.settleMon.sense = u.sense ∧ ∀ d : Domain, u.settleMon.power.isGood d = u.power.isGood d := by
    unfold State.settleMon
    split
    · exact ⟨State.clearFault_sense _ _, State.clearFault_isGood _ _⟩
    · exact ⟨rfl, fun d => rfl⟩
  unfold State.testBanks
  refine ⟨fun b => ?_, fun d => ((hsettle _).2 d).trans (hg d)⟩
  rw [(hsettle _).1, hf b, if_pos (List.mem_finRange b)]

/-- FLASH begins at the end of CORE, with power-up calibration started (R111). -/
def State.endCore (s : State) (tests : Vector SelfTest 4) : State :=
  let s1 := s.testBanks tests
  State.enterStage { s1 with
    power := { s1.power with coreEnded := true }
    cal := { s1.cal with pass := some (s1.newPass .powerUp 0 0), sinceCore := 0, powerUpDone := false,
                         rsetDone := Vector.replicate 4 false }
    txn := { s1.txn with due := { s1.txn.due with calibration := decide (s.clock.frame = 0) } } } .flash

theorem exec_coreStageEnd {s : State} {sram lk : Bool} {tests : Vector SelfTest 4} (hs : s.power.stage = .core)
    (ht : 1 ≤ s.clock.tick) :
    exec (.coreStageEnd sram tests lk) s =
      .next (if (!sram) = true then s.failBringUp 0x94 else if (!s.power.sealAgrees) = true then s.failBringUp 0x89
        else if (!s.power.bootsFromFlash && (!s.power.isGood .cport || !lk)) = true then s.failBringUp 0x86
        else s.endCore tests) := by
  change execCoreStageEnd sram tests lk s = _
  unfold execCoreStageEnd
  rw [if_pos (by simp [hs, ht])]
  split
  · rfl
  · split
    · rfl
    · exact (apply_ite Host.Outcome.next _ _ _).symm

/-! ## The ends of FLASH -/

theorem exec_sfdpDiscoveryDone {s : State} {r : SfdpReport} (hs : s.power.stage = .flash) :
    exec (.sfdpDiscoveryDone r) s =
      .next (if (!r.signature) = true then s.failBringUp 0x98 else if (!SfdpReport.meets r) = true then s.failBringUp 0x99
        else State.enterStage
          { s with power := { s.power with flashAddr := some (SfdpReport.chosen r), flashMbit := r.densityMbit } }
          (if s.power.provisions = true then .provision else .ledger)) := by
  change execSfdpDiscoveryDone r s = _
  unfold execSfdpDiscoveryDone
  rw [if_pos hs]
  split
  · rfl
  · exact (apply_ite Host.Outcome.next _ _ _).symm

/-! ## The regions of the ledger (R119, R349) -/

/-- The ledger with both regions as their reads give them. -/
def State.regionsRead (s : State) (lo hi : RegionRead) : Ledger :=
  { s.ledger with region := Vector.ofFn fun k : Fin 2 => if k = 0 then regionOf lo else regionOf hi }

/-- A region is live, and LEDGER is over. -/
def State.tookRegion (s : State) (l : Ledger) (k : Fin 2) (ahead : Bool) : State :=
  State.afterLedger { s with ledger := l.select k ahead }

/-- What a region that becomes live leaves: the counts are its values, and its marker is programmed again where its SEQ is ahead. -/
theorem State.tookRegion_takes (s : State) (l : Ledger) (k : Fin 2) (ahead : Bool) :
    (s.tookRegion l k ahead).ledger.live = k ∧ (s.tookRegion l k ahead).ledger.selected = true ∧
      (∀ i : Fin 128, (s.tookRegion l k ahead).ledger.count[i] = (s.tookRegion l k ahead).ledger.value i) ∧
      (s.tookRegion l k ahead).ledger.op = (if ahead = true then some (.again k) else none) ∧
      (s.tookRegion l k ahead).power.stage = (if s.mem.fitted = true then .dram else .image) := by
  refine ⟨rfl, rfl, fun i => ?_, rfl, rfl⟩
  change (Vector.ofFn fun i : Fin 128 => ((l.region[k]).counters[i]).value)[i] = ((l.region[k]).counters[i]).value
  simp

theorem tallyCount_allOnes : tallyCount (BitVec.allOnes 1024) = 0 := by
  unfold tallyCount
  rw [if_pos rfl, List.filter_eq_nil_iff.mpr]
  · rfl
  · intro j hj
    rw [BitVec.getLsbD_allOnes, decide_eq_true (List.mem_range.mp hj)]
    decide

/-- A formatted region counts nothing. -/
theorem formattedRegion_value (i : Fin 128) : ((formattedRegion.counters)[i]).value = 0 := by
  have h : (formattedRegion.counters)[i] = { base := 0, grain := grainOf i, reserved := 0, tally := BitVec.allOnes 1024 } := by
    unfold formattedRegion Region.commit Region.fresh
    simp
  rw [h, Counter.value, tallyCount_allOnes, Nat.zero_mul]
  rfl

/-- LEDGER_SELECTED, by which regions are valid. -/
theorem exec_ledgerSelected {s : State} {lo hi : RegionRead} {ok : Bool} (hs : s.power.stage = .ledger) :
    exec (.ledgerSelected lo hi ok) s =
      .next (match RegionRead.valid lo, RegionRead.valid hi with
        | true, true =>
          if lo.seq = hi.seq + 1 then s.tookRegion (s.regionsRead lo hi) 0 true
          else if hi.seq = lo.seq + 1 then s.tookRegion (s.regionsRead lo hi) 1 true
          else s.failBringUp 0x9C
        | true, false => s.tookRegion (s.regionsRead lo hi) 0 false
        | false, true => s.tookRegion (s.regionsRead lo hi) 1 false
        | false, false =>
          if (lo.erased && hi.erased) = true then
            if ok = true then
              s.tookRegion { s.regionsRead lo hi with region := (s.regionsRead lo hi).region.set 0 formattedRegion } 0 false
            else s.failBringUp 0x9D
          else s.failBringUp 0x9C) := by
  change execLedgerSelected lo hi ok s = _
  unfold execLedgerSelected
  rw [if_pos hs]
  dsimp only
  cases RegionRead.valid lo <;> cases RegionRead.valid hi <;> dsimp only
  · split
    · exact (apply_ite Host.Outcome.next _ _ _).symm
    · rfl
  · rfl
  · rfl
  · split
    · rfl
    · exact (apply_ite Host.Outcome.next _ _ _).symm

/-! ## A flash access that times out (R93, R350) -/

/-- A stage in which a flash time-out is the ledger's write failure. -/
def Stage.flashInBackground (st : Stage) (op : FlashOp) (boots : Bool) : Prop :=
  st = .image ∧ (op ≠ .read ∨ boots = false) ∨ st = .dram ∨ st = .join ∨ st = .trimWait ∨ st = .done

theorem exec_flashTimeout_inFlash {s : State} (op : FlashOp) (hs : s.power.stage = .flash) :
    exec (.flashTimeout op) s = .next (s.failBringUp 0x98) := by
  change execFlashTimeout op s = _
  unfold execFlashTimeout
  rw [hs]

theorem exec_flashTimeout_inLedger {s : State} (op : FlashOp) (hs : s.power.stage = .ledger) :
    exec (.flashTimeout op) s = .next (s.failBringUp (if op = .read then 0x9C else 0x9D)) := by
  change execFlashTimeout op s = _
  unfold execFlashTimeout
  rw [hs]
  cases op <;> rfl

theorem exec_flashTimeout_ofImage {s : State} (hs : s.power.stage = .image) (hb : s.power.bootsFromFlash = true) :
    exec (.flashTimeout .read) s = .next (s.failImage (BitVec.ofNat 8 (0xA8 + Config.imageReadTimeoutCode.val))) := by
  change execFlashTimeout .read s = _
  unfold execFlashTimeout
  rw [hs]
  exact if_pos hb

theorem exec_flashTimeout_inBackground {s : State} {op : FlashOp}
    (hs : s.power.stage.flashInBackground op s.power.bootsFromFlash) :
    exec (.flashTimeout op) s = .next (State.beginFault { s with ledger := { s.ledger with retryTicks := 0 } } 27) := by
  change execFlashTimeout op s = _
  unfold execFlashTimeout
  obtain ⟨hst, hop⟩ | hst | hst | hst | hst := hs
  · rw [hst]
    obtain hop | hb := hop
    · cases op with
      | read => exact absurd rfl hop
      | _ => rfl
    · rw [hb]
      cases op <;> rfl
  all_goals rw [hst]

/-- A failure of bring-up leaves the channels and the memory. -/
theorem State.failBringUp_keeps (s : State) (cause : Byte) :
    (s.failBringUp cause).chan = s.chan ∧ memoryStands s (s.failBringUp cause) :=
  ⟨State.failBringUp_chan _ _, (memoryStands_iff _ _).mpr (State.failBringUp_bare _ _)⟩

/-- Settles O19: each stage's end is a failure or the stage that follows, by what it found. -/
theorem coreFlashAndLedgerStages : Obligations.CoreFlashAndLedgerStages := by
  unfold Obligations.CoreFlashAndLedgerStages
  refine ⟨fun s sram tests lk hs ht => ⟨_, exec_coreStageEnd hs ht, ?core⟩, fun s r hs => ⟨_, exec_sfdpDiscoveryDone hs, ?sfdp⟩,
    fun s op => ⟨fun hs => ⟨_, exec_flashTimeout_inFlash op hs, rfl, s.failBringUp_keeps 0x98⟩,
      fun hs => ⟨_, exec_flashTimeout_inLedger op hs, rfl, s.failBringUp_keeps _⟩, fun hs hop hb => ?image,
      fun hs => ⟨_, exec_flashTimeout_inBackground hs, ?background⟩⟩,
    fun s lo hi ok hs => ⟨_, exec_ledgerSelected hs, ?ledger⟩⟩
  case core =>
    have failed (cause : Byte) {p : Prop} : (s.failBringUp cause).power.stage = .flash → p := fun h => by cases h
    split
    · exact ⟨rfl, failed _⟩
    · split
      · exact ⟨rfl, failed _⟩
      · split
        · exact ⟨rfl, failed _⟩
        · obtain ⟨hf, hg⟩ := s.testBanks_finds tests
          have hpass : (s.testBanks tests).newPass .powerUp 0 0 = s.newPass .powerUp 0 0 := by
            unfold State.newPass
            simp only [hg]
          exact ⟨rfl, fun _ => ⟨rfl, rfl, congrArg some hpass, rfl, hf⟩⟩
  case sfdp =>
    split
    · next h => exact ⟨State.failBringUp_chan _ _, (s.failBringUp_keeps _).2, rfl, fun h' => by simp [h'] at h⟩
    · split
      · next h => exact ⟨State.failBringUp_chan _ _, (s.failBringUp_keeps _).2, rfl, fun _ h' => by simp [h'] at h⟩
      · exact ⟨rfl, (memoryStands_iff _ _).mpr rfl, rfl, fun _ _ => ⟨rfl, rfl⟩⟩
  case image =>
    subst hop
    refine ⟨_, Config.imageReadTimeoutCode.val, exec_flashTimeout_ofImage hs hb, Config.imageReadTimeoutCode.isLt, rfl, ?_⟩
    exact ((State.inForce_eq_iff _ _).mp (State.failImage_inForce _ _)).2.2.1
  case background =>
    refine ⟨State.beginFault_has _ (by decide), ?_, State.beginFault_stage _ _, State.beginFault_chan _ _,
      (memoryStands_iff _ _).mpr (State.beginFault_bare _ _)⟩
    rw [State.beginFault_ledger]
  case ledger =>
    have took (l : Ledger) (k : Fin 2) (a : Bool) : (s.tookRegion l k a).chan = s.chan ∧ memoryStands s (s.tookRegion l k a) :=
      ⟨rfl, (memoryStands_iff _ _).mpr rfl⟩
    cases hlo : RegionRead.valid lo <;> cases hhi : RegionRead.valid hi
    case false.false =>
      have format := s.tookRegion_takes
        { s.regionsRead lo hi with region := (s.regionsRead lo hi).region.set 0 formattedRegion } 0 false
      have hzero (i : Fin 128) : (s.tookRegion
          { s.regionsRead lo hi with region := (s.regionsRead lo hi).region.set 0 formattedRegion } 0 false).ledger.count[i] = 0 := by
        rw [format.2.2.1 i]
        exact formattedRegion_value i
      dsimp only
      split
      · next he =>
        refine ⟨?_, ?_, nofun, nofun, nofun, fun _ _ _ _ => ⟨fun hok => ?_, fun hok => ?_⟩,
          fun _ _ h => absurd (he.symm.trans h) Bool.true_eq_false.mp⟩
        · cases ok
          · exact State.failBringUp_chan _ _
          · exact (took _ _ _).1
        · cases ok
          · exact (s.failBringUp_keeps _).2
          · exact (took _ _ _).2
        · rw [if_pos hok]
          exact ⟨rfl, rfl, hzero, rfl⟩
        · rw [if_neg (by simp [hok])]
          rfl
      · next he =>
        exact ⟨State.failBringUp_chan _ _, (s.failBringUp_keeps _).2, nofun, nofun, nofun,
          fun _ _ h1 h2 => absurd (by simp [h1, h2]) he, fun _ _ _ => rfl⟩
    case false.true =>
      exact ⟨(took _ _ _).1, (took _ _ _).2, nofun, fun _ _ => s.tookRegion_takes _ 1 false, nofun, nofun, nofun⟩
    case true.false =>
      exact ⟨(took _ _ _).1, (took _ _ _).2, fun _ _ => s.tookRegion_takes _ 0 false, nofun, nofun, nofun, nofun⟩
    case true.true =>
      dsimp only
      split
      · next h =>
        refine ⟨(took _ _ _).1, (took _ _ _).2, fun _ _ => s.tookRegion_takes _ 0 true, fun _ h' => ?_,
          fun _ _ h1 => absurd h h1, nofun, nofun⟩
        have h2 := h' rfl
        rw [h2] at h
        exact absurd h (by bv_omega)
      · next h =>
        split
        · next h2 =>
          exact ⟨(took _ _ _).1, (took _ _ _).2, fun _ h' => absurd (h' rfl) h, fun _ _ => s.tookRegion_takes _ 1 true,
            fun _ _ _ h' => absurd h2 h', nofun, nofun⟩
        · next h2 =>
          exact ⟨State.failBringUp_chan _ _, (s.failBringUp_keeps _).2, fun _ h' => absurd (h' rfl) h,
            fun _ h' => absurd (h' rfl) h2, fun _ _ _ _ => rfl, nofun, nofun⟩

end Sys2Proof.Machine
end

section
/-! PROOFS. Events, RTR_N and the markers. -/

namespace Sys2Proof.Machine

/-! ## Events of the pins -/

@[simp] theorem State.fireCaptures_cells (s : State) (cond : CapStream → Bool) : (s.fireCaptures cond).mem.cells = s.mem.cells := by
  unfold State.fireCaptures
  split
  · rfl
  · unfold State.setCaptures
    dsimp only
    exact Mem.setCaptures_cells _ _

@[simp] theorem State.raisePin_cells (s : State) (code : Nat) : (s.raisePin code).mem.cells = s.mem.cells :=
  State.fireCaptures_cells _ _

@[simp] theorem State.raisePin_pins (s : State) (code : Nat) :
    (s.raisePin code).pins = { s.pins with raised := s.pins.raised ||| (1#24 <<< code) } :=
  State.fireCaptures_pins _ _

theorem State.raisePin_moves (s : State) (code : Nat) : s.onlyMoves (s.raisePin code) [.pins, .mem, .port] := by
  intro p hp
  cases p <;> simp_all [State.agree]

/-- A word with one bit more. -/
theorem getLsbD_or_one_shiftLeft {w : Nat} (x : BitVec w) {k c : Nat} (hc : c < w) :
    (x ||| 1#w <<< k).getLsbD c = (x.getLsbD c || decide (c = k)) := by
  rw [BitVec.getLsbD_or, BitVec.getLsbD_shiftLeft, BitVec.getLsbD_one]
  congr 1
  rw [Bool.eq_iff_iff]
  simp only [Bool.and_eq_true, decide_eq_true_eq, Bool.not_eq_true', decide_eq_false_iff_not]
  omega

theorem setBit_getLsbD (v : Byte) (k j : Fin 8) (b : Bool) :
    (setBit v k.val b).getLsbD j.val = if j = k then b else v.getLsbD j.val := by
  have hjk : j = k ↔ j.val = k.val := Fin.ext_iff
  unfold setBit
  cases b
  · rw [if_neg (by decide), BitVec.getLsbD_and, BitVec.getLsbD_not, BitVec.getLsbD_shiftLeft, BitVec.getLsbD_one]
    have hj := j.isLt
    split
    · next h => simp [h]
    · next h =>
      have hne : j.val ≠ k.val := fun he => h (hjk.mpr he)
      have hz : (!decide (j.val < k.val) && (decide (0 < 8) && decide (j.val - k.val = 0))) = false := by
        simp only [Bool.and_eq_false_iff, decide_eq_false_iff_not, Bool.not_eq_false', decide_eq_true_eq]
        omega
      rw [Bool.and_assoc, hz, Bool.and_false, decide_eq_true hj]
      exact Bool.and_true _
  · rw [if_pos rfl, getLsbD_or_one_shiftLeft _ j.isLt]
    split
    · next h => simp [h]
    · next h => simp [mt hjk.mpr h]

theorem exec_evDebounced {s : State} {k : Fin 8} {samples : List Bool} {new : Bool} (hw : s.watchesPins = true)
    (hnew : new = !s.pins.ev.getLsbD k.val) (hn : 0 < ((s.txn.live.params.pin[k]).evDeb).toNat)
    (hl : lastN ((s.txn.live.params.pin[k]).evDeb).toNat (filtered samples) =
      List.replicate ((s.txn.live.params.pin[k]).evDeb).toNat new) :
    ∃ t : State, t = State.raisePin { s with pins := { s.pins with ev := setBit s.pins.ev k.val new } } (if new then k.val else 8 + k.val) ∧
      exec (.evDebounced k samples) s =
        .next (if (new && s.isRoot && s.txn.live.params.dev.seMask.getLsbD k.val) = true
          then { t with chain := { t.chain with seQueue := setBit t.chain.seQueue k.val true } } else t) := by
  refine ⟨_, rfl, ?_⟩
  change execEvDebounced k samples s = _
  unfold execEvDebounced
  dsimp only
  have hall : (s.watchesPins && decide (0 < ((s.txn.live.params.pin[k]).evDeb).toNat) &&
      decide ((lastN ((s.txn.live.params.pin[k]).evDeb).toNat (filtered samples)).length =
        ((s.txn.live.params.pin[k]).evDeb).toNat) &&
      (lastN ((s.txn.live.params.pin[k]).evDeb).toNat (filtered samples)).all (· == new)) = true := by
    rw [hw, decide_eq_true hn, hl]
    simp
  rw [← hnew, if_pos hall]
  generalize ht : State.raisePin _ _ = t
  have hroot : t.isRoot = s.isRoot := by
    unfold State.isRoot
    rw [← ht, State.raisePin_power]
  have htxn : t.txn = s.txn := by rw [← ht, State.raisePin_txn]
  rw [hroot, htxn]
  exact (apply_ite Host.Outcome.next _ _ _).symm

/-- The SE events of a tick raised in turn. -/
theorem State.raiseAll_raised (l : List Nat) (s : State) :
    (∀ c : Fin 24, (l.foldl (fun s k => if s.chain.seRaise.getLsbD k then s.raisePin (0x10 + k) else s) s).pins.raised.getLsbD c.val =
        (s.pins.raised.getLsbD c.val || l.any fun k => s.chain.seRaise.getLsbD k && decide (c.val = 0x10 + k))) ∧
      s.onlyMoves (l.foldl (fun s k => if s.chain.seRaise.getLsbD k then s.raisePin (0x10 + k) else s) s) [.pins, .mem, .port] ∧
      (l.foldl (fun s k => if s.chain.seRaise.getLsbD k then s.raisePin (0x10 + k) else s) s).mem.cells = s.mem.cells := by
  induction l generalizing s with
  | nil => exact ⟨fun c => by simp, State.onlyMoves_refl _ _, rfl⟩
  | cons k l ih =>
    rw [List.foldl_cons]
    have hstep : (if s.chain.seRaise.getLsbD k then s.raisePin (0x10 + k) else s).chain = s.chain ∧
        s.onlyMoves (if s.chain.seRaise.getLsbD k then s.raisePin (0x10 + k) else s) [.pins, .mem, .port] ∧
        (if s.chain.seRaise.getLsbD k then s.raisePin (0x10 + k) else s).mem.cells = s.mem.cells ∧
        ∀ c : Fin 24, (if s.chain.seRaise.getLsbD k then s.raisePin (0x10 + k) else s).pins.raised.getLsbD c.val =
          (s.pins.raised.getLsbD c.val || (s.chain.seRaise.getLsbD k && decide (c.val = 0x10 + k))) := by
      split
      · next h =>
        refine ⟨State.raisePin_chain _ _, State.raisePin_moves _ _, State.raisePin_cells _ _, fun c => ?_⟩
        rw [State.raisePin_pins, getLsbD_or_one_shiftLeft _ c.isLt, h, Bool.true_and]
      · next h =>
        exact ⟨rfl, State.onlyMoves_refl _ _, rfl, fun c => by simp [h]⟩
    obtain ⟨hc, hm, hcells, hr⟩ := hstep
    generalize (if s.chain.seRaise.getLsbD k then s.raisePin (0x10 + k) else s) = u at hc hm hcells hr ⊢
    obtain ⟨ihr, ihm, ihc⟩ := ih u
    refine ⟨fun c => ?_, State.onlyMoves_trans hm ihm, ihc.trans hcells⟩
    rw [ihr c, hr c, hc, List.any_cons, Bool.or_assoc]

/-- Settles O22: the debounced level and the event follow the new level, and frame 0 raises the tick's SE events. -/
theorem eventsRaised : Obligations.EventsRaised := by
  unfold Obligations.EventsRaised
  refine ⟨fun s k samples new hw hnew hn hl => ?_, fun s hr hrole hf => ?_⟩
  · obtain ⟨t, ht, hexec⟩ := exec_evDebounced hw hnew hn hl
    have hpins : t.pins = { s.pins with
        ev := setBit s.pins.ev k.val new, raised := s.pins.raised ||| (1#24 <<< (if new then k.val else 8 + k.val)) } := by
      rw [ht, State.raisePin_pins]
    have hchain : t.chain = s.chain := by rw [ht, State.raisePin_chain]
    have hcells : t.mem.cells = s.mem.cells := by rw [ht, State.raisePin_cells]
    have hmoves : s.onlyMoves t [.pins, .mem, .chain, .port] := by
      rw [ht]
      refine State.onlyMoves_trans (t := { s with pins := { s.pins with ev := setBit s.pins.ev k.val new } }) ?_
        (State.onlyMoves_mono (State.raisePin_moves _ _) (by decide))
      intro p hp
      cases p <;> simp_all [State.agree]
    have hev (u : State) (hu : u.pins = t.pins) (j : Fin 8) :
        u.pins.ev.getLsbD j.val = if j = k then new else s.pins.ev.getLsbD j.val := by
      rw [hu, hpins]
      exact setBit_getLsbD _ _ _ _
    have hraised (u : State) (hu : u.pins = t.pins) (c : Fin 24) : u.pins.raised.getLsbD c.val =
        (s.pins.raised.getLsbD c.val || decide (c.val = if new then k.val else 8 + k.val)) := by
      rw [hu, hpins]
      exact getLsbD_or_one_shiftLeft _ c.isLt
    refine ⟨_, hexec, ?_⟩
    split
    · next h =>
      refine ⟨hev _ rfl, hraised _ rfl, fun j => ?_, hcells, State.onlyMoves_trans hmoves ?_⟩
      · dsimp only
        rw [setBit_getLsbD, hchain, h]
        split <;> simp_all
      · intro p hp
        cases p <;> simp_all [State.agree]
    · next h =>
      refine ⟨hev _ rfl, hraised _ rfl, fun j => ?_, hcells, hmoves⟩
      rw [hchain, Bool.eq_false_iff.mpr h, Bool.false_and, Bool.or_false]
  · obtain ⟨hraised, hmoves, hcells⟩ := s.raiseAll_raised (List.range 8)
    have hexec : exec .systemEvent s =
        .next { (List.range 8).foldl (fun s k => if s.chain.seRaise.getLsbD k then s.raisePin (0x10 + k) else s) s with
          chain := { ((List.range 8).foldl (fun s k => if s.chain.seRaise.getLsbD k then s.raisePin (0x10 + k) else s) s).chain with
            seRaise := 0 } } := by
      change execSystemEvent s = _
      unfold execSystemEvent
      rw [if_pos (by simp [hr, hrole, hf])]
    generalize (List.range 8).foldl (fun s k => if s.chain.seRaise.getLsbD k then s.raisePin (0x10 + k) else s) s = u
      at hraised hmoves hcells hexec
    refine ⟨_, hexec, fun c => ?_, rfl, hcells, State.onlyMoves_trans (State.onlyMoves_mono hmoves (by decide)) ?_⟩
    · refine (hraised c).trans ?_
      congr 1
      rw [Bool.eq_iff_iff, List.any_eq_true]
      simp only [List.mem_range, Bool.and_eq_true, decide_eq_true_eq]
      have hc := c.isLt
      constructor
      · rintro ⟨k, hk, hs, he⟩
        have hsub : c.val - 16 = k := by omega
        exact ⟨by omega, by rw [hsub]; exact hs⟩
      · rintro ⟨h16, hs⟩
        exact ⟨c.val - 16, by omega, hs, by omega⟩
    · intro p hp
      cases p <;> simp_all [State.agree]

/-! ## RTR_N and the pulses of the markers -/

/-- RTR_N recognised low by another's driver (R91): every channel retreats, and the event log says so. -/
theorem State.rtrRecognised_retreats {s : State} (h : s.pins.rtrDrive = false) :
    s.rtrRecognised.allRetreated ∧ (∀ n : Chan, (s.rtrRecognised.chan[n]).released = (s.chan[n]).released) ∧
      s.onlyMoves s.rtrRecognised [.chan, .cal, .tel, .port] := by
  unfold State.rtrRecognised
  rw [if_neg (by simp [h])]
  refine ⟨fun n => ?_, fun n => ?_, ?_⟩
  · rw [State.logEvent_chan]
    exact State.retreatAll_allRetreated _ n
  · rw [State.logEvent_chan]
    exact State.retreat_released _ _ n
  · exact State.onlyMoves_trans (State.onlyMoves_mono (State.retreat_moves _ _) (by decide))
      (State.onlyMoves_mono (State.logEvent_moves _ _ _ _ _) (by decide))

theorem exec_rtrNLow_falls {s : State} {samples : List Bool} (hw : s.watchesPins = true)
    (hnew : s.pins.rtrLow = false ∨ (filtered samples).contains true = true)
    (hlast : (filtered samples).getLast? = some false) :
    exec (.rtrNLow samples) s = .next (State.rtrRecognised { s with pins := { s.pins with rtrLow := true } }) := by
  have hgo : (s.pins.rtrLow && !(filtered samples).contains true) = false := by
    obtain h | h := hnew
    · rw [h]
      rfl
    · rw [h]
      simp
  change execRtrNLow samples s = _
  unfold execRtrNLow
  dsimp only
  rw [hw, hlast]
  rw [if_neg (by decide), hgo]
  exact if_neg Bool.false_ne_true

/-- Settles O23: the retreat that RTR_N calls for, and the end of a marker's pulse. -/
theorem rtrLowRetreatsAndPulsesEnd : Obligations.RtrLowRetreatsAndPulsesEnd := by
  unfold Obligations.RtrLowRetreatsAndPulsesEnd
  refine ⟨fun s samples hw hnew hdrive hlast => ?_, fun s samples hw hlast => ?_, fun s k d hk => ⟨fun hd => ?_, fun hd => ?_⟩⟩
  · obtain ⟨hall, hrel, hmoves⟩ := State.rtrRecognised_retreats (s := { s with pins := { s.pins with rtrLow := true } }) hdrive
    refine ⟨_, exec_rtrNLow_falls hw hnew hlast, by rw [State.rtrRecognised_pins], hall, hrel, by rw [State.rtrRecognised_power],
      by rw [State.rtrRecognised_txn], State.onlyMoves_trans (t := { s with pins := { s.pins with rtrLow := true } }) ?_
        (State.onlyMoves_mono hmoves (by decide))⟩
    intro p hp
    cases p <;> simp_all [State.agree]
  · change execRtrNLow samples s = _
    unfold execRtrNLow
    dsimp only
    rw [hw, hlast]
    rfl
  · refine ⟨{ s with pins := { s.pins with mkPulse := s.pins.mkPulse.set k none } }, ?_, by simp, fun j hj => ?_, rfl, ?_⟩
    · change execMkPulseEnd k s = _
      unfold execMkPulseEnd
      rw [hk]
      exact if_pos hd
    · have hv : k.val ≠ j.val := fun h => hj (Fin.ext h.symm)
      simp [hv]
    · intro p hp
      cases p <;> simp_all [State.agree]
  · change execMkPulseEnd k s = _
    unfold execMkPulseEnd
    rw [hk]
    exact if_neg (Nat.not_le_of_lt hd)

end Sys2Proof.Machine
end

section
/-! PROOFS. The pulses of TXB and TXA. -/

namespace Sys2Proof.Machine

/-! ## TX pulses: what a pin that falls, and one that is ignored, leave alone -/

theorem State.setPins_moves (s : State) (p : Pins) : s.onlyMoves { s with pins := p } [.pins] := by
  intro q hq
  cases q <;> simp_all [State.agree]

/-- A pin that falls moves the pins alone. -/
theorem State.txFalls_eq (s : State) (pin : TxPin) (l : List Bool) : ∃ p : Pins, s.txFalls pin l = { s with pins := p } := by
  unfold State.txFalls
  split
  · exact ⟨_, rfl⟩
  · exact ⟨s.pins, rfl⟩

theorem State.ignorePulse_last (s : State) (pin : TxPin) : lastOutcome (s.ignorePulse pin) = some 5 := by
  unfold lastOutcome State.ignorePulse
  rw [State.outcome_last]
  rfl

/-- A pulse that is ignored says so, and moves nothing else (R87). -/
theorem State.ignored (s : State) (p : Pins) (pin : TxPin) :
    lastOutcome (State.ignorePulse { s with pins := p } pin) = some 5 ∧
      s.onlyMoves (State.ignorePulse { s with pins := p } pin) [.pins, .tel, .port] :=
  ⟨State.ignorePulse_last _ _, State.onlyMoves_trans (State.onlyMoves_mono (s.setPins_moves p) (by decide))
    (State.onlyMoves_mono (State.outcome_moves _ _ _ _ _) (by decide))⟩

theorem State.followsRoot_of_standalone {s : State} (h : s.power.role = .standalone) : s.followsRoot = false := by
  simp [State.followsRoot, State.joined, h]

theorem State.followsRoot_of_root {s : State} (h : s.power.role = .root) : s.followsRoot = false := by
  simp [State.followsRoot, State.isRoot, h]

/-! ## TXB -/

/-- Why a TXB pulse that is heard is ignored (R87, R143, R157, R158). -/
def State.txbIgnored (s : State) (others : List TxPin) : Bool :=
  givesWay .txb others || s.followsRoot || s.txn.state != .idle || s.chain.openDue || s.chain.rootCmd == .sendAbort

theorem exec_txb_ignored {s : State} {l : List Bool} {o : List TxPin} (hh : s.hears .txb l = true) (hi : s.txbIgnored o = true) :
    ∃ p : Pins, exec (.txb l o) s = .next (State.ignorePulse { s with pins := p } .txb) := by
  obtain ⟨p, hp⟩ := s.txFalls_eq .txb l
  refine ⟨p, ?_⟩
  change execTxb l o s = _
  unfold execTxb
  rw [hh, hp]
  exact if_pos hi

theorem exec_txb_opens {s : State} {l : List Bool} (hh : s.hears .txb l = true) (hi : s.txbIgnored [] = false) :
    ∃ p : Pins, exec (.txb l []) s =
      .next (if s.isRoot = true
        then { s with pins := p, txn := { s.txn with txid := s.txn.txid + 1 }, chain := { s.chain with txopen := true, openDue := true } }
        else State.openShadow { s with pins := p, txn := { s.txn with txid := s.txn.txid + 1 } }) := by
  obtain ⟨p, hp⟩ := s.txFalls_eq .txb l
  refine ⟨p, ?_⟩
  change execTxb l [] s = _
  unfold execTxb
  rw [hh, hp]
  refine (if_neg (by decide)).trans ((if_neg (Bool.eq_false_iff.mp hi)).trans ?_)
  exact (apply_ite Host.Outcome.next _ _ _).symm

/-- Settles O24: TXB opens the shadow or calls for the OPEN, unless a reason to ignore it stands. -/
theorem txbOpens : Obligations.TxbOpens := by
  unfold Obligations.TxbOpens
  refine ⟨fun s l hh hrole hidle habort hdue => ?_, fun s l hh hrole hidle habort hdue => ?_, fun s l o hh hwhy => ?_⟩
  · have hfree : s.txbIgnored [] = false := by
      simp [State.txbIgnored, givesWay, State.followsRoot_of_standalone hrole, hidle, hdue, habort]
    obtain ⟨p, hexec⟩ := exec_txb_opens hh hfree
    have hroot : s.isRoot = false := by simp [State.isRoot, hrole]
    rw [hroot, if_neg Bool.false_ne_true] at hexec
    refine ⟨_, hexec, rfl, rfl, rfl, rfl, rfl, rfl, rfl, rfl, ?_⟩
    intro q hq
    cases q <;> simp_all [State.agree]
  · have hfree : s.txbIgnored [] = false := by
      simp [State.txbIgnored, givesWay, State.followsRoot_of_root hrole, hidle, hdue, habort]
    obtain ⟨p, hexec⟩ := exec_txb_opens hh hfree
    have hroot : s.isRoot = true := by simp [State.isRoot, hrole]
    rw [hroot, if_pos rfl] at hexec
    refine ⟨_, hexec, rfl, rfl, hidle, rfl, rfl, ?_⟩
    intro q hq
    cases q <;> simp_all [State.agree]
  · have hignored : s.txbIgnored o = true := by
      obtain h | h | h := hwhy <;> simp [State.txbIgnored, givesWay, h]
    obtain ⟨p, hexec⟩ := exec_txb_ignored hh hignored
    exact ⟨_, hexec, s.ignored p .txb⟩

/-! ## TXA -/

theorem exec_txa_alone {s : State} {l : List Bool} {o : List TxPin} (hh : s.hears .txa l = true) (hs : s.sysRuns = false) :
    ∃ p : Pins, exec (.txa l o) s =
      .next (if s.txn.state = .idle then State.ignorePulse { s with pins := p } .txa
        else (State.discard { s with pins := p } 1).holdVeto 1) := by
  obtain ⟨p, hp⟩ := s.txFalls_eq .txa l
  refine ⟨p, ?_⟩
  change execTxa l o s = _
  unfold execTxa
  rw [hh, hp]
  refine (if_neg (by decide)).trans ((if_neg ?_).trans ?_)
  · change ¬(s.sysRuns && !s.chain.island) = true
    rw [hs]
    exact Bool.false_ne_true
  · exact (apply_ite Host.Outcome.next _ _ _).symm

theorem exec_txa_inSystem {s : State} {l : List Bool} {o : List TxPin} (hh : s.hears .txa l = true) (hs : s.sysRuns = true)
    (hi : s.chain.island = false) :
    ∃ (p : Pins) (u : State), u = (if s.txn.state = .idle then State.outcome { s with pins := p } 1 else State.discard { s with pins := p } 1) ∧
      exec (.txa l o) s = .next (State.holdVeto { u with chain := { u.chain with openDue := false } } 1) := by
  obtain ⟨p, hp⟩ := s.txFalls_eq .txa l
  refine ⟨p, _, rfl, ?_⟩
  change execTxa l o s = _
  unfold execTxa
  rw [hh, hp]
  refine (if_neg (by decide)).trans (if_pos ?_)
  change (s.sysRuns && !s.chain.island) = true
  rw [hs, hi]
  rfl

theorem State.holdVeto_of_alone {s : State} (h : s.joined = false) (code : Byte) : s.holdVeto code = s := by
  unfold State.holdVeto
  rw [h]
  rfl

/-- A veto that is held: the first reason stands, and at the root ABORT is to be sent (R160, R393). -/
theorem State.holdVeto_of_joined {s : State} (h : s.joined = true) (code : Byte) :
    (s.holdVeto code).chain.veto = some (s.chain.veto.getD code) ∧
      (s.isRoot = true → (s.holdVeto code).chain.rootCmd = .sendAbort) ∧
      (s.holdVeto code).chain.openDue = s.chain.openDue ∧ s.onlyMoves (s.holdVeto code) [.chain] := by
  unfold State.holdVeto
  rw [h, if_neg (by decide)]
  dsimp only
  have hm (c : Chain) : s.onlyMoves { s with chain := c } [.chain] := by
    intro q hq
    cases q <;> simp_all [State.agree]
  cases hr : s.isRoot
  · exact ⟨rfl, fun h => absurd h Bool.false_ne_true, rfl, hm _⟩
  · exact ⟨rfl, fun _ => rfl, rfl, hm _⟩

/-- A transaction that TXA discards. -/
theorem State.discard_one {s : State} (h : s.txn.state ≠ .idle) (code : Byte) :
    s.discard code = (s.outcome code).closeTxn :=
  if_neg h

theorem State.lastOutcome_discard {s : State} (h : s.txn.state ≠ .idle) (code : Byte) : lastOutcome (s.discard code) = some code := by
  rw [State.discard_one h, lastOutcome, State.closeTxn_tel, State.outcome_last]
  rfl

theorem State.lastOutcome_outcome (s : State) (code : Byte) : lastOutcome (s.outcome code) = some code := by
  rw [lastOutcome, State.outcome_last]
  rfl

/-- Settles O26: TXA discards, vetoes or is ignored, and a TXB or TXC of its frame gives way. -/
theorem txaDiscards : Obligations.TxaDiscards := by
  unfold Obligations.TxaDiscards
  have alone {s : State} (hrole : s.power.role = .standalone) : s.joined = false ∧ s.sysRuns = false := by
    simp [State.sysRuns, State.joined, hrole]
  refine ⟨fun s l o hh hrole hne => ?discards, fun s l o hh hrole hidle => ?ignored, fun s l o hh hs hi => ?vetoes,
    fun s l o hh ho => ?txb, fun s l o obs hh ho => ?txc⟩
  case discards =>
    obtain ⟨p, hexec⟩ := exec_txa_alone (o := o) hh (alone hrole).2
    rw [if_neg hne, State.holdVeto_of_alone (by rw [← (alone hrole).1]; simp [State.joined, State.isUp])] at hexec
    have hne' : ({ s with pins := p } : State).txn.state ≠ .idle := hne
    refine ⟨_, hexec, State.discard_state _ _ _, ?_, ?_, State.lastOutcome_discard hne' 1, State.discard_live _ _ _,
      (memoryStands_iff _ _).mpr (State.discard_bare _ _ _), ?_⟩
    · rw [State.discard_one hne']
      rfl
    · rw [State.discard_one hne']
      rfl
    · exact State.onlyMoves_trans (State.onlyMoves_mono (s.setPins_moves p) (by decide))
        (State.onlyMoves_mono (State.discard_moves _ _ _) (by decide))
  case ignored =>
    obtain ⟨p, hexec⟩ := exec_txa_alone (o := o) hh (alone hrole).2
    rw [if_pos hidle] at hexec
    exact ⟨_, hexec, s.ignored p .txa⟩
  case vetoes =>
    obtain ⟨p, u, hu, hexec⟩ := exec_txa_inSystem (o := o) hh hs hi
    have hjoined : s.joined = true := by
      unfold State.sysRuns at hs
      exact (Bool.and_eq_true _ _ ▸ hs).1
    have hfacts : u.txn.state = .idle ∧ lastOutcome u = some 1 ∧ u.txn.live = s.txn.live ∧ u.mem.bare = s.mem.bare ∧
        s.onlyMoves u [.pins, .txn, .tel, .port, .mem] := by
      have hpins := State.onlyMoves_mono (qs := [.pins, .txn, .tel, .port, .mem]) (s.setPins_moves p) (by decide)
      rw [hu]
      split
      · next h =>
        exact ⟨by rw [State.outcome_txn]; exact h, State.lastOutcome_outcome _ _, by rw [State.outcome_txn],
          by rw [State.outcome_mem], State.onlyMoves_trans hpins (State.onlyMoves_mono (State.outcome_moves _ _ _ _ _) (by decide))⟩
      · next h =>
        exact ⟨State.discard_state _ _ _, State.lastOutcome_discard (s := { s with pins := p }) h 1, State.discard_live _ _ _,
          State.discard_bare _ _ _, State.onlyMoves_trans hpins (State.onlyMoves_mono (State.discard_moves _ _ _) (by decide))⟩
    obtain ⟨hidle, hlast, hlive, hbare, hmoves⟩ := hfacts
    have hchain : u.chain = s.chain := by
      rw [hu]
      split
      · rw [State.outcome_chain]
      · rw [State.discard_chain]
    have hpower : u.power = s.power := hmoves .power (by decide)
    have hj : ({ u with chain := { u.chain with openDue := false } } : State).joined = true := by
      rw [← hjoined]
      simp [State.joined, State.isUp, hpower]
    have hr : ({ u with chain := { u.chain with openDue := false } } : State).isRoot = s.isRoot := by
      simp [State.isRoot, hpower]
    obtain ⟨hveto, habort, hopen, hm⟩ := State.holdVeto_of_joined hj 1
    refine ⟨_, hexec, ?_, ?_, ?_, fun h => ⟨habort (by rw [hr, h]), hopen⟩, ?_, (memoryStands_iff _ _).mpr ?_, ?_⟩
    · rw [State.holdVeto_txn]
      exact hidle
    · rw [lastOutcome, State.holdVeto_tel]
      exact hlast
    · rw [hveto, ← hchain]
    · rw [State.holdVeto_txn]
      exact hlive
    · rw [State.holdVeto_mem]
      exact hbare
    · refine State.onlyMoves_trans (State.onlyMoves_mono hmoves (by decide)) (State.onlyMoves_trans (t := { u with chain := { u.chain with openDue := false } }) ?_
        (State.onlyMoves_mono hm (by decide)))
      intro q hq
      cases q <;> simp_all [State.agree]
  case txb =>
    obtain ⟨p, hexec⟩ := exec_txb_ignored hh (o := o) (by simp [State.txbIgnored, givesWay, ho])
    exact ⟨_, hexec, s.ignored p .txb⟩
  case txc =>
    obtain ⟨p, hp⟩ := s.txFalls_eq .txc l
    refine ⟨State.ignorePulse { s with pins := p } .txc, ?_, s.ignored p .txc⟩
    change execTxc l o obs s = _
    unfold execTxc
    rw [hh, hp]
    exact (if_neg (by decide)).trans (if_pos (by simp [givesWay, ho]))

end Sys2Proof.Machine
end

section
/-! PROOFS. What rows 7 to 9 of a boundary leave alone. -/

namespace Sys2Proof.Machine

/-! ## What rows 7 to 9 leave alone (R50)

They count, send and freeze: neither the power state, the time, the channels, the sense path, RTR_N's driver nor the memory's bytes
move, and of the transaction only what they leave due themselves, but for what the root's command of the boundary does. -/

/-- What rows 7 to 9 do not touch. -/
structure Held where
  power : Power
  clock : Clock
  chan : Vector Channel 64
  sense : Sense
  drive : Bool
  cells : List Host.Cell

def State.held (s : State) : Held where
  power := s.power
  clock := s.clock
  chan := s.chan
  sense := s.sense
  drive := s.pins.rtrDrive
  cells := s.mem.cells

/-- The transaction apart from what rows 7 to 9 have due. -/
def Txn.aboveRest (x : Txn) : Txn :=
  { x with due := { x.due with rest := false, calibration := false, status := false, ledger := false } }

/-- What the transaction has in force, and what it may return to. -/
def Txn.configured (x : Txn) : Configuration × Option Configuration × Option Nat × Bool :=
  (x.live, x.lastGood, x.probation, x.rollbackPending)

theorem Txn.configured_of_aboveRest {x y : Txn} (h : x.aboveRest = y.aboveRest) : x.configured = y.configured := by
  have hc := congrArg Txn.configured h
  exact hc

@[simp] theorem State.logEvent_held (s : State) (code sub : Byte) (obj : BitVec 16) (data : BitVec 48) :
    (s.logEvent code sub obj data).held = s.held := by
  simp [State.held]

@[simp] theorem State.outcome_held (s : State) (code : Byte) (obj : Obj) (pin : Byte) (mask : BitVec 64) :
    (s.outcome code obj pin mask).held = s.held := by
  simp [State.held]

@[simp] theorem State.closeTxn_held (s : State) : s.closeTxn.held = s.held := rfl

@[simp] theorem State.endTxn_held (s : State) : s.endTxn.held = s.held := rfl

@[simp] theorem State.discard_held (s : State) (code : Byte) (obj : Obj) : (s.discard code obj).held = s.held := by
  simp [State.held]

@[simp] theorem State.raiseFor_held (s : State) (code : Nat) (who : PlayerNo → Bool) : (s.raiseFor code who).held = s.held := by
  simp [State.held]

@[simp] theorem State.freezeLedger_held (s : State) : s.freezeLedger.held = s.held := by
  simp [State.held]

@[simp] theorem State.freezeStatus_held (s : State) : s.freezeStatus.held = s.held := by
  simp [State.held]

@[simp] theorem State.wantContent_held (s : State) (id : BitVec 16) : (s.wantContent id).held = s.held := by
  simp [State.held]

@[simp] theorem State.sendPause_held (s : State) (time : BitVec 16) : (s.sendPause time).held = s.held := by
  simp [State.held]

@[simp] theorem State.setEnumcnt_held (s : State) (v : BitVec 16) : (s.setEnumcnt v).held = s.held := by
  unfold State.setEnumcnt
  dsimp only
  split <;> rfl

@[simp] theorem State.fireLedger_held (s : State) (i : Fin 128) : (s.fireLedger i).held = s.held := by
  unfold State.fireLedger
  simp

@[simp] theorem State.fireLedger_txn (s : State) (i : Fin 128) : (s.fireLedger i).txn = s.txn := by
  unfold State.fireLedger
  simp

@[simp] theorem State.judgeBudget_held (s : State) (i : Fin 128) : (s.judgeBudget i).held = s.held := by
  unfold State.judgeBudget
  dsimp only
  split
  · exact State.fireLedger_held _ _
  · rfl

@[simp] theorem State.countUp_held (s : State) (i : Fin 128) : (s.countUp i).held = s.held :=
  State.judgeBudget_held _ _

@[simp] theorem State.countUp_txn (s : State) (i : Fin 128) : (s.countUp i).txn = s.txn :=
  State.judgeBudget_txn _ _

theorem State.row7_counts (s : State) : s.row7.held = s.held ∧ s.row7.txn = s.txn := by
  unfold State.row7
  extract_lets s1 _ s2 s3
  have hh : s1.held = s.held := foldl_keeps State.held (fun s r => by split <;> simp) _ s
  have ht : s1.txn = s.txn := foldl_keeps State.txn (fun s r => by split <;> simp) _ s
  clear_value s1
  exact ⟨hh, ht⟩

theorem State.srBoundary_keeps (s : State) :
    s.srBoundary.held = s.held ∧ s.srBoundary.txn = s.txn ∧ s.srBoundary.ledger = s.ledger := by
  unfold State.srBoundary
  dsimp only
  split
  · split <;> exact ⟨rfl, rfl, rfl⟩
  · split <;> exact ⟨rfl, rfl, rfl⟩
  all_goals exact ⟨rfl, rfl, rfl⟩

theorem State.portBoundary_keeps (s : State) :
    s.portBoundary.held = s.held ∧ s.portBoundary.txn = s.txn ∧ s.portBoundary.ledger = s.ledger := by
  unfold State.portBoundary
  extract_lets s2 quarantined
  have h2 : s2.held = s.held ∧ s2.txn = s.txn ∧ s2.ledger = s.ledger := by
    unfold s2
    split
    · exact ⟨State.sendPause_held _ _, State.sendPause_txn _ _, State.sendPause_ledger _ _⟩
    · exact ⟨rfl, rfl, rfl⟩
  obtain ⟨hh, ht, hl⟩ := h2
  clear_value s2
  rw [← hh, ← ht, ← hl]
  split
  · exact ⟨foldl_keeps State.held (fun s id => s.wantContent_held id) _ _,
      foldl_keeps State.txn (fun s id => s.wantContent_txn id) _ _,
      foldl_keeps State.ledger (fun s id => s.wantContent_ledger id) _ _⟩
  · exact ⟨rfl, rfl, rfl⟩

theorem State.closeNine_keeps (s : State) :
    s.closeNine.held = s.held ∧ s.closeNine.txn.aboveRest = s.txn.aboveRest ∧ s.closeNine.ledger = s.ledger := by
  unfold State.closeNine
  extract_lets d s1 s2
  have h1 : s1.held = s.held ∧ s1.txn = s.txn ∧ s1.ledger = s.ledger := by
    unfold s1
    split
    · exact ⟨State.freezeStatus_held _, State.freezeStatus_txn _, State.freezeStatus_ledger _⟩
    · exact ⟨rfl, rfl, rfl⟩
  have h2 : s2.held = s1.held ∧ s2.txn = s1.txn ∧ s2.ledger = s1.ledger := by
    unfold s2
    split
    · exact ⟨State.freezeLedger_held _, State.freezeLedger_txn _, State.freezeLedger_ledger _⟩
    · exact ⟨rfl, rfl, rfl⟩
  have hh : s2.held = s.held := h2.1.trans h1.1
  have ht : s2.txn = s.txn := h2.2.1.trans h1.2.1
  have hl : s2.ledger = s.ledger := h2.2.2.trans h1.2.2
  clear_value s2
  split
  · exact ⟨rfl, rfl, rfl⟩
  · rw [← hh, ← ht, ← hl]
    exact ⟨rfl, rfl, rfl⟩

theorem State.rootCommand_keeps (s : State) :
    s.rootCommand.2.held = s.held ∧ s.rootCommand.2.txn.configured = s.txn.configured ∧ s.rootCommand.2.ledger = s.ledger := by
  have hended (c : Chain) (code : Byte) (obj : Obj) : (({ s with chain := c } : State).discard code obj).endTxn.held = s.held ∧
      (({ s with chain := c } : State).discard code obj).endTxn.txn.configured = s.txn.configured ∧
      (({ s with chain := c } : State).discard code obj).endTxn.ledger = s.ledger := by
    have hend (u : State) : u.endTxn.txn.configured = u.txn.configured ∧ u.endTxn.ledger = u.ledger := ⟨rfl, rfl⟩
    refine ⟨(State.endTxn_held _).trans (State.discard_held _ _ _), ?_, (hend _).2.trans (State.discard_ledger _ _ _)⟩
    rw [(hend _).1]
    unfold State.discard
    split
    · rfl
    · change (State.outcome { s with chain := c } code obj).txn.configured = s.txn.configured
      rw [State.outcome_txn]
  unfold State.rootCommand
  dsimp only
  split
  case isTrue hrollback => exact ⟨rfl, rfl, rfl⟩
  split
  case isTrue habort => exact hended _ _ _
  split
  case isTrue hopen => split <;> exact ⟨rfl, rfl, rfl⟩
  split
  case isTrue hprepare => exact ⟨rfl, rfl, rfl⟩
  -- a vote that runs: its first tick, its verdict, and none at all
  split
  · exact ⟨rfl, rfl, rfl⟩
  · split
    · exact ⟨rfl, rfl, rfl⟩
    · exact hended _ _ _
  · exact ⟨rfl, rfl, rfl⟩

theorem State.rootBoundary_keeps (s : State) :
    s.rootBoundary.held = s.held ∧ s.rootBoundary.txn.configured = s.txn.configured ∧ s.rootBoundary.ledger = s.ledger := by
  unfold State.rootBoundary
  extract_lets s0
  have h0 : s0.held = s.held ∧ s0.txn = s.txn ∧ s0.ledger = s.ledger := by
    unfold s0
    split
    · cases s.lastMerged with
      | none => exact ⟨rfl, rfl, rfl⟩
      | some r =>
        refine ⟨State.setEnumcnt_held _ _, ?_⟩
        change (s.setEnumcnt r.live).txn = s.txn ∧ (s.setEnumcnt r.live).ledger = s.ledger
        unfold State.setEnumcnt
        dsimp only
        split <;> exact ⟨rfl, rfl⟩
    · exact ⟨rfl, rfl, rfl⟩
  have hcommand := s0.rootCommand_keeps
  rw [h0.1, h0.2.1, h0.2.2] at hcommand
  clear_value s0
  generalize s0.rootCommand = command at hcommand ⊢
  exact hcommand

@[simp] theorem State.row8_held (s : State) : s.row8.held = s.held := rfl
@[simp] theorem State.row9_held (s : State) : s.row9.held = s.held := rfl
@[simp] theorem State.probtripBoundary_held (s : State) : s.probtripBoundary.held = s.held := rfl
@[simp] theorem State.row8_aboveRest (s : State) : s.row8.txn.aboveRest = s.txn.aboveRest := rfl
@[simp] theorem State.row9_aboveRest (s : State) : s.row9.txn.aboveRest = s.txn.aboveRest := rfl
@[simp] theorem State.probtripBoundary_txn (s : State) : s.probtripBoundary.txn = s.txn := rfl
@[simp] theorem State.probtripBoundary_ledger (s : State) : s.probtripBoundary.ledger = s.ledger := rfl

/-- What follows the root's command at a boundary. -/
def State.restRows (s : State) : State := ((((((s.probtripBoundary.row7).row8).row9).srBoundary).portBoundary)).closeNine

/-- With no rail beyond a deep threshold, row 7 counts nothing. -/
theorem State.row7_count {s : State} (h : ∀ r : Fin 64, s.ledger.deep[r] = false) : s.row7.ledger.count = s.ledger.count := by
  unfold State.row7
  extract_lets s1 _ s2 s3
  have h1 : s1 = s := by
    refine List.foldl_fixed' (fun r => ?_) _
    rw [h r]
    exact if_neg Bool.false_ne_true
  have hnext (l : Ledger) (bound : Vector Nat 128) (failed : Bool) : (l.startCompaction.startNext bound failed).count = l.count := by
    have hc : l.startCompaction.count = l.count := by
      unfold Ledger.startCompaction
      split <;> rfl
    unfold Ledger.startNext
    rw [← hc]
    split
    · rfl
    · split
      · rfl
      · split <;> rfl
  unfold State.ledgerNext
  dsimp only
  rw [hnext]
  change (s2.ledger.queueDue s2.ledger.bound).count = s.ledger.count
  rw [Ledger.queueDue_count, ← h1]

theorem State.restRows_keeps (s : State) :
    s.restRows.held = s.held ∧ s.restRows.txn.aboveRest = s.txn.aboveRest ∧
      s.restRows.ledger = s.probtripBoundary.row7.ledger := by
  unfold State.restRows
  obtain ⟨h7, t7⟩ := s.probtripBoundary.row7_counts
  obtain ⟨hs, ts, ls⟩ := (s.probtripBoundary.row7.row8.row9).srBoundary_keeps
  obtain ⟨hp, tp, lp⟩ := (s.probtripBoundary.row7.row8.row9.srBoundary).portBoundary_keeps
  obtain ⟨hc, tc, lc⟩ := (s.probtripBoundary.row7.row8.row9.srBoundary.portBoundary).closeNine_keeps
  refine ⟨?_, ?_, ?_⟩
  · rw [hc, hp, hs, State.row9_held, State.row8_held, h7, State.probtripBoundary_held]
  · rw [tc, tp, ts, State.row9_aboveRest, State.row8_aboveRest, t7, State.probtripBoundary_txn]
  · rw [lc, lp, ls]
    generalize s.probtripBoundary.row7 = u
    rfl

theorem State.takeRest_keeps (s : State) :
    s.takeRest.held = s.held ∧ s.takeRest.txn.configured = s.txn.configured ∧
      (s.isRoot = false → s.takeRest.txn.aboveRest = s.txn.aboveRest) ∧
      ((∀ r : Fin 64, s.ledger.deep[r] = false) → s.takeRest.ledger.count = s.ledger.count) := by
  unfold State.takeRest
  extract_lets _ _ s1 s2
  have h1 : s1.held = s.held ∧ s1.txn.aboveRest = s.txn.aboveRest ∧ s1.isRoot = s.isRoot ∧ s1.ledger = s.ledger :=
    ⟨rfl, rfl, rfl, rfl⟩
  obtain ⟨hh1, ht1, hr1, hl1⟩ := h1
  split
  · obtain ⟨hp, tp, lp⟩ := (s1.row8.row9).portBoundary_keeps
    obtain ⟨hc, tc, lc⟩ := (s1.row8.row9.portBoundary).closeNine_keeps
    have ht : s1.row8.row9.portBoundary.closeNine.txn.aboveRest = s.txn.aboveRest := by
      rw [tc, tp]
      exact ht1
    refine ⟨?_, Txn.configured_of_aboveRest ht, fun _ => ht, fun _ => ?_⟩
    · rw [hc, hp]
      exact hh1
    · rw [lc, lp]
      exact congrArg Ledger.count hl1
  · have h2 : s2.held = s.held ∧ s2.txn.configured = s.txn.configured ∧
        (s.isRoot = false → s2.txn.aboveRest = s.txn.aboveRest) ∧ s2.ledger = s.ledger := by
      unfold s2
      split
      · next hroot =>
        obtain ⟨hh, ht, hl⟩ := s1.rootBoundary_keeps
        refine ⟨hh.trans hh1, ht, fun hnot => ?_, hl.trans hl1⟩
        rw [hr1, hnot] at hroot
        simp at hroot
      · exact ⟨hh1, rfl, fun _ => ht1, hl1⟩
    obtain ⟨hh2, hc2, ha2, hl2⟩ := h2
    clear_value s2
    rw [← State.restRows]
    obtain ⟨hh, ht, hl⟩ := s2.restRows_keeps
    refine ⟨hh.trans hh2, (Txn.configured_of_aboveRest ht).trans hc2, fun hnot => ht.trans (ha2 hnot), fun hdeep => ?_⟩
    have hcount := State.row7_count (s := s2.probtripBoundary) (fun r => by
      rw [State.probtripBoundary_ledger, hl2]
      exact hdeep r)
    rw [hl, hcount, State.probtripBoundary_ledger, hl2]

theorem State.closeBoundary_keeps (s : State) :
    s.closeBoundary.held = s.held ∧ s.closeBoundary.txn.configured = s.txn.configured ∧
      (s.isRoot = false → s.closeBoundary.txn.aboveRest = s.txn.aboveRest) ∧
      ((∀ r : Fin 64, s.ledger.deep[r] = false) → s.closeBoundary.ledger.count = s.ledger.count) := by
  unfold State.closeBoundary
  split
  · exact s.takeRest_keeps
  · exact ⟨rfl, rfl, fun _ => rfl, fun _ => rfl⟩

/-- With rows 7 to 9 not waiting, nothing follows an action. -/
theorem State.closeBoundary_of_taken {s : State} (h : s.txn.due.rest = false) : s.closeBoundary = s := by
  unfold State.closeBoundary
  rw [h]
  rfl

end Sys2Proof.Machine
end

section
/-! PROOFS. How validation, probation and the time-out end. -/

namespace Sys2Proof.Machine

/-! ## Validation completes (R143, R148) -/

/-- A shadow that has passed: it is validated, its segments are resident, and the counters that its bounds make due are queued. -/
def State.passed (s : State) : State :=
  let s1 := State.setResident { s with txn := { s.txn with verdict := none, validated := true } }
  State.ledgerNext { s1 with ledger := s1.ledger.queueDue s1.wideBounds }

theorem exec_validationDone_pass {s : State} (hf : s.fenceOver = true) (hs : s.txn.state = .pending)
    (hv : s.txn.verdict = some .pass) :
    exec .validationDone s =
      .next (if (s.passed.joined && s.passed.isRoot && !s.passed.chain.voting) = true
        then { s.passed with chain := { s.passed.chain with rootCmd := .sendPrepare } } else s.passed) := by
  change execValidationDone s = _
  unfold execValidationDone
  rw [hf, hs, hv]
  exact (apply_ite Host.Outcome.next _ _ _).symm

theorem exec_validationDone_fail {s : State} {code : Byte} {obj : Obj} (hf : s.fenceOver = true) (hs : s.txn.state = .pending)
    (hv : s.txn.verdict = some (.fail code obj)) :
    exec .validationDone s = .next ((s.discard code obj).holdVeto code) := by
  change execValidationDone s = _
  unfold execValidationDone
  rw [hf, hs, hv]
  rfl

/-- Settles O27: the shadow is validated or gone, by the verdict. -/
theorem validationCompletes : Obligations.ValidationCompletes := by
  unfold Obligations.ValidationCompletes
  refine ⟨fun s hf => ?_, fun s hf hs hv => ⟨_, exec_validationDone_pass hf hs hv, ?_⟩,
    fun s code obj hf hs hv hrole => ⟨_, exec_validationDone_fail hf hs hv, ?_⟩⟩
  · change execValidationDone s = _
    unfold execValidationDone
    rw [hf]
    rfl
  · split <;> exact ⟨hs, rfl, rfl, rfl, rfl, rfl, rfl, (memoryStands_iff _ _).mpr rfl⟩
  · have hne : s.txn.state ≠ .idle := by simp [hs]
    have hjoined : (s.discard code obj).joined = false := by simp [State.joined, hrole]
    rw [State.holdVeto_of_alone hjoined]
    have hdiscard : s.discard code obj = (s.outcome code obj).closeTxn := if_neg hne
    refine ⟨State.discard_state _ _ _, ?_,
      ⟨{ code := code, txid := s.txn.txid, obj := obj, epoch := s.clock.epoch, pin := 0, mask := 0 }, ?_, rfl, rfl, rfl⟩,
      State.discard_live _ _ _, (memoryStands_iff _ _).mpr (State.discard_bare _ _ _), State.discard_moves _ _ _⟩
    · rw [hdiscard]
      rfl
    · rw [hdiscard, State.closeTxn_tel]
      exact State.outcome_last _ _ _ _ _

/-! ## The ends of probation and of the time-out (R145, R152, R153) -/

theorem exec_probationEnd {s : State} (hd : s.txn.due.probationEnd = true) (hf : s.clock.frame = 0) :
    exec .probationEnd s = .next s.endProbation.closeBoundary := by
  change execProbationEnd s = _
  unfold execProbationEnd State.takesNow
  rw [if_pos (by simp [hd, hf])]

theorem exec_txnTimeout {s : State} (hd : s.txn.due.txnTimeout = true) (hf : s.clock.frame = 0) :
    exec .txnTimeout s = .next s.timeOutTxn.closeBoundary := by
  change execTxnTimeout s = _
  unfold execTxnTimeout State.takesNow
  rw [if_pos (by simp [hd, hf])]

/-- Settles O30: each end does its own, and rows 7 to 9, where they follow, leave it alone. -/
theorem probationAndTimeoutEnd : Obligations.ProbationAndTimeoutEnd := by
  unfold Obligations.ProbationAndTimeoutEnd
  refine ⟨fun s hd hf => ⟨_, exec_probationEnd hd hf, ?_⟩, fun s hd hf hs hrole => ⟨_, exec_txnTimeout hd hf, ?_⟩⟩
  · obtain ⟨-, hc, ha, -⟩ := s.endProbation.closeBoundary_keeps
    have hlive := congrArg Prod.fst hc
    have hgood := congrArg (fun x => x.2.1) hc
    have hprob := congrArg (fun x => x.2.2.1) hc
    refine ⟨hgood, hprob, hlive, fun hr => ?_, fun hrest => ?_⟩
    · have h := ha hr
      have hstate := congrArg Txn.state h
      have hshadow := congrArg Txn.shadow h
      exact ⟨hstate, hshadow⟩
    · rw [State.closeBoundary_of_taken (by exact hrest)]
      refine ⟨(memoryStands_iff _ _).mpr rfl, ?_⟩
      intro q hq
      cases q <;> simp_all [State.agree, State.endProbation]
  · have hjoined : (s.discard 2).joined = false := by simp [State.joined, hrole]
    have hne : s.txn.state ≠ .idle := by simp [hs]
    have htime : s.timeOutTxn =
        { s.discard 2 with txn := { (s.discard 2).txn with due := { (s.discard 2).txn.due with txnTimeout := false } } } := by
      unfold State.timeOutTxn
      dsimp only
      rw [hjoined]
      rfl
    have hroot : s.timeOutTxn.isRoot = false := by
      rw [htime]
      simp [State.isRoot, hrole]
    have hidle : s.timeOutTxn.txn.state = .idle := by
      rw [htime]
      exact State.discard_state _ _ _
    have hshadow : s.timeOutTxn.txn.shadow = none := by
      rw [htime, State.discard_one hne]
      rfl
    have hlast : s.timeOutTxn.tel.outcomes.getLast?.map OutcomeEntry.code = some 2 := by
      rw [htime]
      exact State.lastOutcome_discard hne 2
    have hlive : s.timeOutTxn.txn.live = s.txn.live := by
      rw [htime]
      exact State.discard_live _ _ _
    have hstanding := (State.closeBoundary_standsOrOpens hidle hshadow).over (.inl hroot)
    refine ⟨(congrArg Standing.state hstanding).trans hidle, (congrArg Standing.shadow hstanding).trans hshadow, ?_,
      (congrArg Standing.live hstanding).trans hlive, fun hrest => ?_⟩
    · have hout := congrArg Standing.outcomes hstanding
      change s.timeOutTxn.closeBoundary.tel.outcomes = s.timeOutTxn.tel.outcomes at hout
      rw [lastOutcome, hout]
      exact hlast
    · have hdue : s.timeOutTxn.txn.due.rest = false := by
        rw [htime, State.discard_one hne]
        change (s.outcome 2).txn.due.rest = false
        rw [State.outcome_txn, hrest]
      rw [State.closeBoundary_of_taken hdue, htime]
      have hmoves := s.discard_moves 2 noObj
      refine ⟨(memoryStands_iff _ _).mpr (State.discard_bare _ _ _), State.onlyMoves_trans hmoves ?_⟩
      intro q hq
      cases q <;> simp_all [State.agree]

end Sys2Proof.Machine
end

section
/-! PROOFS. A commit makes the shadow live. -/

namespace Sys2Proof.Machine

/-! ## What a configuration that takes effect leaves of the power state and the ledger -/

theorem State.butPlayers_power (s : State) : s.butPlayers.power = s.power := rfl
theorem State.butPlayers_ledger (s : State) : s.butPlayers.ledger = s.ledger := rfl
theorem State.butPlayers_chan (s : State) : s.butPlayers.chan = s.chan := rfl

theorem State.startPlayers_power (s : State) : s.startPlayers.power = s.power := by
  rw [← State.butPlayers_power, State.startPlayers_butPlayers, State.butPlayers_power]

theorem State.startPlayers_ledger (s : State) : s.startPlayers.ledger = s.ledger := by
  rw [← State.butPlayers_ledger, State.startPlayers_butPlayers, State.butPlayers_ledger]

theorem State.startPlayers_chan (s : State) : s.startPlayers.chan = s.chan := by
  rw [← State.butPlayers_chan, State.startPlayers_butPlayers, State.butPlayers_chan]

/-- The end of a cause takes it out of the set of causes. -/
theorem State.clearFault_takesOut (s : State) (b : Nat) : (s.clearFault b).power =
    if s.power.fault b = true then { s.power with faults := s.power.faults &&& ~~~(1#64 <<< b) } else s.power := by
  unfold State.clearFault
  dsimp only
  split
  · split <;> simp
  · rfl

theorem State.clearFault_power_congr {s t : State} (h : t.power = s.power) (b : Nat) :
    (t.clearFault b).power = (s.clearFault b).power := by
  rw [State.clearFault_takesOut, State.clearFault_takesOut, h]

@[simp] theorem State.judgeBudget_chan (s : State) (i : Fin 128) : (s.judgeBudget i).chan = s.chan := by
  have h := congrArg Held.chan (s.judgeBudget_held i)
  exact h

@[simp] theorem State.judgeBudget_power (s : State) (i : Fin 128) : (s.judgeBudget i).power = s.power :=
  congrArg Held.power (s.judgeBudget_held i)

@[simp] theorem State.judgeBudget_deep (s : State) (i : Fin 128) : (s.judgeBudget i).ledger.deep = s.ledger.deep := by
  unfold State.judgeBudget
  dsimp only
  split
  · unfold State.fireLedger
    simp
  · rfl

theorem State.judgeBudgets_deep (l : List (Fin 128)) (s : State) : (l.foldl State.judgeBudget s).ledger.deep = s.ledger.deep := by
  have h := foldl_keeps (fun u : State => u.ledger.deep) (fun s i => State.judgeBudget_deep s i) l s
  exact h

theorem State.calTakesEffect_power (s : State) : s.calTakesEffect.power = s.power := by
  unfold State.calTakesEffect
  dsimp only
  rw [State.abandonCal_power]
theorem State.calTakesEffect_ledger (s : State) : s.calTakesEffect.ledger = s.ledger := by
  unfold State.calTakesEffect
  dsimp only
  rw [State.abandonCal_ledger]

/-- The end of a configuration's taking effect: the channels take it up, and what follows them. -/
def State.finishEffect (s : State) (cfg : Configuration) (isCommit hold : Bool) : State :=
  let s6 := { s with
    chan := mapAll (s.channelTakesEffect isCommit hold) s.chan
    power := { s.power with powerUp := s.power.powerUp && !hold } }
  let s7 := s6.setResident.calTakesEffect.judgeSquall
  if s7.mem.selfRefreshAllowed cfg.mode then s7 else { s7 with mem := s7.mem.wake }

theorem State.finishEffect_power (s : State) (cfg : Configuration) (isCommit hold : Bool) :
    (s.finishEffect cfg isCommit hold).power = { s.power with powerUp := s.power.powerUp && !hold } := by
  unfold State.finishEffect
  dsimp only
  rw [apply_ite State.power, ite_self, State.judgeSquall_power, State.calTakesEffect_power, State.setResident_power]

theorem State.finishEffect_ledger (s : State) (cfg : Configuration) (isCommit hold : Bool) :
    (s.finishEffect cfg isCommit hold).ledger = s.ledger := by
  unfold State.finishEffect
  dsimp only
  rw [apply_ite State.ledger, ite_self, State.judgeSquall_ledger, State.calTakesEffect_ledger, State.setResident_ledger]

theorem State.finishEffect_chan (s : State) (cfg : Configuration) (isCommit hold : Bool) :
    ∃ drops : Chan → Bool, (s.finishEffect cfg isCommit hold).chan =
      mapAll (fun n c => (s.channelTakesEffect isCommit hold n c).unfog (drops n)) s.chan := by
  unfold State.finishEffect
  dsimp only
  rw [apply_ite State.chan, ite_self]
  generalize hs6 : { s with
    chan := mapAll (s.channelTakesEffect isCommit hold) s.chan
    power := { s.power with powerUp := s.power.powerUp && !hold } } = s6
  have hc6 : s6.chan = mapAll (s.channelTakesEffect isCommit hold) s.chan := hs6 ▸ rfl
  obtain ⟨drops, hdrops⟩ := s6.setResident.calTakesEffect_guarded
  have h := congrArg Guarded.chan ((State.judgeSquall_guarded _).trans hdrops)
  refine ⟨drops, Eq.trans h ?_⟩
  change mapAll _ s6.chan = _
  rw [hc6, mapAll_mapAll]

/-- What stands when the channels take a configuration up: cause 21 is over, and the configuration is live. -/
theorem State.takeEffect_finishes (s : State) (cfg : Configuration) (isCommit : Bool) :
    ∃ v : State, s.takeEffect cfg isCommit = v.finishEffect cfg isCommit (isCommit && cfg.mode == 0) ∧
      v.power = (s.clearFault 21).power ∧ v.chan = s.chan ∧
      v.txn = { s.txn with live := cfg, leave := Vector.ofFn cfg.leaves, defaultsDue := false } ∧
      v.ledger.deep = s.ledger.deep := by
  unfold State.takeEffect
  extract_lets old leave _ s1 s2 _ _ _ s3 restarts _ sArmed s4 s5
  have hp2 : s2.power = (s.clearFault 21).power :=
    State.clearFault_power_congr (s := s) (t := s1.startPlayers) (State.startPlayers_power s1) 21
  have hc2 : s2.chan = s.chan := (State.clearFault_chan _ _).trans (State.startPlayers_chan s1)
  have ht2 : s2.txn = s1.txn := (State.clearFault_txn _ _).trans (State.startPlayers_txn s1)
  have hl2 : s2.ledger.deep = s.ledger.deep :=
    congrArg Ledger.deep ((State.clearFault_ledger _ _).trans (State.startPlayers_ledger s1))
  clear_value s2
  have e4 : s4 = (List.finRange 128).foldl State.judgeBudget sArmed := rfl
  have hp4 : s4.power = sArmed.power := foldl_keeps State.power State.judgeBudget_power _ _
  have hc4 : s4.chan = sArmed.chan := foldl_keeps State.chan State.judgeBudget_chan _ _
  have ht4 : s4.txn = sArmed.txn := foldl_keeps State.txn State.judgeBudget_txn _ _
  clear_value s4
  have hl4 : s4.ledger.deep = sArmed.ledger.deep := by rw [e4, State.judgeBudgets_deep]
  have hl5 : s5.ledger.deep = s4.ledger.deep := by simp only [s5, Ledger.judgeHolds]
  exact ⟨s5, rfl, hp4.trans hp2, hc4.trans hc2, ht4.trans ht2, hl5.trans (hl4.trans hl2)⟩

/-- Taking effect clears cause 21, and a HOLD commit ends the power-up state; the channels take the configuration up in the
power state so far. -/
theorem State.takeEffect_power (s : State) (cfg : Configuration) (isCommit : Bool) :
    ∃ (v : State) (drops : Chan → Bool), v.chan = s.chan ∧ v.txn = (s.takeEffect cfg isCommit).txn ∧
      v.power = (s.clearFault 21).power ∧
      (s.takeEffect cfg isCommit).power =
        { (s.clearFault 21).power with powerUp := (s.clearFault 21).power.powerUp && !(isCommit && cfg.mode == 0) } ∧
      (s.takeEffect cfg isCommit).chan =
        mapAll (fun n c => (v.channelTakesEffect isCommit (isCommit && cfg.mode == 0) n c).unfog (drops n)) s.chan ∧
      (s.takeEffect cfg isCommit).ledger.deep = s.ledger.deep := by
  obtain ⟨v, hv, hpower, hchan, htxn, hdeep⟩ := s.takeEffect_finishes cfg isCommit
  obtain ⟨drops, hdrops⟩ := v.finishEffect_chan cfg isCommit (isCommit && cfg.mode == 0)
  refine ⟨v, drops, hchan, ?_, hpower, ?_, ?_, ?_⟩
  · rw [s.takeEffect_txn, htxn]
  · rw [hv, v.finishEffect_power, hpower]
  · rw [hv, hdrops, hchan]
  · rw [hv, v.finishEffect_ledger, hdeep]

/-! ## The apply tick -/

/-- The end of cause 21 leaves the others as they were. -/
theorem State.clearFault_fault_other (s : State) {b c : Nat} (hb : b < 64) (h : c ≠ b) :
    (s.clearFault b).power.fault c = s.power.fault c := by
  rw [State.clearFault_fault s b c hb]
  simp [h]

/-- A channel that may leave release leaves it at a HOLD commit, at its nominal code (R13). -/
theorem State.channelTakesEffect_leaves {s : State} {n : Chan} {c : Channel} (hreleased : c.released = true)
    (hleave : s.mayLeaveRelease n = true) :
    (s.channelTakesEffect true true n c).released = false ∧ (s.channelTakesEffect true true n c).retreated = false ∧
      (s.channelTakesEffect true true n c).code = (s.chanParams n).nom ∧
      (s.channelTakesEffect true true n c).latched = (s.chanParams n).nom := by
  unfold State.channelTakesEffect
  rw [hleave, hreleased]
  exact ⟨rfl, rfl, rfl, rfl⟩

/-- A retreat that a commit meets ends where the channel had sight when the commit passed (R14). -/
theorem State.channelTakesEffect_retreats {s : State} {n : Chan} {c : Channel} (hold : Bool) (hdriven : c.released = false)
    (hretreated : c.retreated = true) : (s.channelTakesEffect true hold n c).retreated = !s.txn.seen[n] := by
  unfold State.channelTakesEffect
  simp [hdriven, hretreated]

@[simp] theorem Channel.unfog_code (drops : Bool) (c : Channel) : (c.unfog drops).code = c.code := by
  unfold Channel.unfog
  split <;> rfl

@[simp] theorem Channel.unfog_latched (drops : Bool) (c : Channel) : (c.unfog drops).latched = c.latched := by
  unfold Channel.unfog
  split <;> rfl

@[simp] theorem State.setResident_held (s : State) : s.setResident.held = s.held := rfl

theorem State.endTxn_ledger (s : State) : s.endTxn.ledger = s.ledger := rfl

theorem State.endTxn_tel (s : State) : s.endTxn.tel = s.tel := rfl

theorem State.endTxn_configured (s : State) : s.endTxn.txn.configured = s.txn.configured := rfl

/-- The state that the apply begins from: it is due no more. -/
def State.applying (s : State) : State := { s with txn := { s.txn with due := { s.txn.due with apply := false } } }

theorem State.takeApply_openDue (s : State) : s.takeApply.chain.openDue = s.chain.openDue := by
  unfold State.takeApply
  split <;> simp

/-- What follows a commit's taking effect (R151, R153, R154): probation starts, and the transaction is over. -/
def State.afterEffect (u : State) : State :=
  let s2 := { u with
    txn := { u.txn with probation := if u.followsRoot then none else some 0, rollbackPending := false }
    chain := { u.chain with sysProbation := u.joined, diverged := false } }
  (s2.outcome 0 noObj 0 s2.markedChannels).endTxn.setResident

theorem State.takeApply_of_shadow {s : State} {img : Image} (h : s.txn.shadow = some img) :
    s.takeApply = (s.applying.takeEffect (img.configure s.txn.selMode s.txn.selVar) true).afterEffect := by
  unfold State.takeApply
  rw [h]
  rfl

theorem State.afterEffect_held (u : State) : u.afterEffect.held = u.held := by
  unfold State.afterEffect
  dsimp only
  rw [State.setResident_held, State.endTxn_held, State.outcome_held]
  rfl

theorem State.afterEffect_ledger (u : State) : u.afterEffect.ledger = u.ledger := by
  unfold State.afterEffect
  dsimp only
  rw [State.setResident_ledger, State.endTxn_ledger, State.outcome_ledger]

theorem State.afterEffect_configured (u : State) :
    u.afterEffect.txn.configured = (u.txn.live, u.txn.lastGood, if u.followsRoot then none else some 0, false) := by
  unfold State.afterEffect
  dsimp only
  rw [State.setResident_txn, State.endTxn_configured, State.outcome_txn]
  rfl

theorem State.afterEffect_lastOutcome (u : State) : lastOutcome u.afterEffect = some 0 := by
  unfold State.afterEffect lastOutcome
  dsimp only
  rw [State.setResident_tel, State.endTxn_tel, State.outcome_last]
  rfl

theorem State.followsRoot_congr {s t : State} (hstraps : t.power.straps = s.power.straps) (hstage : t.power.stage = s.power.stage) :
    t.followsRoot = s.followsRoot := by
  unfold State.followsRoot State.joined State.isUp State.isRoot Power.role
  rw [hstraps, hstage]

/-- What the apply of a shadow leaves, the rows below it over: what its taking effect left of what they do not touch. -/
theorem exec_commitApply {s : State} {img : Image} (hdue : s.txn.due.apply = true) (hframe : s.clock.frame = 0)
    (hshadow : s.txn.shadow = some img) :
    ∃ t u, exec .commitApply s = .next t ∧ s.applying.takeEffect (img.configure s.txn.selMode s.txn.selVar) true = u ∧
      t.held = u.held ∧
      t.txn.configured = (u.txn.live, u.txn.lastGood, if s.followsRoot then none else some 0, false) ∧
      ((s.isRoot = false ∨ s.chain.openDue = false) → t.txn.state = .idle ∧ t.txn.shadow = none) ∧
      lastOutcome t = some 0 ∧
      ((∀ r : Fin 64, u.ledger.deep[r] = false) → t.ledger.count = u.ledger.count) := by
  have happly := State.takeApply_of_shadow hshadow
  have hdue' := s.takeApply_openDue
  obtain ⟨hrHeld, hrConf, -, hrCount⟩ := s.takeApply.closeBoundary_keeps
  obtain ⟨-, -, -, -, -, hpower, -, -⟩ := s.applying.takeEffect_power (img.configure s.txn.selMode s.txn.selVar) true
  generalize hu : s.applying.takeEffect (img.configure s.txn.selMode s.txn.selVar) true = u at happly hpower
  have hidle : s.takeApply.txn.state = .idle := happly ▸ rfl
  have hnone : s.takeApply.txn.shadow = none := happly ▸ rfl
  have hheld : s.takeApply.held = u.held := happly ▸ u.afterEffect_held
  have hrows := State.closeBoundary_standsOrOpens hidle hnone
  have hstraps : u.power.straps = s.power.straps := by
    rw [hpower]
    exact congrArg Standing.straps (s.applying.clearFault_standing 21)
  have hstage : u.power.stage = s.power.stage := by
    rw [hpower]
    exact s.applying.clearFault_stage 21
  have happ : s.takeApply.power = u.power := congrArg Held.power hheld
  have hroot : s.takeApply.isRoot = s.isRoot := State.isRoot_of_straps ((congrArg Power.straps happ).trans hstraps)
  refine ⟨_, u, ?_, rfl, hrHeld.trans hheld, ?_, fun hopen => ?_, ?_, fun hdeep => ?_⟩
  · change execCommitApply s = _
    unfold execCommitApply State.takesNow
    rw [if_pos (by simp [hdue, hframe])]
  · rw [hrConf, happly, u.afterEffect_configured, State.followsRoot_congr hstraps hstage]
  · have hover := hrows.over (by rwa [hroot, hdue'])
    exact ⟨(congrArg Standing.state hover).trans hidle, (congrArg Standing.shadow hover).trans hnone⟩
  · have houtcomes := hrows.same Standing.outcomes fun _ _ _ => rfl
    exact (congrArg (fun l => l.getLast?.map OutcomeEntry.code) houtcomes).trans (happly ▸ u.afterEffect_lastOutcome)
  · have hledger : s.takeApply.ledger = u.ledger := happly ▸ u.afterEffect_ledger
    rw [hrCount (by rwa [hledger]), hledger]

theorem State.mayLeaveRelease_congr {s t : State} {n : Chan} (hfitted : t.fitted n = s.fitted n) (hchan : t.chan = s.chan)
    (hfault : t.power.fault (7 + (bankOf n).val) = s.power.fault (7 + (bankOf n).val)) :
    t.mayLeaveRelease n = s.mayLeaveRelease n := by
  unfold State.mayLeaveRelease
  rw [hfitted, hchan, hfault]

/-- How each channel stands after an apply (R13, R14). -/
theorem State.takeEffect_commits (s : State) (cfg : Configuration) :
    (∀ n : Chan, (s.chan[n]).retreated = true → (s.chan[n]).released = false →
      ((s.takeEffect cfg true).chan[n]).retreated = !s.txn.seen[n]) ∧
    (∀ n : Chan, cfg.mode = 0 → (s.chan[n]).released = true → s.mayLeaveRelease n = true →
      ((s.takeEffect cfg true).chan[n]).released = false ∧ ((s.takeEffect cfg true).chan[n]).retreated = false ∧
        ((s.takeEffect cfg true).chan[n]).code = (cfg.params.chan[n]).nom ∧
        ((s.takeEffect cfg true).chan[n]).latched = (cfg.params.chan[n]).nom) := by
  obtain ⟨v, drops, hvchan, hvtxn, hvpower, -, hchan, -⟩ := s.takeEffect_power cfg true
  rw [s.takeEffect_txn] at hvtxn
  refine ⟨fun n hretreated hdriven => ?_, fun n hmode hreleased hleave => ?_⟩
  · rw [hchan, mapAll_get, Channel.unfog_retreated, State.channelTakesEffect_retreats _ hdriven hretreated, hvtxn]
  · have hnom : (v.chanParams n).nom = (cfg.params.chan[n]).nom := by
      unfold State.chanParams
      rw [hvtxn]
    have hmay : v.mayLeaveRelease n = true := by
      refine (State.mayLeaveRelease_congr (s := s) ?_ hvchan ?_).trans hleave
      · unfold State.fitted
        rw [hvpower, State.clearFault_power]
      · rw [hvpower]
        exact s.clearFault_fault_other (by omega) (by have := (bankOf n).isLt; omega)
    obtain ⟨h1, h2, h3, h4⟩ := State.channelTakesEffect_leaves (s := v) (n := n) hreleased hmay
    rw [hchan, mapAll_get, hmode]
    simp only [Channel.unfog_released, Channel.unfog_retreated, Channel.unfog_code, Channel.unfog_latched]
    exact ⟨h1, h2, h3.trans hnom, h4.trans hnom⟩

/-- Settles O28: the apply is the shadow's taking effect as a commit, which rows 7 to 9 leave alone. -/
theorem commitMakesShadowLive : Obligations.CommitMakesShadowLive := by
  unfold Obligations.CommitMakesShadowLive
  refine ⟨fun s img hdue hframe hshadow => ?_, fun s img n hdue hframe hshadow hmode hreleased hleave => ?_⟩
  all_goals
    obtain ⟨t, u, hexec, hu, hheld, hconf, hover, hlast, hcount⟩ := exec_commitApply hdue hframe hshadow
    obtain ⟨hretreat, hleaves⟩ := s.applying.takeEffect_commits (img.configure s.txn.selMode s.txn.selVar)
    obtain ⟨-, -, -, -, -, hpower, -, hdeep⟩ :=
      s.applying.takeEffect_power (img.configure s.txn.selMode s.txn.selVar) true
    have htxn := s.applying.takeEffect_txn (img.configure s.txn.selMode s.txn.selVar) true
    obtain ⟨_, _, -, -, -, hguarded⟩ := s.applying.takeEffect_guarded (img.configure s.txn.selMode s.txn.selVar) true
    rw [hu] at hretreat hleaves hpower hdeep htxn hguarded
    have hchan : t.chan = u.chan := congrArg Held.chan hheld
    have htpower : t.power = u.power := congrArg Held.power hheld
  · have hlive : t.txn.live = u.txn.live := congrArg Prod.fst hconf
    have hgood : t.txn.lastGood = u.txn.lastGood := congrArg (fun x => x.2.1) hconf
    have hprob : t.txn.probation = if s.followsRoot then none else some 0 := congrArg (fun x => x.2.2.1) hconf
    have hback : t.txn.rollbackPending = false := congrArg (fun x => x.2.2.2) hconf
    have hdrive : t.pins.rtrDrive = u.pins.rtrDrive := congrArg Held.drive hheld
    have hcells : t.mem.cells = u.mem.cells := congrArg Held.cells hheld
    refine ⟨t, hexec, ?_, hover, hlast, ?_, ?_, fun hfollows => ?_, hback, ?_, fun hnone => ?_, fun n hr hd => ?_, ?_⟩
    · rw [hlive, htxn]
    · rw [hgood, htxn]
      rfl
    · exact hdrive.trans ((congrArg Guarded.drive hguarded).trans (Bool.and_false _))
    · rw [hprob, hfollows]
      rfl
    · rw [htpower, hpower]
      exact s.applying.clearFault_lacks (by omega)
    · exact (hcount (by rwa [hdeep])).trans (congrArg Guarded.count hguarded)
    · rw [hchan]
      exact hretreat n hr hd
    · exact hcells.trans (congrArg Guarded.cells hguarded)
  · obtain ⟨h1, h2, h3, h4⟩ := hleaves n hmode hreleased hleave
    refine ⟨t, hexec, ?_, ?_⟩
    · rw [htpower, hpower]
      simp [Image.configure, hmode]
    · rw [hchan]
      exact ⟨h1, h2, h3, h4⟩

end Sys2Proof.Machine
end

section
/-! PROOFS. Urgent frames and the other duties of the chain. -/

namespace Sys2Proof.Machine

/-! ## Steps that move the chain's own state alone -/

theorem State.setChain_moves (s : State) (c : Chain) : s.onlyMoves { s with chain := c } [.chain] := by
  intro p hp
  cases p <;> simp_all [State.agree]

theorem linkPortOf_portIndex (q : LinkPort) : linkPortOf (portIndex q) = q := by
  cases q <;> rfl

theorem portIndex_inj {p q : LinkPort} (h : portIndex p = portIndex q) : p = q := by
  rw [← linkPortOf_portIndex p, ← linkPortOf_portIndex q, h]

theorem State.sendUrgent_moves (s : State) (frame : List Byte) (but : Option LinkPort) :
    s.onlyMoves (s.sendUrgent frame but) [.chain] := s.setChain_moves _

/-- An urgent frame goes out on a live port that it did not come from (R403, R404). -/
theorem State.sendUrgent_out {s : State} {q : LinkPort} {but : Option LinkPort} (hlive : s.portLive q = true) (hbut : but ≠ some q)
    (frame : List Byte) : (s.sendUrgent frame but).chain.outUrgent[portIndex q] = some frame := by
  have hother : (but.map portIndex != some (portIndex q)) = true := by
    cases but with
    | none => rfl
    | some p =>
      rw [bne_iff_ne]
      intro h
      exact hbut (congrArg some (portIndex_inj (Option.some.inj h)))
  unfold State.sendUrgent
  dsimp only
  rw [mapAll_get]
  exact if_pos (by rw [linkPortOf_portIndex, hlive, hother]; rfl)

theorem State.bump_counter (s : State) (i : Fin 18) : (s.bump i).port.counter[i] = s.port.counter[i] + 1 := by
  unfold State.bump
  exact Vector.getElem_set_self _

theorem State.countBad_of_runs {s : State} (h : s.coreRuns = true) : s.countBad = s.bump 6 := if_pos h

/-! ## Urgent frames (R18, R404) -/

/-- A frame that its CHK does not mar goes on as it came; any other with its CHK complemented. -/
def urgentOut (frame : UrgentRx) : List Byte :=
  if crc8 (frame.bytes.toList.take 3) == frame.bytes.toList.getD 3 0 then frame.bytes.toList
  else frame.bytes.toList.take 3 ++ [~~~(crc8 (frame.bytes.toList.take 3))]

theorem exec_urgentRetreat {s : State} {p : LinkPort} {frame : UrgentRx} (hlive : s.portLive p = true)
    (hclean : frame.clean = true) (hcode : frame.bytes[0] = 1) :
    exec (.urgentRetreat p frame) s = .next
      (if crc8 (frame.bytes.toList.take 3) == frame.bytes.toList.getD 3 0 && s.coreLive && !s.chain.causeway then
        ((s.sendUrgent (urgentOut frame) (some p)).retreatAll.logEvent 2 0
          (BitVec.ofNat 16 (fieldAt frame.bytes.toList 1 2 % 4096)))
      else s.sendUrgent (urgentOut frame) (some p)) := by
  have hfirst : (frame.bytes.toList.getD 0 0 != 1) = false := by
    have h0 : frame.bytes.toList.getD 0 0 = frame.bytes[0] := by simp [List.getD]
    rw [h0, hcode]
    rfl
  change execUrgentRetreat p frame s = _
  unfold execUrgentRetreat
  dsimp only
  rw [hlive, hclean, hfirst]
  exact (apply_ite Host.Outcome.next _ _ _).symm

/-- Settles O34: a sound frame retreats all and goes on, one with a wrong CHK only goes on, and one that a code error mars is
counted. -/
theorem urgentRetreatsAll : Obligations.UrgentRetreatsAll := by
  unfold Obligations.UrgentRetreatsAll
  refine ⟨fun s p frame hlive hclean hcode hchk hcore hway => ?_, fun s p frame hlive hclean hcode hchk => ?_,
    fun s p frame hlive hmarred hruns => ?_⟩
  all_goals have hlast : frame.bytes.toList.getD 3 0 = frame.bytes[3] := by simp [List.getD]
  · have hexec := exec_urgentRetreat hlive hclean hcode
    have hout : (urgentOut frame) = frame.bytes.toList := by
      unfold urgentOut
      rw [hlast, hchk, beq_self_eq_true, if_pos rfl]
    rw [hlast, hchk, hcore, hway, beq_self_eq_true, hout] at hexec
    simp only [Bool.not_false, Bool.and_self, if_true] at hexec
    refine ⟨_, hexec, fun n => ?_, fun n => ?_, fun q hq hne => ?_, ?_⟩
    · rw [State.logEvent_chan]
      exact State.retreatAll_allRetreated _ n
    · rw [State.logEvent_chan]
      exact State.retreat_released _ _ n
    · rw [State.logEvent_chain, State.retreatAll, State.retreat_chain]
      exact State.sendUrgent_out hq (fun h => hne (Option.some.inj h).symm) _
    · exact State.onlyMoves_trans (State.onlyMoves_mono (s.sendUrgent_moves _ _) (by decide))
        (State.onlyMoves_trans (State.onlyMoves_mono (State.retreat_moves _ _) (by decide))
          (State.onlyMoves_mono (State.logEvent_moves _ _ _ _ _) (by decide)))
  · have hexec := exec_urgentRetreat hlive hclean hcode
    have hfail : (crc8 (frame.bytes.toList.take 3) == frame.bytes.toList.getD 3 0) = false := by
      rw [hlast]
      exact beq_false_of_ne hchk
    have hout : (urgentOut frame).take 3 = frame.bytes.toList.take 3 := by
      unfold urgentOut
      rw [hfail, if_neg Bool.false_ne_true, List.take_append_of_le_length (by simp), List.take_take]
      rfl
    rw [hfail] at hexec
    exact ⟨_, hexec, s.sendUrgent_moves _ _, fun q hq hne =>
      ⟨_, State.sendUrgent_out hq (fun h => hne (Option.some.inj h).symm) _, hout⟩⟩
  · refine ⟨s.bump 6, ?_, s.bump_counter 6, s.bump_moves 6⟩
    change execUrgentRetreat p frame s = _
    unfold execUrgentRetreat
    dsimp only
    rw [hlive, hmarred, State.countBad_of_runs hruns]
    rfl

/-! ## The other duties of the chain (R367, R382, R385, R403, R405) -/

theorem exec_rootEnumeration {s : State} (hjoin : s.power.stage = .join) (hroot : s.isRoot = true) (hticks : 17 ≤ s.chain.joinTicks)
    (hframe : s.clock.frame = 0) :
    exec .rootEnumeration s = .next (State.endJoin { s with chain := { s.chain with id := some 0, aligned := true } }) := by
  change execRootEnumeration s = _
  unfold execRootEnumeration
  rw [if_pos (by simp [hjoin, hroot, hticks, hframe])]

/-- JOIN's end: the wait's report is over, and TRIM-WAIT begins or bring-up completes. -/
theorem State.endJoin_ends (s : State) :
    s.endJoin.power.fault 31 = false ∧ s.endJoin.power.stage = (if s.trimmed then .done else .trimWait) := by
  have hfault := s.clearFault_lacks (b := 31) (by omega)
  have htrimmed : (s.clearFault 31).trimmed = s.trimmed := by
    unfold State.trimmed
    rw [State.clearFault_cal, State.clearFault_power]
  unfold State.endJoin State.enterTrimWait
  rw [htrimmed]
  split
  · exact ⟨hfault, rfl⟩
  · exact ⟨hfault, rfl⟩

theorem State.setEnumcnt_counts {s : State} {v : BitVec 16} (h : v ≠ s.chain.enumcnt) :
    s.setEnumcnt v = { s.bump 10 with chain := { s.chain with enumcnt := v } } := by
  unfold State.setEnumcnt
  rw [if_neg (Ne.symm h)]
  rfl

/-- Settles O35: each duty is its equation in the chain's state. -/
theorem chainDuties : Obligations.ChainDuties := by
  unfold Obligations.ChainDuties
  refine ⟨fun s hleft hat => ?_, fun s hhears hat => ?_, fun s p set turn hlive hclean => ?_,
    fun s set turn rtt k hhears hclean hout hseq hat hin => ?_, fun s => ⟨_, rfl, rfl, s.setChain_moves _⟩,
    fun s p hgood => ?_, fun s p => ⟨_, rfl, rfl, s.setChain_moves _⟩, fun s hjoin hroot hticks hframe => ?_,
    fun s v n hrun hn hroot hpast hnew hidle htx hcmd hprob => ?_⟩
  · refine ⟨{ s.sendUrgent (urgentFrame ((s.deviceId).getD 0)) none with
      chain := { (s.sendUrgent (urgentFrame ((s.deviceId).getD 0)) none).chain with
        urgentLeft := s.chain.urgentLeft - 1, urgentAt := s.clock.clk } }, if_pos ⟨hleft, hat⟩, Nat.sub_add_cancel hleft, fun q hq => ?_, ?_⟩
    · exact State.sendUrgent_out hq (by simp) _
    · exact s.setChain_moves _
  · refine ⟨_, if_pos ?_, rfl, rfl, rfl, rfl, s.setChain_moves _⟩
    rw [hhears, Bool.true_and]
    cases hm : s.chain.measureAt with
    | none => rfl
    | some k => exact decide_eq_true (hat k hm)
  · have hexec : exec (.measureRequest p set turn) s = .next { s with chain := { s.chain.insert (portIndex p) (.echo set.seq turn) with
        outEcho := s.chain.outEcho.set (portIndex p) (some (set.seq :: leBytes 2 turn.toNat)) } } := by
      change execMeasureRequest p set turn s = _
      unfold execMeasureRequest
      rw [hlive, hclean]
      rfl
    exact ⟨_, hexec, Vector.getElem_set_self _, s.setChain_moves _⟩
  · have hexec : exec (.measureEcho set turn rtt) s = .next { s with chain := { s.chain with
        delays := (((rtt : Int) - turn.toNat) :: s.chain.delays).take 16, measureOut := false, echoMisses := 0 } } := by
      change execMeasureEcho set turn rtt s = _
      unfold execMeasureEcho
      rw [hhears, hclean, hout, hseq, hat]
      simp only [Bool.not_true, Bool.false_eq_true, if_false, beq_self_eq_true, Bool.true_and, Option.any_some]
      exact if_pos (decide_eq_true hin)
    exact ⟨_, hexec, rfl, by rw [List.length_take, List.length_cons], rfl, rfl, s.setChain_moves _⟩
  · exact ⟨_, if_pos hgood, rfl, s.setChain_moves _⟩
  · obtain ⟨hfault, hstage⟩ := State.endJoin_ends { s with chain := { s.chain with id := some 0, aligned := true } }
    refine ⟨_, exec_rootEnumeration hjoin hroot hticks hframe, ?_, ?_, hfault, hstage, ?_⟩
    · simp [State.endJoin]
    · simp [State.endJoin]
    · simp [State.endJoin]
  · refine ⟨s.setEnumcnt v, ?_, rfl, ?_, ?_⟩
    · change execEnumcntUpdate s = _
      unfold execEnumcntUpdate
      rw [hrun]
      exact if_pos (by simp [hroot, hpast, hn, hnew, hidle, htx, hcmd, hprob])
    · rw [State.setEnumcnt_counts hnew]
      exact s.bump_counter 10
    · rw [State.setEnumcnt_counts hnew]
      exact State.onlyMoves_trans (State.onlyMoves_mono (s.bump_moves 10) (by decide))
        (State.onlyMoves_mono (State.setChain_moves _ _) (by decide))

end Sys2Proof.Machine
end

section
/-! PROOFS. Islands and alignment. -/

namespace Sys2Proof.Machine

/-! ## What rows 7 to 9 leave of the chain in a device that is not the root

They end the tick of a probation trip and count no missed tick. -/

/-- The chain apart from a probation trip's tick, and counter 7, which counts missed ticks (R390). -/
def State.chainView (s : State) : Chain × BitVec 32 := ({ s.chain with probtrip := 0 }, s.port.counter[7])

theorem State.chainView_island (s : State) : s.chainView.1.island = s.chain.island := rfl

theorem State.bump_chainView (s : State) {i : Fin 18} (h : i ≠ 7) : (s.bump i).chainView = s.chainView := by
  have hne : (i : Nat) ≠ 7 := fun he => h (Fin.ext he)
  simp [State.chainView, State.bump, hne]

@[simp] theorem State.logEvent_chainView (s : State) (code sub : Byte) (obj : BitVec 16) (data : BitVec 48) :
    (s.logEvent code sub obj data).chainView = s.chainView := by
  unfold State.logEvent
  dsimp only
  split
  · rfl
  · exact s.bump_chainView (i := 4) (by decide)

@[simp] theorem State.freezeLedger_chainView (s : State) : s.freezeLedger.chainView = s.chainView := by
  unfold State.freezeLedger
  dsimp only
  split
  · exact s.bump_chainView (i := 4) (by decide)
  · rfl

@[simp] theorem State.freezeStatus_chainView (s : State) : s.freezeStatus.chainView = s.chainView := by
  unfold State.freezeStatus
  dsimp only
  split
  · exact s.bump_chainView (i := 4) (by decide)
  · rfl

@[simp] theorem State.wantContent_chainView (s : State) (id : BitVec 16) : (s.wantContent id).chainView = s.chainView := by
  unfold State.wantContent
  split
  · exact s.bump_chainView (i := 4) (by decide)
  · rfl

@[simp] theorem State.sendPause_chainView (s : State) (time : BitVec 16) : (s.sendPause time).chainView = s.chainView := by
  unfold State.sendPause
  split
  · exact s.bump_chainView (i := 3) (by decide)
  · rfl

@[simp] theorem State.raiseFor_chainView (s : State) (code : Nat) (who : PlayerNo → Bool) :
    (s.raiseFor code who).chainView = s.chainView := rfl

@[simp] theorem State.fireLedger_chainView (s : State) (i : Fin 128) : (s.fireLedger i).chainView = s.chainView := by
  unfold State.fireLedger
  simp

@[simp] theorem State.judgeBudget_chainView (s : State) (i : Fin 128) : (s.judgeBudget i).chainView = s.chainView := by
  unfold State.judgeBudget
  dsimp only
  split
  · rw [State.fireLedger_chainView]
    rfl
  · rfl

@[simp] theorem State.countUp_chainView (s : State) (i : Fin 128) : (s.countUp i).chainView = s.chainView :=
  State.judgeBudget_chainView _ _

theorem State.row7_chainView (s : State) : s.row7.chainView = s.chainView := by
  unfold State.row7
  extract_lets s1 _ s2 s3
  have h1 : s1.chainView = s.chainView := foldl_keeps State.chainView (fun s r => by split <;> simp) _ s
  clear_value s1
  exact h1

theorem State.srBoundary_chainView (s : State) : s.srBoundary.chainView = s.chainView := by
  unfold State.srBoundary
  rfl

theorem State.portBoundary_chainView (s : State) : s.portBoundary.chainView = s.chainView := by
  unfold State.portBoundary
  extract_lets s2 quarantined
  have h2 : s2.chainView = s.chainView := by
    unfold s2
    split <;> simp
  clear_value s2
  rw [← h2]
  split
  · exact foldl_keeps State.chainView (fun s id => s.wantContent_chainView id) _ _
  · rfl

theorem State.closeNine_chainView (s : State) : s.closeNine.chainView = s.chainView := by
  unfold State.closeNine
  extract_lets d s1 s2
  have h1 : s1.chainView = s.chainView := by
    unfold s1
    split <;> simp
  have h2 : s2.chainView = s1.chainView := by
    unfold s2
    split <;> simp
  clear_value s2
  split
  · rfl
  · exact h2.trans h1

theorem State.row8_chainView (s : State) : s.row8.chainView = s.chainView := rfl
theorem State.row9_chainView (s : State) : s.row9.chainView = s.chainView := rfl
theorem State.probtripBoundary_chainView (s : State) : s.probtripBoundary.chainView = s.chainView := rfl

theorem State.restRows_chainView (s : State) : s.restRows.chainView = s.chainView := by
  unfold State.restRows
  rw [State.closeNine_chainView, State.portBoundary_chainView, State.srBoundary_chainView, State.row9_chainView,
    State.row8_chainView, State.row7_chainView, State.probtripBoundary_chainView]

theorem State.closeBoundary_chainView {s : State} (hroot : s.isRoot = false) : s.closeBoundary.chainView = s.chainView := by
  unfold State.closeBoundary
  split
  · unfold State.takeRest
    extract_lets _ _ s1 s2
    have h2 : s2.chainView = s.chainView := by
      unfold s2
      split
      · next hboundary =>
        have hr : s1.isRoot = s.isRoot := rfl
        rw [hr, hroot] at hboundary
        simp at hboundary
      · rfl
    split
    · rw [State.closeNine_chainView, State.portBoundary_chainView]
      rfl
    · rw [← State.restRows, State.restRows_chainView, h2]
  · rfl

/-! ## The island (R391) -/

/-- What becomes of a device at its fourth missed tick, before HOLD is live: all retreats, and the transaction is over. -/
def State.islanding (s : State) : State := (s.retreatAll.discard 4).endTxn

theorem State.takeIsland_standing (s : State) :
    s.takeIsland.standing = { s.islanding.standing with live := s.islanding.txn.live.image.configure 0 0 } := by
  unfold State.takeIsland
  dsimp only
  rw [State.logEvent_standing, ← State.islanding]
  have h := s.islanding.takeEffect_standing (s.islanding.txn.live.image.configure 0 0)
  generalize s.islanding.takeEffect (s.islanding.txn.live.image.configure 0 0) false = u at h ⊢
  exact h

theorem State.takeIsland_ledger (s : State) :
    s.takeIsland.ledger.count = s.ledger.count ∧ s.takeIsland.ledger.deep = s.ledger.deep := by
  have hledger : s.islanding.ledger = s.ledger := by
    unfold State.islanding State.retreatAll
    rw [State.endTxn_ledger, State.discard_ledger, State.retreat_ledger]
  obtain ⟨_, _, -, -, -, hguarded⟩ := s.islanding.takeEffect_guarded (s.islanding.txn.live.image.configure 0 0) false
  obtain ⟨-, -, -, -, -, -, -, hdeep⟩ := s.islanding.takeEffect_power (s.islanding.txn.live.image.configure 0 0) false
  have hcount := congrArg Guarded.count hguarded
  unfold State.takeIsland
  dsimp only
  rw [State.logEvent_ledger, ← State.islanding]
  generalize s.islanding.takeEffect (s.islanding.txn.live.image.configure 0 0) false = u at hcount hdeep ⊢
  exact ⟨hcount.trans (congrArg Ledger.count hledger), hdeep.trans (congrArg Ledger.deep hledger)⟩

theorem State.takeIsland_chain (s : State) : s.takeIsland.chain.island = true := by
  unfold State.takeIsland
  dsimp only
  rw [State.logEvent_chain]

theorem State.isRoot_of_standing {s t : State} (h : s.standing.straps = t.standing.straps) : s.isRoot = t.isRoot :=
  State.isRoot_of_straps h

theorem State.takeIsland_isRoot (s : State) : s.takeIsland.isRoot = s.isRoot := by
  refine State.isRoot_of_standing ?_
  rw [s.takeIsland_standing]
  unfold State.islanding
  rw [State.discard_endTxn_standing]
  change s.retreatAll.power.straps = s.power.straps
  unfold State.retreatAll
  rw [State.retreat_power]

/-! ## Alignment (R388, R389) -/

theorem State.stepAlign_chain (s : State) (count : BitVec 48) :
    (s.stepAlign count).chain = { s.chain with aligned := true, boundaryErr := 0, errTicks := 0 } :=
  State.clearFault_chain _ _

theorem State.stepAlign_clock (s : State) (count : BitVec 48) : (s.stepAlign count).clock = { s.clock with epoch := count } :=
  State.clearFault_clock _ _

theorem State.stepAlign_moves (s : State) (count : BitVec 48) :
    s.onlyMoves (s.stepAlign count) [.clock, .chain, .power, .tel, .port] := by
  have hplaced : s.onlyMoves { s with
      clock := { s.clock with epoch := count }
      chain := { s.chain with aligned := true, boundaryErr := 0, errTicks := 0 } } [.clock, .chain, .power, .tel, .port] := by
    intro p hp
    cases p <;> simp_all [State.agree]
  exact State.onlyMoves_trans hplaced (State.onlyMoves_mono (State.clearFault_moves _ _) (by decide))

/-! ## A valid sync frame (R377, R390) -/

theorem State.forwardSync_takesSync (s : State) (f : SyncRx) : (s.forwardSync f).takesSync = s.takesSync := rfl

theorem State.forwardSync_syncValid (s : State) (f : SyncRx) : (s.forwardSync f).syncValid f = s.syncValid f := rfl

/-- A valid frame of the command that is asked for is forwarded and brings its fields; one with a reserved command is counted, and
the command acts on a device past JOIN that is no island. -/
theorem State.receiveSync_of_valid {s : State} {f : SyncRx} {is : Nat → Bool} {act : State → State} (hhears : s.hearsSync = true)
    (htakes : s.takesSync = true) (hsound : SyncRx.sound f = true) (hvalid : s.syncValid f = true)
    (his : is (SyncRx.cmd f) = true) :
    ∃ u, u = (if 6 ≤ SyncRx.cmd f then ((s.forwardSync f).takeSync f).bump 8 else (s.forwardSync f).takeSync f) ∧
      s.receiveSync f is act = if u.pastJoin && !u.chain.island then act u else u := by
  refine ⟨_, rfl, ?_⟩
  unfold State.receiveSync
  dsimp only
  rw [hhears, hsound, his, State.forwardSync_takesSync, htakes, State.forwardSync_syncValid, hvalid]
  rfl

/-- In a device that is not the root nothing opens at a boundary. -/
theorem State.closeBoundary_standing {s : State} (hidle : s.standing.state = .idle) (hshadow : s.standing.shadow = none)
    (hroot : s.isRoot = false) : s.closeBoundary.standing = s.standing :=
  (State.closeBoundary_standsOrOpens hidle hshadow).over (.inl hroot)

theorem State.faultDiscards_live (s : State) : s.faultDiscards.txn.live = s.txn.live := by
  unfold State.faultDiscards
  (repeat' split) <;> simp

@[simp] theorem State.beginFault_live (s : State) (b : Nat) : (s.beginFault b).txn.live = s.txn.live := by
  have hends (u : State) : (u.endsProbation b).txn.live = u.txn.live := by
    unfold State.endsProbation
    split <;> rfl
  unfold State.beginFault
  dsimp only
  split
  · rfl
  · rw [hends, State.faultDiscards_live]
    split <;> simp

/-- An island keeps what the frame places until it rejoins (R392). -/
theorem State.takeSync_of_island {s : State} {f : SyncRx} {d : Int} (hpast : s.pastJoin = true) (hisland : s.chain.island = true)
    (hd : s.chain.delayA = some d) :
    (s.forwardSync f).takeSync f = { s.forwardSync f with chain := { (s.forwardSync f).chain with
      synced := true, validRun := s.chain.validRun + 1, rxEpoch := SyncRx.epoch f, txopen := SyncRx.flag f 1,
      enumcnt := BitVec.ofNat 16 (fieldAt (SyncRx.bytes f) 12 2), seNext := BitVec.ofNat 8 (fieldAt (SyncRx.bytes f) 11 1),
      rxBase := some (SyncRx.count f d - BitVec.ofNat 48 s.clock.clk) } } := by
  have hjoin : s.power.stage ≠ .join := by
    intro h
    unfold State.pastJoin State.isUp at hpast
    simp [h] at hpast
  have hfpast : (s.forwardSync f).pastJoin = true := hpast
  have hfisland : (s.forwardSync f).chain.island = true := hisland
  have hfd : (s.forwardSync f).chain.delayA = some d := hd
  have hfstage : (s.forwardSync f).power.stage ≠ .join := hjoin
  have hfrun : (s.forwardSync f).chain.validRun = s.chain.validRun := rfl
  have hfclk : (s.forwardSync f).clock = s.clock := rfl
  rw [← hfrun, ← hfclk]
  generalize s.forwardSync f = u at hfpast hfisland hfd hfstage
  unfold State.takeSync
  extract_lets run _ s1 s2
  have hd1 : s1.chain.delayA = some d := hfd
  have hi1 : s1.chain.island = true := hfisland
  have h2 : s2 = { s1 with chain := { s1.chain with rxBase := some (SyncRx.count f d - BitVec.ofNat 48 s1.clock.clk) } } := by
    unfold s2 State.align
    rw [hd1]
    dsimp only
    rw [if_pos hi1]
  rw [if_neg hfstage, hfisland, Bool.not_true, Bool.and_false, if_neg Bool.false_ne_true, h2]
  unfold s1 run
  rw [hfisland]
  rfl

/-- Settles O36: the island's rows leave what becoming one made; the rejoin aligns in one step; a fault of alignment discards. -/
theorem islandAndAlignment : Obligations.IslandAndAlignment := by
  unfold Obligations.IslandAndAlignment
  refine ⟨fun s hdue hframe hroot => ?_, fun s base hisland hrun hframe hbase => ?_, fun s hbase => ?_,
    fun s f d hhears htakes hpast hisland hsound hvalid hcmd hd => ?_, fun s hpast herr => ?_⟩
  · have hexec : exec .island s = .next s.takeIsland.closeBoundary := by
      change execIsland s = _
      unfold execIsland State.takesNow
      rw [if_pos (by simp [hdue, hframe])]
    have hstands : s.takeIsland.standing = { s.retreatAll.standing with
        state := .idle, shadow := none, outcomes := (s.retreatAll.discard 4).tel.outcomes,
        live := s.islanding.txn.live.image.configure 0 0 } := by
      rw [s.takeIsland_standing]
      unfold State.islanding
      rw [State.discard_endTxn_standing]
    have hover := State.closeBoundary_standing (congrArg Standing.state hstands) (congrArg Standing.shadow hstands)
      (s.takeIsland_isRoot.trans hroot)
    rw [hstands] at hover
    have hview := State.closeBoundary_chainView (s.takeIsland_isRoot.trans hroot)
    obtain ⟨-, -, -, hcount⟩ := s.takeIsland.closeBoundary_keeps
    obtain ⟨hled, hdeep⟩ := s.takeIsland_ledger
    have hisland : s.takeIsland.closeBoundary.chain.island = true := by
      rw [← State.chainView_island, hview, State.chainView_island, s.takeIsland_chain]
    rw [hdeep, hled] at hcount
    generalize s.takeIsland.closeBoundary = t at hexec hover hcount hisland
    have hreleased (n : Chan) : (t.chan[n]).released = (s.retreatAll.chan[n]).released :=
      congrFun (congrArg Standing.released hover) n
    have hretreated (n : Chan) : (t.chan[n]).retreated = (s.retreatAll.chan[n]).retreated :=
      congrFun (congrArg Standing.retreated hover) n
    refine ⟨_, hexec, ?_, fun n => ?_, congrArg Standing.state hover, congrArg Standing.shadow hover,
      congrArg (fun x => x.live.mode) hover, fun hopen => ?_, fun n hn => ?_, ?_, fun hnone => ?_⟩
    · exact hisland
    · rw [hreleased, hretreated]
      exact s.retreatAll_allRetreated n
    · have houtcomes : t.tel.outcomes = (s.retreatAll.discard 4).tel.outcomes :=
        congrArg Standing.outcomes hover
      unfold lastOutcome
      rw [houtcomes]
      refine State.lastOutcome_discard (s := s.retreatAll) ?_ 4
      unfold State.retreatAll
      rwa [State.retreat_txn]
    · rw [hreleased]
      exact (State.retreat_released s _ n).trans hn
    · have hcells : t.mem.cells = s.retreatAll.mem.cells := congrArg Standing.cells hover
      rw [hcells]
      unfold State.retreatAll
      rw [State.retreat_mem]
    · exact hcount hnone
  · have hexec : exec .islandRejoin s = .next (State.logEvent { s.stepAlign (base + BitVec.ofNat 48 s.clock.clk) with
        chain := { (s.stepAlign (base + BitVec.ofNat 48 s.clock.clk)).chain with
          island := false, validRun := 0, missed := 0
          synced := (s.stepAlign (base + BitVec.ofNat 48 s.clock.clk)).clock.tick ==
            s.chain.rxEpoch.toNat / Config.framesPerTick } } 0x0B 0 0) := by
      change execIslandRejoin s = _
      unfold execIslandRejoin
      rw [hbase]
      exact if_pos (by simp [hisland, hrun, hframe])
    have hchain := s.stepAlign_chain (base + BitVec.ofNat 48 s.clock.clk)
    have hclock := s.stepAlign_clock (base + BitVec.ofNat 48 s.clock.clk)
    refine ⟨_, hexec, ?_, ?_, ?_, ?_, ?_, ?_, ?_⟩
    · rw [State.logEvent_chain]
    · rw [State.logEvent_chain]
      exact congrArg Chain.aligned hchain
    · rw [State.logEvent_chain]
    · rw [State.logEvent_clock]
      exact congrArg Clock.epoch hclock
    · rw [State.logEvent_chain]
      exact congrArg Chain.boundaryErr hchain
    · rw [State.logEvent_power]
      exact State.clearFault_lacks _ (by omega)
    · exact State.onlyMoves_trans (State.onlyMoves_mono (s.stepAlign_moves _) (by decide))
        (State.onlyMoves_trans (State.onlyMoves_mono (State.setChain_moves _ _) (by decide))
          (State.onlyMoves_mono (State.logEvent_moves _ _ _ _ _) (by decide)))
  · change execIslandRejoin s = _
    unfold execIslandRejoin
    rw [hbase]
  · obtain ⟨u, hu, hreceive⟩ := State.receiveSync_of_valid (is := (· == 0)) (act := fun s => s.openLate f) hhears htakes hsound
      hvalid (by rw [hcmd]; rfl)
    rw [hcmd, if_neg (by omega), State.takeSync_of_island hpast hisland hd] at hu
    have hexec : exec (.syncNone f) s = .next u := by
      change Host.Outcome.next (s.receiveSync f (· == 0) fun s => s.openLate f) = _
      have hu' : u.chain.island = true := hu ▸ hisland
      rw [hreceive, hu', Bool.not_true, Bool.and_false]
      rfl
    subst hu
    exact ⟨_, hexec, rfl, hisland, rfl, rfl, rfl⟩
  · have hexec : exec .alignmentFault s = .next (s.beginFault 28) := by
      change execAlignmentFault s = _
      unfold execAlignmentFault
      rw [if_pos (by simp [hpast, herr])]
    refine ⟨_, hexec, s.beginFault_has (by omega), ?_, State.beginFault_chan _ _, fun hnew => ?_⟩
    · rw [State.beginFault_live]
    · exact (State.beginFault_discards hnew).1

end Sys2Proof.Machine
end

section
/-! PROOFS. Returns. -/

namespace Sys2Proof.Machine

/-! ## Returns (R372, R393, R394) -/

theorem Return.merge_tick (a b : Return) : (a.merge b).tick = a.tick := rfl

theorem Return.merge_vetoId (a b : Return) : (a.merge b).vetoId.toNat = min a.vetoId.toNat b.vetoId.toNat := by
  unfold Return.merge
  dsimp only
  split <;> omega

theorem mergeAll_tick (l : List Return) (r : Return) : (l.foldl Return.merge r).tick = r.tick :=
  foldl_keeps Return.tick Return.merge_tick l r

theorem State.ownReturn_tick (s : State) (t : BitVec 24) : (s.ownReturn t).tick = t := by
  unfold State.ownReturn
  split <;> rfl

theorem State.mergedReturn_tick (s : State) (t : BitVec 24) : (s.mergedReturn t).tick = t :=
  (mergeAll_tick _ _).trans (s.ownReturn_tick t)

/-- An expected return that is missing is set so by the core (R394). -/
theorem State.mergedReturn_missing {s : State} {t : BitVec 24} (hway : s.wayCarries = false)
    (h : ∃ k ∈ s.downstream, s.heldReturn t k = none) : (s.mergedReturn t).missing = true := by
  obtain ⟨k, hk, hnone⟩ := h
  have hlate : (s.downstream.any fun k => (s.heldReturn t k).isNone) = true :=
    List.any_eq_true.mpr ⟨k, hk, by rw [hnone]; rfl⟩
  unfold State.mergedReturn
  dsimp only
  rw [hway, hlate]
  simp

theorem State.downstream_both {s : State} (hb : s.portLive .b = true) (hc : s.portLive .c = true) : s.downstream = [0, 1] := by
  unfold State.downstream
  rw [List.filter_eq_self.mpr]
  · rfl
  · intro k _
    split
    · exact hb
    · exact hc

/-- With both returns held, the merged return is the device's own with theirs, and none is missing of it. -/
theorem State.mergedReturn_both {s : State} {t : BitVec 24} {b c : Return} (hb : s.portLive .b = true) (hc : s.portLive .c = true)
    (h0 : s.heldReturn t 0 = some b) (h1 : s.heldReturn t 1 = some c) :
    s.mergedReturn t = ((s.ownReturn t).merge b).merge c := by
  unfold State.mergedReturn
  dsimp only
  rw [State.downstream_both hb hc]
  simp [h0, h1]

/-- What the sending of a return leaves of the chain. -/
def State.sentReturn (s : State) (t : BitVec 24) : Chain :=
  let held := { s.chain with returnedTick := some t, merged := if s.wayCarries then s.chain.merged else some (s.mergedReturn t) }
  if s.isRoot && !s.wayCarries then { held with liveRun := noteLive s.chain.liveRun (s.mergedReturn t).live }
  else { held with outReturn := if s.portLive .a then some (s.mergedReturn t).bytes else s.chain.outReturn }

theorem State.sentReturn_returnedTick (s : State) (t : BitVec 24) : (s.sentReturn t).returnedTick = some t := by
  unfold State.sentReturn
  dsimp only
  split <;> rfl

theorem State.sentReturn_merged {s : State} (hway : s.wayCarries = false) (t : BitVec 24) :
    (s.sentReturn t).merged = some (s.mergedReturn t) := by
  unfold State.sentReturn
  dsimp only
  rw [hway]
  split <;> rfl

theorem State.sentReturn_of_root {s : State} (hroot : s.isRoot = true) (hway : s.wayCarries = false) (t : BitVec 24) :
    s.sentReturn t = { s.chain with
      returnedTick := some t, merged := some (s.mergedReturn t),
      liveRun := noteLive s.chain.liveRun (s.mergedReturn t).live } := by
  unfold State.sentReturn
  dsimp only
  rw [hroot, hway]
  rfl

theorem State.sentReturn_outReturn {s : State} (hroot : s.isRoot = false) (hlive : s.portLive .a = true) (t : BitVec 24) :
    (s.sentReturn t).outReturn = some (s.mergedReturn t).bytes := by
  unfold State.sentReturn
  dsimp only
  rw [hroot, hlive]
  rfl

theorem exec_returnSend {s : State} {n : BitVec 48} (hcount : s.returnCount = some n) :
    exec .returnSend s =
      .next (if s.sendsReturns && s.returnReady n then { s with chain := s.sentReturn (tickOf n) } else s) := by
  change execReturnSend s = _
  unfold execReturnSend State.sentReturn
  rw [hcount]
  dsimp only
  split
  · split <;> rfl
  · rfl

/-- When the return of the tick goes (R394). -/
theorem State.returnReady_iff (s : State) {n : BitVec 48} :
    s.returnReady n = true ↔ s.chain.returnedTick ≠ some (tickOf n) ∧ 8192 ≤ n.toNat % 16384 ∧
      ((s.downstream.all fun k => (s.heldReturn (tickOf n) k).isSome) = true ∨ 12288 - 2 * s.returnDepth ≤ n.toNat % 16384) := by
  unfold State.returnReady
  dsimp only
  rw [Bool.and_eq_true, Bool.and_eq_true, Bool.or_eq_true, bne_iff_ne, decide_eq_true_iff, decide_eq_true_iff, and_assoc]
  exact Iff.rfl

theorem exec_returnSend_of_ready {s : State} {n : BitVec 48} (hcount : s.returnCount = some n) (hrole : s.power.role ≠ .standalone)
    (hlink : s.power.isGood .link = true) (hisland : s.chain.island = false) (hnew : s.chain.returnedTick ≠ some (tickOf n))
    (hfrom : 8192 ≤ n.toNat % 16384)
    (hby : (s.downstream.all fun k => (s.heldReturn (tickOf n) k).isSome) = true ∨ 12288 - 2 * s.returnDepth ≤ n.toNat % 16384) :
    exec .returnSend s = .next { s with chain := s.sentReturn (tickOf n) } := by
  have hsends : s.sendsReturns = true := by
    unfold State.sendsReturns
    simp [hlink, hisland, hrole]
  have hready : s.returnReady n = true := by
    exact s.returnReady_iff.mpr ⟨hnew, hfrom, hby⟩
  rw [exec_returnSend hcount, hsends, hready]
  rfl

theorem exec_returnSend_of_early {s : State} {n : BitVec 48} (hcount : s.returnCount = some n) (hnot : s.returnReady n = false) :
    exec .returnSend s = .next s := by
  rw [exec_returnSend hcount, hnot, Bool.and_false]
  rfl

/-- Settles O33: a return of the tick is held, one that is not sound counted, and the merged one is sent when it is ready. -/
theorem returnsHeldAndMerged : Obligations.ReturnsHeldAndMerged := by
  unfold Obligations.ReturnsHeldAndMerged
  refine ⟨fun s p items k hp hlive hsound htype hcount htick hnew => ?_, fun s p items ended hp hlive hruns hbad => ?_,
    fun s n hcount hearly => ?_, fun s n b c hcount hrole hlink hnew hisland hfrom ha hb hc h0 h1 => ?_,
    fun s hrole hlink hway hnew hisland hfrom => ?_, fun s b c hrole hlink hway hnew hisland hfrom hb hc h0 h1 => ?_,
    fun s hrole hlink hway hnew hisland hfrom hmiss => ⟨fun hearly => ?_, fun hlate => ?_⟩⟩
  · have hnota : (p == LinkPort.a) = false := beq_false_of_ne hp
    refine ⟨{ s with chain := { s.chain with
      returns := s.chain.returns.set (if p = .b then 0 else 1 : Fin 2) (some (readReturn (rxBytes items))) } }, ?_, rfl,
      s.setChain_moves _⟩
    change execReturnFrame p items true s = _
    unfold execReturnFrame
    rw [hlive, hnota, hsound, hcount]
    have hheld : fieldAt (rxBytes items) 0 1 = 2 ∧ (readReturn (rxBytes items)).tick = k ∧ s.chain.returnedTick ≠ some k :=
      ⟨htype, htick, hnew⟩
    exact if_pos hheld
  · have hnota : (p == LinkPort.a) = false := beq_false_of_ne hp
    refine ⟨s.bump 6, ?_, s.bump_counter 6, s.bump_moves 6⟩
    change execReturnFrame p items ended s = _
    unfold execReturnFrame
    rw [hlive, hnota, hbad, State.countBad_of_runs hruns]
    rfl
  · refine exec_returnSend_of_early hcount (Bool.eq_false_iff.mpr fun hready => ?_)
    exact absurd (s.returnReady_iff.mp hready).2.1 (Nat.not_le.mpr hearly)
  · have hall : (s.downstream.all fun k => (s.heldReturn (tickOf n) k).isSome) = true := by
      rw [State.downstream_both hb hc]
      simp [h0, h1]
    have hexec := exec_returnSend_of_ready hcount (by rw [hrole]; decide) hlink hisland hnew hfrom (.inl hall)
    have hroot : s.isRoot = false := by
      unfold State.isRoot
      rw [hrole]
      rfl
    refine ⟨_, _, hexec, s.sentReturn_returnedTick _, State.sentReturn_outReturn hroot ha _, ?_⟩
    rw [State.mergedReturn_both hb hc h0 h1]
    exact ⟨rfl, rfl, rfl, rfl, rfl, by rw [Return.merge_vetoId, Return.merge_vetoId], s.setChain_moves _⟩
  all_goals
    have hcount : s.returnCount = some s.clock.epoch := by
      unfold State.returnCount
      rw [hway]
      rfl
    have hdepth : s.returnDepth = s.chain.spine.toNat + s.chain.tooth.toNat := by
      unfold State.returnDepth
      rw [hway]
      rfl
  · have hexec := exec_returnSend_of_ready hcount (by rw [hrole]; decide) hlink hisland hnew
      (Nat.le_trans (by decide) hfrom) (.inr (Nat.le_trans (Nat.sub_le _ _) hfrom))
    exact ⟨_, _, hexec, State.sentReturn_merged hway _, s.mergedReturn_tick _, s.setChain_moves _⟩
  · have hall : (s.downstream.all fun k => (s.heldReturn (tickOf s.clock.epoch) k).isSome) = true := by
      rw [State.downstream_both hb hc]
      simp [h0, h1]
    have hroot : s.isRoot = true := by
      unfold State.isRoot
      rw [hrole]
      rfl
    have hexec := exec_returnSend_of_ready hcount (by rw [hrole]; decide) hlink hisland hnew hfrom (.inl hall)
    rw [State.sentReturn_of_root hroot hway, State.mergedReturn_both hb hc h0 h1] at hexec
    have hown : (s.ownReturn (tickOf s.clock.epoch)).diverged = s.chain.diverged ∧
        (s.ownReturn (tickOf s.clock.epoch)).missing = false := by
      unfold State.ownReturn
      rw [hway]
      exact ⟨rfl, rfl⟩
    refine ⟨_, _, hexec, rfl, rfl, rfl, ?_, ?_, rfl, rfl, s.setChain_moves _⟩
    · exact congrArg (fun d => d || b.diverged || c.diverged) hown.1
    · exact congrArg (fun m => m || b.missing || c.missing) hown.2
  · refine exec_returnSend_of_early hcount (Bool.eq_false_iff.mpr fun hready => ?_)
    obtain ⟨k, hk, hnone⟩ := hmiss
    obtain ⟨-, -, hall | hby⟩ := s.returnReady_iff.mp hready
    · have hsome := List.all_eq_true.mp hall k hk
      rw [hnone] at hsome
      exact Bool.false_ne_true hsome
    · rw [hdepth] at hby
      exact absurd hby (Nat.not_le.mpr hearly)
  · have hexec := exec_returnSend_of_ready hcount hrole hlink hisland hnew hfrom (.inr (by rw [hdepth]; exact hlate))
    refine ⟨_, _, hexec, State.sentReturn_merged hway _, State.mergedReturn_missing hway hmiss, s.mergedReturn_tick _,
      s.sentReturn_returnedTick _, fun hnotroot ha => ?_, s.setChain_moves _⟩
    have hroot : s.isRoot = false := beq_false_of_ne hnotroot
    exact State.sentReturn_outReturn hroot ha _

end Sys2Proof.Machine
end

section
/-! PROOFS. Guards trip and re-arm. -/

namespace Sys2Proof.Machine

/-! ## A guard's trip (R29 to R33, R274) -/

/-- A channel linked to a guard's input lies in its scope, whatever the scope. -/
theorem State.scopeOf_of_linked {s : State} {n i : Chan} (h : s.linked n i = true) (scope : BitVec 2) :
    s.scopeOf i scope n = true := by
  unfold State.scopeOf
  split
  · exact h
  · exact List.any_eq_true.mpr ⟨n, List.mem_finRange n, by rw [h, beq_self_eq_true]; rfl⟩
  · rfl

/-- Scope 1 takes in the whole bank of a linked channel. -/
theorem State.scopeOf_bank {s : State} {n m i : Chan} {scope : BitVec 2} (hscope : scope = 1) (h : s.linked m i = true)
    (hbank : bankOf m = bankOf n) : s.scopeOf i scope n = true := by
  subst hscope
  exact List.any_eq_true.mpr ⟨m, List.mem_finRange m, by rw [h, hbank, beq_self_eq_true]; rfl⟩

theorem State.scopeOf_wide {s : State} {i : Chan} {scope : BitVec 2} (h : 2 ≤ scope.toNat) (n : Chan) : s.scopeOf i scope n = true := by
  unfold State.scopeOf
  split
  · omega
  · omega
  · rfl

/-- An input whose guard trips (R274). -/
def Input.trip (x : Input) : Input := { x with tripDue := false, tripped := true, trippedSinceApply := true, inCount := 0 }

/-- The guard's input has tripped. -/
def State.tripInput (s : State) (i : Chan) : State :=
  { s with sense := { s.sense with input := s.sense.input.set i (Input.trip s.sense.input[i]) } }

/-- The scope retreats, and what waits for event 0x18 sees it. -/
def State.tripRetreats (s : State) (i : Chan) (g : Guard) : State :=
  let s2 := (s.retreat (s.scopeOf i g.scope)).logEvent 1 (g.scope.zeroExtend 8) (BitVec.ofNat 16 i.val)
    (s.txn.live.params.dev.guardTab.zeroExtend 48)
  (s2.raiseFor 0x18 fun p => (List.finRange 64).any fun n => s2.boundTo p n && s2.scopeOf i g.scope n).fireCaptures
    fun st => st.trig == 0x18 && st.mask.getLsbD i.val

/-- Device and system scope pull RTR_N low (R31). -/
def State.tripDrives (s : State) (g : Guard) : State :=
  if decide (2 ≤ g.scope.toNat) then { s with pins := { s.pins with rtrDrive := true } } else s

/-- System scope sends an urgent frame (R31). -/
def State.tripSends (s : State) (g : Guard) (clk : Nat) : State :=
  if g.scope == 3 && s.power.role != .standalone then
    let sent := s.sendUrgent (urgentFrame (s.deviceId.getD 0)) none
    { sent with chain := { sent.chain with urgentLeft := 2, urgentAt := clk } }
  else s

/-- A trip in probation calls for a roll-back, in a joined device by its return (R33, R400). -/
def State.tripProbation (s : State) : State :=
  if s.joined then (if s.chain.sysProbation then { s with chain := { s.chain with probtrip := 2 } } else s)
  else if s.txn.probation.isSome then { s with txn := { s.txn with rollbackPending := true } }
  else s

theorem exec_guardTrip {s : State} {i : Chan} {g : Guard} (hg : s.txn.live.guard i = some g)
    (hdue : (s.sense.input[i]).tripDue = true) :
    exec (.guardTrip i) s =
      .next (((((s.tripInput i).tripRetreats i g).tripDrives g).tripSends g s.clock.clk).tripProbation).loseSight := by
  change execGuardTrip i s = _
  unfold execGuardTrip
  rw [hg]
  exact if_neg (by rw [hdue]; exact Bool.false_ne_true)

/-- What the drive of RTR_N, the urgent frame and the call for a roll-back leave alone. -/
structure State.SpreadOf (s t : State) : Prop where
  power : t.power = s.power
  chan : t.chan = s.chan
  sense : t.sense = s.sense
  player : t.player = s.player
  state : t.txn.state = s.txn.state
  shadow : t.txn.shadow = s.txn.shadow
  live : t.txn.live = s.txn.live
  probation : t.txn.probation = s.txn.probation

theorem State.SpreadOf.trans {s t u : State} (h : s.SpreadOf t) (k : t.SpreadOf u) : s.SpreadOf u where
  power := k.power.trans h.power
  chan := k.chan.trans h.chan
  sense := k.sense.trans h.sense
  player := k.player.trans h.player
  state := k.state.trans h.state
  shadow := k.shadow.trans h.shadow
  live := k.live.trans h.live
  probation := k.probation.trans h.probation

theorem State.tripDrives_spreads (s : State) (g : Guard) : s.SpreadOf (s.tripDrives g) := by
  unfold State.tripDrives
  split <;> constructor <;> rfl

theorem State.tripSends_spreads (s : State) (g : Guard) (clk : Nat) : s.SpreadOf (s.tripSends g clk) := by
  unfold State.tripSends
  split <;> constructor <;> rfl

theorem State.tripProbation_spreads (s : State) : s.SpreadOf s.tripProbation := by
  unfold State.tripProbation
  split
  · split <;> constructor <;> rfl
  · split <;> constructor <;> rfl

theorem State.tripDrives_drive (s : State) (g : Guard) :
    (s.tripDrives g).pins.rtrDrive = (decide (2 ≤ g.scope.toNat) || s.pins.rtrDrive) := by
  unfold State.tripDrives
  split
  · next h => rw [h]; rfl
  · next h => rw [Bool.eq_false_iff.mpr h]; rfl

theorem State.tripSends_pins (s : State) (g : Guard) (clk : Nat) : (s.tripSends g clk).pins = s.pins := by
  unfold State.tripSends
  split <;> rfl

theorem State.tripProbation_pins (s : State) : s.tripProbation.pins = s.pins := by
  unfold State.tripProbation
  split
  · split <;> rfl
  · split <;> rfl

theorem State.tripProbation_calls {s : State} (hrole : s.power.role = .standalone) (hprob : s.txn.probation.isSome = true) :
    s.tripProbation.txn.rollbackPending = true := by
  have hjoined : s.joined = false := by
    unfold State.joined
    rw [hrole]
    rfl
  unfold State.tripProbation
  rw [hjoined, hprob]
  rfl

theorem State.boundTo_congr {s t : State} (h : t.txn = s.txn) (p : PlayerNo) (n : Chan) : t.boundTo p n = s.boundTo p n := by
  unfold State.boundTo
  rw [h]

theorem State.scopeOf_congr {s t : State} (h : t.txn = s.txn) (i : Chan) (scope : BitVec 2) (n : Chan) :
    t.scopeOf i scope n = s.scopeOf i scope n := by
  unfold State.scopeOf State.linked State.linkOf
  rw [h]

theorem State.raiseFor_player_congr {s t : State} (hplayer : t.player = s.player) {code : Nat} {f g : PlayerNo → Bool}
    (hwho : ∀ p, f p = g p) : (t.raiseFor code f).player = (s.raiseFor code g).player := by
  unfold State.raiseFor
  dsimp only
  rw [hplayer, funext hwho]

/-- What a retreat of the scope leaves alone, and which players it raises event 0x18 for. -/
theorem State.tripRetreats_eq (s : State) (i : Chan) (g : Guard) :
    (s.tripRetreats i g).power = s.power ∧ (s.tripRetreats i g).txn = s.txn ∧ (s.tripRetreats i g).sense = s.sense ∧
      (s.tripRetreats i g).pins = s.pins ∧ (s.tripRetreats i g).chan = (s.retreat (s.scopeOf i g.scope)).chan ∧
      (s.tripRetreats i g).player =
        (s.raiseFor 0x18 fun p => (List.finRange 64).any fun n => s.boundTo p n && s.scopeOf i g.scope n).player := by
  have htxn : ((s.retreat (s.scopeOf i g.scope)).logEvent 1 (g.scope.zeroExtend 8) (BitVec.ofNat 16 i.val)
      (s.txn.live.params.dev.guardTab.zeroExtend 48)).txn = s.txn := by simp
  unfold State.tripRetreats
  refine ⟨by simp, by simp, by simp, by simp, by simp, ?_⟩
  rw [State.fireCaptures_player]
  refine State.raiseFor_player_congr (by rw [State.logEvent_player, State.retreat_player]) fun p => ?_
  exact congrArg (List.any _) (funext fun n => by rw [State.boundTo_congr htxn, State.scopeOf_congr htxn])

theorem State.raiseFor_raised {s : State} {code : Nat} (hcode : code < 32) {who : PlayerNo → Bool} {p : PlayerNo} (h : who p = true) :
    ((s.raiseFor code who).player[p]).raisedNow.getLsbD code = true := by
  unfold State.raiseFor
  dsimp only
  rw [mapAll_get, h, if_pos rfl]
  simp [hcode]

/-- The channels that a retreat makes read the configuration, the clock and the channels. -/
theorem State.retreat_chan_congr {s t : State} {who : Chan → Bool} (htxn : t.txn = s.txn) (hclock : t.clock = s.clock)
    (hchan : t.chan = s.chan) : (t.retreat who).chan = (s.retreat who).chan := by
  refine Vector.ext fun n hn => ?_
  have h := State.retreat_get t who ⟨n, hn⟩
  have k := State.retreat_get s who ⟨n, hn⟩
  rw [htxn, hclock, hchan] at h
  exact h.trans k.symm

theorem State.retreat_scope {s : State} {who : Chan → Bool} {n : Chan} (h : who n = true) :
    ((s.retreat who).chan[n]).released = true ∨ ((s.retreat who).chan[n]).retreated = true := by
  rw [State.retreat_get, if_pos h]
  exact Channel.retreat_retreated _ _ _

/-- How a trip ends, before sight is judged anew: what its retreat left, with RTR_N driven and a roll-back called for. -/
theorem exec_guardTrip_ends {s : State} {i : Chan} {g : Guard} (hg : s.txn.live.guard i = some g)
    (hdue : (s.sense.input[i]).tripDue = true) :
    ∃ u : State, exec (.guardTrip i) s = .next u.loseSight ∧ ((s.tripInput i).tripRetreats i g).SpreadOf u ∧
      u.pins.rtrDrive = (decide (2 ≤ g.scope.toNat) || s.pins.rtrDrive) ∧
      (s.power.role = .standalone → s.txn.probation.isSome = true → u.txn.rollbackPending = true) := by
  have hexec := exec_guardTrip hg hdue
  obtain ⟨hpower, htxn, -, hpins, -, -⟩ := (s.tripInput i).tripRetreats_eq i g
  have hdrives := ((s.tripInput i).tripRetreats i g).tripDrives_spreads g
  have hdrive := ((s.tripInput i).tripRetreats i g).tripDrives_drive g
  have hsends := (((s.tripInput i).tripRetreats i g).tripDrives g).tripSends_spreads g s.clock.clk
  have hspins := (((s.tripInput i).tripRetreats i g).tripDrives g).tripSends_pins g s.clock.clk
  generalize (((s.tripInput i).tripRetreats i g).tripDrives g).tripSends g s.clock.clk = t at hexec hsends hspins
  have hspread := hdrives.trans hsends
  refine ⟨_, hexec, hspread.trans t.tripProbation_spreads, ?_, fun hrole hprob => State.tripProbation_calls ?_ ?_⟩
  · rw [t.tripProbation_pins, hspins, hdrive, hpins]
    rfl
  · rw [hspread.power, hpower]
    exact hrole
  · rw [hspread.probation, htxn]
    exact hprob

/-- Settles O38: the trip's scope retreats, and its end re-arms the guard. -/
theorem guardTripsAndRearms : Obligations.GuardTripsAndRearms := by
  unfold Obligations.GuardTripsAndRearms
  refine ⟨fun s i g hg hdue => ?_, fun s i g hg htripped => ⟨fun hdwell => ?_, fun hdwell => ?_⟩⟩
  · obtain ⟨u, hexec, hu, hdrive, hcall⟩ := exec_guardTrip_ends hg hdue
    obtain ⟨hpower, htxn, hsense, hpins, hchan, hplayer⟩ := (s.tripInput i).tripRetreats_eq i g
    have hget (n : Chan) : (u.chan[n]) = (s.retreat (s.scopeOf i g.scope)).chan[n] := by
      rw [hu.chan, hchan]
      have hretreat : ((s.tripInput i).retreat ((s.tripInput i).scopeOf i g.scope)).chan = (s.retreat (s.scopeOf i g.scope)).chan :=
        State.retreat_chan_congr rfl rfl rfl
      rw [hretreat]
    have hscope (n : Chan) (hn : s.scopeOf i g.scope n = true) :
        (u.loseSight.chan[n]).released = true ∨ (u.loseSight.chan[n]).retreated = true := by
      obtain ⟨hreleased, hretreated⟩ := u.loseSight_get n
      rw [hreleased, hget]
      refine (State.retreat_scope hn).imp_right fun h => hretreated ?_
      rwa [hget]
    have hinput : u.sense.input[i] = (s.sense.input[i]).trip := by
      rw [hu.sense, hsense]
      exact Vector.getElem_set_self _
    refine ⟨_, hexec, ?_, ?_, fun n hn => ?_, fun n m h1 hm hbank => ?_, fun hwide => ⟨fun n => ?_, ?_⟩, fun hnarrow => ?_,
      fun n => ?_, fun hrole hprob => ?_, fun p n hbound hlinked => ?_, ?_, ?_, ?_, ?_⟩
    · rw [State.loseSight_sense, hinput]
      rfl
    · rw [State.loseSight_sense, hinput]
      rfl
    · exact hscope n (State.scopeOf_of_linked hn _)
    · exact hscope n (State.scopeOf_bank h1 hm hbank)
    · exact hscope n (State.scopeOf_wide hwide n)
    · rw [State.loseSight_pins, hdrive, decide_eq_true hwide]
      rfl
    · rw [State.loseSight_pins, hdrive, decide_eq_false (Nat.not_le.mpr hnarrow)]
      rfl
    · rw [(u.loseSight_get n).1, hget, State.retreat_released]
    · rw [State.loseSight_txn]
      exact hcall hrole hprob
    · rw [State.loseSight_player, hu.player, hplayer]
      refine State.raiseFor_raised (by decide) (List.any_eq_true.mpr ⟨n, List.mem_finRange n, ?_⟩)
      have hb : (s.tripInput i).boundTo p n = true := hbound
      rw [hb, State.scopeOf_of_linked (s := s.tripInput i) hlinked]
      rfl
    · rw [State.loseSight_power, hu.power, hpower]
      rfl
    · rw [State.loseSight_txn, hu.state, htxn]
      rfl
    · rw [State.loseSight_txn, hu.shadow, htxn]
      rfl
    · rw [State.loseSight_txn, hu.live, htxn]
      rfl
  · refine ⟨{ s with sense := { s.sense with input := s.sense.input.set i { s.sense.input[i] with tripped := false } } }, ?_, ?_,
      fun j hj => ?_, ?_⟩
    · change execGuardRearm i s = _
      unfold execGuardRearm
      rw [hg]
      exact if_pos (by rw [htripped, decide_eq_true hdwell]; rfl)
    · simp
    · simp [Vector.getElem_set_ne, Fin.val_ne_of_ne hj.symm]
    · intro p hp
      cases p <;> simp_all [State.agree]
  · change execGuardRearm i s = _
    unfold execGuardRearm
    rw [hg]
    exact if_neg (by rw [htripped, decide_eq_false (Nat.not_le.mpr hdwell)]; exact Bool.false_ne_true)

end Sys2Proof.Machine
end

section
/-! PROOFS. The flash operations of the ledger. -/

namespace Sys2Proof.Machine

/-! ## The flash's next operation (R345, R348) -/

/-- What the start of the next operation leaves of the ledger. -/
structure Ledger.GoesOn (l k : Ledger) : Prop where
  count : k.count = l.count
  region : k.region = l.region
  live : k.live = l.live
  retryTicks : k.retryTicks = l.retryTicks
  running : ∀ op, l.op = some op → k.op = some op
  progress : l.compacting = true → k.filled = l.filled ∧ k.sectors = l.sectors ∧ k.newBase = l.newBase

theorem Ledger.startCompaction_goesOn (l : Ledger) : l.GoesOn l.startCompaction := by
  unfold Ledger.startCompaction
  split
  · next h =>
    refine ⟨rfl, rfl, rfl, rfl, fun _ => id, fun hc => ?_⟩
    rw [hc] at h
    exact absurd (Bool.and_eq_true_iff.mp h).1 Bool.false_ne_true
  · exact ⟨rfl, rfl, rfl, rfl, fun _ => id, fun _ => ⟨rfl, rfl, rfl⟩⟩

theorem Ledger.startNext_goesOn (l : Ledger) (bound : Vector Nat 128) (failed : Bool) : l.GoesOn (l.startNext bound failed) := by
  unfold Ledger.startNext
  split
  · exact ⟨rfl, rfl, rfl, rfl, fun _ => id, fun _ => ⟨rfl, rfl, rfl⟩⟩
  · next hidle =>
    have hnone (op : LedgerOp) (h : l.op = some op) : False := hidle (by simp [h])
    split
    · exact ⟨rfl, rfl, rfl, rfl, fun op h => (hnone op h).elim, fun _ => ⟨rfl, rfl, rfl⟩⟩
    · split
      · exact ⟨rfl, rfl, rfl, rfl, fun op h => (hnone op h).elim, fun _ => ⟨rfl, rfl, rfl⟩⟩
      · exact ⟨rfl, rfl, rfl, rfl, fun _ => id, fun _ => ⟨rfl, rfl, rfl⟩⟩

theorem Ledger.judgeHolds_goesOn (l : Ledger) : l.GoesOn l.judgeHolds := by
  unfold Ledger.judgeHolds
  generalize (Vector.ofFn fun r => l.selected && l.mustHold r) = held
  exact ⟨rfl, rfl, rfl, rfl, fun _ => id, fun _ => ⟨rfl, rfl, rfl⟩⟩

theorem Ledger.startCompaction_compacting {l : Ledger} (h : l.compacting = true) : l.startCompaction.compacting = true := by
  unfold Ledger.startCompaction
  split
  · rfl
  · exact h

theorem Ledger.GoesOn.trans {l k m : Ledger} (h : l.GoesOn k) (h' : k.GoesOn m) (hc : l.compacting = true → k.compacting = true) :
    l.GoesOn m where
  count := h'.count.trans h.count
  region := h'.region.trans h.region
  live := h'.live.trans h.live
  retryTicks := h'.retryTicks.trans h.retryTicks
  running op := h'.running op ∘ h.running op
  progress hl := by
    obtain ⟨h1, h2, h3⟩ := h.progress hl
    obtain ⟨k1, k2, k3⟩ := h'.progress (hc hl)
    exact ⟨k1.trans h1, k2.trans h2, k3.trans h3⟩

theorem Ledger.GoesOn.liveRegion {l k : Ledger} (h : l.GoesOn k) : k.liveRegion = l.liveRegion := by
  unfold Ledger.liveRegion
  simp only [h.region, h.live]

theorem State.setLedger_moves (s : State) (l : Ledger) : s.onlyMoves { s with ledger := l } [.ledger] := by
  intro p hp
  cases p <;> simp_all [State.agree]

theorem State.ledgerNext_goesOn (s : State) : s.ledger.GoesOn s.ledgerNext.ledger :=
  (Ledger.startCompaction_goesOn _).trans (Ledger.startNext_goesOn _ _ _) Ledger.startCompaction_compacting

theorem State.ledgerNext_moves (s : State) : s.onlyMoves s.ledgerNext [.ledger] := s.setLedger_moves _

/-- From what an operation's end leaves of the ledger the next operation starts. -/
theorem State.ledgerDone_goesOn (s : State) : (s.ledger.finishOp s.wideBounds).GoesOn s.ledgerDone.ledger := by
  have hjudged := (s.ledger.finishOp s.wideBounds).judgeHolds_goesOn
  have hcompacting : (s.ledger.finishOp s.wideBounds).compacting = true →
      (s.ledger.finishOp s.wideBounds).judgeHolds.compacting = true := by
    unfold Ledger.judgeHolds
    exact id
  unfold State.ledgerDone
  generalize (s.ledger.finishOp s.wideBounds).judgeHolds = l at hjudged hcompacting
  extract_lets compacted s1 s2
  have h2 : s2.ledger = l := by
    unfold s2
    split
    · rw [State.freezeLedger_ledger]
    · rfl
  have hnext := s2.ledgerNext_goesOn
  rw [h2] at hnext
  exact hjudged.trans hnext hcompacting

/-- An operation that ends, but for a compaction's second marker, moves the ledger alone. -/
theorem State.ledgerDone_moves {s : State} (hop : s.ledger.op ≠ some (.again s.ledger.other)) :
    s.onlyMoves s.ledgerDone [.ledger] := by
  have hplain : (s.ledger.op == some (.again s.ledger.other)) = false := beq_false_of_ne hop
  unfold State.ledgerDone
  rw [hplain]
  exact s.setLedger_moves _

theorem exec_ledgerProgramDone {s : State} {op : LedgerOp} (hruns : s.coreRuns = true) (hfault : s.power.fault 27 = false)
    (hop : s.ledger.op = some op) (hprogram : op.isProgram = true) : exec .ledgerProgramDone s = .next s.ledgerDone := by
  change execLedgerProgramDone s = _
  unfold execLedgerProgramDone
  exact if_pos (by rw [hruns, hfault, hop]; exact hprogram)

theorem exec_ledgerEraseDone {s : State} {k : Fin 8} (hruns : s.coreRuns = true) (hfault : s.power.fault 27 = false)
    (hop : s.ledger.op = some (.erase k)) : exec .ledgerEraseDone s = .next s.ledgerDone := by
  change execLedgerEraseDone s = _
  unfold execLedgerEraseDone
  exact if_pos (by rw [hruns, hfault, hop]; rfl)

/-- No flash operation's end changes a count (R39). -/
theorem Ledger.finishOp_count (l : Ledger) (bound : Vector Nat 128) : (l.finishOp bound).count = l.count := by
  unfold Ledger.finishOp
  split
  case h_7 => dsimp only; split <;> rfl
  all_goals rfl

theorem Ledger.finishOp_retryTicks (l : Ledger) (bound : Vector Nat 128) : (l.finishOp bound).retryTicks = l.retryTicks := by
  unfold Ledger.finishOp
  split
  case h_7 => dsimp only; split <;> rfl
  all_goals rfl

/-- A step of a compaction leaves the live region alone. -/
theorem Ledger.filledTo_live (l : Ledger) (r : Region) :
    (l.filledTo r).liveRegion = l.liveRegion ∧ (l.filledTo r).region[l.other] = r := by
  constructor
  · unfold Ledger.filledTo Ledger.liveRegion
    rw [regionSet_get, if_neg l.other_ne]
  · unfold Ledger.filledTo
    rw [regionSet_get, if_pos rfl]

/-- A program that a compaction goes on from: what the other region holds then, and that the live one stands. -/
theorem ledgerDone_fills {s : State} {op : LedgerOp} {r : Region} (hop : s.ledger.op = some op)
    (hplain : ∀ k, op ≠ .again k) (hfill : s.ledger.finishOp s.wideBounds = s.ledger.filledTo r)
    (hcompacting : s.ledger.compacting = true) :
    s.ledgerDone.ledger.count = s.ledger.count ∧ s.ledgerDone.ledger.live = s.ledger.live ∧
      s.ledgerDone.ledger.liveRegion = s.ledger.liveRegion ∧ s.ledgerDone.ledger.filled = s.ledger.filled + 1 ∧
      s.ledgerDone.ledger.region[s.ledger.other] = r ∧ s.onlyMoves s.ledgerDone [.ledger] := by
  have hgoes := s.ledgerDone_goesOn
  have hmoves := State.ledgerDone_moves (s := s) (by rw [hop]; exact fun h => hplain _ (Option.some.inj h))
  rw [hfill] at hgoes
  obtain ⟨hlive, hother⟩ := s.ledger.filledTo_live r
  refine ⟨hgoes.count, hgoes.live, hgoes.liveRegion.trans hlive, (hgoes.progress hcompacting).1, ?_, hmoves⟩
  rw [hgoes.region]
  exact hother

theorem leBytes_length (k n : Nat) : (leBytes k n).length = k := by
  induction k generalizing n with
  | zero => rfl
  | succ k ih => rw [leBytes, List.length_cons, ih]

theorem State.ledgerBody_length (s : State) : s.ledgerBody.length = 1032 := by
  unfold State.ledgerBody
  simp [List.length_flatMap, leBytes_length]

theorem State.ledgerBody_take (s : State) : s.ledgerBody.take 4 = leBytes 4 s.ledger.liveRegion.seq.toNat := by
  unfold State.ledgerBody
  dsimp only
  rw [List.append_assoc, List.take_append_of_le_length (by rw [leBytes_length]), List.take_of_length_le (by rw [leBytes_length])]

/-- A LEDGER body that is frozen reads as the ledger stands (R429). -/
theorem State.freezeLedger_frozen (s : State) :
    ∃ f, s.freezeLedger.tel.ledger = some f ∧ f.epoch = s.clock.epoch ∧ f.body.length = 1032 ∧
      f.body.take 4 = leBytes 4 s.ledger.liveRegion.seq.toNat := by
  unfold State.freezeLedger
  extract_lets s1
  refine ⟨_, rfl, rfl, s1.ledgerBody_length, ?_⟩
  have h1 : s1.ledger = s.ledger := by
    unfold s1
    split <;> rfl
  rw [← h1]
  exact s1.ledgerBody_take

theorem State.freezeLedger_moves (s : State) : s.onlyMoves s.freezeLedger [.tel, .port] := by
  unfold State.freezeLedger
  extract_lets s1
  have h1 : s.onlyMoves s1 [.tel, .port] := by
    unfold s1
    split
    · exact State.onlyMoves_mono (s.bump_moves 4) (by decide)
    · exact State.onlyMoves_refl _ _
  refine State.onlyMoves_trans h1 ?_
  intro p hp
  cases p <;> simp_all [State.agree]

theorem Ledger.finishOp_again {l : Ledger} {r : Fin 2} (hop : l.op = some (.again r)) (bound : Vector Nat 128) :
    (l.finishOp bound).live = r ∧ (l.finishOp bound).liveRegion.marker = 0 := by
  unfold Ledger.finishOp
  rw [hop]
  dsimp only
  split
  · next hlive =>
    subst hlive
    exact ⟨rfl, by unfold Ledger.liveRegion; dsimp only; rw [regionSet_get, if_pos rfl]⟩
  · exact ⟨rfl, by unfold Ledger.liveRegion; dsimp only; rw [regionSet_get, if_pos rfl]⟩

theorem State.ledgerDone_movesAll (s : State) : s.onlyMoves s.ledgerDone [.ledger, .tel, .port] := by
  unfold State.ledgerDone
  extract_lets compacted s1 s2
  have h1 : s.onlyMoves s1 [.ledger, .tel, .port] := State.onlyMoves_mono (s.setLedger_moves _) (by decide)
  have h2 : s1.onlyMoves s2 [.ledger, .tel, .port] := by
    unfold s2
    split
    · exact State.onlyMoves_mono s1.freezeLedger_moves (by decide)
    · exact State.onlyMoves_refl _ _
  exact State.onlyMoves_trans (State.onlyMoves_trans h1 h2) (State.onlyMoves_mono s2.ledgerNext_moves (by decide))

/-- A compaction's second marker freezes a LEDGER frame of the region that it makes live (R429). -/
theorem State.ledgerDone_frozen {s : State} (hop : s.ledger.op = some (.again s.ledger.other)) :
    ∃ f, s.ledgerDone.tel.ledger = some f ∧ f.epoch = s.clock.epoch ∧ f.body.length = 1032 ∧
      f.body.take 4 = leBytes 4 (s.ledger.finishOp s.wideBounds).liveRegion.seq.toNat := by
  have hcompacted : (s.ledger.op == some (.again s.ledger.other)) = true := by
    rw [hop]
    exact beq_self_eq_true _
  have hlive := (s.ledger.finishOp s.wideBounds).judgeHolds_goesOn.liveRegion
  unfold State.ledgerDone
  rw [hcompacted, ← hlive]
  generalize (s.ledger.finishOp s.wideBounds).judgeHolds = l
  exact State.freezeLedger_frozen { s with ledger := l }

/-- Settles O51: each operation's end is its own equation, and what starts next leaves it. -/
theorem ledgerFlashRuns : Obligations.LedgerFlashRuns := by
  unfold Obligations.LedgerFlashRuns
  refine ⟨fun s i k goal hruns hfault hop => ?_, fun s op hruns hfault hop hcompacting hkind => ?_,
    fun s hruns hfault hop => ?_, fun s hruns hfault hop => ?_, fun s n hruns hfault hop hcompacting => ?_,
    fun s ok hruns hfault hop hticks => ?_⟩
  · have hgoes := s.ledgerDone_goesOn
    have hmoves := State.ledgerDone_moves (s := s) (by rw [hop]; exact fun h => by cases h)
    refine ⟨_, exec_ledgerProgramDone hruns hfault hop rfl, hgoes.count.trans (Ledger.finishOp_count _ _), ?_, fun j => ?_, fun hk => ?_,
      hmoves⟩
    · rw [hgoes.live]
      unfold Ledger.finishOp
      rw [hop]
    · rw [hgoes.region]
      unfold Ledger.finishOp
      rw [hop]
      dsimp only
      rw [regionSet_get, if_pos rfl]
      simp only [Fin.getElem_fin, Vector.getElem_set, Fin.ext_iff, @eq_comm Nat j.val]
      split
      · next h =>
        obtain rfl := Fin.ext h
        rfl
      · rfl
    · refine hgoes.running _ ?_
      unfold Ledger.finishOp
      rw [hop]
      exact if_pos hk
  · have hprogram : op.isProgram = true := by
      obtain rfl | ⟨i, rfl⟩ | rfl := hkind <;> rfl
    have hplain (k : Fin 2) : op ≠ .again k := by
      obtain rfl | ⟨i, rfl⟩ | rfl := hkind <;> exact fun h => by cases h
    have hexec := exec_ledgerProgramDone hruns hfault hop hprogram
    obtain rfl | ⟨i, rfl⟩ | rfl := hkind
    · obtain ⟨hcount, hlive, hregion, hfilled, hother, hmoves⟩ := ledgerDone_fills hop hplain
        (by unfold Ledger.finishOp; rw [hop]) hcompacting
      refine ⟨_, hexec, hcount, hlive, hregion, hfilled, fun _ => ?_, nofun, nofun, hmoves⟩
      rw [hother]
      exact ⟨rfl, rfl⟩
    · obtain ⟨hcount, hlive, hregion, hfilled, hother, hmoves⟩ := ledgerDone_fills hop hplain
        (by unfold Ledger.finishOp; rw [hop]) hcompacting
      refine ⟨_, hexec, hcount, hlive, hregion, hfilled, nofun, fun j hj => ?_, nofun, hmoves⟩
      obtain rfl := LedgerOp.record.inj hj
      rw [hother]
      refine ⟨by simp, fun j hne => ?_⟩
      simp [Vector.getElem_set_ne, Fin.val_ne_of_ne hne.symm]
    · obtain ⟨hcount, hlive, hregion, hfilled, hother, hmoves⟩ := ledgerDone_fills hop hplain
        (by unfold Ledger.finishOp; rw [hop]) hcompacting
      refine ⟨_, hexec, hcount, hlive, hregion, hfilled, nofun, nofun, fun _ => ?_, hmoves⟩
      rw [hother]
      exact ⟨rfl, rfl⟩
  · have hgoes := s.ledgerDone_goesOn
    obtain ⟨hlive, hmarker⟩ := Ledger.finishOp_again hop s.wideBounds
    have hgoes' := hgoes.liveRegion
    refine ⟨_, exec_ledgerProgramDone hruns hfault hop rfl, hgoes.count.trans (Ledger.finishOp_count _ _), hgoes.live.trans hlive,
      by rw [hgoes']; exact hmarker, ?_, ?_⟩
    · rw [hgoes']
      exact State.ledgerDone_frozen hop
    · exact State.ledgerDone_movesAll s
  · have hgoes := s.ledgerDone_goesOn
    have hmoves := State.ledgerDone_moves (s := s) (by
      rw [hop]
      exact fun h => s.ledger.other_ne (LedgerOp.again.inj (Option.some.inj h)).symm)
    obtain ⟨hlive, hmarker⟩ := Ledger.finishOp_again hop s.wideBounds
    exact ⟨_, exec_ledgerProgramDone hruns hfault hop rfl, hgoes.count.trans (Ledger.finishOp_count _ _), hgoes.live.trans hlive,
      by rw [hgoes.liveRegion]; exact hmarker, hmoves⟩
  · have hgoes := s.ledgerDone_goesOn
    have hmoves := State.ledgerDone_moves (s := s) (by rw [hop]; exact fun h => by cases h)
    have hend : s.ledger.finishOp s.wideBounds = { s.ledger with
        op := none, sectors := s.ledger.sectors + 1
        region := s.ledger.region.set s.ledger.other ((s.ledger.region[s.ledger.other]).eraseSector n)
        newBase := if s.ledger.sectors + 1 = 8 then some (s.ledger.newBases s.wideBounds) else s.ledger.newBase } := by
      unfold Ledger.finishOp
      rw [hop]
    rw [hend] at hgoes
    obtain ⟨hfilled, hsectors, hbase⟩ := hgoes.progress hcompacting
    refine ⟨_, exec_ledgerEraseDone hruns hfault hop, hgoes.count, hgoes.live, hgoes.liveRegion.trans ?_, hsectors, ?_, fun h8 => ?_,
      hmoves⟩
    · unfold Ledger.liveRegion
      dsimp only
      rw [regionSet_get, if_neg s.ledger.other_ne]
    · rw [hgoes.region, regionSet_get, if_pos rfl]
    · rw [hbase]
      exact if_pos h8
  · have hexec : exec (.ledgerRetry ok) s = .next
        (if ok then (State.clearFault { s with ledger := { s.ledger with retryTicks := 0 } } 27).ledgerDone
          else { s with ledger := { s.ledger with retryTicks := 0 } }) := by
      change execLedgerRetry ok s = _
      unfold execLedgerRetry
      rw [hruns, hfault, hop, decide_eq_true hticks]
      cases ok <;> rfl
    cases ok with
    | true =>
      have hledger : (State.clearFault { s with ledger := { s.ledger with retryTicks := 0 } } 27).ledger =
          { s.ledger with retryTicks := 0 } := State.clearFault_ledger _ _
      have hchan : (State.clearFault { s with ledger := { s.ledger with retryTicks := 0 } } 27).chan = s.chan :=
        State.clearFault_chan _ _
      have htxn : (State.clearFault { s with ledger := { s.ledger with retryTicks := 0 } } 27).txn = s.txn :=
        State.clearFault_txn _ _
      have hclear := State.clearFault_lacks { s with ledger := { s.ledger with retryTicks := 0 } } (b := 27) (by omega)
      rw [if_pos rfl] at hexec
      generalize State.clearFault { s with ledger := { s.ledger with retryTicks := 0 } } 27 = u at hexec hledger hchan htxn hclear
      have hgoes := u.ledgerDone_goesOn
      have hmoves := u.ledgerDone_movesAll
      have hpower : u.ledgerDone.power = u.power := hmoves .power (by decide)
      have htchan : u.ledgerDone.chan = u.chan := hmoves .chan (by decide)
      have httxn : u.ledgerDone.txn = u.txn := hmoves .txn (by decide)
      refine ⟨_, hexec, ?_, ?_, ?_, htchan.trans hchan, by rw [httxn, htxn], nofun⟩
      · rw [hgoes.count, Ledger.finishOp_count, hledger]
      · rw [hgoes.retryTicks, Ledger.finishOp_retryTicks, hledger]
      · rw [hpower, hclear]
        rfl
    | false =>
      exact ⟨_, hexec, rfl, rfl, hfault, rfl, rfl, fun _ => ⟨rfl, s.setLedger_moves _⟩⟩

end Sys2Proof.Machine
end

section
/-! PROOFS. What the service of the memory leaves alone. -/

namespace Sys2Proof.Machine

/-! ## What the service of the memory leaves alone

Reads that are asked for, lines that are written, repaired or listed as bad, and the loss of the DRAM that they may end in: they move
the memory, what reports it, and where DRAM is lost the channels that it fed and the transaction, whose cause is bit 14. -/

/-- What they do not touch. -/
structure Served where
  power : Power
  faults : BitVec 64
  clock : Clock
  pins : Pins
  sense : Sense
  ledger : Ledger
  tap : Tap
  pending : List Instr
  txn : Txn
  chain : Chain
  released : Chan → Bool

def State.served (s : State) : Served where
  power := { s.power with faults := 0 }
  faults := s.power.faults &&& ~~~(1#64 <<< 14)
  clock := s.clock
  pins := s.pins
  sense := s.sense
  ledger := s.ledger
  tap := s.tap
  pending := s.pending
  txn := { s.txn with state := .idle, shadow := none, verdict := none, validated := false, count := 0 }
  chain := { s.chain with veto := none, rootCmd := .none, sincePrepare := none }
  released n := (s.chan[n]).released

/-- The memory, the telemetry, the port, the players and the free values are not among it. -/
theorem State.served_eq {s t : State} (hpower : t.power = s.power) (hclock : t.clock = s.clock) (hpins : t.pins = s.pins)
    (hsense : t.sense = s.sense) (hledger : t.ledger = s.ledger) (htap : t.tap = s.tap) (hpending : t.pending = s.pending)
    (htxn : t.txn = s.txn) (hchain : t.chain = s.chain) (hchan : t.chan = s.chan) : t.served = s.served := by
  unfold State.served
  rw [hpower, hclock, hpins, hsense, hledger, htap, hpending, htxn, hchain, hchan]

theorem State.setMem_served (s : State) (m : Mem) : ({ s with mem := m } : State).served = s.served := rfl

@[simp] theorem State.logEvent_served (s : State) (code sub : Byte) (obj : BitVec 16) (data : BitVec 48) :
    (s.logEvent code sub obj data).served = s.served := by
  apply State.served_eq <;> simp

@[simp] theorem State.outcome_served (s : State) (code : Byte) (obj : Obj) (pin : Byte) (mask : BitVec 64) :
    (s.outcome code obj pin mask).served = s.served := by
  apply State.served_eq <;> simp

@[simp] theorem State.wantContent_served (s : State) (id : BitVec 16) : (s.wantContent id).served = s.served := by
  apply State.served_eq <;> simp

@[simp] theorem State.sendPause_served (s : State) (time : BitVec 16) : (s.sendPause time).served = s.served := by
  apply State.served_eq <;> simp

@[simp] theorem State.settleQueues_served (s : State) : s.settleQueues.served = s.served := by
  apply State.served_eq <;> simp

@[simp] theorem State.closeTxn_served (s : State) : s.closeTxn.served = s.served := rfl

@[simp] theorem State.discard_served (s : State) (code : Byte) (obj : Obj) : (s.discard code obj).served = s.served := by
  unfold State.discard
  split
  · rfl
  · rw [State.closeTxn_served, State.outcome_served]

@[simp] theorem State.holdVeto_served (s : State) (code : Byte) : (s.holdVeto code).served = s.served := by
  unfold State.holdVeto
  split
  · rfl
  · dsimp only
    split <;> rfl

@[simp] theorem State.faultDiscards_served (s : State) : s.faultDiscards.served = s.served := by
  unfold State.faultDiscards
  dsimp only
  split <;> simp

@[simp] theorem State.retreat_served (s : State) (who : Chan → Bool) : (s.retreat who).served = s.served := by
  simp only [State.served, State.retreat_power, State.retreat_clock, State.retreat_pins, State.retreat_sense, State.retreat_ledger,
    State.retreat_tap, State.retreat_pending, State.retreat_txn, State.retreat_chain, State.retreat_released]

theorem State.beginFault_served (s : State) : (s.beginFault 14).served = s.served := by
  have hset : (({ s with power := { s.power with faults := s.power.faults ||| (1#64 <<< 14) } } : State)).served = s.served := by
    unfold State.served
    dsimp only
    have hmask (f x : BitVec 64) : (f ||| x) &&& ~~~x = f &&& ~~~x := by
      rw [BitVec.and_or_distrib_right, BitVec.and_not_self]
      exact BitVec.or_zero
    rw [hmask]
  unfold State.beginFault
  split
  · rfl
  · dsimp only
    rw [State.endsProbation_of_not (by decide), State.faultDiscards_served]
    split
    · rw [State.logEvent_served, hset]
    · exact hset

@[simp] theorem State.askRead_served (s : State) (port : MemPort) (a : LineAddr) (owner : BitVec 16) (kind : ReadKind) :
    (s.askRead port a owner kind).served = s.served := by
  unfold State.askRead
  rw [State.settleQueues_served]
  rfl

@[simp] theorem State.noteChanges_served (s : State) (es : List BogEntry) : (s.noteChanges es).served = s.served := rfl

@[simp] theorem State.leaveBog_served (s : State) (who : BogEntry → Bool) (st : BogState) : (s.leaveBog who st).served = s.served := by
  unfold State.leaveBog
  rw [State.noteChanges_served]
  rfl

@[simp] theorem State.bogLine_served (s : State) (g : Segment) (a : LineAddr) (cause : BogCause) (o : Nat) (listed : Option (List Nat)) :
    (s.bogLine g a cause o listed).served = s.served := by
  unfold State.bogLine
  extract_lets room e lost lines newly g' m s1 s2
  have h2 : s2.served = s.served := by
    unfold s2
    split <;> rfl
  split
  · rfl
  · rw [State.wantContent_served, h2]

@[simp] theorem State.settleQuarantine_served (s : State) (id : BitVec 16) : (s.settleQuarantine id).served = s.served := by
  unfold State.settleQuarantine
  split
  · rfl
  · split <;> rfl

@[simp] theorem State.loseDram_served (s : State) : (s.loseDram 14).served = s.served := by
  unfold State.loseDram
  dsimp only
  have h : ((s.beginFault 14).retreat s.fedFromDram).served = s.served := by rw [State.retreat_served, State.beginFault_served]
  exact h

@[simp] theorem State.retire_served (s : State) (dev : DramDevice) (since : Nat) : (s.retire dev since).served = s.served := by
  unfold State.retire
  dsimp only
  rw [foldl_keeps State.served (fun s e => State.askRead_served _ _ _ _ _), State.logEvent_served]
  rfl

@[simp] theorem State.attribute_served (s : State) (dev : DramDevice) (since : Nat) : (s.attribute dev since).served = s.served := by
  unfold State.attribute
  split
  · exact s.retire_served dev since
  · split
    · rfl
    · exact s.loseDram_served

@[simp] theorem State.charge_served (s : State) (a : LineAddr) (owner : BitVec 16) (errs : List (Fin 80 × Byte)) :
    (s.charge a owner errs).served = s.served := by
  unfold State.charge
  dsimp only
  refine Eq.trans (foldl_keeps State.served (fun s d => ?_) _ _) rfl
  split
  · exact State.attribute_served _ _ _
  · rfl

@[simp] theorem State.chargeRead_served (s : State) (a : LineAddr) (owner : BitVec 16) (out : Decoded) :
    (s.chargeRead a owner out).served = s.served := by
  unfold State.chargeRead
  split
  · rfl
  · exact s.charge_served _ _ _
  · rfl

@[simp] theorem State.repairFailed_served (s : State) (a : LineAddr) : (s.repairFailed a).served = s.served := by
  unfold State.repairFailed
  dsimp only
  rw [State.noteChanges_served]
  rfl

@[simp] theorem State.putRepaired_served (s : State) (a : LineAddr) (owner : BitVec 16) (data : List Byte) (verify : Flips) :
    (s.putRepaired a owner data verify).2.served = s.served := by
  unfold State.putRepaired
  extract_lets done guarded
  have hdone (m : Mem) : (done m).2.served = s.served := by
    unfold done
    dsimp only
    rw [State.leaveBog_served]
    rfl
  split
  · exact hdone _
  · split
    · exact hdone _
    · split
      · exact hdone _
      · dsimp only
        rw [State.repairFailed_served, State.chargeRead_served]
        rfl

@[simp] theorem State.writeRepaired_served (s : State) (a : LineAddr) (owner : BitVec 16) (data : List Byte) (verify : Flips) :
    (s.writeRepaired a owner data verify).served = s.served := s.putRepaired_served a owner data verify

theorem State.errsFor_served (s : State) (errs : Option (List LineErrs)) (a : LineAddr) : (s.errsFor errs a).2.served = s.served := by
  unfold State.errsFor
  split <;> rfl

@[simp] theorem State.rewriteLists_served (s : State) (id : BitVec 16) (errs : Option (List LineErrs)) :
    (s.rewriteLists id errs).served = s.served := by
  unfold State.rewriteLists
  split
  · rfl
  · dsimp only
    refine foldl_keeps State.served (fun s a => ?_) _ _
    have h := State.putRepaired_served (s.errsFor errs a).2 a 0 ((s.errsFor errs a).2.mem.arrayLine a 0) (s.errsFor errs a).1.verify
    rw [State.errsFor_served] at h
    split
    · exact h
    · exact h

@[simp] theorem State.badLine_served (s : State) (a : LineAddr) (cause : BogCause) (errs : Option (List LineErrs)) :
    (s.badLine a cause errs).served = s.served := by
  unfold State.badLine
  split
  · cases s.mem.seg _ <;> simp [Option.elim]
  · cases s.mem.seg _ <;> simp [Option.elim]
  all_goals rfl

@[simp] theorem State.widenPeaks_served (s : State) (id : BitVec 16) (data : List Byte) : (s.widenPeaks id data).served = s.served := by
  unfold State.widenPeaks
  split
  · rfl
  · rfl

@[simp] theorem State.flushRepair_served (s : State) (sub : Fin 2) (e : Merge) (verify : Flips) :
    (s.flushRepair sub e verify).served = s.served := by
  unfold State.flushRepair
  dsimp only
  rw [State.settleQuarantine_served]
  split
  · exact State.writeRepaired_served _ _ _ _ _
  · rw [State.widenPeaks_served]
    refine Eq.trans ?_ (State.writeRepaired_served { s with mem := s.mem.dropMerge sub e.addr } e.addr e.owner e.data.toList verify)
    exact (State.setMem_served _ _).trans (State.leaveBog_served _ _ _)

@[simp] theorem State.flushEntry_served (s : State) (sub : Fin 2) (e : Merge) (errs : Option (List LineErrs)) :
    (s.flushEntry sub e errs).served = s.served := by
  unfold State.flushEntry
  extract_lets m
  split
  · rfl
  · have h0 := s.errsFor_served errs e.addr
    generalize s.errsFor errs e.addr = drawn at h0
    obtain ⟨le, s0⟩ := drawn
    dsimp only at h0 ⊢
    rw [← h0]
    split
    · split
      · exact State.loseDram_served _
      · split
        · exact State.chargeRead_served _ _ _ _
        · rw [State.badLine_served]
          exact State.chargeRead_served _ _ _ _
    all_goals exact State.chargeRead_served _ _ _ _

@[simp] theorem State.flush_served (s : State) (sub : Fin 2) (e : Merge) (errs : Option (List LineErrs)) :
    (s.flush sub e errs).served = s.served := by
  unfold State.flush
  split
  · exact s.flushEntry_served _ _ _
  · split
    · dsimp only
      rw [State.flushRepair_served, State.errsFor_served]
    · rfl

@[simp] theorem State.throughMerge_served (s : State) (new : Merge) (errs : Option (List LineErrs)) :
    (s.throughMerge new errs).served = s.served := by
  unfold State.throughMerge
  extract_lets sub joined entries _ s1
  have h1 : s1.served = s.served := by
    unfold s1
    split
    · split <;> simp
    · rfl
  split
  · rfl
  · exact h1

@[simp] theorem State.enterMaps_served (s : State) (errs : Option (List LineErrs)) : (s.enterMaps errs).served = s.served := by
  unfold State.enterMaps
  refine Eq.trans (foldl_keeps State.served (fun s w => ?_) _ _) rfl
  split
  · exact State.throughMerge_served _ _ _
  · rfl

@[simp] theorem State.askMerge_served (s : State) (e : Merge) : (s.askMerge e).served = s.served := by
  unfold State.askMerge
  split
  · rfl
  · exact State.askRead_served _ _ _ _ _

@[simp] theorem State.fence_served (s : State) (errs : Option (List LineErrs)) : (s.fence errs).served = s.served := by
  unfold State.fence
  refine Eq.trans (foldl_keeps State.served (fun s sub => foldl_keeps State.served (fun s e => ?_) _ s) _ _) (s.enterMaps_served errs)
  split <;> simp

@[simp] theorem State.offerMaps_served (s : State) : s.offerMaps.served = s.served := by
  unfold State.offerMaps
  split
  · rfl
  · split
    · rfl
    · split
      · rfl
      · exact s.enterMaps_served none

@[simp] theorem State.judgeSquall_served (s : State) : s.judgeSquall.served = s.served := by
  apply State.served_eq <;> simp

@[simp] theorem State.endFrame_served (s : State) : s.endFrame.served = s.served := by
  unfold State.endFrame
  dsimp only
  split <;> simp

@[simp] theorem State.loadHeads_served (s : State) (c : Configuration) : (s.loadHeads c).served = s.served := by
  unfold State.loadHeads
  refine foldl_keeps State.served (fun s id => ?_) _ _
  split
  · rfl
  · refine foldl_keeps State.served (fun s o => ?_) _ _
    split
    · split <;> simp
    · rfl

end Sys2Proof.Machine
end

section
/-! PROOFS. The junction and the strap windows. -/

namespace Sys2Proof.Machine

/-! ## The junction (R16, R97, R98, R173, R523) -/

/-- What the thermal rules read of the power state, and what they write of the causes. -/
def Power.heat (p : Power) : Int × Int × Stage × Bool := (p.junction, p.junctionActs, p.stage, p.fault 15)

theorem State.putCode_power (s : State) (n : Chan) (code : Code) (gain : BitVec 1) : (s.putCode n code gain).power = s.power := by
  have hcount (u : State) (i : Fin 128) : (u.countUp i).power = u.power := congrArg Held.power (u.countUp_held i)
  unfold State.putCode State.judgeExcursion
  dsimp only
  split
  · rw [hcount]
    split <;> rfl
  · split <;> rfl

theorem State.latchAligned_power (s : State) : s.latchAligned.power = s.power := by
  unfold State.latchAligned
  split
  · refine foldl_keeps State.power (fun s n => ?_) _ s
    split
    · exact s.putCode_power _ _ _
    · rfl
  · rfl

theorem Served.heat_congr {s t : State} (h : t.served = s.served) : t.power.heat = s.power.heat := by
  have hpower : ({ t.power with faults := 0 } : Power) = { s.power with faults := 0 } := congrArg Served.power h
  have hfaults : t.power.faults &&& ~~~(1#64 <<< 14) = s.power.faults &&& ~~~(1#64 <<< 14) := congrArg Served.faults h
  have hbit := congrArg (fun f : BitVec 64 => f.getLsbD 15) hfaults
  have hj := congrArg Power.junction hpower
  have ha := congrArg Power.junctionActs hpower
  have hs := congrArg Power.stage hpower
  unfold Power.heat Power.fault
  simp at hbit
  exact Prod.ext hj (Prod.ext ha (Prod.ext hs hbit))

theorem State.settlePins_heat (s : State) : s.settlePins.power.heat = s.power.heat := by
  have hbegin (u : State) : (u.beginFault 17).power.heat = u.power.heat := by
    have hfault := State.beginFault_fault u 17 15 (by omega)
    have hpower := u.beginFault_power 17
    have hother : (15 == 17) = false := rfl
    rw [hother, Bool.or_false] at hfault
    unfold Power.heat
    rw [hfault, hpower]
  unfold State.settlePins State.judgeMode
  split
  · split
    · split
      · exact hbegin _
      · rfl
    · rfl
  · rfl

/-- A frame that passes changes nothing that the thermal rules read before they act. -/
theorem State.passFrame_thermal (s : State) : ∃ u : State, s.passFrame = u.settleThermal ∧ u.power.heat = s.power.heat := by
  refine ⟨_, rfl, ?_⟩
  rw [State.settlePins_heat]
  change (State.latchAligned _).power.heat = _
  rw [State.latchAligned_power]
  change (s.scrubTime 1).endFrame.power.heat = _
  rw [Served.heat_congr (State.endFrame_served _)]
  unfold State.scrubTime
  split <;> rfl

theorem State.setPower_moves (s : State) (p : Power) : s.onlyMoves { s with power := p } [.power] := by
  intro q hq
  cases q <;> simp_all [State.agree]

/-- With nothing due, nothing is settled before the next frame. -/
theorem State.settleDue_of_none {s : State} (h : s.txn.due = Due.none) : s.settleDue = s := by
  have hclose : s.closeBoundary = s := State.closeBoundary_of_taken (by rw [h]; rfl)
  unfold State.settleDue
  simp only [h, Due.none, Bool.false_eq_true, if_false, hclose]

theorem State.idleFrame_thermal {s : State} (h : s.coreRuns = false ∨ s.clock.frame + 1 < 16384) :
    ∃ u : State, s.idleFrame = u.settleThermal ∧ u.power.heat = s.power.heat := by
  unfold State.idleFrame
  cases hruns : s.coreRuns with
  | false => exact ⟨_, rfl, rfl⟩
  | true =>
    obtain ⟨u, hu, hheat⟩ := s.passFrame_thermal
    refine ⟨u, ?_, hheat⟩
    rw [← hu]
    have hframe : s.clock.frame + 1 < 16384 := by simpa [hruns] using h
    exact if_pos hframe

theorem State.releaseAll_power (s : State) : s.releaseAll.power = s.power := by
  unfold State.releaseAll
  rw [State.release_power]

theorem State.settleRelease_faults (s : State) :
    s.settleRelease.power.junctionActs = s.power.junctionActs ∧ s.settleRelease.power.faults = s.power.faults ∧
      s.settleRelease.power.stage = s.power.stage := by
  unfold State.settleRelease
  split
  · dsimp only
    rw [State.releaseAll_power]
    exact ⟨rfl, rfl, rfl⟩
  · exact ⟨rfl, rfl, rfl⟩

theorem State.fault_of_faults {s t : State} (h : t.power.faults = s.power.faults) (b : Nat) : t.power.fault b = s.power.fault b := by
  unfold Power.fault
  rw [h]

/-- What the thermal rules make of a junction that is new to them. -/
theorem State.settleThermal_acts {s : State} (h : s.power.junctionActs ≠ s.power.junction) :
    s.settleThermal.power.junctionActs = s.power.junction ∧
      (500 ≤ s.power.junction → s.settleThermal.allReleased ∧ s.settleThermal.power.fault 15 = true) ∧
      (480 ≤ s.power.junction → s.power.junction < 500 → s.settleThermal.power.fault 15 = s.power.fault 15) ∧
      (s.power.junction < 480 → s.settleThermal.power.fault 15 = false) ∧
      (s.settleThermal.power.stage = s.power.stage) := by
  unfold State.settleThermal
  dsimp only
  rw [if_neg h]
  split
  · next hhot =>
    refine ⟨?_, fun _ => ⟨State.releaseAll_allReleased _, ?_⟩, fun _ hbelow => absurd hhot (by omega), fun hbelow => absurd hhot (by omega), ?_⟩
    · rw [State.releaseAll_power, State.beginFault_power]
    · rw [State.releaseAll_power]
      exact State.beginFault_has _ (by omega)
    · rw [State.releaseAll_power, State.beginFault_stage]
  · next hcool =>
    split
    · next hclears =>
      obtain ⟨hbelow, -⟩ := hclears
      obtain ⟨hacts, hfaults, hstage⟩ := (State.clearFault { s with power := { s.power with junctionActs := s.power.junction } } 15).settleRelease_faults
      refine ⟨?_, fun hhot => absurd hhot hcool, fun hwarm => absurd hbelow (by omega), fun _ => ?_, ?_⟩
      · rw [hacts, State.clearFault_power]
      · rw [State.fault_of_faults hfaults]
        exact State.clearFault_lacks _ (by omega)
      · rw [hstage, State.clearFault_stage]
    · next hkeeps =>
      refine ⟨rfl, fun hhot => absurd hhot hcool, fun _ _ => rfl, fun hbelow => ?_, rfl⟩
      exact Bool.eq_false_iff.mpr fun hf => hkeeps ⟨hbelow, hf⟩

/-- Settles O54: a reading forms the junction, which the next frame's thermal rules judge, and a window's mean the drift. -/
theorem thermalAndStrapWindows : Obligations.ThermalAndStrapWindows := by
  unfold Obligations.ThermalAndStrapWindows
  refine ⟨fun s q hreads => ?_, fun s hpending hdue hpasses hnew => ?_, fun s q hnot => ?_, fun s k sum hnot => ?_,
    fun s k sum hruns hends => ?_⟩
  · have hexec : exec (.thermalReading q) s = .next { s with power := { s.power with
        thermal := (q :: s.power.thermal).take 16, junction := junctionOf ((q :: s.power.thermal).take 16) } } := by
      change execThermalReading q s = _
      unfold execThermalReading
      rw [hreads]
      rfl
    exact ⟨_, hexec, rfl, rfl, rfl, rfl, s.setPower_moves _⟩
  · have hstep : step s = .next s.idleFrame := by
      unfold step State.idleStep
      rw [hpending]
      dsimp only
      rw [State.settleDue_of_none hdue]
    obtain ⟨u, hframe, hheat⟩ := State.idleFrame_thermal hpasses
    obtain ⟨hj, ha, hs, hf⟩ : u.power.junction = s.power.junction ∧ u.power.junctionActs = s.power.junctionActs ∧
        u.power.stage = s.power.stage ∧ u.power.fault 15 = s.power.fault 15 := by
      simpa [Power.heat] using hheat
    obtain ⟨hacts, hhot, hwarm, hcool, hstage⟩ := State.settleThermal_acts (s := u) (by rwa [hj, ha])
    rw [hj] at hacts hhot hwarm hcool
    rw [hf] at hwarm
    rw [hs] at hstage
    rw [hframe] at hstep
    refine ⟨_, hstep, hacts, hhot, hwarm, hcool, fun hover hreset => ?_, fun hunder hnone => ?_⟩
    · unfold State.alrt
      have hreset' : u.settleThermal.inReset = false := by
        unfold State.inReset at hreset ⊢
        rwa [hstage]
      rw [hreset', hacts, decide_eq_true hover]
      simp
    · unfold State.alrt
      rw [hnone, hacts, decide_eq_false (by omega)]
      simp
  · change execThermalReading q s = _
    unfold execThermalReading
    rw [hnot]
    rfl
  · change execStrapWindow k sum s = _
    unfold execStrapWindow
    refine if_neg ?_
    obtain h | h := hnot
    · rw [h]
      simp
    · rw [h]
      simp
  · have hexec : exec (.strapWindow k sum) s = .next
        (if strapCode 16 sum != s.power.straps[k] then { s with power := { s.power with drifted := s.power.drifted.set k true } }
          else s) := by
      change execStrapWindow k sum s = _
      unfold execStrapWindow
      rw [hruns, hends]
      exact (apply_ite Host.Outcome.next _ _ _).symm
    generalize (strapCode 16 sum != s.power.straps[k]) = drifts at hexec ⊢
    refine ⟨_, hexec, ?_⟩
    cases drifts with
    | true =>
      refine ⟨rfl, s.setPower_moves _, by simp, fun j hj => ?_⟩
      simp [Vector.getElem_set_ne, Fin.val_ne_of_ne hj.symm]
    | false => exact ⟨rfl, State.onlyMoves_refl _ _, (Bool.or_false _).symm, fun j _ => rfl⟩

end Sys2Proof.Machine
end

section
/-! PROOFS. The content port follows its link and its frames. -/

namespace Sys2Proof.Machine

/-! ## The content port (R409, R410, R414 to R417, R421) -/

/-- What the port's link and the parser hold. -/
def Port.line (p : Port) : List Byte × Option (BitVec 32) × Bool × Bool × Option (BitVec 48) :=
  (p.stream, p.expect, p.linkUp, p.rxFault, p.host)

theorem State.bump_line (s : State) (i : Fin 18) : (s.bump i).port.line = s.port.line := rfl

theorem State.bump_counter_ne (s : State) {i j : Fin 18} (h : j ≠ i) : (s.bump j).port.counter[i] = s.port.counter[i] := by
  have hne : (j : Nat) ≠ i := Fin.val_ne_of_ne h
  simp [State.bump, Vector.getElem_set_ne, hne]

theorem State.logEvent_line (s : State) (code sub : Byte) (obj : BitVec 16) (data : BitVec 48) :
    (s.logEvent code sub obj data).port.line = s.port.line := by
  unfold State.logEvent
  dsimp only
  split <;> rfl

theorem State.logEvent_counter (s : State) (code sub : Byte) (obj : BitVec 16) (data : BitVec 48) {i : Fin 18} (h : i ≠ 4) :
    (s.logEvent code sub obj data).port.counter[i] = s.port.counter[i] := by
  unfold State.logEvent
  dsimp only
  split
  · rfl
  · exact s.bump_counter_ne (Ne.symm h)

theorem State.sendPause_line (s : State) (time : BitVec 16) : (s.sendPause time).port.line = s.port.line := by
  unfold State.sendPause
  split <;> rfl

theorem State.sendPause_counter (s : State) (time : BitVec 16) {i : Fin 18} (h : i ≠ 3) :
    (s.sendPause time).port.counter[i] = s.port.counter[i] := by
  unfold State.sendPause
  split
  · exact s.bump_counter_ne (Ne.symm h)
  · rfl

theorem State.settlePause_line (s : State) : s.settlePause.port.line = s.port.line := by
  unfold State.settlePause
  dsimp only
  split
  · rw [State.sendPause_line]
    rfl
  · split
    · rw [State.sendPause_line]
      rfl
    · rfl

theorem State.settlePause_counter (s : State) {i : Fin 18} (h : i ≠ 3) :
    s.settlePause.port.counter[i] = s.port.counter[i] := by
  unfold State.settlePause
  dsimp only
  split
  · exact State.sendPause_counter _ _ h
  · split
    · exact State.sendPause_counter _ _ h
    · rfl

theorem State.setPort_moves (s : State) (p : Port) : s.onlyMoves { s with port := p } [.port] := by
  intro q hq
  cases q <;> simp_all [State.agree]

/-- What is left of the stream when a partial record is dropped. -/
def Port.kept (p : Port) : List Byte := if p.partialRecord = true then p.stream.take p.whole else p.stream

theorem State.discardPartial_line (s : State) (sub : Byte) :
    (s.discardPartial sub).port.line = { s.port with stream := s.port.kept }.line := by
  unfold State.discardPartial Port.kept
  split
  · have hline := s.logEvent_line 0x11 sub 0 0
    generalize (s.logEvent 0x11 sub 0 0) = u at hline
    have hstream : u.port.stream = s.port.stream := congrArg Prod.fst hline
    have hwhole : u.port.whole = s.port.whole := by
      unfold Port.whole
      rw [hstream]
    have hcut : u.port.stream.take u.port.whole ++ u.port.stream.drop (u.port.whole + u.port.stream.length) =
        s.port.stream.take s.port.whole := by
      rw [List.drop_eq_nil_of_le (Nat.le_add_left _ _), List.append_nil, hstream, hwhole]
    have hrest : u.port.line.2 = s.port.line.2 := congrArg Prod.snd hline
    exact Prod.ext hcut hrest
  · rfl

theorem State.discardPartial_of_whole {s : State} (h : s.port.partialRecord = false) (sub : Byte) : s.discardPartial sub = s := by
  unfold State.discardPartial
  rw [h]
  rfl

/-- A partial record that is dropped is counted (R417). -/
theorem State.discardPartial_counted {s : State} (h : s.port.partialRecord = true) (sub : Byte) :
    (s.discardPartial sub).port.counter[2] = s.port.counter[2] + 1 := by
  have hlog := s.logEvent_counter 0x11 sub 0 0 (i := 2) (by decide)
  have hbump := (s.logEvent 0x11 sub 0 0).bump_counter 2
  unfold State.discardPartial
  rw [h, if_pos rfl]
  exact hbump.trans (congrArg (· + 1) hlog)

theorem State.discardPartial_counter (s : State) (sub : Byte) {i : Fin 18} (h2 : i ≠ 2) (h4 : i ≠ 4) :
    (s.discardPartial sub).port.counter[i] = s.port.counter[i] := by
  have hlog := s.logEvent_counter 0x11 sub 0 0 h4
  unfold State.discardPartial
  split
  · rw [← hlog]
    exact State.bump_counter_ne _ (Ne.symm h2)
  · rfl

theorem State.discardPartial_moves (s : State) (sub : Byte) : s.onlyMoves (s.discardPartial sub) [.port, .tel] := by
  unfold State.discardPartial
  split
  · exact State.onlyMoves_trans (State.onlyMoves_mono (s.logEvent_moves _ _ _ _) (by decide))
      (State.onlyMoves_mono (State.setPort_moves _ _) (by decide))
  · exact State.onlyMoves_refl _ _

theorem State.dropPartial_line (s : State) (sub : Byte) :
    (s.dropPartial sub).port.line = { s.port with stream := s.port.kept, expect := none }.line := by
  unfold State.dropPartial
  rw [State.settlePause_line]
  have h := s.discardPartial_line sub
  exact congrArg (fun x => (x.1, none, x.2.2)) h

theorem State.dropPartial_counted {s : State} (h : s.port.partialRecord = true) (sub : Byte) :
    (s.dropPartial sub).port.counter[2] = s.port.counter[2] + 1 := by
  have hpause := (s.discardPartial sub).awaitSor.settlePause_counter (i := 2) (by decide)
  exact Eq.trans hpause (State.discardPartial_counted h sub)

theorem State.dropPartial_counter (s : State) (sub : Byte) {i : Fin 18} (h2 : i ≠ 2) (h3 : i ≠ 3) (h4 : i ≠ 4) :
    (s.dropPartial sub).port.counter[i] = s.port.counter[i] := by
  unfold State.dropPartial
  rw [State.settlePause_counter _ h3]
  exact s.discardPartial_counter sub h2 h4

/-- What an accepted frame leaves, its payload taken (R416): SOR drops a partial record. -/
theorem State.acceptFrame_takes {s : State} {bytes : List Byte}
    (h : fieldAt bytes 16 1 = 1 ∨ s.port.expect = some (BitVec.ofNat 32 (fieldAt bytes 18 4))) :
    ∃ u : State, u = (if fieldAt bytes 16 1 = 1 then
          State.discardPartial { s with port := { s.port with host := some (macNumber (slice bytes 6 6)) } } 5
        else { s with port := { s.port with host := some (macNumber (slice bytes 6 6)) } }) ∧
      (s.acceptFrame bytes).port.line = { u.port with
        stream := u.port.stream ++ framePayload bytes
        expect := some (BitVec.ofNat 32 (fieldAt bytes 18 4) + BitVec.ofNat 32 (framePlen bytes)) }.line ∧
      (∀ i : Fin 18, i ≠ 3 → (s.acceptFrame bytes).port.counter[i] = u.port.counter[i]) ∧
      u.onlyMoves (s.acceptFrame bytes) [.port] := by
  refine ⟨_, rfl, ?_⟩
  have hsor : (fieldAt bytes 16 1 == 1) = decide (fieldAt bytes 16 1 = 1) := rfl
  have htakes : (fieldAt bytes 16 1 == 1 || s.port.expect == some (BitVec.ofNat 32 (fieldAt bytes 18 4))) = true := by
    rw [Bool.or_eq_true, beq_iff_eq, beq_iff_eq]
    exact h
  unfold State.acceptFrame
  dsimp only
  rw [htakes, if_pos rfl, State.settlePause_line]
  simp only [beq_iff_eq]
  refine ⟨rfl, fun i hi => State.settlePause_counter _ hi, ?_⟩
  exact State.onlyMoves_trans (State.setPort_moves _ _) (State.settlePause_moves _)

/-- An offset that is not the one expected is counted, and the parser waits for SOR (R416). -/
theorem State.acceptFrame_refuses {s : State} {bytes : List Byte} (hsor : fieldAt bytes 16 1 ≠ 1)
    (hoff : s.port.expect ≠ some (BitVec.ofNat 32 (fieldAt bytes 18 4))) :
    (s.acceptFrame bytes).port.expect = none ∧ (s.acceptFrame bytes).port.counter[1] = s.port.counter[1] + 1 ∧
      (s.acceptFrame bytes).port.stream = s.port.kept ∧ s.onlyMoves (s.acceptFrame bytes) [.port, .tel] := by
  have hrefuses : (fieldAt bytes 16 1 == 1 || s.port.expect == some (BitVec.ofNat 32 (fieldAt bytes 18 4))) = false := by
    rw [Bool.or_eq_false_iff]
    exact ⟨beq_false_of_ne hsor, beq_false_of_ne hoff⟩
  have hframe : s.acceptFrame bytes = ((((State.discardPartial { s with port := { s.port with
      host := some (macNumber (slice bytes 6 6)) } } 4).bump 1).awaitSor).settlePause) := by
    unfold State.acceptFrame
    dsimp only
    rw [hrefuses]
    rfl
  have hline := State.discardPartial_line { s with port := { s.port with host := some (macNumber (slice bytes 6 6)) } } 4
  have hcounter := State.discardPartial_counter { s with port := { s.port with host := some (macNumber (slice bytes 6 6)) } } 4
    (i := 1) (by decide) (by decide)
  have hmoves := State.discardPartial_moves { s with port := { s.port with host := some (macNumber (slice bytes 6 6)) } } 4
  rw [hframe]
  generalize State.discardPartial { s with port := { s.port with host := some (macNumber (slice bytes 6 6)) } } 4 = u at hline hcounter hmoves
  have hpause := (u.bump 1).awaitSor.settlePause_line
  refine ⟨congrArg (fun x => x.2.1) hpause, ?_, ?_, ?_⟩
  · exact Eq.trans ((u.bump 1).awaitSor.settlePause_counter (i := 1) (by decide)) ((u.bump_counter 1).trans (congrArg (· + 1) hcounter))
  · exact (congrArg (fun x => x.1) hpause).trans (congrArg (fun x => x.1) hline)
  · exact State.onlyMoves_trans (State.onlyMoves_trans (State.onlyMoves_mono (s.setPort_moves _) (by decide)) hmoves)
      (State.onlyMoves_trans (State.onlyMoves_mono (u.setPort_moves _) (by decide))
        (State.onlyMoves_mono (State.settlePause_moves _) (by decide)))

/-- The link is down, and the loss counted (R409). -/
def State.unlinked (s : State) : State :=
  { s with port := { s.port with rxFault := false, linkUp := false, counter := (s.bump 5).port.counter } }

theorem exec_frame {s : State} {c : Instr} {bytes : List Byte} {fcs : Bool} (hruns : s.portRuns = true) (hup : s.port.linkUp = true)
    (hc : c = .contentFrame bytes fcs ∨ c = .pause bytes fcs) : exec c s = .next (s.receiveFrame bytes fcs) := by
  obtain rfl | rfl := hc
  · exact if_pos (by rw [hruns, hup]; rfl)
  · exact if_pos (by rw [hruns, hup]; rfl)

/-- Settles O55: the link's commands and the rows of Table 13.1, one by one. -/
theorem portFollowsLinkAndFrames : Obligations.PortFollowsLinkAndFrames := by
  unfold Obligations.PortFollowsLinkAndFrames
  refine ⟨fun s hruns hgood hfault hgoodAt => ?_, fun s hruns => ⟨?_, ?_⟩, fun s => rfl, fun s => ⟨fun hover => ?_, fun hrun => ?_⟩,
    fun s hruns hup => ?_, fun s hruns hlast hpartial => ?_, fun s c bytes fcs hruns hup hc => ?_⟩
  · refine ⟨s.clearFault 11, ?_, s.clearFault_lacks (by omega), s.clearFault_moves 11⟩
    change execCportRecover s = _
    unfold execCportRecover Config.framesPerTick
    exact if_pos (by rw [hruns, hgood, hfault, decide_eq_true hgoodAt]; rfl)
  · exact ⟨_, if_pos hruns, rfl, s.setPort_moves _⟩
  · exact ⟨_, if_pos hruns, rfl, s.setPort_moves _⟩
  · exact ⟨_, if_pos hover, rfl, s.setPort_moves _⟩
  · exact if_neg (Nat.not_le.mpr hrun)
  · have hexec : exec .linkDown s = .next (State.dropPartial (State.unlinked s) 2) := by
      change Host.Outcome.next (if s.portRuns then s.linkLost else s) = _
      unfold State.linkLost
      dsimp only
      rw [hruns, hup]
      rfl
    have hline := (State.unlinked s).dropPartial_line 2
    refine ⟨_, hexec, congrArg (fun x => x.2.2.1) hline, ?_, ?_, congrArg (fun x => x.2.1) hline, congrArg (fun x => x.2.2.2.1) hline,
      congrArg (fun x => x.1) hline⟩
    · exact Eq.trans ((State.unlinked s).dropPartial_counter 2 (i := 5) (by decide) (by decide) (by decide)) (s.bump_counter 5)
    · exact State.onlyMoves_trans (State.onlyMoves_mono (s.setPort_moves _) (by decide))
        (State.onlyMoves_mono (State.dropPartial_moves _ _) (by decide))
  · have hline := s.dropPartial_line 1
    have hstream : (s.dropPartial 1).port.stream = s.port.kept := congrArg (fun x => x.1) hline
    refine ⟨s.dropPartial 1, ?_, hstream.trans (if_pos hpartial), congrArg (fun x => x.2.1) hline,
      State.dropPartial_counted hpartial 1, State.onlyMoves_mono (s.dropPartial_moves 1) (by decide)⟩
    change execPartialRecordTimeout s = _
    unfold execPartialRecordTimeout Config.framesPerTick
    exact if_pos (by rw [hruns, hpartial, decide_eq_true hlast]; rfl)
  · have hexec := exec_frame hruns hup hc
    refine ⟨fun hrow => ?_, fun hrow => ?_, fun time hrow => ?_, fun hrow => ?_, fun hrow htakes => ?_, fun hrow hsor hpartial => ?_,
      fun hrow hsor hoff => ?_⟩
    · have hcount : s.receiveFrame bytes fcs = s.bump 0 := by
        unfold State.receiveFrame
        obtain h | h | h | h := hrow <;> rw [h]
      rw [hcount] at hexec
      exact ⟨_, hexec, s.bump_counter 0, rfl, rfl, s.bump_moves 0⟩
    · rw [hexec]
      unfold State.receiveFrame
      rw [hrow]
    · refine ⟨_, hexec, ?_⟩
      unfold State.receiveFrame
      rw [hrow]
      exact ⟨by simp, rfl, rfl, s.setPort_moves _⟩
    · have hline := (s.bump 0).dropPartial_line 3
      have hdrop : s.receiveFrame bytes fcs = (s.bump 0).dropPartial 3 := by
        unfold State.receiveFrame
        rw [hrow]
      rw [hdrop] at hexec
      refine ⟨_, hexec, ?_, ?_, congrArg (fun x => x.2.1) hline, congrArg (fun x => x.1) hline⟩
      · exact Eq.trans ((s.bump 0).dropPartial_counter 3 (i := 0) (by decide) (by decide) (by decide)) (s.bump_counter 0)
      · exact State.onlyMoves_trans (State.onlyMoves_mono (s.bump_moves 0) (by decide))
          (State.onlyMoves_mono (State.dropPartial_moves _ _) (by decide))
    all_goals
      have haccept : s.receiveFrame bytes fcs = s.acceptFrame bytes := by
        unfold State.receiveFrame
        rw [hrow]
      rw [haccept] at hexec
    · obtain ⟨u, hu, hline, -, hmoves⟩ := State.acceptFrame_takes (s := s) (bytes := bytes)
        (htakes.imp And.left And.right)
      have hus : u = { s with port := { s.port with host := some (macNumber (slice bytes 6 6)) } } := by
        rw [hu]
        split
        · next hsor =>
          obtain ⟨-, hwhole⟩ | ⟨hnot, -⟩ := htakes
          · refine State.discardPartial_of_whole ?_ 5
            exact hwhole
          · exact absurd hsor hnot
        · rfl
      rw [hus] at hline hmoves
      exact ⟨_, hexec, congrArg (fun x => x.1) hline, congrArg (fun x => x.2.1) hline, congrArg (fun x => x.2.2.2.2) hline,
        State.onlyMoves_trans (s.setPort_moves _) hmoves⟩
    · obtain ⟨u, hu, hline, hcounter, hmoves⟩ := State.acceptFrame_takes (s := s) (bytes := bytes) (.inl hsor)
      rw [if_pos hsor] at hu
      have hpartial' : (({ s with port := { s.port with host := some (macNumber (slice bytes 6 6)) } } : State)).port.partialRecord = true :=
        hpartial
      have hstream : u.port.stream = s.port.stream.take s.port.whole := by
        rw [hu]
        exact (congrArg (fun x => x.1) (State.discardPartial_line _ 5)).trans (if_pos hpartial')
      have hcount : u.port.counter[2] = s.port.counter[2] + 1 := by
        rw [hu]
        exact State.discardPartial_counted hpartial' 5
      have hmoved : s.onlyMoves u [.port, .tel] := by
        rw [hu]
        exact State.onlyMoves_trans (State.onlyMoves_mono (s.setPort_moves _) (by decide)) (State.discardPartial_moves _ _)
      refine ⟨_, hexec, (congrArg (fun x => x.1) hline).trans ?_, (hcounter 2 (by decide)).trans hcount,
        State.onlyMoves_trans hmoved (State.onlyMoves_mono hmoves (by decide))⟩
      exact congrArg (· ++ framePayload bytes) hstream
    · exact ⟨_, hexec, State.acceptFrame_refuses hsor hoff⟩

end Sys2Proof.Machine
end

section
/-! PROOFS. Configuration records reach the open shadow. -/

namespace Sys2Proof.Machine

/-! ## Records that stand where the device takes them (R435) -/

theorem recordLength_le {rec : List Byte} (h : recordLength rec = some rec.length) : ¬ rec.length < 12 := by
  intro hshort
  unfold recordLength at h
  rw [if_pos hshort] at h
  cases h

/-- A sound record that lies within its image is taken, unless it is a chunk that waits. -/
theorem State.takeRecord_of_sound {s : State} {pl : Place} {ty : Nat} {rec : List Byte} (h : soundRecord s pl ty rec)
    (hend : s.pastEnd pl rec = false) (errs : List LineErrs) (readBack : List Byte) :
    s.takeRecord ty rec errs readBack =
      if s.chunkWaits ty then { s with mem := s.mem.request }
      else (if ty = 0x30 ∧ s.dramUsable then { s with mem := s.mem.request } else s).takeWhole pl rec errs readBack := by
  obtain ⟨hplace, htype, hlength, hfront, hframing, -⟩ := h
  have hhere : (!pl.onPort || rec.isPrefixOf s.port.stream) = true := by
    cases hon : pl.onPort with
    | false => rfl
    | true => exact hfront hon
  have hmine : (rtype rec == ty || !knownTypes.contains (rtype rec)) = true := by
    rw [htype, beq_self_eq_true, Bool.true_or]
  have htakes : ¬ (rec.length < 12 ∨ (!true) = true ∨ (!true) = true) := by
    rintro (h | h | h)
    · exact recordLength_le hlength h
    · cases h
    · cases h
  unfold State.takeRecord
  rw [hplace]
  dsimp only
  rw [hhere, hmine, if_neg htakes, hframing, Bool.not_true, if_neg Bool.false_ne_true, hend, if_neg Bool.false_ne_true,
    if_neg (not_not.mpr hlength)]

/-- What the content buffer keeps of a record that leaves it. -/
theorem State.takeOff_stream {s : State} {pl : Place} (h : pl.onPort = true) (n : Nat) :
    (s.takeOff pl n).port.stream = s.port.stream.drop n := by
  unfold State.takeOff
  rw [if_pos h]
  have hline := State.settlePause_line { s with port := s.port.cut 0 n }
  refine (congrArg (fun x => x.1) hline).trans ?_
  simp [Port.line, Port.cut]

theorem State.takeOff_moves (s : State) (pl : Place) (n : Nat) : s.onlyMoves (s.takeOff pl n) [.port] := by
  unfold State.takeOff
  split
  · exact State.onlyMoves_trans (s.setPort_moves _) (State.settlePause_moves _)
  · exact State.onlyMoves_refl _ _

/-- An entry enters a log that has room (R427). -/
theorem State.logEvent_enters {s : State} (h : s.tel.events.length < 2048) (code sub : Byte) (obj : BitVec 16) (data : BitVec 48) :
    ∃ e ∈ (s.logEvent code sub obj data).tel.events, e.code = code ∧ e.sub = sub ∧ e.obj = obj := by
  unfold State.logEvent
  dsimp only
  rw [if_pos (by rw [List.length_reverse, length_insertNewest, List.length_reverse]; omega)]
  refine ⟨_, List.mem_reverse.mpr ((mem_insertNewest _ _ _).mpr (.inl rfl)), rfl, rfl, rfl⟩

/-! ## Configuration records after bring-up (R141, R437) -/

theorem configCommand_exec {c : Instr} {ty : Nat} {rec : List Byte} (h : configCommand c ty rec) (s : State) :
    exec c s = .next (s.takeRecord ty rec [] []) ∧ isConfigType ty = true ∧ ty ≠ 0x30 := by
  obtain ⟨rfl, rfl⟩ | ⟨rfl, rfl⟩ | ⟨rfl, rfl⟩ | ⟨rfl, rfl⟩ | ⟨rfl, rfl⟩ | ⟨rfl, rfl⟩ | ⟨rfl, rfl⟩ | ⟨rfl, rfl⟩ | ⟨rfl, rfl⟩ |
    ⟨rfl, rfl⟩ := h
  all_goals exact ⟨rfl, rfl, by decide⟩

/-- A sound configuration record after bring-up leaves the content buffer and goes to the rows after 2. -/
theorem exec_config {s : State} {c : Instr} {ty : Nat} {rec : List Byte} (hc : configCommand c ty rec)
    (hsound : soundRecord s .afterBringUp ty rec) :
    ∃ u arrived, exec c s = .next (u.takeConfig rec arrived) ∧ s.onlyMoves u [.port] ∧
      u.port.stream = s.port.stream.drop rec.length ∧ rtype rec = ty ∧ isConfigType ty = true := by
  obtain ⟨hexec, hconfig, hne⟩ := configCommand_exec hc s
  have hend : s.pastEnd .afterBringUp rec = false := rfl
  have htake := State.takeRecord_of_sound hsound hend [] []
  obtain ⟨-, htype, -, -, -, hcrc⟩ := hsound
  have hwaits : s.chunkWaits ty = false := by
    unfold State.chunkWaits
    rw [beq_false_of_ne hne]
    rfl
  have hwhole : s.takeWhole .afterBringUp rec [] [] =
      (s.takeOff .afterBringUp rec.length).takeConfig rec (arrivedAt rec.length s.port.arrived) := by
    unfold State.takeWhole State.takeOnPort
    rw [hcrc, htype]
    exact if_pos hne
  rw [hwaits, if_neg Bool.false_ne_true, if_neg fun h => hne h.1, hwhole] at htake
  exact ⟨_, _, by rw [hexec, htake], s.takeOff_moves _ _, State.takeOff_stream rfl _, htype, hconfig⟩

theorem State.outcome_line (s : State) (code : Byte) (obj : Obj) (pin : Byte) (mask : BitVec 64) :
    (s.outcome code obj pin mask).port.line = s.port.line := by
  unfold State.outcome
  dsimp only
  split <;> rfl

/-- What the log entry of a refused record leaves. -/
theorem State.configRefused {s : State} (u : State) {n : Nat} (hroom : u.tel.events.length < 2048) (hmoves : s.onlyMoves u [.port])
    (hstream : u.port.stream = s.port.stream.drop n) (code : Byte) (obj : BitVec 16) :
    (∃ e ∈ (u.logEvent code 0 obj).tel.events, e.code = code ∧ e.obj = obj) ∧
      (u.logEvent code 0 obj).port.stream = s.port.stream.drop n ∧ s.onlyMoves (u.logEvent code 0 obj) [.tel, .port] := by
  obtain ⟨e, he, hcode, -, hobj⟩ := State.logEvent_enters hroom code 0 obj 0
  exact ⟨⟨e, he, hcode, hobj⟩, (congrArg (fun x => x.1) (u.logEvent_line _ _ _ _)).trans hstream,
    State.onlyMoves_trans (State.onlyMoves_mono hmoves (by decide)) (State.onlyMoves_mono (State.logEvent_moves _ _ _ _ _) (by decide))⟩

/-- Settles O56: rows 3 and 5 refuse with a log entry, an open shadow takes the record, and any other state refuses it. -/
theorem configRecordsReachShadow : Obligations.ConfigRecordsReachShadow := by
  unfold Obligations.ConfigRecordsReachShadow
  intro s c ty rec hc hsound
  obtain ⟨u, arrived, hexec, hmoves, hstream, htype, hconfig⟩ := exec_config hc hsound
  have htxn : u.txn = s.txn := hmoves .txn (by decide)
  have hpower : u.power = s.power := hmoves .power (by decide)
  have htel : u.tel = s.tel := hmoves .tel (by decide)
  have htag : u.tagOk rec = s.tagOk rec := by
    unfold State.tagOk
    rw [hpower]
  unfold State.takeConfig State.openImage at hexec
  dsimp only at hexec
  rw [htype, hconfig, htag, htxn] at hexec
  refine ⟨fun img ht hopen hshadow hok => ?_, fun ht hopen hok => ?_, fun ht hroom => ?_, fun img ht hopen hshadow hok hroom => ?_⟩
  · rw [ht, if_pos hopen, hshadow, hok] at hexec
    refine ⟨_, hexec, rfl, hopen, rfl, hstream, ?_⟩
    refine State.onlyMoves_trans (State.onlyMoves_mono hmoves (by decide)) ?_
    intro p hp
    cases p <;> simp_all [State.agree]
  · rw [ht, if_neg hopen, hok] at hexec
    refine ⟨u.outcome 6 (objRecord ty), hexec, ?_, ?_, ?_⟩
    · rw [lastOutcome, State.outcome_last]
      rfl
    · exact (congrArg (fun x => x.1) (u.outcome_line _ _ _ _)).trans hstream
    · exact State.onlyMoves_trans (State.onlyMoves_mono hmoves (by decide)) (State.onlyMoves_mono (State.outcome_moves _ _ _ _ _) (by decide))
  · rw [ht] at hexec
    exact ⟨_, hexec, State.configRefused u (by rw [htel]; exact hroom) hmoves hstream _ _⟩
  · rw [ht, if_pos hopen, hshadow, hok] at hexec
    exact ⟨_, hexec, State.configRefused u (by rw [htel]; exact hroom) hmoves hstream _ _⟩

end Sys2Proof.Machine
end

section
/-! PROOFS. Calibration from start to end. -/

namespace Sys2Proof.Machine

/-! ## The units that a channel keeps (R354, R355) -/

theorem foldl_choice_mem {α : Type} (p : α → α → Bool) (x : α) (xs : List α) :
    xs.foldl (fun best y => if p best y = true then y else best) x ∈ x :: xs := by
  induction xs generalizing x with
  | nil => exact List.mem_singleton.mpr rfl
  | cons y ys ih =>
    have h := ih (if p x y = true then y else x)
    rw [List.foldl_cons]
    rcases List.mem_cons.mp h with h | h
    · rw [h]
      split <;> simp
    · simp [h]

theorem leastBy_mem (f : Weighed → Nat) {l : List Weighed} (h : l ≠ []) : ∃ x ∈ l, leastBy f l = some x := by
  cases l with
  | nil => exact absurd rfl h
  | cons x xs =>
    refine ⟨_, ?_, rfl⟩
    simpa using foldl_choice_mem (fun best y => decide (f y < f best)) x xs

theorem greatestBy_mem (f : Weighed → Nat) {l : List Weighed} (h : l ≠ []) : ∃ x ∈ l, greatestBy f l = some x := by
  cases l with
  | nil => exact absurd rfl h
  | cons x xs =>
    refine ⟨_, ?_, rfl⟩
    simpa using foldl_choice_mem (fun best y => decide (f best < f y)) x xs

/-- Dropping a unit drops one entry where each unit stands once. -/
theorem dropUnit_length {l : List Weighed} (hl : (l.map Prod.fst).Nodup) {x : Weighed} (hx : x ∈ l) :
    (l.filter fun y => y.1 != x.1).length + 1 = l.length := by
  have hmap : (l.filter fun y => y.1 != x.1).map Prod.fst = (l.map Prod.fst).erase x.1 := by
    rw [hl.erase_eq_filter, List.filter_map]
    rfl
  have hmem : x.1 ∈ l.map Prod.fst := List.mem_map_of_mem hx
  have hlen := congrArg List.length hmap
  rw [List.length_map, List.length_erase_of_mem hmem, List.length_map] at hlen
  have hpos : 0 < l.length := List.length_pos_of_mem hx
  omega

theorem dropUnit_nodup {l : List Weighed} (hl : (l.map Prod.fst).Nodup) (p : Weighed → Bool) :
    ((l.filter p).map Prod.fst).Nodup := hl.sublist (List.filter_sublist.map _)

theorem keepFifteen_keeps {k : Nat} {l : List Weighed} (hl : (l.map Prod.fst).Nodup) (hlen : l.length = 15 + k) :
    (keepFifteen k l).length = 15 ∧ (keepFifteen k l).Sublist l := by
  induction k generalizing l with
  | zero => exact ⟨hlen, List.Sublist.refl _⟩
  | succ k ih =>
    unfold keepFifteen
    dsimp only
    obtain ⟨x, hx, hsome⟩ := greatestBy_mem (fun x => (x.2 - lowerMedian (l.map Prod.snd)).natAbs)
      (fun h => by rw [h] at hlen; simp at hlen : l ≠ [])
    rw [hsome]
    dsimp only
    obtain ⟨hn, hs⟩ := ih (dropUnit_nodup hl fun y => y.1 != x.1) (by have := dropUnit_length hl hx; omega)
    exact ⟨hn, hs.trans List.filter_sublist⟩

theorem orderUnits_mem {fuel : Nat} {sum e : Int} {l : List Weighed} {u : Fin 18} (h : u ∈ orderUnits fuel sum e l) :
    u ∈ l.map Prod.fst := by
  induction fuel generalizing e l with
  | zero => cases h
  | succ k ih =>
    unfold orderUnits at h
    by_cases hl : l = []
    · subst hl
      cases h
    · obtain ⟨x, hx, hsome⟩ := leastBy_mem (fun x => (e + 15 * x.2 - sum).natAbs) hl
      rw [hsome] at h
      rcases List.mem_cons.mp h with h | h
      · exact h ▸ List.mem_map_of_mem hx
      · exact (List.filter_sublist.map _).subset (ih h)

theorem orderUnits_orders {fuel : Nat} {sum e : Int} {l : List Weighed} (hl : (l.map Prod.fst).Nodup) (hlen : l.length = fuel) :
    (orderUnits fuel sum e l).length = fuel ∧ (orderUnits fuel sum e l).Nodup := by
  induction fuel generalizing e l with
  | zero => exact ⟨rfl, List.nodup_nil⟩
  | succ k ih =>
    unfold orderUnits
    obtain ⟨x, hx, hsome⟩ := leastBy_mem (fun x => (e + 15 * x.2 - sum).natAbs)
      (fun h => by rw [h] at hlen; simp at hlen : l ≠ [])
    rw [hsome]
    obtain ⟨hn, hd⟩ := ih (e := e + 15 * x.2 - sum) (dropUnit_nodup hl (fun y => y.1 != x.1))
      (by have := dropUnit_length hl hx; omega)
    refine ⟨congrArg (· + 1) hn, List.nodup_cons.mpr ⟨fun h => ?_, hd⟩⟩
    obtain ⟨y, hy, hxy⟩ := List.mem_map.mp (orderUnits_mem h)
    simp [hxy] at hy

theorem goodUnits_nodup (r : CalReadings) (bad : BitVec 18) : ((goodUnits r bad).map Prod.fst).Nodup := by
  unfold goodUnits
  refine dropUnit_nodup ?_ _
  rw [List.map_map]
  exact (List.nodup_finRange 18).map fun _ _ h => h

theorem satInt_bounds {lo hi : Int} (h : lo ≤ hi) (x : Int) : lo ≤ satInt lo hi x ∧ satInt lo hi x ≤ hi := by
  unfold satInt
  (repeat' split) <;> omega

/-- Fifteen good units make a selection and a trim, and leave the release as it is (R355). -/
theorem Channel.calibrated_of_good {c : Channel} {gain : BitVec 1} {r : CalReadings} (h : 15 ≤ (goodUnits r c.badUnits).length) :
    (c.calibrated gain r).fog = false ∧ (c.calibrated gain r).released = c.released ∧
      (c.calibrated gain r).positions.length = 15 ∧ (c.calibrated gain r).positions.Nodup ∧
      (∀ u ∈ (c.calibrated gain r).positions, u ∈ (goodUnits r c.badUnits).map Prod.fst) ∧
      -16 ≤ (c.calibrated gain r).ladder ∧ (c.calibrated gain r).ladder ≤ 15 := by
  have hnodup := goodUnits_nodup r c.badUnits
  unfold Channel.calibrated
  generalize goodUnits r c.badUnits = good at *
  dsimp only
  rw [if_neg (by omega)]
  obtain ⟨hlen, hsub⟩ := keepFifteen_keeps hnodup (k := good.length - 15) (by omega)
  obtain ⟨hn, hd⟩ := orderUnits_orders (sum := ((keepFifteen (good.length - 15) good).map Prod.snd).sum) (e := 0)
    (hnodup.sublist (hsub.map _)) hlen
  exact ⟨rfl, rfl, hn, hd, fun u hu => (hsub.map _).subset (orderUnits_mem hu), (satInt_bounds (by decide) _).1,
    (satInt_bounds (by decide) _).2⟩

/-- Fewer than fifteen good units release the channel for good (R366). -/
theorem Channel.calibrated_of_bad {c : Channel} {gain : BitVec 1} {r : CalReadings} (h : (goodUnits r c.badUnits).length < 15) :
    (c.calibrated gain r).fog = false ∧ (c.calibrated gain r).released = true ∧ (c.calibrated gain r).forGood = true := by
  unfold Channel.calibrated
  dsimp only
  rw [if_pos h]
  exact ⟨rfl, rfl, rfl⟩

theorem Channel.calibrated_fog (c : Channel) (gain : BitVec 1) (r : CalReadings) : (c.calibrated gain r).fog = false := by
  obtain h | h := Nat.lt_or_ge (goodUnits r c.badUnits).length 15
  · exact (Channel.calibrated_of_bad h).1
  · exact (Channel.calibrated_of_good h).1

/-! ## A pass that has taken everything ends (R360) -/

theorem State.onlyMoves_foldl {β : Type} {ps : List Part} {f : State → β → State} (h : ∀ (s : State) (x : β), s.onlyMoves (f s x) ps) (l : List β)
    (s : State) : s.onlyMoves (l.foldl f s) ps := by
  induction l generalizing s with
  | nil => exact State.onlyMoves_refl _ _
  | cons x xs ih => exact State.onlyMoves_trans (h s x) (ih _)

theorem State.setCal_moves (s : State) (c : Cal) : s.onlyMoves { s with cal := c } [.cal] := by
  intro p hp
  cases p <;> simp_all [State.agree]

/-- The causes of the drive banks that owe no calibration clear (Table 16.1). -/
def State.clearOwed (s : State) (owed : Vector Bool 4) : State :=
  (List.finRange 4).foldl
    (fun s b => if s.power.isGood (dacDomain b) && !owed[b] then s.clearFault (7 + b.val) else s) s

/-- TRIM-WAIT ends with the calibration that it waits for. -/
def State.endTrimWait (s : State) : State := if s.trimmed ∧ s.power.stage = .trimWait then s.completeBringUp else s

theorem State.clearOwed_moves (s : State) (owed : Vector Bool 4) : s.onlyMoves (s.clearOwed owed) [.power, .tel, .port] := by
  unfold State.clearOwed
  refine State.onlyMoves_foldl (fun u b => ?_) _ s
  split
  · exact u.clearFault_moves _
  · exact State.onlyMoves_refl _ _

theorem State.clearOwed_fault (s : State) (owed : Vector Bool 4) {c : Nat} (hc : c < 7 ∨ 10 < c) :
    (s.clearOwed owed).power.fault c = s.power.fault c := by
  unfold State.clearOwed
  refine foldl_keeps (fun u : State => u.power.fault c) (fun u b => ?_) _ s
  split
  · exact u.clearFault_fault_other (by omega) (by have := b.isLt; omega)
  · rfl

theorem State.endTrimWait_moves (s : State) : s.onlyMoves s.endTrimWait [.power, .pins] := by
  unfold State.endTrimWait
  split
  · exact State.onlyMoves_trans (State.onlyMoves_mono (s.setPower_moves _) (by decide)) (State.enterStage_moves _ _)
  · exact State.onlyMoves_refl _ _

theorem State.endTrimWait_faults (s : State) : s.endTrimWait.power.faults = s.power.faults := by
  unfold State.endTrimWait
  split <;> rfl

/-- The banks that owe a calibration once a pass is over. -/
def State.owedAfter (s : State) (p : CalPass) : Vector Bool 4 := Vector.ofFn fun b => p.owes b s.cal.owed[b]

/-- A pass is over, and what its banks owe stands. -/
def State.passEnded (s : State) (p : CalPass) : State :=
  { s with cal := { s.cal with
      pass := none, owed := s.owedAfter p, passDone := s.cal.passDone || p.kind == .full
      powerUpDone := s.cal.powerUpDone ||
        (p.kind != .full && (List.finRange 4).all fun b => !s.power.fitted[b] || !(s.owedAfter p)[b]) } }

/-- The end of a pass is told by what clears, and by the stage that waited for it. -/
theorem State.settlePass_ends (s : State) :
    s.settlePass = s ∨ ∃ p, s.settlePass = ((s.passEnded p).clearOwed (s.owedAfter p)).endTrimWait := by
  have hends (p : CalPass) (hp : s.cal.pass = some p) :
      s.settlePass =
        if s.cal.item.isSome || p.banksLeft || s.sense.trimming.toList.any id || (s.nextOfPass p).isSome then s
        else ((s.passEnded p).clearOwed (s.owedAfter p)).endTrimWait := by
    unfold State.settlePass
    rw [hp]
    rfl
  cases hp : s.cal.pass with
  | none =>
    refine .inl ?_
    unfold State.settlePass
    rw [hp]
  | some p =>
    rw [hends p hp]
    split
    · exact .inl rfl
    · exact .inr ⟨p, rfl⟩

theorem State.settlePass_moves (s : State) : s.onlyMoves s.settlePass [.power, .pins, .cal, .tel, .port] := by
  obtain h | ⟨p, h⟩ := s.settlePass_ends
  · rw [h]
    exact State.onlyMoves_refl _ _
  · rw [h]
    exact State.onlyMoves_trans (State.onlyMoves_mono (s.setCal_moves _) (by decide))
      (State.onlyMoves_trans (State.onlyMoves_mono (State.clearOwed_moves _ _) (by decide))
        (State.onlyMoves_mono (State.endTrimWait_moves _) (by decide)))

theorem State.settlePass_item (s : State) : s.settlePass.cal.item = s.cal.item := by
  obtain h | ⟨p, h⟩ := s.settlePass_ends
  · rw [h]
  · have hcal : (((s.passEnded p).clearOwed (s.owedAfter p)).endTrimWait).cal = (s.passEnded p).cal :=
      ((State.endTrimWait_moves _) .cal (by decide)).trans ((State.clearOwed_moves _ _) .cal (by decide))
    rw [h, hcal]
    rfl

theorem State.settlePass_fault (s : State) {c : Nat} (hc : c < 7 ∨ 10 < c) : s.settlePass.power.fault c = s.power.fault c := by
  obtain h | ⟨p, h⟩ := s.settlePass_ends
  · rw [h]
  · rw [h]
    exact (State.fault_of_faults (State.endTrimWait_faults _) c).trans (State.clearOwed_fault _ _ hc)

/-! ## A channel's calibration starts and ends (R352, R360, R365) -/

theorem State.freezeStatus_moves (s : State) : s.onlyMoves s.freezeStatus [.tel, .mem, .port] := by
  intro p hp
  cases p <;> simp_all [State.agree]

theorem State.setTxn_moves (s : State) (t : Txn) : s.onlyMoves { s with txn := t } [.txn] := by
  intro p hp
  cases p <;> simp_all [State.agree]

/-- The bodies that are due at row 9 are frozen. -/
def State.freezeDue (s : State) : State :=
  let s1 := if s.txn.due.status then s.freezeStatus else s
  if s.txn.due.ledger then s1.freezeLedger else s1

theorem State.freezeDue_moves (s : State) :
    s.onlyMoves s.freezeDue [.tel, .mem, .port] ∧ (s.txn.due.status = false → s.freezeDue.mem = s.mem) ∧
      s.freezeDue.mem.cells = s.mem.cells := by
  unfold State.freezeDue
  have hledger (u : State) : u.onlyMoves (if s.txn.due.ledger then u.freezeLedger else u) [.tel, .port] := by
    split
    · exact u.freezeLedger_moves
    · exact State.onlyMoves_refl _ _
  dsimp only
  cases s.txn.due.status with
  | false => exact ⟨State.onlyMoves_mono (hledger s) (by decide), fun _ => hledger s .mem (by decide),
      congrArg Mem.cells (hledger s .mem (by decide))⟩
  | true =>
    have hl := hledger s.freezeStatus
    exact ⟨State.onlyMoves_trans s.freezeStatus_moves (State.onlyMoves_mono hl (by decide)), nofun,
      (congrArg Mem.cells (hl .mem (by decide))).trans (State.freezeStatus_cells _)⟩

/-- Row 9 once row 8 has been taken. -/
theorem State.closeNine_takes {s : State} (h : s.txn.due.calibration = false) :
    s.closeNine.txn = { s.txn with due := { s.txn.due with status := false, ledger := false } } ∧
      s.onlyMoves s.closeNine [.txn, .tel, .mem, .port] ∧ (s.txn.due.status = false → s.closeNine.mem = s.mem) ∧
      s.closeNine.mem.cells = s.mem.cells := by
  have hnine : s.closeNine = { s.freezeDue with
      txn := { s.freezeDue.txn with due := { s.freezeDue.txn.due with status := false, ledger := false } } } := by
    unfold State.closeNine
    dsimp only
    rw [h]
    rfl
  obtain ⟨hmoves, hquiet, hcells⟩ := s.freezeDue_moves
  rw [hnine, hmoves .txn (by decide)]
  exact ⟨rfl, State.onlyMoves_trans (State.onlyMoves_mono hmoves (by decide)) (State.onlyMoves_mono (State.setTxn_moves _ _) (by decide)),
    hquiet, hcells⟩

theorem State.startChannel_moves (s : State) (n : Chan) (kind : CalKind) :
    s.onlyMoves (s.startChannel n kind) [.chan, .cal, .player] := by
  intro p hp
  cases p <;> simp_all [State.agree, State.startChannel, State.raiseFor]

theorem State.startChannel_starts (s : State) (n : Chan) (kind : CalKind) :
    (s.startChannel n kind).chan = s.chan.set n { s.chan[n] with fog := true } ∧
      (s.startChannel n kind).cal.item = some { chan := n, kind := kind, ticks := 0, checked := false } := ⟨rfl, rfl⟩

/-- The rotation takes the next eligible channel (R361). -/
theorem State.rotate_starts {s : State} {k : Fin 68} (h : k.val < 64) (hup : s.isUp = true) (hpower : s.power.powerUp = false)
    (hmode : s.txn.live.mode = 0) (hint : s.txn.live.params.dev.calInterval ≠ 0)
    (hsince : s.txn.live.params.dev.calInterval.toNat ≤ s.cal.since) (hitem : s.cal.item = none)
    (htrim : s.sense.trimming.toList.any id = false) (hfind : s.rotation.find? s.itemEligible = some k) :
    ∃ u : State, s.rotate = u.startChannel ⟨k.val, h⟩ .background ∧ s.onlyMoves u [.cal, .port] := by
  have hbumps : s.onlyMoves ((s.rotation.takeWhile fun k => !s.itemEligible k).foldl (fun s _ => s.bump 9) s) [.port] :=
    State.onlyMoves_foldl (fun u _ => u.bump_moves 9) _ s
  have hne : s.txn.live.params.dev.calInterval.toNat ≠ 0 := fun h0 => hint (BitVec.eq_of_toNat_eq h0)
  unfold State.rotate
  dsimp only
  rw [hup, hpower, hmode, hitem, htrim, hfind, if_neg (by simpa using ⟨hne, hsince⟩)]
  dsimp only
  rw [dif_pos h]
  exact ⟨_, rfl, State.onlyMoves_trans (State.onlyMoves_mono hbumps (by decide)) (State.onlyMoves_mono (State.setCal_moves _ _) (by decide))⟩

/-- Row 8 has been taken. -/
def State.eightTaken (s : State) : State := { s with txn := { s.txn with due := { s.txn.due with calibration := false } } }

theorem State.takeCalibration_rotates {s : State} (href : s.power.isGood .ref = true) (hpass : s.cal.pass = none)
    (hret : s.returnedBank = none) : s.takeCalibration = s.eightTaken.rotate := by
  unfold State.takeCalibration
  rw [href]
  dsimp only
  rw [if_neg (by decide)]
  split
  · next p hp => exact absurd (hp.symm.trans hpass) nofun
  · split
    · next b hb => exact absurd (hb.symm.trans hret) nofun
    · rfl

/-- What row 8 and row 9 move where the rotation takes a channel. -/
theorem exec_calibrationStart_takes {s : State} {k : Fin 68} (h : k.val < 64) (hdue : s.txn.due.calibration = true)
    (hframe : s.clock.frame = 0) (href : s.power.isGood .ref = true) (hpass : s.cal.pass = none)
    (hret : s.returnedBank = none) (hup : s.isUp = true) (hpower : s.power.powerUp = false)
    (hmode : s.txn.live.mode = 0) (hint : s.txn.live.params.dev.calInterval ≠ 0)
    (hsince : s.txn.live.params.dev.calInterval.toNat ≤ s.cal.since) (hitem : s.cal.item = none)
    (htrim : s.sense.trimming.toList.any id = false) (hfind : s.rotation.find? s.itemEligible = some k) :
    ∃ u : State, exec .calibrationStart s = .next (u.startChannel ⟨k.val, h⟩ .background).closeNine ∧
      s.eightTaken.onlyMoves u [.cal, .port] := by
  obtain ⟨u, hu, hmoves⟩ := State.rotate_starts (s := s.eightTaken) h hup hpower hmode hint hsince hitem htrim hfind
  refine ⟨u, ?_, hmoves⟩
  have htakes : s.takesNow s.txn.due.calibration = true := by
    unfold State.takesNow
    rw [hdue, hframe]
    rfl
  have hexec : exec .calibrationStart s = .next s.takeCalibration.closeNine := if_pos htakes
  rw [hexec, State.takeCalibration_rotates href hpass hret, hu]

/-! ## The converter check (R363, R365) -/

/-- What a check that finds the converter good makes of the calibration. -/
def State.checkPasses (s : State) (it : CalItem) : State :=
  State.clearFault { s with cal := { s.cal with item := some { it with checked := true } } } 26

theorem State.checkPasses_tells (s : State) (it : CalItem) :
    (s.checkPasses it).cal.item = some { it with checked := true } ∧ (s.checkPasses it).power.fault 26 = false ∧
      (s.checkPasses it).chan = s.chan ∧ (s.checkPasses it).txn.live = s.txn.live := by
  have hm := State.clearFault_moves { s with cal := { s.cal with item := some { it with checked := true } } } 26
  exact ⟨congrArg Cal.item (hm .cal (by decide)), State.clearFault_lacks _ (by decide), hm .chan (by decide),
    congrArg Txn.live (hm .txn (by decide))⟩

/-- What a check that finds the converter at fault makes of the calibration. -/
def State.checkAbandons (s : State) (it : CalItem) : State :=
  State.beginFault { s with
    chan := s.chan.set it.chan { s.chan[it.chan] with fog := false, joinsAt := s.clock.clk + 1 }
    cal := s.cal.abandon it.chan } 26

theorem exec_converterCheckDone {s : State} {it : CalItem} (hitem : s.cal.item = some it) (hunchecked : it.checked = false) (e : Int) :
    exec (.converterCheckDone e) s = .next
      (if e.natAbs ≤ 8 then s.checkPasses it
      else (s.checkAbandons it).settlePass) := by
  change execConverterCheckDone e s = _
  unfold execConverterCheckDone
  rw [hitem]
  dsimp only
  rw [hunchecked, if_neg Bool.false_ne_true]
  split <;> rfl

theorem State.flagBank_input (s : State) (b : Bank) (pass : Bool) (i : Chan) :
    ((s.flagBank b pass).sense.input[i]).trimMissed = (s.sense.input[i]).trimMissed ∧
      (bankOf i ≠ b → (s.flagBank b pass).sense.input[i] = s.sense.input[i]) := by
  unfold State.flagBank
  dsimp only
  split
  · unfold State.onBankInputs
    rw [mapAll_get]
    split
    · next h => exact ⟨rfl, fun hne => absurd (by simpa using h) hne⟩
    · exact ⟨rfl, fun _ => rfl⟩
  · exact ⟨rfl, fun _ => rfl⟩

theorem State.setSense_moves (s : State) (x : Sense) : s.onlyMoves { s with sense := x } [.sense] := by
  intro p hp
  cases p <;> simp_all [State.agree]

theorem State.flagBank_leaves (s : State) (b : Bank) (pass : Bool) :
    s.onlyMoves (s.flagBank b pass) [.sense] ∧ (s.flagBank b pass).sense.trimming = s.sense.trimming := by
  have hset : ∃ x : Sense, s.flagBank b pass = { s with sense := x } ∧ x.trimming = s.sense.trimming := by
    unfold State.flagBank
    dsimp only
    split
    · exact ⟨_, rfl, rfl⟩
    · exact ⟨_, rfl, rfl⟩
  obtain ⟨x, hx, ht⟩ := hset
  rw [hx]
  exact ⟨s.setSense_moves x, ht⟩

/-- A self-test decides the flag and the cause of its bank; it releases nothing. -/
theorem State.bankTested_leaves (s : State) (b : Bank) (t : SelfTest) :
    (s.bankTested b t).power.fault (22 + b.val) = !testPasses t ∧
      (s.bankTested b t).sense = (s.flagBank b (testPasses t)).sense ∧
      (∀ n : Chan, ((s.bankTested b t).chan[n]).released = (s.chan[n]).released) ∧
      (s.bankTested b t).txn.live = s.txn.live ∧ (s.bankTested b t).mem.cells = s.mem.cells ∧
      (s.bankTested b t).ledger = s.ledger ∧ (s.bankTested b t).freeCount = s.freeCount := by
  obtain ⟨hmoves, -⟩ := s.flagBank_leaves b (testPasses t)
  have hb : 22 + b.val < 64 := by have := b.isLt; omega
  rw [State.bankTested_eq]
  generalize s.flagBank b (testPasses t) = u at *
  have hchan : u.chan = s.chan := hmoves .chan (by decide)
  have htxn : u.txn = s.txn := hmoves .txn (by decide)
  have hmem : u.mem = s.mem := hmoves .mem (by decide)
  have hledger : u.ledger = s.ledger := hmoves .ledger (by decide)
  have hfree : u.freeCount = s.freeCount := hmoves .freeCount (by decide)
  cases testPasses t with
  | true =>
    rw [if_pos rfl]
    exact ⟨State.clearFault_lacks _ hb, by simp, fun n => by simp [hchan], by simp [htxn], by simp [hmem], by simp [hledger],
      by simp [hfree]⟩
  | false =>
    rw [if_neg Bool.false_ne_true]
    exact ⟨State.beginFault_has _ hb, by simp, fun n => by rw [State.beginFault_chan, State.retreat_released, hchan],
      by simp [htxn], by simp [hmem], by simp [hledger], by simp [hfree]⟩

theorem State.settleMon_leaves (s : State) :
    s.onlyMoves s.settleMon [.power, .tel, .port] ∧ ∀ c, c ≠ 6 → s.settleMon.power.fault c = s.power.fault c := by
  unfold State.settleMon
  split
  · exact ⟨s.clearFault_moves 6, fun c hc => s.clearFault_fault_other (by decide) hc⟩
  · exact ⟨State.onlyMoves_refl _ _, fun _ _ => rfl⟩

/-- The end of a bank's trim: what the selections find, and whether each input missed a goal (R358). -/
def State.trimFound (s : State) (b : Bank) (missed : BitVec 16) : State :=
  { s with
    freeCount := s.freeCount + 48
    sense := { s.sense with
      trimming := s.sense.trimming.set b false
      input := mapAll (fun i x => if bankOf i = b then
          { x with
            selection := Vector.ofFn fun k => Config.freeSelection (s.freeCount + 3 * (i.val % 16) + k.val)
            trimMissed := missed.getLsbD (i.val % 16) }
        else x) s.sense.input } }

theorem State.trimFound_leaves (s : State) (b : Bank) (missed : BitVec 16) :
    (s.trimFound b missed).chan = s.chan ∧ (s.trimFound b missed).txn = s.txn ∧ (s.trimFound b missed).mem = s.mem ∧
      (s.trimFound b missed).ledger = s.ledger ∧ (s.trimFound b missed).freeCount = s.freeCount + 48 := by
  unfold State.trimFound
  dsimp only
  exact ⟨rfl, rfl, rfl, rfl, rfl⟩

theorem State.trimFound_input (s : State) (b : Bank) (missed : BitVec 16) (i : Chan) :
    (bankOf i = b → ((s.trimFound b missed).sense.input[i]).trimMissed = missed.getLsbD (i.val % 16)) ∧
      (bankOf i ≠ b → (s.trimFound b missed).sense.input[i] = s.sense.input[i]) := by
  unfold State.trimFound
  dsimp only
  rw [mapAll_get]
  exact ⟨fun h => by rw [if_pos h], fun h => by rw [if_neg h]⟩

theorem exec_monitorTrimDone {s : State} {b : Bank} (h : s.trimOver b = true) (test : SelfTest) (missed : BitVec 16) :
    exec (.monitorTrimDone b test missed) s =
      .next ((((s.trimFound b missed).bankTested b test).settleMon).loseSight).settlePass := if_pos h

theorem State.noteRset_moves (s : State) (kind : CalKind) (b : Bank) (ohm : Nat) :
    s.onlyMoves (s.noteRset kind b ohm) [.power, .cal] ∧ (s.noteRset kind b ohm).cal.item = s.cal.item := by
  unfold State.noteRset
  constructor
  · intro p hp
    split <;> cases p <;> simp_all [State.agree]
  · split
    · unfold Cal.noteRset
      dsimp only
      split <;> rfl
    · rfl

theorem State.checkAbandons_chan (s : State) (it : CalItem) : (s.checkAbandons it).settlePass.chan =
    s.chan.set it.chan { s.chan[it.chan] with fog := false, joinsAt := s.clock.clk + 1 } :=
  (State.settlePass_moves _ .chan (by decide)).trans (State.beginFault_moves _ 26 .chan (by decide))

theorem State.checkAbandons_tells (s : State) (it : CalItem) :
    (s.checkAbandons it).settlePass.cal.item = none ∧ (s.checkAbandons it).settlePass.power.fault 26 = true ∧
      ((s.checkAbandons it).settlePass.chan[it.chan]).fog = false ∧ (s.checkAbandons it).settlePass.disconnected it.chan = true := by
  have hclock : (s.checkAbandons it).settlePass.clock = s.clock :=
    (State.settlePass_moves _ .clock (by decide)).trans (State.beginFault_moves _ 26 .clock (by decide))
  have hc : (s.checkAbandons it).settlePass.chan[it.chan] =
      { s.chan[it.chan] with fog := false, joinsAt := s.clock.clk + 1 } := by
    rw [State.checkAbandons_chan, chanSet_get, if_pos rfl]
  refine ⟨?_, ?_, by rw [hc], ?_⟩
  · exact (State.settlePass_item _).trans (congrArg Cal.item (State.beginFault_moves _ 26 .cal (by decide)))
  · rw [State.settlePass_fault _ (by decide)]
    exact State.beginFault_has _ (by decide)
  · unfold State.disconnected
    rw [hc, hclock, decide_eq_true (Nat.lt_succ_self _)]
    rfl

theorem State.checkAbandons_leaves (s : State) (it : CalItem) :
    (∀ n : Chan, n ≠ it.chan → (s.checkAbandons it).settlePass.chan[n] = s.chan[n]) ∧
      (s.checkAbandons it).settlePass.txn.live = s.txn.live := by
  refine ⟨fun n hn => by rw [State.checkAbandons_chan, chanSet_get, if_neg (Ne.symm hn)], ?_⟩
  rw [State.settlePass_moves _ .txn (by decide)]
  exact State.beginFault_live _ _

/-- What a calibration that is over makes of its channel. -/
def State.chanCalibrated (s : State) (it : CalItem) (r : CalReadings) : State :=
  State.noteRset { s with
    chan := s.chan.set it.chan ((s.chan[it.chan]).calibrated (s.chanParams it.chan).gain r)
    cal := { s.cal with item := none } } it.kind (bankOf it.chan) r.rsetOhm

theorem State.chanCalibrated_leaves (s : State) (it : CalItem) (r : CalReadings) :
    s.onlyMoves (s.chanCalibrated it r) [.power, .cal, .chan] ∧ (s.chanCalibrated it r).cal.item = none ∧
      (s.chanCalibrated it r).chan = s.chan.set it.chan ((s.chan[it.chan]).calibrated (s.chanParams it.chan).gain r) := by
  unfold State.chanCalibrated
  have hset (c : Vector Channel 64) (x : Cal) : s.onlyMoves { s with chan := c, cal := x } [.power, .cal, .chan] := by
    intro p hp
    cases p <;> simp_all [State.agree]
  obtain ⟨hm, hi⟩ := State.noteRset_moves { s with
    chan := s.chan.set it.chan ((s.chan[it.chan]).calibrated (s.chanParams it.chan).gain r)
    cal := { s.cal with item := none } } it.kind (bankOf it.chan) r.rsetOhm
  exact ⟨State.onlyMoves_trans (hset _ _) (State.onlyMoves_mono hm (by decide)), hi, hm .chan (by decide)⟩

/-- What the end of a monitor bank's trim leaves (R358, R359). -/
theorem State.monitorTrim_leaves (s : State) (b : Bank) (test : SelfTest) (missed : BitVec 16) :
    let t := ((((s.trimFound b missed).bankTested b test).settleMon).loseSight).settlePass
    t.sense.trimming[b] = false ∧ t.sense.failed[b] = !testPasses test ∧
      (∀ i : Chan, bankOf i = b → (t.sense.input[i]).trimMissed = missed.getLsbD (i.val % 16)) ∧
      (∀ i : Chan, bankOf i ≠ b → t.sense.input[i] = s.sense.input[i]) ∧
      (∀ n : Chan, (t.chan[n]).released = (s.chan[n]).released) ∧ t.power.fault (22 + b.val) = !testPasses test ∧
      t.freeCount = s.freeCount + 48 ∧ t.txn.live = s.txn.live ∧ t.mem.cells = s.mem.cells ∧ t.ledger = s.ledger := by
  dsimp only
  obtain ⟨hfault, hsense, hrel, hlive, hcells, hledger, hfree⟩ := (s.trimFound b missed).bankTested_leaves b test
  obtain ⟨hc, ht, hm, hl, hf⟩ := s.trimFound_leaves b missed
  rw [hc] at hrel
  rw [ht] at hlive
  rw [hm] at hcells
  rw [hl] at hledger
  rw [hf] at hfree
  have hinput := (s.trimFound b missed).flagBank_input b (testPasses test)
  obtain ⟨-, htrim⟩ := (s.trimFound b missed).flagBank_leaves b (testPasses test)
  obtain ⟨hfailed, -⟩ := (s.trimFound b missed).flagBank_finds b (testPasses test)
  obtain ⟨hmon, hmonFault⟩ := ((s.trimFound b missed).bankTested b test).settleMon_leaves
  generalize (s.trimFound b missed).bankTested b test = u at *
  have hall := State.onlyMoves_trans (State.onlyMoves_mono hmon (by decide : _ ⊆ [Part.power, .tel, .port, .pins, .chan, .cal]))
    (State.onlyMoves_trans (State.onlyMoves_mono u.settleMon.loseSight_moves (by decide))
      (State.onlyMoves_mono (State.settlePass_moves _) (by decide)))
  have hsense' : u.settleMon.loseSight.settlePass.sense = ((s.trimFound b missed).flagBank b (testPasses test)).sense :=
    (hall .sense (by decide)).trans hsense
  have hchan : u.settleMon.loseSight.settlePass.chan = u.settleMon.loseSight.chan := State.settlePass_moves _ .chan (by decide)
  have hmonChan : u.settleMon.chan = u.chan := hmon .chan (by decide)
  have hb := b.isLt
  refine ⟨?_, ?_, fun i hi => ?_, fun i hi => ?_, fun n => ?_, ?_, ?_, ?_, ?_, ?_⟩
  · rw [hsense', htrim]
    exact Vector.getElem_set_self _
  · rw [hsense', hfailed]
    exact Vector.getElem_set_self _
  · rw [hsense', (hinput i).1]
    exact (s.trimFound_input b missed i).1 hi
  · rw [hsense', (hinput i).2 hi]
    exact (s.trimFound_input b missed i).2 hi
  · exact ((congrArg (fun v : Vector Channel 64 => (v[n]).released) hchan).trans (State.loseSight_get _ n).1).trans
      ((congrArg (fun v : Vector Channel 64 => (v[n]).released) hmonChan).trans (hrel n))
  · have hloses : u.settleMon.loseSight.power.fault (22 + b.val) = u.settleMon.power.fault (22 + b.val) :=
      State.fault_of_faults (congrArg Power.faults (State.loseSight_power _)) _
    have hpass : u.settleMon.loseSight.settlePass.power.fault (22 + b.val) = u.settleMon.loseSight.power.fault (22 + b.val) :=
      State.settlePass_fault _ (.inr (by omega))
    exact (hpass.trans hloses).trans ((hmonFault _ (by omega)).trans hfault)
  · exact (hall .freeCount (by decide)).trans hfree
  · exact (congrArg Txn.live (hall .txn (by decide))).trans hlive
  · exact (congrArg Mem.cells (hall .mem (by decide))).trans hcells
  · exact (hall .ledger (by decide)).trans hledger

/-- Settles O53: what row 8 takes, what a check finds, and what a calibration and a monitor bank's trim leave. -/
theorem calibrationRuns : Obligations.CalibrationRuns := by
  unfold Obligations.CalibrationRuns
  refine ⟨fun s h => ?_, fun s k h hdue hframe href hpass hret hup hpower hmode hint hsince hitem htrim hfind => ?_,
    fun s it e hitem hunchecked => ?_, fun s it r hitem hchecked hticks => ?_, fun s b test missed hover => ?_⟩
  · have hidle : s.takesNow s.txn.due.calibration = false := by
      unfold State.takesNow
      obtain h | h := h
      · rw [h, Bool.false_and]
      · rw [decide_eq_false h, Bool.and_false]
    exact if_neg (by rw [hidle]; exact Bool.false_ne_true)
  · obtain ⟨u, hexec, hu⟩ := exec_calibrationStart_takes h hdue hframe href hpass hret hup hpower hmode hint hsince hitem htrim hfind
    have hstart := u.startChannel_moves ⟨k.val, h⟩ .background
    have hfrom := State.onlyMoves_trans (State.onlyMoves_mono hu (by decide : _ ⊆ [Part.cal, .port, .chan, .player]))
      (State.onlyMoves_mono hstart (by decide))
    obtain ⟨hchan, hcal⟩ := u.startChannel_starts ⟨k.val, h⟩ .background
    rw [hu .chan (by decide)] at hchan
    generalize u.startChannel ⟨k.val, h⟩ .background = v at *
    have htxn : v.txn = s.eightTaken.txn := hfrom .txn (by decide)
    have hnine := State.closeNine_takes (s := v) (by rw [htxn]; rfl)
    obtain ⟨ht, hm, hmem, hcells⟩ := hnine
    generalize v.closeNine = t at *
    have hc : t.chan = s.chan.set k.val { s.chan[k.val] with fog := true } h := (hm .chan (by decide)).trans hchan
    have hfog : (t.chan[k.val]).fog = true := by
      simp only [hc]
      rw [Vector.getElem_set_self]
    have hpow : t.power = s.power := (hm .power (by decide)).trans (hfrom .power (by decide))
    refine ⟨t, hexec, hfog, ?_, (congrArg Cal.item (hm .cal (by decide))).trans hcal, fun n hn => ?_, ?_, ?_, ?_, fun hst => ?_, ?_, ?_, hpow,
      (hm .ledger (by decide)).trans (hfrom .ledger (by decide))⟩
    · have hreset : t.inReset = false := by
        unfold State.inReset
        rw [hpow, eq_of_beq hup]
        rfl
      unfold State.stale
      rw [hreset, List.any_eq_true.mpr ⟨t.chan[k.val], by simp, hfog⟩]
      rfl
    · rw [hc]
      exact Vector.getElem_set_ne _ _ (Ne.symm hn)
    · rw [ht, htxn]; rfl
    · rw [ht]
    · rw [ht]
    · exact (hmem (by rw [htxn]; exact hst)).trans (hfrom .mem (by decide))
    · rw [ht, htxn]; rfl
    · exact hcells.trans (congrArg Mem.cells (hfrom .mem (by decide)))
  · refine ⟨_, exec_converterCheckDone hitem hunchecked e, ?_⟩
    split
    · next hsmall =>
      obtain ⟨hit, hfault, hchan, hlive⟩ := s.checkPasses_tells it
      exact ⟨fun _ => ⟨hit, hfault, hchan⟩, fun hlarge => absurd hlarge (by omega),
        fun n _ => congrArg (fun v : Vector Channel 64 => v[n]) hchan, hlive⟩
    · next hlarge =>
      exact ⟨fun hsmall => absurd hsmall hlarge, fun _ => s.checkAbandons_tells it, (s.checkAbandons_leaves it)⟩
  · have hexec : exec (.calibrationDone r) s = .next (s.chanCalibrated it r).settlePass := by
      change execCalibrationDone r s = _
      unfold execCalibrationDone
      rw [hitem]
      dsimp only
      rw [hchecked, decide_eq_true hticks]
      rfl
    obtain ⟨hmoves, hitem', hchan⟩ := s.chanCalibrated_leaves it r
    have hpass := (s.chanCalibrated it r).settlePass_moves
    have hc := (hpass .chan (by decide)).trans hchan
    have hthis : (s.chanCalibrated it r).settlePass.chan[it.chan] =
        (s.chan[it.chan]).calibrated (s.chanParams it.chan).gain r := by rw [hc, chanSet_get, if_pos rfl]
    refine ⟨_, hexec, (State.settlePass_item _).trans hitem', ?_, fun n hn => ?_, ?_, ?_, ?_, fun hbad => ?_, fun hgood => ?_⟩
    · rw [hthis, Channel.calibrated_fog]
    · rw [hc, chanSet_get, if_neg (Ne.symm hn)]
    · exact congrArg Txn.live ((hpass .txn (by decide)).trans (hmoves .txn (by decide)))
    · exact (hpass .mem (by decide)).trans (hmoves .mem (by decide))
    · exact (hpass .ledger (by decide)).trans (hmoves .ledger (by decide))
    · rw [hthis]
      exact (Channel.calibrated_of_bad hbad).2
    · rw [hthis]
      obtain ⟨-, hr, hn, hd, hu, hlo, hhi⟩ := Channel.calibrated_of_good (gain := (s.chanParams it.chan).gain) hgood
      exact ⟨hn, hd, hu, hlo, hhi, hr⟩
  · exact ⟨_, exec_monitorTrimDone hover test missed, s.monitorTrim_leaves b test missed⟩

end Sys2Proof.Machine
end

section
/-! PROOFS. The queues of the controller. -/

namespace Sys2Proof.Machine

/-! ## The memory and the players apart from the queues (R305 to R309) -/

/-- The memory apart from the requests that stand at the controller. -/
def Mem.unqueued (m : Mem) : Mem :=
  { m with waiting := [], reads := Vector.replicate 2 [], writes := Vector.replicate 2 [] }

/-- A player apart from how many samples its lanes have asked for. -/
def Player.unasked (x : Player) : Player := { x with lanes := mapAll (fun _ f => { f with asked := 0 }) x.lanes }

/-- What stands apart from the queues: the memory, and each player. -/
def State.unqueued (s : State) : Mem × Vector Player 16 := (s.mem.unqueued, mapAll (fun _ x => x.unasked) s.player)

theorem mapAll_set {α β : Type} {n : Nat} (f : α → β) (v : Vector α n) (i : Fin n) (x : α) (h : f x = f v[i]) :
    mapAll (fun _ y => f y) (v.set i x) = mapAll (fun _ y => f y) v := by
  apply Vector.ext
  intro k hk
  have hget (w : Vector α n) : (mapAll (fun _ y => f y) w)[k] = f w[k] := mapAll_get (fun _ y => f y) w ⟨k, hk⟩
  rw [hget, hget, Vector.getElem_set]
  split
  · next hik =>
    subst hik
    exact h
  · rfl

theorem Player.unasked_of_lanes (x : Player) {f : Fin 64 → Prefetch → Prefetch}
    (h : ∀ n y, { f n y with asked := 0 } = { y with asked := 0 }) :
    Player.unasked { x with lanes := mapAll f x.lanes } = x.unasked := by
  have hlanes : mapAll (fun _ y => { y with asked := 0 }) (mapAll f x.lanes) =
      mapAll (fun _ (y : Prefetch) => { y with asked := 0 }) x.lanes := by
    apply Vector.ext
    intro k hk
    have hget (w : Vector Prefetch 64) (g : Fin 64 → Prefetch → Prefetch) : (mapAll g w)[k] = g ⟨k, hk⟩ w[k] := mapAll_get g w ⟨k, hk⟩
    rw [hget, hget, hget, h]
  exact congrArg (fun l => ({ x with lanes := l } : Player)) hlanes

theorem State.issueWrites_unqueued (s : State) : s.issueWrites.unqueued = s.unqueued := rfl

theorem State.enqueue_unqueued (s : State) (r : MemReq) : (s.enqueue r).unqueued = s.unqueued := by
  unfold State.enqueue
  dsimp only
  split
  · rfl
  · split
    · split
      · refine Prod.ext rfl (mapAll_set Player.unasked _ _ _ ?_)
        exact Player.unasked_of_lanes _ fun n f => by split <;> rfl
      · rfl
    all_goals rfl

theorem State.settleQueues_unqueued (s : State) : s.settleQueues.unqueued = s.unqueued := by
  unfold State.settleQueues
  split
  · exact s.issueWrites_unqueued
  · refine (foldl_keeps State.unqueued (fun u k => foldl_keeps State.unqueued (fun u r => ?_) _ u) _ _).trans s.issueWrites_unqueued
    split
    · rw [State.issueWrites_unqueued, State.enqueue_unqueued]
      rfl
    · rfl

/-! ## What is asked of the controller stands in a queue or waits for one (R305 to R307) -/

theorem State.insertIssue_mem (s : State) (r x : MemReq) (l : List MemReq) : x ∈ s.insertIssue r l ↔ x = r ∨ x ∈ l := by
  induction l with
  | nil => simp [State.insertIssue]
  | cons y ys ih =>
    unfold State.insertIssue
    split
    · simp
    · rw [List.mem_cons, ih, List.mem_cons]
      tauto

theorem State.issueOrder_mem (s : State) (x : MemReq) (l : List MemReq) : x ∈ s.issueOrder l ↔ x ∈ l := by
  unfold State.issueOrder
  have hfold (l acc : List MemReq) : x ∈ l.foldl (fun acc r => s.insertIssue r acc) acc ↔ x ∈ l ∨ x ∈ acc := by
    induction l generalizing acc with
    | nil => simp
    | cons y ys ih =>
      rw [List.foldl_cons, ih, State.insertIssue_mem, List.mem_cons]
      tauto
  rw [hfold]
  simp

/-- Requests that are alike but for their tag. -/
def MemReq.untagged (r : MemReq) : MemReq := { r with tag := 0 }

/-- A read like this one stands in a read queue or waits for one. -/
def State.asks (s : State) (r : MemReq) : Prop :=
  ∃ x : MemReq, (x ∈ s.mem.waiting ∨ ∃ k : Fin 2, x ∈ s.mem.reads[k]) ∧ x.read.isSome = true ∧ x.untagged = r

theorem State.enqueue_waiting (s : State) (r : MemReq) : (s.enqueue r).mem.waiting = s.mem.waiting := by
  unfold State.enqueue
  dsimp only
  (repeat' split) <;> rfl

/-- A request takes its entry: of the read queues only its own grows, by it. -/
theorem State.enqueue_reads (s : State) (r x : MemReq) (k : Fin 2) :
    x ∈ (s.enqueue r).mem.reads[k] ↔
      x ∈ s.mem.reads[k] ∨ r.read.isSome = true ∧ k = subOf r.addr r.owner ∧
        x = { r with tag := freeTag s.mem.reads[subOf r.addr r.owner] } := by
  have hset (q : List MemReq) (hq : x ∈ q ↔ x ∈ s.mem.reads[subOf r.addr r.owner] ∨
        x = { r with tag := freeTag s.mem.reads[subOf r.addr r.owner] }) :
      x ∈ (s.mem.reads.set (subOf r.addr r.owner) q)[k] ↔ x ∈ s.mem.reads[k] ∨ k = subOf r.addr r.owner ∧
        x = { r with tag := freeTag s.mem.reads[subOf r.addr r.owner] } := by
    by_cases hk : k = subOf r.addr r.owner
    · subst hk
      simp [hq]
    · have hne : (subOf r.addr r.owner).val ≠ k.val := fun h => hk (Fin.ext h.symm)
      simp [hk, hne]
  have hq : x ∈ (if s.mem.squall then
        s.insertIssue { r with tag := freeTag s.mem.reads[subOf r.addr r.owner] } s.mem.reads[subOf r.addr r.owner]
      else s.mem.reads[subOf r.addr r.owner] ++ [{ r with tag := freeTag s.mem.reads[subOf r.addr r.owner] }]) ↔
      x ∈ s.mem.reads[subOf r.addr r.owner] ∨ x = { r with tag := freeTag s.mem.reads[subOf r.addr r.owner] } := by
    split
    · rw [State.insertIssue_mem]
      tauto
    · simp
  cases hr : r.read with
  | none =>
    unfold State.enqueue
    rw [hr]
    simp
  | some kind =>
    have h := hset _ hq
    rw [hr] at h
    unfold State.enqueue
    rw [hr]
    simp only [Option.isSome_some, true_and]
    split
    · split <;> exact h
    all_goals exact h

/-- A request that waits is admitted: what is asked stands. -/
theorem State.admit_asks (s : State) {r : MemReq} (hr : r.read.isSome = true → s.asks r.untagged) (x : MemReq) :
    ((State.enqueue { s with mem := { s.mem with waiting := s.mem.waiting.erase r } } r).issueWrites).asks x ↔ s.asks x := by
  have hwaiting := State.enqueue_waiting { s with mem := { s.mem with waiting := s.mem.waiting.erase r } } r
  have hreads := State.enqueue_reads { s with mem := { s.mem with waiting := s.mem.waiting.erase r } } r
  unfold State.asks State.issueWrites
  dsimp only
  rw [hwaiting]
  constructor
  · rintro ⟨y, hy | ⟨k, hy⟩, hsome, rfl⟩
    · exact ⟨y, .inl (List.mem_of_mem_erase hy), hsome, rfl⟩
    · obtain hy | ⟨hread, -, rfl⟩ := (hreads y k).mp hy
      · exact ⟨y, .inr ⟨k, hy⟩, hsome, rfl⟩
      · exact hr hread
  · rintro ⟨y, hy | ⟨k, hy⟩, hsome, rfl⟩
    · by_cases hyr : y = r
      · subst hyr
        exact ⟨_, .inr ⟨_, (hreads _ _).mpr (.inr ⟨hsome, rfl, rfl⟩)⟩, hsome, rfl⟩
      · exact ⟨y, .inl ((List.mem_erase_of_ne hyr).mpr hy), hsome, rfl⟩
    · exact ⟨y, .inr ⟨k, (hreads _ _).mpr (.inl hy)⟩, hsome, rfl⟩

/-- The queues settle: what is asked stands (R307). -/
theorem State.settleQueues_asks (s : State) (x : MemReq) : s.settleQueues.asks x ↔ s.asks x := by
  have hadmits (l : List MemReq) (u : State) (hl : ∀ r ∈ l, r.read.isSome = true → u.asks r.untagged) :
      ((l.foldl (fun s r => if s.mem.admits r then
          (State.enqueue { s with mem := { s.mem with waiting := s.mem.waiting.erase r } } r).issueWrites else s) u).asks x ↔
        u.asks x) := by
    induction l generalizing u with
    | nil => exact Iff.rfl
    | cons r l ih =>
      have hhead := hl r (List.mem_cons_self ..)
      rw [List.foldl_cons]
      split
      · rw [ih _ fun y hy hsome => (u.admit_asks hhead _).mpr (hl y (List.mem_cons_of_mem _ hy) hsome), u.admit_asks hhead]
      · exact ih u fun y hy => hl y (List.mem_cons_of_mem _ hy)
  unfold State.settleQueues
  split
  · exact Iff.rfl
  · have hranks (ks : List Nat) (u : State) :
        ((ks.foldl (fun s k => (s.issueOrder (s.mem.waiting.filter fun r => s.rank r == k)).foldl (fun s r =>
            if s.mem.admits r then
              (State.enqueue { s with mem := { s.mem with waiting := s.mem.waiting.erase r } } r).issueWrites
            else s) s) u).asks x ↔ u.asks x) := by
      induction ks generalizing u with
      | nil => exact Iff.rfl
      | cons k ks ih =>
        rw [List.foldl_cons, ih]
        refine hadmits _ u fun r hr hsome => ⟨r, .inl ?_, hsome, rfl⟩
        exact (List.mem_filter.mp ((u.issueOrder_mem r _).mp hr)).1
    exact hranks _ _

theorem asked_iff (s : State) (port : MemPort) (kind : ReadKind) (a : LineAddr) :
    asked s port kind a ↔ ∃ x, s.asks x ∧ x.port = port ∧ x.read = some kind ∧ x.addr = a := by
  constructor
  · rintro ⟨r, hr, hport, hread, haddr⟩
    exact ⟨r.untagged, ⟨r, hr, by rw [hread]; rfl, rfl⟩, hport, hread, haddr⟩
  · rintro ⟨x, ⟨r, hr, -, rfl⟩, hport, hread, haddr⟩
    exact ⟨r, hr, hport, hread, haddr⟩

/-- A read that is asked for stands, and what was asked before stands (R307). -/
theorem State.askRead_asked (s : State) (port : MemPort) (a : LineAddr) (owner : BitVec 16) (kind : ReadKind) (p : MemPort)
    (k : ReadKind) (b : LineAddr) :
    asked (s.askRead port a owner kind) p k b ↔ asked s p k b ∨ p = port ∧ k = kind ∧ b = a := by
  have hsettle (u : State) : asked u.settleQueues p k b ↔ asked u p k b := by
    rw [asked_iff, asked_iff]
    exact exists_congr fun x => and_congr_left fun _ => u.settleQueues_asks x
  have hqueues (m : Mem) (hw : m.waiting = s.mem.waiting) (hr : m.reads = s.mem.reads) :
      asked { s with mem := { m with
        waiting := m.waiting ++ [{ port := port, addr := a, owner := owner, asked := s.clock.clk, read := some kind, tag := 0 }] } }
        p k b ↔ asked s p k b ∨ p = port ∧ k = kind ∧ b = a := by
    unfold asked
    dsimp only
    rw [hw, hr]
    constructor
    · rintro ⟨r, hr | hr, hp, hk, hb⟩
      · obtain hr | hr := List.mem_append.mp hr
        · exact .inl ⟨r, .inl hr, hp, hk, hb⟩
        · obtain rfl := List.mem_singleton.mp hr
          exact .inr ⟨hp.symm, (Option.some.inj hk).symm, hb.symm⟩
      · exact .inl ⟨r, .inr hr, hp, hk, hb⟩
    · rintro (⟨r, hr | hr, hp, hk, hb⟩ | ⟨rfl, rfl, rfl⟩)
      · exact ⟨r, .inl (List.mem_append_left _ hr), hp, hk, hb⟩
      · exact ⟨r, .inr hr, hp, hk, hb⟩
      · exact ⟨_, .inl (List.mem_append_right _ (List.mem_singleton_self _)), rfl, rfl, rfl⟩
  unfold State.askRead
  rw [hsettle]
  split
  · exact hqueues s.mem rfl rfl
  · refine hqueues s.mem.request ?_ ?_ <;> (unfold Mem.request; split <;> rfl)

theorem State.askRead_moves (s : State) (port : MemPort) (a : LineAddr) (owner : BitVec 16) (kind : ReadKind) :
    s.onlyMoves (s.askRead port a owner kind) [.mem, .player] := by
  unfold State.askRead
  refine State.onlyMoves_trans ?_ (State.settleQueues_moves _)
  intro p hp
  cases p <;> simp_all [State.agree]

theorem State.askRead_unqueued (s : State) (port : MemPort) (a : LineAddr) (owner : BitVec 16) (kind : ReadKind) :
    (s.askRead port a owner kind).unqueued =
      State.unqueued { s with mem := if kind == .scrub then s.mem else s.mem.request } := by
  unfold State.askRead
  rw [State.settleQueues_unqueued]
  rfl

end Sys2Proof.Machine
end

section
/-! PROOFS. Telemetry goes out. -/

namespace Sys2Proof.Machine

/-! ## A telemetry frame on the line (R413, R422) -/

/-- A frame goes out as the state that forms it has its addresses, its device and its SEQ. -/
theorem State.emit_emits {s u : State} (hm : s.onlyMoves u [.tel, .mem]) (hseq : u.tel.seq = s.tel.seq) (type : Byte)
    (epoch : BitVec 48) (body : List Byte) : emits s (u.emit type epoch body) type epoch body := by
  have htxn : u.txn = s.txn := hm .txn (by decide)
  have hport : u.port = s.port := hm .port (by decide)
  have hpower : u.power = s.power := hm .power (by decide)
  have hchain : u.chain = s.chain := hm .chain (by decide)
  have hid : u.deviceId = s.deviceId := by
    unfold State.deviceId State.isRoot
    rw [hpower, hchain]
  have hdst : u.telDst = s.telDst := by
    unfold State.telDst
    rw [htxn, hport]
  have hmac : u.mac = s.mac := by
    unfold State.mac
    rw [hid]
  have hdev : u.devid = s.devid := by
    unfold State.devid
    rw [hid]
  have hhead : (s.telHeader type epoch body.length).length = 16 := by
    unfold State.telHeader
    simp [leBytes_length]
  have hsame : u.telHeader type epoch body.length = s.telHeader type epoch body.length := by
    unfold State.telHeader
    rw [hdev, hseq]
  refine ⟨congrArg (· + 1) hseq, _, rfl, hdst, congrArg macNumber hmac, rfl, ?_, ?_⟩
  · rw [List.length_append, List.length_replicate]
    omega
  · rw [hsame, List.take_append_of_le_length (by rw [List.length_append, hhead]),
      List.take_of_length_le (by rw [List.length_append, hhead])]
    rfl

theorem State.emit_moves (s : State) (type : Byte) (epoch : BitVec 48) (body : List Byte) :
    s.onlyMoves (s.emit type epoch body) [.tel] := by
  intro p hp
  cases p <;> simp_all [State.agree, State.emit]

theorem State.setTel_moves (s : State) (t : Telemetry) : s.onlyMoves { s with tel := t } [.tel] := by
  intro p hp
  cases p <;> simp_all [State.agree]

/-- A frame that takes what it carries from its queue. -/
theorem State.emit_takes (s : State) (t : Telemetry) (hseq : t.seq = s.tel.seq) (type : Byte) (epoch : BitVec 48)
    (body : List Byte) :
    s.onlyMoves (State.emit { s with tel := t } type epoch body) [.tel] ∧
      emits s (State.emit { s with tel := t } type epoch body) type epoch body :=
  ⟨State.onlyMoves_trans (s.setTel_moves t) (State.emit_moves _ _ _ _),
    State.emit_emits (State.onlyMoves_mono (s.setTel_moves t) (by decide)) hseq _ _ _⟩

/-! ## STATUS (R424) -/

theorem State.statusBody_length (s : State) : s.statusBody.length = 944 := by
  have hhead : s.statusHead.length = 32 := by
    unfold State.statusHead
    simp [leBytes_length]
  have hchan (n : Chan) : (s.chanRecord n).length = 8 := by
    unfold State.chanRecord
    simp [leBytes_length]
  have hinput (i : Chan) : (s.inputRecord i).length = 4 := by
    unfold State.inputRecord
    simp [leBytes_length]
  have hplayer (p : PlayerNo) : (s.playerRecord p).length = 4 := by
    unfold State.playerRecord
    simp [leBytes_length]
  unfold State.statusBody
  simp [List.length_flatMap, leBytes_length, hhead, hchan, hinput, hplayer]

/-- A STATUS body tells nothing of the telemetry, and nothing of what is due. -/
theorem State.statusBody_congr (s : State) (t : Telemetry) (d : Due) :
    State.statusBody { s with tel := t, txn := { s.txn with due := d } } = s.statusBody := by
  unfold State.statusBody
  rfl

/-! ## Row 8, and what row 9 freezes after it (R50, R424, R429) -/

theorem State.startBank_moves (s : State) (b : Bank) : s.onlyMoves (s.startBank b) [.sense, .cal, .chan] := by
  have hset (x : Sense) (c : Cal) : s.onlyMoves { s with sense := x, cal := c } [.sense, .cal, .chan] := by
    intro p hp
    cases p <;> simp_all [State.agree]
  unfold State.startBank
  exact State.onlyMoves_trans (hset _ _) (State.onlyMoves_trans (State.onlyMoves_mono (State.setSense_moves _ _) (by decide))
    (State.onlyMoves_mono (State.loseSight_moves _) (by decide)))

theorem State.passChannel_moves (s : State) (p : CalPass) : s.onlyMoves (s.passChannel p) [.chan, .cal, .player] := by
  unfold State.passChannel
  split
  · exact State.onlyMoves_refl _ _
  · split
    · exact State.onlyMoves_trans (State.onlyMoves_mono (s.setCal_moves _) (by decide)) (State.startChannel_moves _ _ _)
    · exact State.onlyMoves_mono (s.setCal_moves _) (by decide)

theorem State.passBank_moves (s : State) (p : CalPass) : s.onlyMoves (s.passBank p) [.sense, .cal, .chan] := by
  unfold State.passBank
  split
  · dsimp only
    split
    · exact State.onlyMoves_refl _ _
    · split
      · exact State.onlyMoves_mono (s.setCal_moves _) (by decide)
      · split
        · exact State.onlyMoves_trans (State.onlyMoves_mono (s.setCal_moves _) (by decide)) (State.startBank_moves _ _)
        · exact State.onlyMoves_refl _ _
  · exact State.onlyMoves_refl _ _

theorem State.passStart_moves (s : State) (p : CalPass) : s.onlyMoves (s.passStart p) [.chan, .cal, .player, .sense] := by
  unfold State.passStart
  dsimp only
  split
  · exact State.onlyMoves_trans (State.onlyMoves_mono (s.passChannel_moves p) (by decide))
      (State.onlyMoves_mono (State.passBank_moves _ _) (by decide))
  · exact State.onlyMoves_mono (s.passChannel_moves p) (by decide)

theorem State.rotate_moves (s : State) : s.onlyMoves s.rotate [.chan, .cal, .player, .sense, .port] := by
  have hbumps : s.onlyMoves ((s.rotation.takeWhile fun k => !s.itemEligible k).foldl (fun s _ => s.bump 9) s) [.port] :=
    State.onlyMoves_foldl (fun u _ => u.bump_moves 9) _ s
  have hset (u : State) (hu : s.onlyMoves u [.port]) (c : Cal) :
      s.onlyMoves { u with cal := c } [.chan, .cal, .player, .sense, .port] :=
    State.onlyMoves_trans (State.onlyMoves_mono hu (by decide)) (State.onlyMoves_mono (u.setCal_moves c) (by decide))
  unfold State.rotate
  dsimp only
  split
  · exact State.onlyMoves_refl _ _
  · split
    · split
      · exact State.onlyMoves_trans (hset _ hbumps _) (State.onlyMoves_mono (State.startChannel_moves _ _ _) (by decide))
      · exact State.onlyMoves_trans (hset _ hbumps _) (State.onlyMoves_mono (State.startBank_moves _ _) (by decide))
    · exact State.onlyMoves_mono hbumps (by decide)

/-- Row 8 moves neither the clock nor the memory, and of the transaction that it is due alone. -/
theorem State.takeCalibration_moves (s : State) :
    s.eightTaken.onlyMoves s.takeCalibration [.chan, .cal, .player, .sense, .port, .power, .pins, .tel] := by
  have hpass (u : State) (p : CalPass) :
      u.onlyMoves (u.passStart p).settlePass [.chan, .cal, .player, .sense, .port, .power, .pins, .tel] :=
    State.onlyMoves_trans (State.onlyMoves_mono (u.passStart_moves p) (by decide))
      (State.onlyMoves_mono (State.settlePass_moves _) (by decide))
  have hset (c : Cal) (p : CalPass) : s.eightTaken.onlyMoves (State.settlePass (State.passStart { s.eightTaken with cal := c } p))
      [.chan, .cal, .player, .sense, .port, .power, .pins, .tel] :=
    State.onlyMoves_trans (State.onlyMoves_mono (s.eightTaken.setCal_moves c) (by decide)) (hpass _ p)
  have hkeep (c : Cal) : s.eightTaken.onlyMoves { s.eightTaken with cal := c }
      [.chan, .cal, .player, .sense, .port, .power, .pins, .tel] :=
    State.onlyMoves_mono (s.eightTaken.setCal_moves c) (by decide)
  unfold State.takeCalibration
  dsimp only
  split
  · exact State.onlyMoves_refl s.eightTaken _
  · split
    · split
      · exact hpass s.eightTaken _
      · exact State.onlyMoves_refl s.eightTaken _
    · split
      · split
        · exact hset _ _
        · exact hkeep _
      · exact State.onlyMoves_mono s.eightTaken.rotate_moves (by decide)

theorem State.freezeStatus_forms (s : State) :
    ∃ u : State, s.onlyMoves u [.port] ∧ s.freezeStatus = { u with
      tel := { u.tel with status := some { epoch := s.clock.epoch, body := u.statusBody } }
      mem := { u.mem with squallSeen := u.mem.squall } } := by
  unfold State.freezeStatus
  dsimp only
  split
  · exact ⟨_, s.bump_moves 4, rfl⟩
  · exact ⟨s, State.onlyMoves_refl _ _, rfl⟩

theorem State.freezeLedger_forms (s : State) :
    ∃ u : State, s.onlyMoves u [.port] ∧ s.freezeLedger = { u with
      tel := { u.tel with ledger := some { epoch := s.clock.epoch, body := u.ledgerBody } } } := by
  unfold State.freezeLedger
  dsimp only
  split
  · exact ⟨_, s.bump_moves 4, rfl⟩
  · exact ⟨s, State.onlyMoves_refl _ _, rfl⟩

/-- What row 9 freezes of STATUS: the body tells the state that row 8 has left (R424). -/
theorem State.freezeStatus_tells (s : State) :
    ∃ f, s.freezeStatus.tel.status = some f ∧ f.epoch = s.clock.epoch ∧ f.body.length = 944 ∧
      ∀ d, f.body = State.statusBody { s.freezeStatus with
        mem := { s.freezeStatus.mem with squallSeen := s.mem.squallSeen }, txn := { s.freezeStatus.txn with due := d } } := by
  obtain ⟨u, hm, h⟩ := s.freezeStatus_forms
  rw [h, ← hm .mem (by decide)]
  exact ⟨_, rfl, rfl, u.statusBody_length, fun d => (u.statusBody_congr _ d).symm⟩

/-- What row 9 freezes of the ledger (R429). -/
theorem State.freezeLedger_tells (s : State) :
    s.freezeLedger.tel.status = s.tel.status ∧ ∃ l, s.freezeLedger.tel.ledger = some l ∧ l.epoch = s.clock.epoch ∧
      l.body.length = 1032 ∧ ∀ d, l.body = State.ledgerBody { s.freezeLedger with txn := { s.freezeLedger.txn with due := d } } := by
  obtain ⟨u, hm, h⟩ := s.freezeLedger_forms
  rw [h, ← hm .tel (by decide)]
  exact ⟨rfl, _, rfl, rfl, u.ledgerBody_length, fun d => rfl⟩

/-- Row 9 freezes STATUS, and the ledger with it where it is due (R50). -/
theorem State.closeNine_freezes {s : State} (hcal : s.txn.due.calibration = false) (h : s.txn.due.status = true) :
    ∃ f, s.closeNine.tel.status = some f ∧ f.epoch = s.clock.epoch ∧ f.body.length = 944 ∧
      (s.txn.due.ledger = false → f.body = State.statusBody { s.closeNine with
        mem := { s.closeNine.mem with squallSeen := s.mem.squallSeen } }) ∧
      (s.txn.due.ledger = true → ∃ l, s.closeNine.tel.ledger = some l ∧ l.epoch = s.clock.epoch ∧ l.body.length = 1032 ∧
        l.body = s.closeNine.ledgerBody) := by
  obtain ⟨f, hf, hepoch, hlen, hbody⟩ := s.freezeStatus_tells
  cases hl : s.txn.due.ledger with
  | false =>
    have hnine : s.closeNine = { s.freezeStatus with
        txn := { s.freezeStatus.txn with due := { s.freezeStatus.txn.due with status := false, ledger := false } } } := by
      unfold State.closeNine
      dsimp only
      rw [hcal, h, hl]
      rfl
    rw [hnine]
    exact ⟨f, hf, hepoch, hlen, fun _ => hbody _, nofun⟩
  | true =>
    have hnine : s.closeNine = { s.freezeStatus.freezeLedger with
        txn := { s.freezeStatus.freezeLedger.txn with
          due := { s.freezeStatus.freezeLedger.txn.due with status := false, ledger := false } } } := by
      unfold State.closeNine
      dsimp only
      rw [hcal, h, hl]
      rfl
    obtain ⟨hstatus, l, hl', hle, hll, hlb⟩ := s.freezeStatus.freezeLedger_tells
    rw [hnine]
    exact ⟨f, hstatus.trans hf, hepoch, hlen, nofun, fun _ => ⟨l, hl', hle.trans (congrArg Clock.epoch s.freezeStatus_clock), hll, hlb _⟩⟩

/-! ## CAPTURE asks for its lines (R306, R307, R317, R425) -/

/-- What asking for the lines of a capture frame leaves: every read that a capture stream asks for is of port P3, the streams stand,
and a request has come unless nothing was asked for. -/
structure AsksRing (k : Fin 8) (s u : State) : Prop where
  moves : s.onlyMoves u [.mem, .player]
  captures : u.mem.capture = s.mem.capture
  cells : u.mem.cells = s.mem.cells
  port (queues : s.mem.waiting = [] ∧ ∀ j : Fin 2, s.mem.reads[j] = []) (p : MemPort) (a : LineAddr)
    (h : asked u p (.ring k) a) : p = .p3
  woken : u = s ∨ (s.mem.sr = .idleCount → u.mem.sr = .awake) ∧ (s.mem.sr = .committed → u.mem.sr = .committed ∧ u.mem.wakeDue = true)

theorem AsksRing.refl (k : Fin 8) (s : State) : AsksRing k s s where
  moves := State.onlyMoves_refl _ _
  captures := rfl
  cells := rfl
  port := by
    rintro ⟨hwaiting, hreads⟩ p a ⟨r, hr | ⟨j, hr⟩, -⟩
    · rw [hwaiting] at hr
      cases hr
    · rw [hreads j] at hr
      cases hr
  woken := .inl rfl

theorem Mem.request_sr (m : Mem) : (m.sr = .idleCount → m.request.sr = .awake) ∧ (m.sr = .awake → m.request.sr = .awake) ∧
    (m.sr = .committed → m.request.sr = .committed ∧ m.request.wakeDue = true) ∧ m.request.capture = m.capture := by
  unfold Mem.request
  refine ⟨fun h => by rw [h], fun h => by rw [h], fun h => by rw [h]; exact ⟨rfl, rfl⟩, ?_⟩
  split <;> rfl

theorem AsksRing.askRead {k : Fin 8} {s u : State} (h : AsksRing k s u) (a : LineAddr) :
    AsksRing k s (u.askRead .p3 a 0 (.ring k)) := by
  have hmem : (u.askRead .p3 a 0 (.ring k)).mem.unqueued = u.mem.request.unqueued :=
    congrArg Prod.fst (u.askRead_unqueued .p3 a 0 (.ring k))
  obtain ⟨hidle, hawake, hcommitted, hcapture⟩ := u.mem.request_sr
  have hsr := congrArg Mem.sr hmem
  have hwake := congrArg Mem.wakeDue hmem
  refine ⟨State.onlyMoves_trans h.moves (u.askRead_moves _ _ _ _), ((congrArg Mem.capture hmem).trans hcapture).trans h.captures,
    ?_, fun queues p b hb => ?_, .inr ?_⟩
  · rw [State.askRead_cells]
    exact h.cells
  · obtain hb | ⟨hp, -, -⟩ := (u.askRead_asked _ _ _ _ _ _ _).mp hb
    · exact h.port queues p b hb
    · exact hp
  · obtain rfl | ⟨h1, h2⟩ := h.woken
    · exact ⟨fun hs => hsr.trans (hidle hs), fun hs => ⟨hsr.trans (hcommitted hs).1, hwake.trans (hcommitted hs).2⟩⟩
    · exact ⟨fun hs => hsr.trans (hawake (h1 hs)),
        fun hs => ⟨hsr.trans (hcommitted (h2 hs).1).1, hwake.trans (hcommitted (h2 hs).1).2⟩⟩

/-- A read that the controller has in hand is asked for. -/
theorem State.readsOf_asked {s : State} {sub : Fin 2} {kind : ReadKind} {a : LineAddr}
    (h : s.mem.readsOf sub (fun r => r.read == some kind && r.addr == a) = true) : ∃ p, asked s p kind a := by
  unfold Mem.readsOf at h
  obtain h | h := Bool.or_eq_true_iff.mp h
  · obtain ⟨r, hr, hk⟩ := List.any_eq_true.mp h
    obtain ⟨hread, haddr⟩ := Bool.and_eq_true_iff.mp hk
    exact ⟨r.port, r, .inr ⟨sub, hr⟩, rfl, eq_of_beq hread, eq_of_beq haddr⟩
  · obtain ⟨r, hr, hk⟩ := List.any_eq_true.mp h
    obtain ⟨-, hk⟩ := Bool.and_eq_true_iff.mp hk
    obtain ⟨hread, haddr⟩ := Bool.and_eq_true_iff.mp hk
    exact ⟨r.port, r, .inl hr, rfl, eq_of_beq hread, eq_of_beq haddr⟩

/-- The lines of a frame are asked for, each that has not been read. -/
theorem State.askLines_asks {s : State} (k : Fin 8) (c : Capture) (l : List CapLine) {u : State} (h : AsksRing k s u) :
    let f := fun (s : State) (l : CapLine) =>
      if l.got || s.mem.readsOf (subOf (c.addrOf l) 0) (fun r => r.read == some (.ring k) && r.addr == c.addrOf l) then s
      else s.askRead .p3 (c.addrOf l) 0 (.ring k)
    AsksRing k s (l.foldl f u) ∧ (∀ a, asked u .p3 (.ring k) a → asked (l.foldl f u) .p3 (.ring k) a) ∧
      (s.mem.waiting = [] → (∀ j : Fin 2, s.mem.reads[j] = []) →
        ∀ x ∈ l, x.got = false → asked (l.foldl f u) .p3 (.ring k) (c.addrOf x)) := by
  dsimp only
  induction l generalizing u with
  | nil => exact ⟨h, fun _ ha => ha, fun _ _ x hx => nomatch hx⟩
  | cons y l ih =>
    rw [List.foldl_cons]
    split
    · next hdone =>
      obtain ⟨hall, hkept, hasked⟩ := ih h
      refine ⟨hall, hkept, fun hw hr x hx hgot => ?_⟩
      obtain rfl | hx := List.mem_cons.mp hx
      · rw [hgot, Bool.false_or] at hdone
        obtain ⟨p, hp⟩ := State.readsOf_asked hdone
        obtain rfl := h.port ⟨hw, hr⟩ p _ hp
        exact hkept _ hp
      · exact hasked hw hr x hx hgot
    · have hstep := (u.askRead_asked .p3 (c.addrOf y) 0 (.ring k) .p3 (.ring k))
      obtain ⟨hall, hkept, hasked⟩ := ih (h.askRead (c.addrOf y))
      refine ⟨hall, fun a ha => hkept a ((hstep a).mpr (.inl ha)), fun hw hr x hx hgot => ?_⟩
      obtain rfl | hx := List.mem_cons.mp hx
      · exact hkept _ ((hstep _).mpr (.inr ⟨rfl, rfl, rfl⟩))
      · exact hasked hw hr x hx hgot

/-- What asking for the lines of the next frame leaves (R306, R317). -/
theorem State.askRing_asks (s : State) (k : Fin 8) :
    AsksRing k s (s.askRing k) ∧ (s.mem.waiting = [] → (∀ j : Fin 2, s.mem.reads[j] = []) →
      ∀ x ∈ (s.mem.capture[k]).lines.take 127, x.got = false →
        asked (s.askRing k) .p3 (.ring k) ((s.mem.capture[k]).addrOf x)) := by
  obtain ⟨h, -, hasked⟩ := State.askLines_asks k s.mem.capture[k] (s.mem.capture[k]).next (AsksRing.refl k s)
  exact ⟨h, hasked⟩

/-! ## What goes out, and when (R423 to R431) -/

theorem exec_capture_asks {s : State} {k : Fin 8} (hmay : s.mayEmit 8 = true) (hready : s.captureReady k = true)
    (hdown : s.dramDown = false) (hunread : (s.mem.capture[k]).allRead = false) : exec (.capture k) s = .next (s.askRing k) := by
  change execCapture k s = _
  unfold execCapture
  dsimp only
  rw [hmay, hready, hdown, hunread]
  rfl

theorem exec_capture_sends {s : State} {k : Fin 8} (hmay : s.mayEmit 8 = true) (hready : s.captureReady k = true)
    (hdown : s.dramDown = false) (hread : (s.mem.capture[k]).allRead = true) : exec (.capture k) s = .next (State.emit
      { s with mem := { s.mem with
        capture := s.mem.capture.set k { s.mem.capture[k] with lines := (s.mem.capture[k]).lines.drop 127, gap := 0 } } }
      0x02 s.clock.epoch ([BitVec.ofNat 8 k.val, 0] ++ leBytes 2 (s.mem.capture[k]).next.length ++
        leBytes 4 (s.mem.capture[k]).gap ++ (s.mem.capture[k]).next.flatMap CapLine.encode)) := by
  change execCapture k s = _
  unfold execCapture
  dsimp only
  rw [hmay, hready, hdown, hread]
  rfl

/-- Settles O59: each frame's body is its rule's, and what it carries leaves its queue. -/
theorem telemetryGoesOut : Obligations.TelemetryGoesOut := by
  unfold Obligations.TelemetryGoesOut
  refine ⟨fun s hmay hne => ?_, fun s id g hseg hstate hmay hwanted => ?_, fun s hmay hne => ?_, fun s f hf hmay => ?_,
    fun s hframe hdue hstatus => ?_, fun s hmay hready => ?_, fun s f hf hmay => ?_, fun s hmay hready => ?_,
    fun s k hmay hready hdown hunread => ?_, fun s k hmay hready hdown hread => ?_⟩
  · have hexec : exec .outcome s = .next (State.emit { s with tel := { s.tel with outcomes := s.tel.outcomes.drop 382 } }
        0x07 s.clock.epoch (leBytes 2 (s.tel.outcomes.take 382).length ++ List.replicate 6 0 ++
          (s.tel.outcomes.take 382).flatMap OutcomeEntry.encode)) := by
      change execOutcome s = _
      unfold execOutcome
      rw [hmay, List.isEmpty_eq_false_iff.mpr hne]
      rfl
    rw [List.length_take] at hexec
    obtain ⟨hm, he⟩ := s.emit_takes { s.tel with outcomes := s.tel.outcomes.drop 382 } rfl 0x07 s.clock.epoch _
    exact ⟨_, hexec, rfl, hm, he⟩
  · have hexec : exec (.wanted id) s = .next (State.emit
        { s with tel := { s.tel with wanted := s.tel.wanted.filter (· != id) } } 0x08 s.clock.epoch
        (leBytes 2 id.toNat ++ [BitVec.ofNat 8 (bitAt g.whole 0), BitVec.ofNat 8 (s.mem.ranges g).length] ++ leBytes 4 g.len ++
          List.replicate 4 0 ++ (s.mem.ranges g).flatMap fun r => leBytes 4 r.1 ++ leBytes 4 r.2)) := by
      change execWanted id s = _
      unfold execWanted
      rw [hseg]
      dsimp only
      rw [hmay, hwanted, hstate]
      rfl
    have hwhole : BitVec.ofNat 8 (bitAt g.whole 0) = if g.whole then 1 else 0 := by cases g.whole <;> rfl
    rw [hwhole] at hexec
    obtain ⟨hm, he⟩ := s.emit_takes { s.tel with wanted := s.tel.wanted.filter (· != id) } rfl 0x08 s.clock.epoch _
    refine ⟨_, hexec, ?_, hm, he, ?_, fun hw => ?_⟩
    · change (s.tel.wanted.filter (· != id)).contains id = false
      simp
    · unfold Mem.ranges
      split
      · exact Nat.le_of_ble_eq_true rfl
      · exact List.length_take_le _ _
    · unfold Mem.ranges
      rw [if_pos hw]
  · have hexec : exec .bog s = .next (State.emit { s with tel := { s.tel with bogChanges := s.tel.bogChanges.drop 573 } }
        0x05 s.clock.epoch (leBytes 2 (s.tel.bogChanges.take 573).length ++ [0, 0] ++ leBytes 4 s.mem.bog.length ++
          (s.tel.bogChanges.take 573).flatMap BogEntry.encode)) := by
      change execBog s = _
      unfold execBog
      rw [hmay, List.isEmpty_eq_false_iff.mpr hne]
      rfl
    rw [List.length_take] at hexec
    obtain ⟨hm, he⟩ := s.emit_takes { s.tel with bogChanges := s.tel.bogChanges.drop 573 } rfl 0x05 s.clock.epoch _
    exact ⟨_, hexec, rfl, hm, he⟩
  · have hexec : exec .status s = .next (State.emit { s with tel := { s.tel with status := none } } 0x01 f.epoch f.body) := by
      change execStatus s = _
      unfold execStatus
      rw [hf, hmay]
    obtain ⟨hm, he⟩ := s.emit_takes { s.tel with status := none } rfl 0x01 f.epoch f.body
    exact ⟨_, hexec, rfl, he, hm⟩
  · have htakes : s.takesNow s.txn.due.calibration = true := by
      unfold State.takesNow
      rw [hdue, hframe]
      rfl
    have hexec : exec .calibrationStart s = .next s.takeCalibration.closeNine := if_pos htakes
    have hm := s.takeCalibration_moves
    have htxn : s.takeCalibration.txn = s.eightTaken.txn := hm .txn (by decide)
    have hclock : s.takeCalibration.clock = s.clock := hm .clock (by decide)
    have hmem : s.takeCalibration.mem = s.mem := hm .mem (by decide)
    have hcal : s.takeCalibration.txn.due.calibration = false := by rw [htxn]; rfl
    have hst : s.takeCalibration.txn.due.status = true := by rw [htxn]; exact hstatus
    have hled : s.takeCalibration.txn.due.ledger = s.txn.due.ledger := by rw [htxn]; rfl
    obtain ⟨hnine, -⟩ := State.closeNine_takes hcal
    obtain ⟨f, hf, hepoch, hlen, hbody, hledger⟩ := State.closeNine_freezes hcal hst
    rw [hclock, hled, hmem] at *
    exact ⟨_, f, hexec, hf, hepoch, hlen, by rw [hnine], by rw [hnine], hbody, hledger⟩
  · have hexec : exec .event s = .next (State.emit
        { s with tel := { s.tel with events := s.tel.events.drop 573, eventsDue := s.tel.eventsDue - 573 } }
        0x04 s.clock.epoch (leBytes 2 (s.tel.events.take 573).length ++ List.replicate 6 0 ++
          (s.tel.events.take 573).flatMap EventEntry.encode)) := by
      change execEvent s = _
      unfold execEvent
      rw [hmay, hready]
      rfl
    rw [List.length_take] at hexec
    obtain ⟨hm, he⟩ := s.emit_takes { s.tel with events := s.tel.events.drop 573, eventsDue := s.tel.eventsDue - 573 } rfl 0x04
      s.clock.epoch _
    exact ⟨_, hexec, rfl, hm, he⟩
  · have hexec : exec .ledger s = .next (State.emit { s with tel := { s.tel with ledger := none } } 0x06 f.epoch f.body) := by
      change execLedger s = _
      unfold execLedger
      rw [hf, hmay]
    obtain ⟨hm, he⟩ := s.emit_takes { s.tel with ledger := none } rfl 0x06 f.epoch f.body
    exact ⟨_, hexec, rfl, he, hm⟩
  · have hexec : exec .detector s = .next (State.emit
        { s with tel := { s.tel with results := s.tel.results.drop 382, resultsDue := s.tel.resultsDue - 382 } }
        0x03 s.clock.epoch (leBytes 4 s.tel.resultsLost.toNat ++ leBytes 2 (s.tel.results.take 382).length ++ [0, 0] ++
          (s.tel.results.take 382).flatMap DetResult.encode)) := by
      change execDetector s = _
      unfold execDetector
      rw [hmay, hready]
      rfl
    rw [List.length_take] at hexec
    obtain ⟨hm, he⟩ := s.emit_takes { s.tel with results := s.tel.results.drop 382, resultsDue := s.tel.resultsDue - 382 } rfl 0x03
      s.clock.epoch _
    exact ⟨_, hexec, rfl, hm, he⟩
  · obtain ⟨l, hl, hgot⟩ := hunread
    have hall : (s.mem.capture[k]).allRead = false := by
      unfold Capture.allRead
      rw [List.all_eq_false]
      exact ⟨l, hl, by rw [hgot]; exact Bool.false_ne_true⟩
    obtain ⟨hring, hasked⟩ := s.askRing_asks k
    refine ⟨_, exec_capture_asks hmay hready hdown hall, hring.moves .tel (by decide), hring.captures, hring.cells,
      fun hw hr => ⟨hasked hw hr, ?_⟩, hring.moves⟩
    obtain hsame | hwoken := hring.woken
    · have hl' := hasked hw hr l hl hgot
      rw [hsame] at hl'
      obtain ⟨r, hr' | ⟨j, hr'⟩, -⟩ := hl'
      · rw [hw] at hr'
        cases hr'
      · rw [hr j] at hr'
        cases hr'
    · exact ⟨hwoken.1, fun hs => (hwoken.2 hs).2⟩
  · have hall : (s.mem.capture[k]).allRead = true := List.all_eq_true.mpr hread
    have hexec := exec_capture_sends hmay hready hdown hall
    have hset : s.onlyMoves { s with mem := { s.mem with
        capture := s.mem.capture.set k { s.mem.capture[k] with lines := (s.mem.capture[k]).lines.drop 127, gap := 0 } } }
        [.tel, .mem] := by
      intro p hp
      cases p <;> simp_all [State.agree]
    unfold Capture.next at hexec
    rw [List.length_take] at hexec
    refine ⟨_, hexec, ?_, ?_, fun j hj => ?_, rfl, State.onlyMoves_trans hset (State.onlyMoves_mono (State.emit_moves _ _ _ _) (by decide)),
      State.emit_emits hset rfl _ _ _⟩
    · exact congrArg Capture.lines (Vector.getElem_set_self _)
    · exact congrArg Capture.gap (Vector.getElem_set_self _)
    · exact Vector.getElem_set_ne k.isLt j.isLt (fun h => hj (Fin.ext h.symm))

end Sys2Proof.Machine
end

section
/-! PROOFS. What a tick boundary counts and leaves due. -/

namespace Sys2Proof.Machine

/-! ## A quiet boundary is reached (R48, R50) -/

/-- What the passing of frames reads of the memory's stage and its maps, and the bytes. -/
def Mem.still (m : Mem) : SrStage × List MapWrite × List Host.Cell := (m.sr, m.mapDue, m.cells)

theorem State.still_of_unqueued {s t : State} (h : t.unqueued = s.unqueued) : t.mem.still = s.mem.still := by
  have hmem : t.mem.unqueued = s.mem.unqueued := congrArg Prod.fst h
  have hstill := congrArg Mem.still hmem
  exact hstill

theorem State.judgeSquall_still (s : State) : s.judgeSquall.mem.still = s.mem.still := by
  unfold State.judgeSquall
  dsimp only
  split
  · rfl
  · split
    · rfl
    · exact (State.still_of_unqueued (State.settleQueues_unqueued _)).trans rfl

theorem State.endFrame_still {s : State} (h : s.mem.mapDue = []) :
    s.endFrame.mem.still = s.mem.still ∧ s.onlyMoves s.endFrame [.mem, .player] := by
  have hmaps : s.judgeSquall.mem.mapDue = [] := (congrArg (fun x => x.2.1) s.judgeSquall_still).trans h
  have hoffer : s.judgeSquall.offerMaps = s.judgeSquall := by
    unfold State.offerMaps
    rw [hmaps]
    rfl
  unfold State.endFrame
  rw [hoffer]
  dsimp only
  split
  · exact ⟨s.judgeSquall_still, s.judgeSquall_moves⟩
  · exact ⟨(State.still_of_unqueued (State.settleQueues_unqueued _)).trans s.judgeSquall_still,
      State.onlyMoves_trans s.judgeSquall_moves (State.settleQueues_moves _)⟩

/-- The chain apart from what the lines carry in a frame. -/
def Chain.unlined (c : Chain) : Chain := { c with line := Vector.replicate 3 [], lineBefore := Vector.replicate 3 [] }

/-- Frames that pass quietly: no lock waits, no code does, and no junction is new. -/
structure Quiet (s : State) : Prop where
  locking : s.pins.locking = none
  delayed (n : Chan) : (s.chan[n]).delayed = none
  junction : s.power.junctionActs = s.power.junction
  maps : s.mem.mapDue = []

/-- What quiet frames leave (R48). -/
structure PassesTo (s u : State) : Prop where
  moves : s.onlyMoves u [.clock, .pins, .mem, .player, .chain]
  chain : u.chain.unlined = s.chain.unlined
  still : u.mem.still = s.mem.still
  locking : u.pins.locking = s.pins.locking

theorem PassesTo.trans {s u v : State} (h : PassesTo s u) (k : PassesTo u v) : PassesTo s v :=
  ⟨State.onlyMoves_trans h.moves k.moves, k.chain.trans h.chain, k.still.trans h.still, k.locking.trans h.locking⟩

theorem Quiet.pass {s u : State} (h : Quiet s) (k : PassesTo s u) : Quiet u where
  locking := k.locking.trans h.locking
  delayed n := by
    rw [k.moves .chan (by decide)]
    exact h.delayed n
  junction := by
    rw [k.moves .power (by decide)]
    exact h.junction
  maps := (congrArg (fun x => x.2.1) k.still).trans h.maps

theorem State.latchAligned_of_none {s : State} (h : ∀ n : Chan, (s.chan[n]).delayed = none) : s.latchAligned = s := by
  have hnone : s.chan.toList.any (fun c => c.delayed.isSome) = false := by
    rw [List.any_eq_false]
    intro c hc
    obtain ⟨i, hi, rfl⟩ := List.mem_iff_getElem.mp hc
    have hlen : i < 64 := by simpa using hi
    have hget := h ⟨i, hlen⟩
    simp only [Vector.getElem_toList]
    rw [show s.chan[i] = s.chan[(⟨i, hlen⟩ : Chan)] from rfl, hget]
    exact Bool.false_ne_true
  unfold State.latchAligned
  rw [hnone]
  rfl

theorem State.settlePins_of_none {s : State} (h : s.pins.locking = none) : s.settlePins = s := by
  unfold State.settlePins
  rw [h]

theorem State.settleThermal_of_judged {s : State} (h : s.power.junctionActs = s.power.junction) : s.settleThermal = s := by
  unfold State.settleThermal
  exact if_pos h

theorem State.scrubTime_passes (s : State) (frames : Nat) : PassesTo s (s.scrubTime frames) := by
  unfold State.scrubTime
  split
  · refine ⟨?_, rfl, rfl, rfl⟩
    intro p hp
    cases p <;> simp_all [State.agree]
  · exact ⟨State.onlyMoves_refl _ _, rfl, rfl, rfl⟩

theorem State.endFrame_passes {s : State} (h : s.mem.mapDue = []) : PassesTo s s.endFrame := by
  obtain ⟨hstill, hm⟩ := State.endFrame_still h
  exact ⟨State.onlyMoves_mono hm (by decide), congrArg Chain.unlined (hm .chain (by decide)), hstill,
    congrArg Pins.locking (hm .pins (by decide))⟩

theorem State.beginFrame_passes (s : State) : PassesTo s s.beginFrame := by
  refine ⟨?_, rfl, rfl, rfl⟩
  intro p hp
  cases p <;> simp_all [State.agree, State.beginFrame]

theorem State.setShown_passes (s : State) (c : Clock) (p : Pins) (h : p.locking = s.pins.locking) :
    PassesTo s { s with clock := c, pins := p } := by
  refine ⟨?_, rfl, rfl, h⟩
  intro p hp
  cases p <;> simp_all [State.agree]

theorem Quiet.settles {s u : State} (h : Quiet s) (k : PassesTo s u) :
    u.settlePins.latchAligned.settleThermal = u := by
  have hu := h.pass k
  rw [State.settlePins_of_none hu.locking, State.latchAligned_of_none hu.delayed, State.settleThermal_of_judged hu.junction]

/-- A quiet frame passes. -/
theorem Quiet.passFrame {s : State} (h : Quiet s) : PassesTo s s.passFrame ∧ s.passFrame.clock = s.clock.pass 1 := by
  have h1 := s.scrubTime_passes 1
  have h2 := h1.trans (State.endFrame_passes (h.pass h1).maps)
  have h3 := h2.trans (State.beginFrame_passes _)
  have h4 := h3.trans (State.setShown_passes (((s.scrubTime 1).endFrame).beginFrame) (s.clock.pass 1) _ rfl)
  have hlatch : State.latchAligned { ((s.scrubTime 1).endFrame).beginFrame with clock := s.clock.pass 1 } =
      { ((s.scrubTime 1).endFrame).beginFrame with clock := s.clock.pass 1 } := State.latchAligned_of_none (h.pass h4).delayed
  unfold State.passFrame
  rw [hlatch]
  dsimp only
  generalize ((s.scrubTime 1).endFrame).beginFrame = u at *
  have h5 : PassesTo s { u with clock := s.clock.pass 1, pins := u.pins.showMarkers } :=
    h3.trans (State.setShown_passes u _ _ rfl)
  have hq := h.pass h5
  rw [State.settlePins_of_none hq.locking, State.settleThermal_of_judged hq.junction]
  exact ⟨h5, rfl⟩

theorem Clock.pass_frame (c : Clock) (k : Nat) : (c.pass k).frame = (c.frame + k) % 16384 := by
  have hmod : (c.epoch + BitVec.ofNat 48 k).toNat = (c.epoch.toNat + k % 2 ^ 48) % 2 ^ 48 := by
    rw [BitVec.toNat_add, BitVec.toNat_ofNat]
  change (c.epoch + BitVec.ofNat 48 k).toNat % 16384 = (c.epoch.toNat % 16384 + k) % 16384
  rw [hmod]
  omega

theorem Clock.frame_lt (c : Clock) : c.frame < 16384 := Nat.mod_lt _ (by decide)

/-- The frames up to the last one before a boundary, of which one passes in full. -/
def State.toLast (s : State) : State := if s.clock.frame + 1 < Config.framesPerTick then s.passFrame else s

/-- The boundary's own frame begins. -/
def State.ontoBoundary (s : State) : State :=
  let left := Config.framesPerTick - s.clock.frame
  let s0 := ((s.scrubTime left).endFrame).beginFrame
  let s1 := if left = 1 then s0 else { s0.beginFrame with pins := s0.beginFrame.pins.showMarkers }
  ((State.settlePins { s1 with clock := s.clock.pass left }).latchAligned).settleThermal

theorem Quiet.toLast {s : State} (h : Quiet s) :
    PassesTo s s.toLast ∧ s.toLast.clock.clk + (16384 - s.toLast.clock.frame) = s.clock.clk + (16384 - s.clock.frame) := by
  unfold State.toLast
  split
  · next hlt =>
    obtain ⟨hpass, hclock⟩ := h.passFrame
    have hlt' : s.clock.frame + 1 < 16384 := hlt
    have hframe : s.passFrame.clock.frame = s.clock.frame + 1 := by
      rw [hclock, Clock.pass_frame, Nat.mod_eq_of_lt hlt']
    have hclk : s.passFrame.clock.clk = s.clock.clk + 1 := congrArg Clock.clk hclock
    exact ⟨hpass, by omega⟩
  · exact ⟨⟨State.onlyMoves_refl _ _, rfl, rfl, rfl⟩, rfl⟩

theorem Quiet.ontoBoundary {s : State} (h : Quiet s) :
    PassesTo s s.ontoBoundary ∧ s.ontoBoundary.clock = s.clock.pass (16384 - s.clock.frame) := by
  unfold State.ontoBoundary
  dsimp only
  have h1 := s.scrubTime_passes (Config.framesPerTick - s.clock.frame)
  have h2 := h1.trans (State.endFrame_passes (h.pass h1).maps)
  have h3 := h2.trans (State.beginFrame_passes _)
  generalize ((s.scrubTime (Config.framesPerTick - s.clock.frame)).endFrame).beginFrame = u at *
  split
  · have h4 := h3.trans (State.setShown_passes u (s.clock.pass (Config.framesPerTick - s.clock.frame)) u.pins rfl)
    rw [h.settles h4]
    exact ⟨h4, rfl⟩
  · have h4 := (h3.trans u.beginFrame_passes).trans
      (State.setShown_passes u.beginFrame (s.clock.pass (Config.framesPerTick - s.clock.frame)) u.beginFrame.pins.showMarkers rfl)
    rw [h.settles h4]
    exact ⟨h4, rfl⟩

/-- A boundary is reached over quiet frames: frame 0, the clock moved on by what was left of the tick (R48). -/
theorem Quiet.toBoundary {s : State} (h : Quiet s) :
    PassesTo s s.toBoundary ∧ s.toBoundary.clock.frame = 0 ∧ s.toBoundary.clock.clk = s.clock.clk + (16384 - s.clock.frame) := by
  have hsplit : s.toBoundary = s.toLast.ontoBoundary := rfl
  obtain ⟨hlast, hclk⟩ := h.toLast
  obtain ⟨honto, hclock⟩ := (h.pass hlast).ontoBoundary
  have hlt := s.toLast.clock.frame_lt
  rw [hsplit, hclock]
  refine ⟨hlast.trans honto, ?_, ?_⟩
  · rw [Clock.pass_frame]
    omega
  · exact Eq.trans (b := s.toLast.clock.clk + (16384 - s.toLast.clock.frame)) rfl hclk

/-! ## REFIN, the straps and the memory's counts at a quiet boundary -/

/-- The boundary before its rows. -/
def State.atRows (s : State) (obs : TickObs) : State :=
  let s0 := s.toBoundary.measureRefin obs.refinMv
  State.memBoundary { s0 with power := { s0.power with drifted := Vector.replicate 8 false } } obs.hotRank

theorem exec_tickBoundary_quiet {s : State} {obs : TickObs} (h : quietBoundary s obs) :
    exec (.tickBoundary obs) s = .next ((s.atRows obs).settleRows false) ∧
      s.onlyMoves (s.atRows obs) [.clock, .pins, .mem, .player, .chain, .power] ∧
      (s.atRows obs).power = { s.power with refinMv := obs.refinMv, drifted := Vector.replicate 8 false } ∧
      (s.atRows obs).chain.unlined = s.chain.unlined ∧ (s.atRows obs).mem.sr = s.mem.sr ∧
      (s.atRows obs).mem.cells = s.mem.cells ∧ (s.atRows obs).clock.frame = 0 ∧
      (s.atRows obs).clock.clk = s.clock.clk + (16384 - s.clock.frame) := by
  obtain ⟨hruns, hlow, hhigh, hstraps, hdue, hlock, -, hdelayed, hjunction, hmaps, -, -⟩ := h
  have hquiet : Quiet s := ⟨hlock, hdelayed, hjunction.symm, hmaps⟩
  obtain ⟨hpass, hframe, hclk⟩ := hquiet.toBoundary
  have hrefin : s.toBoundary.measureRefin obs.refinMv =
      { s.toBoundary with power := { s.toBoundary.power with refinMv := obs.refinMv } } := if_pos (.inr ⟨hlow, hhigh⟩)
  have hpower : s.toBoundary.power = s.power := hpass.moves .power (by decide)
  have hchain := hpass.chain
  have hsr : s.toBoundary.mem.sr = s.mem.sr := congrArg (fun x => x.1) hpass.still
  have hcells : s.toBoundary.mem.cells = s.mem.cells := congrArg (fun x => x.2.2) hpass.still
  have hm := hpass.moves
  unfold State.atRows
  change execTickBoundary obs s = _ ∧ _
  unfold execTickBoundary
  rw [hruns, State.settleDue_of_none hdue, hrefin]
  generalize s.toBoundary = u at *
  have hruns' : State.coreRuns { u with power := { u.power with refinMv := obs.refinMv } } = true := by
    rw [← hruns, hpower]
    rfl
  have hcheck : State.strapCheck { u with power := { u.power with refinMv := obs.refinMv } } =
      (false, { u with power := { u.power with refinMv := obs.refinMv, drifted := Vector.replicate 8 false } }) := by
    unfold State.strapCheck
    rw [hpower]
    dsimp only
    rw [hstraps]
    rfl
  have hruns'' : State.coreRuns { u with power := { u.power with refinMv := obs.refinMv, drifted := Vector.replicate 8 false } } = true := by
    rw [← hruns, hpower]
    rfl
  rw [Bool.not_true, if_neg Bool.false_ne_true]
  dsimp only
  rw [hruns', hcheck, Bool.not_true, if_neg Bool.false_ne_true]
  dsimp only
  rw [hruns'', Bool.not_true, if_neg Bool.false_ne_true]
  refine ⟨rfl, ?_, ?_, hchain, hsr, hcells, hframe, hclk⟩
  · refine State.onlyMoves_trans (State.onlyMoves_mono hm (by decide)) ?_
    intro p hp
    cases p <;> simp_all [State.agree, State.memBoundary]
  · rw [← hpower]
    rfl

/-! ## The rows (R33, R145, R147, R153, Table 2.2) -/

/-- The rows that act on the transaction, with what a boundary makes of the chain, and rows 7 to 9 due. -/
def State.rowsSet (s : State) (skip : Bool) : State :=
  let s7 := ((((s.rows34 skip).rowDefaults).row5).row6).chainBoundary
  { s7 with txn := { s7.txn with due := { s7.txn.due with rest := true } } }

theorem State.settleRows_eq (s : State) (strapFailed : Bool) :
    s.settleRows strapFailed = (s.missedTick.2.rowsSet (strapFailed || s.missedTick.1)).closeBoundary := by
  unfold State.settleRows State.rowsSet
  generalize s.missedTick = p
  obtain ⟨falls, u⟩ := p
  dsimp only

/-- Whether the roll-back is due at a boundary, and whether the apply is, `skip` saying that a row above takes it. -/
def State.backAt (s : State) (skip : Bool) : Bool := !skip && s.rollbackDue
def State.applyAt (s : State) (skip : Bool) : Bool := !skip && !s.backAt skip && s.applyDue

theorem State.rows34_txn (s : State) (skip : Bool) :
    (s.rows34 skip).txn = { s.txn with
      rollbackPending := s.txn.rollbackPending && !skip
      due := { s.txn.due with rollback := s.backAt skip, apply := s.applyAt skip } } := by
  unfold State.rows34 State.applyAt State.backAt
  dsimp only

theorem State.rows34_chain (s : State) (skip : Bool) :
    (s.rows34 skip).chain = { s.chain with
        commitDue := false, rollbackDue := false, diverged := s.chain.diverged || (s.chain.commitDue && !s.applyAt skip) } := by
  unfold State.rows34 State.applyAt State.backAt
  dsimp only

theorem State.rows34_moves (s : State) (skip : Bool) : s.onlyMoves (s.rows34 skip) [.txn, .chain] := by
  intro p hp
  cases p <;> simp_all [State.agree, State.rows34]

/-- The time-out count at a boundary (R145). -/
theorem State.row5_counts (s : State) :
    s.onlyMoves s.row5 [.txn] ∧
      (s.row5.txn = if s.txn.state = .opened ∧ s.txn.due.rollback = false ∧ s.txn.due.island = false ∧ s.followsRoot = false then
          { s.txn with count := s.txn.count + 1, due := { s.txn.due with txnTimeout := s.txn.count + 1 == s.txn.limit } }
        else { s.txn with due := { s.txn.due with txnTimeout := false } }) := by
  unfold State.row5
  dsimp only
  have hcond : (s.txn.state = .opened ∧ (!s.txn.due.rollback) = true ∧ (!s.txn.due.island) = true ∧ (!s.followsRoot) = true) ↔
      (s.txn.state = .opened ∧ s.txn.due.rollback = false ∧ s.txn.due.island = false ∧ s.followsRoot = false) := by
    simp
  by_cases h : s.txn.state = .opened ∧ s.txn.due.rollback = false ∧ s.txn.due.island = false ∧ s.followsRoot = false
  · rw [if_pos h, if_pos (hcond.mpr h)]
    exact ⟨s.setTxn_moves _, rfl⟩
  · rw [if_neg h, if_neg fun h' => h (hcond.mp h')]
    exact ⟨s.setTxn_moves _, rfl⟩

/-- The probation count at a boundary (R153). -/
theorem State.row6_counts (s : State) :
    s.onlyMoves s.row6 [.txn] ∧
      (∃ n b, s.row6.txn = { s.txn with probation := n, due := { s.txn.due with probationEnd := b } } ∧
        (∀ k, s.txn.probation = some k →
          n = some (if s.txn.due.apply || s.txn.due.rollback || s.txn.due.island then k else k + 1)) ∧
        (b = true ↔ s.txn.due.apply = false ∧ s.txn.due.rollback = false ∧ s.txn.due.island = false ∧
          ∃ k, s.txn.probation = some k ∧ s.txn.live.params.dev.probation.toNat ≤ k + 1)) := by
  unfold State.row6
  dsimp only
  split
  · next k hk =>
    split
    · next hends =>
      refine ⟨s.setTxn_moves _, some k, false, by rw [← hk], fun j hj => ?_, ?_⟩
      · exact hk.symm.trans hj
      · simp only [Bool.or_eq_true] at hends
        simp only [Bool.false_eq_true, false_iff]
        rintro ⟨h1, h2, h3, -⟩
        simp [h1, h2, h3] at hends
    · next hgoes =>
      refine ⟨s.setTxn_moves _, some (k + 1), _, rfl, fun j hj => ?_, ?_⟩
      · exact congrArg (fun i => some (i + 1)) (Option.some.inj (hk.symm.trans hj))
      · simp only [Bool.not_eq_true, Bool.or_eq_false_iff] at hgoes
        obtain ⟨⟨h1, h2⟩, h3⟩ := hgoes
        rw [decide_eq_true_iff]
        constructor
        · intro h
          exact ⟨h1, h2, h3, k, hk, h⟩
        · rintro ⟨-, -, -, j, hj, h⟩
          rw [hk] at hj
          exact Option.some.inj hj ▸ h
  · next hk =>
    refine ⟨s.setTxn_moves _, none, false, by rw [← hk], fun j hj => absurd (hk.symm.trans hj) nofun, ?_⟩
    simp only [Bool.false_eq_true, false_iff]
    rintro ⟨-, -, -, j, hj, -⟩
    exact absurd (hk.symm.trans hj) nofun

/-- What the rows set, where no catalogue defaults wait (R46). -/
structure RowsSet (s v : State) (back apply : Bool) : Prop where
  moves : s.onlyMoves v [.txn, .chain]
  rollsBack : v.txn.due.rollback = back
  applies : v.txn.due.apply = apply
  island : v.txn.due.island = s.txn.due.island
  rest : v.txn.due.rest = true
  live : v.txn.live = s.txn.live
  shadow : v.txn.shadow = s.txn.shadow
  counted (h : s.txn.state = .opened ∧ back = false ∧ s.txn.due.island = false ∧ s.followsRoot = false) :
    v.txn.count = s.txn.count + 1 ∧ v.txn.due.txnTimeout = (s.txn.count + 1 == s.txn.limit)
  uncounted (h : ¬ (s.txn.state = .opened ∧ back = false ∧ s.txn.due.island = false ∧ s.followsRoot = false)) :
    v.txn.count = s.txn.count ∧ v.txn.due.txnTimeout = false
  probation (n : Nat) (h : s.txn.probation = some n) :
    v.txn.probation = some (if apply || back || s.txn.due.island then n else n + 1)
  probationEnd : v.txn.due.probationEnd = true ↔ apply = false ∧ back = false ∧ s.txn.due.island = false ∧
    ∃ k, s.txn.probation = some k ∧ s.txn.live.params.dev.probation.toNat ≤ k + 1
  chain : v.chain.commitDue = false ∧ v.chain.rollbackDue = false ∧ v.chain.synced = false ∧ v.chain.missed = s.chain.missed ∧
    v.chain.diverged = (s.chain.diverged || (s.chain.commitDue && !apply))

theorem State.chainBoundary_moves (s : State) : s.onlyMoves s.chainBoundary [.chain] := by
  intro p hp
  cases p <;> simp_all [State.agree, State.chainBoundary]

/-- Rows 5 and 6 on what rows 3 and 4 have due. -/
theorem State.rows56_set {s : State} {back apply : Bool} (hr : s.txn.due.rollback = back) (ha : s.txn.due.apply = apply) :
    let v := s.row5.row6
    s.onlyMoves v [.txn] ∧ v.txn.due.rollback = back ∧ v.txn.due.apply = apply ∧ v.txn.due.island = s.txn.due.island ∧
      v.txn.live = s.txn.live ∧ v.txn.shadow = s.txn.shadow ∧
      (s.txn.state = .opened ∧ back = false ∧ s.txn.due.island = false ∧ s.followsRoot = false →
        v.txn.count = s.txn.count + 1 ∧ v.txn.due.txnTimeout = (s.txn.count + 1 == s.txn.limit)) ∧
      (¬ (s.txn.state = .opened ∧ back = false ∧ s.txn.due.island = false ∧ s.followsRoot = false) →
        v.txn.count = s.txn.count ∧ v.txn.due.txnTimeout = false) ∧
      (∀ n, s.txn.probation = some n → v.txn.probation = some (if apply || back || s.txn.due.island then n else n + 1)) ∧
      (v.txn.due.probationEnd = true ↔ apply = false ∧ back = false ∧ s.txn.due.island = false ∧
        ∃ k, s.txn.probation = some k ∧ s.txn.live.params.dev.probation.toNat ≤ k + 1) := by
  subst hr ha
  obtain ⟨h5, t5⟩ := s.row5_counts
  obtain ⟨h6, n, b, t6, hprob, hend⟩ := s.row5.row6_counts
  have hm := State.onlyMoves_trans h5 h6
  dsimp only
  by_cases hc : s.txn.state = .opened ∧ s.txn.due.rollback = false ∧ s.txn.due.island = false ∧ s.followsRoot = false
  · rw [if_pos hc] at t5
    rw [t5] at t6 hprob hend
    rw [t6]
    exact ⟨hm, rfl, rfl, rfl, rfl, rfl, fun _ => ⟨rfl, rfl⟩, fun h => absurd hc h, hprob, hend⟩
  · rw [if_neg hc] at t5
    rw [t5] at t6 hprob hend
    rw [t6]
    exact ⟨hm, rfl, rfl, rfl, rfl, rfl, fun h => absurd h hc, fun _ => ⟨rfl, rfl⟩, hprob, hend⟩

theorem State.rowsSet_sets {s : State} (hd : s.txn.defaultsDue = false) (skip : Bool) :
    RowsSet s (s.rowsSet skip) (s.backAt skip) (s.applyAt skip) := by
  have htxn := s.rows34_txn skip
  have hchain := s.rows34_chain skip
  have hmoves := s.rows34_moves skip
  have hdefaults : (s.rows34 skip).rowDefaults = s.rows34 skip := by
    unfold State.rowDefaults
    dsimp only
    rw [htxn]
    dsimp only
    rw [hd]
    rfl
  have hfollows : (s.rows34 skip).followsRoot = s.followsRoot := by
    have hpower : (s.rows34 skip).power = s.power := hmoves .power (by decide)
    unfold State.followsRoot State.joined State.isUp State.isRoot
    rw [hpower]
  unfold State.rowsSet
  rw [hdefaults]
  generalize s.rows34 skip = u at *
  obtain ⟨h56, hr, ha, hi, hl, hsh, hcount, hun, hprob, hend⟩ := u.rows56_set (back := s.backAt skip) (apply := s.applyAt skip)
    (by rw [htxn]) (by rw [htxn])
  have hc56 : u.row5.row6.chain = u.chain := h56 .chain (by decide)
  rw [hfollows, htxn] at *
  generalize u.row5.row6 = v at *
  dsimp only
  have hset : v.onlyMoves { v.chainBoundary with txn := { v.chainBoundary.txn with
      due := { v.chainBoundary.txn.due with rest := true } } } [.txn, .chain] :=
    State.onlyMoves_trans (State.onlyMoves_mono v.chainBoundary_moves (by decide)) (State.onlyMoves_mono (State.setTxn_moves _ _) (by decide))
  refine ⟨State.onlyMoves_trans hmoves (State.onlyMoves_trans (State.onlyMoves_mono h56 (by decide)) hset), hr, ha, hi, rfl, hl, hsh,
    hcount, hun, hprob, hend, ?_⟩
  unfold State.chainBoundary
  dsimp only
  rw [hc56, hchain]
  exact ⟨rfl, rfl, rfl, rfl, rfl⟩

/-! ## Rows 7 to 9 (R50) -/

/-- Rows 7 to 9, once taken, wait no more. -/
theorem State.takeRest_rest {s : State} (hroot : s.isRoot = false) : s.takeRest.txn.due.rest = false := by
  have hnine (u : State) : u.closeNine.txn.due.rest = u.txn.due.rest := by
    unfold State.closeNine
    dsimp only
    split
    · rfl
    · dsimp only
      (repeat' split) <;> simp
  have hport (u : State) : u.portBoundary.txn = u.txn := u.portBoundary_keeps.2.1
  have hsr (u : State) : u.srBoundary.txn = u.txn := u.srBoundary_keeps.2.1
  unfold State.takeRest
  extract_lets _ _ s1 s2
  have h1 : s1.txn.due.rest = false := rfl
  have h2 : s2 = s1 := by
    have hr : s1.isRoot = s.isRoot := rfl
    unfold s2
    rw [hr, hroot]
    exact if_neg Bool.false_ne_true
  split
  · rw [hnine, hport]
    exact h1
  · have h8 (u : State) : u.row8.txn.due.rest = u.txn.due.rest := rfl
    have h9 (u : State) : u.row9.txn.due.rest = u.txn.due.rest := rfl
    rw [hnine, hport, hsr, h2, h9, h8, s1.probtripBoundary.row7_counts.2, State.probtripBoundary_txn]

/-- Rows 7 to 9 wait exactly for what is due above them. -/
theorem State.closeBoundary_rest {s : State} (hroot : s.isRoot = false) (h : s.txn.due.rest = true) :
    s.closeBoundary.txn.due.rest = s.closeBoundary.rowsDue := by
  have habove := s.closeBoundary_keeps.2.2.1 hroot
  have hrows : s.closeBoundary.rowsDue = s.rowsDue := by
    have hdue := congrArg (fun x : Txn =>
      x.due.island || x.due.rollback || x.due.apply || x.due.txnTimeout || x.due.probationEnd) habove
    exact hdue
  rw [hrows]
  unfold State.closeBoundary
  rw [h]
  cases hr : s.rowsDue with
  | true => exact h
  | false => exact State.takeRest_rest hroot

/-- What closing a boundary leaves of what the rows have set, in a device that is not the root. -/
structure Closed (v t : State) : Prop where
  power : t.power = v.power
  clock : t.clock = v.clock
  chan : t.chan = v.chan
  cells : t.mem.cells = v.mem.cells
  above : t.txn.aboveRest = v.txn.aboveRest
  rest : t.txn.due.rest = t.rowsDue
  chain : t.chainView = v.chainView

theorem State.closeBoundary_closed {v : State} (hroot : v.isRoot = false) (hrest : v.txn.due.rest = true) :
    Closed v v.closeBoundary := by
  obtain ⟨hheld, -, habove, -⟩ := v.closeBoundary_keeps
  exact ⟨congrArg Held.power hheld, congrArg Held.clock hheld, congrArg Held.chan hheld, congrArg Held.cells hheld, habove hroot,
    State.closeBoundary_rest hroot hrest, State.closeBoundary_chainView hroot⟩

/-! ## Missed ticks (R390, R391) -/

theorem State.missedTick_of_standalone {s : State} (h : s.power.role = .standalone) : s.missedTick = (false, s) := by
  have hpast : s.pastJoin = false := by
    unfold State.pastJoin
    rw [h]
    rfl
  unfold State.missedTick
  rw [hpast]
  rfl

theorem State.setChainTxn_moves (s : State) (c : Chain) (x : Txn) :
    s.onlyMoves { s with chain := c, txn := x } [.chain, .port, .txn] := by
  intro p hp
  cases p <;> simp_all [State.agree]

/-- The boundary of a tick in a device that follows the root: what it counts of a missed frame (R390, R391). -/
structure Missed (s u : State) (falls : Bool) : Prop where
  moves : s.onlyMoves u [.chain, .port, .txn]
  txn : u.txn = { s.txn with due := { s.txn.due with island := falls } }
  falls : falls = true ↔ s.chain.synced = false ∧ s.chain.island = false ∧ 3 ≤ s.chain.missed
  missed : u.chain.missed =
    if s.chain.synced = true then 0 else if s.chain.island = true then s.chain.missed else s.chain.missed + 1
  counted : u.port.counter[7] = if s.chain.synced = true then s.port.counter[7] else s.port.counter[7] + 1
  chain : { u.chain with missed := 0 } = { s.chain with missed := 0 }

theorem State.missedTick_missed {s : State} (hpast : s.pastJoin = true) (hroot : s.isRoot = false)
    (hdue : s.txn.due.island = false) : Missed s s.missedTick.2 s.missedTick.1 := by
  have hsame (b : Bool) (hb : b = false) : s.txn = { s.txn with due := { s.txn.due with island := b } } := by
    rw [hb, ← hdue]
  unfold State.missedTick
  rw [hpast, hroot]
  dsimp only
  rw [Bool.not_true, Bool.false_or, if_neg Bool.false_ne_true]
  split
  · next hsync =>
    exact ⟨State.onlyMoves_mono (s.setChain_moves _) (by decide), hsame _ rfl, by simp [hsync], by simp [hsync],
      by simp [hsync], rfl⟩
  · next hsync =>
    split
    · next hisland =>
      exact ⟨State.onlyMoves_mono (s.bump_moves 7) (by decide), hsame _ rfl, by simp [hisland],
        by simp [State.bump, hsync, hisland], by simp [State.bump, hsync], rfl⟩
    · next hisland =>
      refine ⟨State.onlyMoves_trans (State.onlyMoves_mono (s.bump_moves 7) (by decide)) (State.setChainTxn_moves _ _ _), rfl, ?_, ?_,
        by simp [State.bump, hsync], rfl⟩
      · rw [decide_eq_true_iff]
        exact ⟨fun h => ⟨Bool.eq_false_of_not_eq_true hsync, Bool.eq_false_of_not_eq_true hisland, Nat.le_of_succ_le_succ h⟩,
          fun h => Nat.succ_le_succ h.2.2⟩
      · rw [if_neg hsync, if_neg hisland]

/-- Whether a validated shadow applies at a boundary, in a device of its own (R147). -/
theorem State.applyDue_standalone {s : State} (h : s.joined = false) : s.applyDue = true ↔
    s.txn.state = .pending ∧ s.txn.validated = true ∧ s.txn.closedAt + 4096 ≤ s.clock.clk ∧
      ∃ img, s.txn.shadow = some img ∧ ((img.configure s.txn.selMode s.txn.selVar).needsDram = false ∨ s.mem.awake = true) := by
  unfold State.applyDue
  rw [h]
  cases hs : s.txn.shadow with
  | none => simp
  | some img => simp [and_assoc]

theorem State.applyDue_joined {s : State} (h : s.joined = true) : s.applyDue = true ↔
    s.txn.state = .pending ∧ s.txn.validated = true ∧ s.chain.commitDue = true := by
  unfold State.applyDue
  rw [h]
  simp [and_assoc]

theorem State.joined_of_role {s : State} (h : s.power.role = .standalone) : s.joined = false := by
  unfold State.joined
  rw [h]
  rfl

theorem State.joined_of_pastJoin {s : State} (h : s.pastJoin = true) : s.joined = true := by
  unfold State.pastJoin at h
  unfold State.joined
  simp only [Bool.and_eq_true, Bool.or_eq_true] at h ⊢
  exact ⟨h.1.1, h.1.2.symm⟩

/-- Settles O31: a quiet boundary is reached, its rows set what is due, and rows 7 to 9 wait for that. -/
theorem tickBoundaryRows : Obligations.TickBoundaryRows := by
  unfold Obligations.TickBoundaryRows
  refine ⟨fun s obs hquiet hrole => ?_, fun s obs hquiet hpast hroot => ?_⟩
  · obtain ⟨hexec, hm, hpower, -, hsr, hcells, hframe, hclk⟩ := exec_tickBoundary_quiet hquiet
    obtain ⟨-, -, -, -, hdue, -, hdefaults, -⟩ := hquiet
    have htxn : (s.atRows obs).txn = s.txn := hm .txn (by decide)
    have hchan : (s.atRows obs).chan = s.chan := hm .chan (by decide)
    generalize s.atRows obs = w at *
    have hrole' : w.power.role = .standalone := by rw [hpower]; exact hrole
    have hjoined := State.joined_of_role hrole'
    have hfollows : w.followsRoot = false := by
      unfold State.followsRoot
      rw [hjoined]
      rfl
    rw [State.settleRows_eq, State.missedTick_of_standalone hrole', Bool.or_self] at hexec
    dsimp only at hexec
    have hset := State.rowsSet_sets (s := w) (by rw [htxn]; exact hdefaults) false
    have hback : w.backAt false = s.txn.rollbackPending := by
      unfold State.backAt State.rollbackDue
      rw [hjoined, htxn]
      rfl
    have happly : w.applyAt false = (!s.txn.rollbackPending && w.applyDue) := by
      unfold State.applyAt
      rw [hback]
      rfl
    have hawake : w.mem.awake = s.mem.awake := by
      unfold Mem.awake
      rw [hsr]
    have hdueIff := State.applyDue_standalone hjoined
    rw [htxn, hawake] at hdueIff
    have hisland : w.txn.due.island = false := by rw [htxn, hdue]; rfl
    rw [hback, happly] at hset
    generalize w.rowsSet false = v at *
    have hv := State.closeBoundary_closed (v := v) (by
      unfold State.isRoot
      rw [hset.moves .power (by decide), hrole']
      rfl) hset.rest
    generalize v.closeBoundary = t at *
    have hpow : t.power = w.power := hv.power.trans (hset.moves .power (by decide))
    have hclock : t.clock = w.clock := hv.clock.trans (hset.moves .clock (by decide))
    have hrollT : t.txn.due.rollback = s.txn.rollbackPending := (congrArg (fun x => x.due.rollback) hv.above).trans hset.rollsBack
    have happlyT : t.txn.due.apply = (!s.txn.rollbackPending && w.applyDue) := (congrArg (fun x => x.due.apply) hv.above).trans hset.applies
    have hcountT : t.txn.count = v.txn.count := congrArg (fun x => x.count) hv.above
    have htimeT : t.txn.due.txnTimeout = v.txn.due.txnTimeout := congrArg (fun x => x.due.txnTimeout) hv.above
    have hprobT : t.txn.probation = v.txn.probation := congrArg (fun x => x.probation) hv.above
    have hendT : t.txn.due.probationEnd = v.txn.due.probationEnd := congrArg (fun x => x.due.probationEnd) hv.above
    have hcounted := hset.counted
    have huncounted := hset.uncounted
    have hprob := hset.probation
    have hend := hset.probationEnd
    rw [hisland, hfollows, htxn] at hcounted huncounted
    rw [hisland, htxn] at hprob
    rw [hisland, htxn] at hend
    refine ⟨t, hexec, hclock ▸ hframe, hclock ▸ hclk, by rw [hpow, hpower], hrollT, ?_, ?_, ?_, fun n hn => ?_, ?_, hv.rest, ?_, ?_, ?_, ?_⟩
    · rw [happlyT, Bool.and_eq_true, Bool.not_eq_true', hdueIff, hclock]
    · rw [hcountT]
      split
      · next h => exact (hcounted ⟨h.1, h.2, rfl, rfl⟩).1
      · next h => exact (huncounted fun h' => h ⟨h'.1, h'.2.1⟩).1
    · rw [htimeT]
      by_cases h : s.txn.state = .opened ∧ s.txn.rollbackPending = false
      · rw [(hcounted ⟨h.1, h.2, rfl, rfl⟩).2, beq_iff_eq]
        exact ⟨fun h' => ⟨h.1, h.2, h'⟩, fun h' => h'.2.2⟩
      · rw [(huncounted fun h' => h ⟨h'.1, h'.2.1⟩).2]
        exact ⟨nofun, fun h' => absurd ⟨h'.1, h'.2.1⟩ h⟩
    · rw [hprobT, hprob n hn, happlyT, hrollT, Bool.or_false]
    · rw [hendT, hend, happlyT, hrollT]
      simp
    · exact (congrArg (fun x => x.live) hv.above).trans (hset.live.trans (congrArg Txn.live htxn))
    · exact (congrArg (fun x => x.shadow) hv.above).trans (hset.shadow.trans (congrArg Txn.shadow htxn))
    · exact hv.chan.trans ((hset.moves .chan (by decide)).trans hchan)
    · exact hv.cells.trans ((congrArg Mem.cells (hset.moves .mem (by decide))).trans hcells)
  · obtain ⟨hexec, hm, hpower, hunlined, hsr, hcells, hframe, hclk⟩ := exec_tickBoundary_quiet hquiet
    obtain ⟨-, -, -, -, hdue, -, hdefaults, -⟩ := hquiet
    have htxn : (s.atRows obs).txn = s.txn := hm .txn (by decide)
    have hchan : (s.atRows obs).chan = s.chan := hm .chan (by decide)
    have hport : (s.atRows obs).port = s.port := hm .port (by decide)
    generalize s.atRows obs = w at *
    have hpastW : w.pastJoin = true := by
      rw [← hpast]
      unfold State.pastJoin State.isUp State.coreRuns
      rw [hpower]
      rfl
    have hrootW : w.isRoot = false := by
      rw [← hroot]
      unfold State.isRoot
      rw [hpower]
      rfl
    have hmiss := State.missedTick_missed hpastW hrootW (by rw [htxn, hdue]; rfl)
    rw [State.settleRows_eq, Bool.false_or] at hexec
    generalize w.missedTick.1 = falls at *
    generalize w.missedTick.2 = u at *
    have hset := State.rowsSet_sets (s := u) (by rw [hmiss.txn, htxn]; exact hdefaults) falls
    have hpowU : u.power = w.power := hmiss.moves .power (by decide)
    have htxnU : u.txn = { s.txn with due := { s.txn.due with island := falls } } := by rw [hmiss.txn, htxn]
    have hrootU : u.isRoot = false := by
      rw [← hrootW]
      unfold State.isRoot
      rw [hpowU]
    have hjoined : u.joined = true := by
      rw [← State.joined_of_pastJoin hpastW]
      unfold State.joined State.isUp
      rw [hpowU]
    have hfollows : u.followsRoot = true := by
      unfold State.followsRoot
      rw [hjoined, hrootU]
      rfl
    have hchainU {β : Type} (f : Chain → β) (h0 : ∀ c, f { c with missed := 0 } = f c) (h1 : ∀ c : Chain, f c.unlined = f c) :
        f u.chain = f s.chain := by
      rw [← h0 u.chain, hmiss.chain, h0, ← h1 w.chain, hunlined, h1]
    have hsync : w.chain.synced = s.chain.synced := congrArg (fun c => c.synced) hunlined
    have hisl : w.chain.island = s.chain.island := congrArg (fun c => c.island) hunlined
    have hmissed : w.chain.missed = s.chain.missed := congrArg (fun c => c.missed) hunlined
    have hback : u.backAt falls = (!falls && s.chain.rollbackDue) := by
      unfold State.backAt State.rollbackDue
      rw [hjoined, if_pos rfl, hchainU (fun c => c.rollbackDue) (fun _ => rfl) (fun _ => rfl)]
    have hdueIff := State.applyDue_joined hjoined
    rw [htxnU, hchainU (fun c => c.commitDue) (fun _ => rfl) (fun _ => rfl)] at hdueIff
    have hdiv := hset.chain
    rw [hchainU (fun c => c.commitDue) (fun _ => rfl) (fun _ => rfl), hchainU (fun c => c.diverged) (fun _ => rfl) (fun _ => rfl)] at hdiv
    obtain ⟨hcommit, hroll, hsynced, hmissedV, hdiverged⟩ := hdiv
    have hnocount : ¬ (u.txn.state = .opened ∧ u.backAt falls = false ∧ u.txn.due.island = false ∧ u.followsRoot = false) := by
      rw [hfollows]
      exact fun h => absurd h.2.2.2 nofun
    obtain ⟨hcount, htime⟩ := hset.uncounted hnocount
    have hislV : (u.rowsSet falls).txn.due.island = falls := hset.island.trans (by rw [htxnU])
    have happlyV : (u.rowsSet falls).txn.due.apply = u.applyAt falls := hset.applies
    have hbackV : (u.rowsSet falls).txn.due.rollback = u.backAt falls := hset.rollsBack
    have hmoves := hset.moves
    have hliveV := hset.live
    have hshadowV := hset.shadow
    have hv := State.closeBoundary_closed (v := u.rowsSet falls) (by
      rw [← hrootU]
      unfold State.isRoot
      rw [hmoves .power (by decide)]) hset.rest
    have happlyAt : u.applyAt falls = (!falls && !u.backAt falls && u.applyDue) := rfl
    generalize u.rowsSet falls = v at *
    generalize v.closeBoundary = t at *
    have hislT : t.txn.due.island = falls := (congrArg (fun x => x.due.island) hv.above).trans hislV
    have hbackT : t.txn.due.rollback = (!falls && s.chain.rollbackDue) :=
      (congrArg (fun x => x.due.rollback) hv.above).trans (hbackV.trans hback)
    have happlyT : t.txn.due.apply = u.applyAt falls := (congrArg (fun x => x.due.apply) hv.above).trans happlyV
    have hclock : t.clock = w.clock := hv.clock.trans ((hmoves .clock (by decide)).trans (hmiss.moves .clock (by decide)))
    have hchainT {β : Type} (f : Chain → β) (h0 : ∀ c, f { c with probtrip := 0 } = f c) : f t.chain = f v.chain := by
      have h := congrArg (fun x => f x.1) hv.chain
      exact ((h0 t.chain).symm.trans h).trans (h0 v.chain)
    refine ⟨t, hexec, hclock ▸ hframe, ?_, ?_, ?_, ?_, ?_, ?_, (hchainT (fun c => c.commitDue) fun _ => rfl).trans hcommit,
      (hchainT (fun c => c.rollbackDue) fun _ => rfl).trans hroll, (hchainT (fun c => c.synced) fun _ => rfl).trans hsynced,
      ?_, ?_, hv.rest, ?_, ?_, ?_, ?_⟩
    · rw [hislT, hmiss.falls, hsync, hisl, hmissed]
    · rw [hbackT, hislT, Bool.and_eq_true, Bool.not_eq_true']
    · rw [happlyT, happlyAt, hback, hislT]
      cases falls with
      | true => simp
      | false => simpa using fun _ => hdueIff
    · exact (hchainT (fun c => c.missed) fun _ => rfl).trans (hmissedV.trans (by rw [hmiss.missed, hsync, hisl, hmissed]))
    · have hcounter : t.port.counter[7] = v.port.counter[7] := congrArg Prod.snd hv.chain
      rw [hcounter, hmoves .port (by decide), hmiss.counted, hsync, hport]
    · rw [happlyT]
      exact (hchainT (fun c => c.diverged) fun _ => rfl).trans hdiverged
    · exact (congrArg (fun x => x.count) hv.above).trans (hcount.trans (by rw [htxnU]))
    · exact (congrArg (fun x => x.due.txnTimeout) hv.above).trans htime
    · exact (congrArg (fun x => x.live) hv.above).trans (hliveV.trans (by rw [htxnU]))
    · exact (congrArg (fun x => x.shadow) hv.above).trans (hshadowV.trans (by rw [htxnU]))
    · exact hv.chan.trans ((hmoves .chan (by decide)).trans ((hmiss.moves .chan (by decide)).trans hchan))
    · exact hv.cells.trans ((congrArg Mem.cells ((hmoves .mem (by decide)).trans (hmiss.moves .mem (by decide)))).trans hcells)

end Sys2Proof.Machine
end

section
/-! PROOFS. One player, its steps and its frames. -/

namespace Sys2Proof.Machine

/-! ## One player is changed -/

theorem onlyPlayer_trans {s t u : State} {p : PlayerNo} (h : onlyPlayer s t p) (k : onlyPlayer t u p) : onlyPlayer s u p :=
  ⟨fun q hq => (k.1 q hq).trans (h.1 q hq), State.onlyMoves_trans h.2 k.2⟩

theorem onlyPlayer_refl (s : State) (p : PlayerNo) : onlyPlayer s s p := ⟨fun _ _ => rfl, State.onlyMoves_refl _ _⟩

theorem State.onPlayer_get (s : State) (p : PlayerNo) (f : Player → Player) : (s.onPlayer p f).player[p] = f s.player[p] :=
  Vector.getElem_set_self _

theorem State.onPlayer_only (s : State) (p : PlayerNo) (f : Player → Player) : onlyPlayer s (s.onPlayer p f) p := by
  refine ⟨fun q hq => Vector.getElem_set_ne p.isLt q.isLt fun h => hq (Fin.ext h.symm), ?_⟩
  intro x hx
  cases x <;> simp_all [State.agree, State.onPlayer]

/-- What moves no player. -/
theorem onlyPlayer_of_pins {s t : State} (p : PlayerNo) (h : s.onlyMoves t [.pins, .sense]) : onlyPlayer s t p :=
  ⟨fun q _ => by rw [h .player (by decide)], State.onlyMoves_mono h (by decide)⟩

theorem State.marker_moves (s : State) (p : PlayerNo) (act : BitVec 2) : s.onlyMoves (s.marker p act) [.pins, .sense] := by
  have hpins (x : Pins) : s.onlyMoves { s with pins := x } [.pins, .sense] := State.onlyMoves_mono (s.setPins_moves x) (by decide)
  unfold State.marker State.setLevel State.pulse
  split
  · split
    · exact hpins _
    · exact hpins _
  · split
    · dsimp only
      split
      · exact hpins _
      · exact hpins _
    · exact State.onlyMoves_refl _ _

theorem State.leaveStep_moves (s : State) (p : PlayerNo) (st : Machine.Step) : s.onlyMoves (s.leaveStep p st) [.pins, .sense] := by
  unfold State.leaveStep
  split
  · exact s.marker_moves _ _
  · exact State.onlyMoves_refl _ _

/-- What a program and its segments are stands where only the players and pins move. -/
theorem enterable_congr {s t : State} {p : PlayerNo} {j : Nat} (h : s.onlyMoves t [.player, .pins, .sense]) (hj : enterable s p j) :
    enterable t p j := by
  have htxn : t.txn = s.txn := h .txn (by decide)
  have hmem : t.mem = s.mem := h .mem (by decide)
  have hpower : t.power = s.power := h .power (by decide)
  unfold enterable State.mustFallBack State.playSegments State.segment State.dramDown State.prog
  rw [htxn, hmem, hpower]
  exact hj

theorem State.prog_congr {s t : State} (h : t.txn = s.txn) (p : PlayerNo) : t.prog p = s.prog p := by
  unfold State.prog
  rw [h]

/-! ## A step begins (R185, R191) -/

/-- A player stands before the first frame of a step: its place is new, its state, loops and jumps are those that it had. -/
structure Enters (x y : Player) (j : Nat) : Prop where
  state : y.state = x.state
  pc : y.pc = BitVec.ofNat 10 j
  k : y.k = 0
  fallback : y.fallback = false
  loops : y.loops = x.loops
  pend : y.pend = x.pend
  jumpDue : y.jumpDue = x.jumpDue
  timeoutDue : y.timeoutDue = x.timeoutDue

theorem Prog.op_of_step {g : Prog} {i : Nat} (h : ((g.at? i).getD 0).op = .play) : g.op i = .play := by
  unfold Prog.op
  cases hg : g.at? i with
  | none =>
    rw [hg] at h
    exact absurd h (by decide)
  | some st =>
    rw [hg] at h
    exact h

/-- An enterable step is entered (R220). -/
theorem State.arrive_begins {s : State} {p : PlayerNo} {i : Nat} (fuel : Nat) (h : enterable s p i) :
    ∃ x, s.arrive (fuel + 1) p i = s.onPlayer p (fun _ => x) ∧ Enters s.player[p] x i := by
  obtain ⟨hlen, hplay⟩ := h
  unfold State.arrive
  dsimp only
  rw [if_neg (Nat.not_le.mpr hlen)]
  split
  · exact ⟨_, rfl, by split <;> exact ⟨rfl, rfl, rfl, rfl, rfl, rfl, rfl, rfl⟩⟩
  · exact ⟨_, rfl, by split <;> exact ⟨rfl, rfl, rfl, rfl, rfl, rfl, rfl, rfl⟩⟩
  · exact ⟨_, rfl, by split <;> exact ⟨rfl, rfl, rfl, rfl, rfl, rfl, rfl, rfl⟩⟩
  · exact ⟨_, rfl, by split <;> exact ⟨rfl, rfl, rfl, rfl, rfl, rfl, rfl, rfl⟩⟩
  · next hop =>
    rw [if_neg]
    · exact ⟨_, rfl, rfl, rfl, rfl, rfl, rfl, rfl, rfl, rfl⟩
    · intro hmust
      have hnot := hplay (Prog.op_of_step hop)
      exact absurd (hmust.symm.trans hnot) nofun
  all_goals exact ⟨_, rfl, rfl, rfl, rfl, rfl, rfl, rfl, rfl, rfl⟩

theorem State.arrive_enters {s : State} {p : PlayerNo} {i : Nat} (h : enterable s p i) :
    Enters s.player[p] (s.arrive 9 p i).player[p] i ∧ onlyPlayer s (s.arrive 9 p i) p := by
  obtain ⟨x, hx, hbegins⟩ := State.arrive_begins 8 h
  rw [hx, State.onPlayer_get]
  exact ⟨hbegins, s.onPlayer_only _ _⟩

/-- The successor of a step is entered (R186). -/
theorem State.proceed_enters {s : State} {p : PlayerNo} {i j : Nat} (hj : (s.prog p).successor i = some j) (h : enterable s p j) :
    Enters s.player[p] (s.proceed p i).player[p] j ∧ onlyPlayer s (s.proceed p i) p := by
  unfold State.proceed
  rw [hj]
  exact State.arrive_enters h

theorem State.proceed_finishes {s : State} {p : PlayerNo} {i : Nat} (h : (s.prog p).successor i = none) :
    (s.proceed p i).player[p] = (s.player[p]).finish ∧ onlyPlayer s (s.proceed p i) p := by
  unfold State.proceed
  rw [h]
  exact ⟨s.onPlayer_get _ _, s.onPlayer_only _ _⟩

/-- A jump enters its target with the loop stack cut to the target's depth, and no jump pending (R191, R194). -/
theorem State.jumpTo_enters {s : State} {p : PlayerNo} {j : Nat} (h : enterable s p j) :
    Enters { (s.player[p]).truncate ((s.prog p).depth j) with pend := none, jumpDue := false, timeoutDue := false }
        (s.jumpTo p j).player[p] j ∧ onlyPlayer s (s.jumpTo p j) p := by
  unfold State.jumpTo
  have honly := s.onPlayer_only p fun x =>
    { x.truncate ((s.prog p).depth j) with pend := none, jumpDue := false, timeoutDue := false }
  have hget := s.onPlayer_get p fun x =>
    { x.truncate ((s.prog p).depth j) with pend := none, jumpDue := false, timeoutDue := false }
  generalize (s.onPlayer p fun x =>
    { x.truncate ((s.prog p).depth j) with pend := none, jumpDue := false, timeoutDue := false }) = u at *
  obtain ⟨he, ho⟩ := State.arrive_enters (enterable_congr honly.2 h)
  rw [hget] at he
  exact ⟨he, onlyPlayer_trans honly ho⟩

/-- A running player that enters a step stands before it. -/
theorem standsBefore_of_enters {x : Player} {t : State} {p : PlayerNo} {j : Nat} (h : Enters x t.player[p] j)
    (hrun : x.state = .running) : standsBefore t p j := ⟨h.state.trans hrun, h.pc, h.k, h.fallback⟩

/-! ## The frame of a step in force (R199) -/

/-- The jump that is pending once the watch of this frame has looked (R192, R193). -/
def State.pendNow (s : State) (p : PlayerNo) : Option Pend :=
  if (s.player[p]).pend.isNone && (s.stepOf p).eve && s.sees p (s.stepOf p).evc then
    some { target := BitVec.ofNat 10 (s.stepOf p).evt, bnd := (s.stepOf p).bnd, depth := (s.prog p).depth (s.player[p]).pc.toNat }
  else (s.player[p]).pend

/-- What the first frame of a step does, and the marker of a PLAY. -/
def State.frameBegun (s : State) (p : PlayerNo) (o : Op) : State :=
  let s1 := if (s.player[p]).k = 0 ∧ !(s.stepOf p).mke then s.marker p (s.stepOf p).mka else s
  let s2 := if (s.player[p]).k = 0 ∧ (o = .tone ∨ o = .chirp) then s1.syncDetectors p else s1
  if o = .play then s2.playMarker p (s.stepOf p) else s2

/-- A player a frame on. -/
def State.moved (s : State) (p : PlayerNo) (o : Op) (y : Player) : Player :=
  let y1 := { y with phase := y.phase + y.word, unwrapped := y.unwrapped + y.word.toNat, k := y.k + 1 }
  match o with
  | .play => { y1 with pos := y1.pos + BitVec.ofNat 56 (s.stepOf p).ratio }
  | .chirp => { y1 with word := BitVec.ofInt 48 (((s.stepOf p).f0.toNat : Int) +
      (min y1.k ((((s.prog p).at? ((s.player[p]).pc.toNat + 1)).getD 0).dur - 1) : Nat) * (s.stepOf p).df) }
  | _ => y1

/-- The frame has passed for the player. -/
def State.frameMoved (s : State) (p : PlayerNo) (o : Op) : State :=
  (s.frameBegun p o).onPlayer p fun y => (s.moved p o y).record (s.clock.clk + 1)

/-- The frame has passed, and the watch has looked. -/
def State.frameSeen (s : State) (p : PlayerNo) (o : Op) : State :=
  (s.frameMoved p o).onPlayer p fun y => { y with pend := s.pendNow p }

/-- Whether the pass of a PLAY, or the DUR of another step, ends with this frame. -/
def State.frameEnds (s : State) (p : PlayerNo) (o : Op) : Bool :=
  match o with
  | .play => decide (s.passLength (s.stepOf p) * 2 ^ 24 ≤ (s.player[p]).pos.toNat + (s.stepOf p).ratio)
  | _ => ((s.prog p).lastAt (s.player[p]).pc.toNat).any (· ≤ (s.player[p]).k + 1)

/-- Whether the phase wraps in this frame. -/
def State.frameWraps (s : State) (p : PlayerNo) : Bool := decide (2 ^ 48 ≤ (s.player[p]).phase.toNat + (s.player[p]).word.toNat)

/-- Whether a PLAY falls back from the frame after this one. -/
def State.fallsBack (s : State) (p : PlayerNo) (o : Op) (t : State) : Bool :=
  o = .play && !(t.player[p]).fallback && (t.reachesBogged p (s.stepOf p) || t.tapsBogged p (s.stepOf p) || t.dramDown)

/-- The frame of a step in force, other than a WAIT. -/
theorem bookkeep_frame {s : State} {p : PlayerNo} {o : Op} (h : inForce s p o) (ho : o ≠ .wait) :
    s.bookkeep p o =
      if (s.pendNow p).any (fun d => boundaryMet d (s.stepOf p) (s.frameWraps p) (s.frameEnds p o)) then
        ((s.frameSeen p o).leaveStep p (s.stepOf p)).onPlayer p fun y => { y with jumpDue := true }
      else if s.frameEnds p o && !((s.pendNow p).any Pend.atSegment && (o == .tone || o == .chirp || o == .ramp)) then
        ((s.frameSeen p o).leaveStep p (s.stepOf p)).proceed p (s.player[p]).pc.toNat
      else if s.fallsBack p o (s.frameSeen p o) then
        ((s.frameSeen p o).meetBogged p (s.stepOf p)).fallBackNow p (s.stepOf p)
      else if o = .noise ∧ ((s.player[p]).k + 1) % ((s.stepOf p).hold + 1) = 0 then (s.frameSeen p o).onPlayer p Player.drawNoise
      else s.frameSeen p o := by
  obtain ⟨-, hstate, hop, hjump, htime⟩ := h
  have hgoes : ¬ ((s.player[p]).state ≠ .running ∨ (((s.prog p).at? (s.player[p]).pc.toNat).getD 0).op ≠ o ∨
      (s.player[p]).jumpDue = true ∨ (s.player[p]).timeoutDue = true) := by
    rw [hstate, hjump, htime]
    change ¬ (_ ∨ (s.stepOf p).op ≠ o ∨ _ ∨ _)
    rw [hop]
    simp
  unfold State.bookkeep
  dsimp only
  rw [if_neg hgoes, if_neg ho]
  rfl

/-- The frame of a WAIT in force (R197, R198). -/
theorem bookkeep_wait {s : State} {p : PlayerNo} (h : inForce s p .wait) :
    s.bookkeep p .wait =
      if s.sees p (s.stepOf p).evc then ((s.frameMoved p .wait).leaveStep p (s.stepOf p)).proceed p (s.player[p]).pc.toNat
      else if (s.stepOf p).tmo ≠ 0 ∧ (s.stepOf p).tmo ≤ (s.player[p]).k + 1 then
        (s.frameMoved p .wait).onPlayer p fun y => { y with timeoutDue := true }
      else s.frameMoved p .wait := by
  obtain ⟨-, hstate, hop, hjump, htime⟩ := h
  have hgoes : ¬ ((s.player[p]).state ≠ .running ∨ (((s.prog p).at? (s.player[p]).pc.toNat).getD 0).op ≠ .wait ∨
      (s.player[p]).jumpDue = true ∨ (s.player[p]).timeoutDue = true) := by
    rw [hstate, hjump, htime]
    change ¬ (_ ∨ (s.stepOf p).op ≠ .wait ∨ _ ∨ _)
    rw [hop]
    simp
  unfold State.bookkeep
  dsimp only
  rw [if_neg hgoes, if_pos rfl]
  rfl

theorem State.syncDetectors_moves (s : State) (p : PlayerNo) : s.onlyMoves (s.syncDetectors p) [.pins, .sense] :=
  State.onlyMoves_mono (s.setSense_moves _) (by decide)

/-- A player with another count of fields that mark nothing. -/
def Player.marked (x : Player) (b : BitVec 16) : Player := { x with badMarkers := b }

/-- The player as a frame finds it, but for a marker that marks nothing. -/
theorem State.frameBegun_player (s : State) (p : PlayerNo) (o : Op) :
    onlyPlayer s (s.frameBegun p o) p ∧ ∃ b, (s.frameBegun p o).player[p] = (s.player[p]).marked b := by
  unfold State.frameBegun
  extract_lets s1 s2
  have h2 : s.onlyMoves s2 [.pins, .sense] := by
    have h1 : s.onlyMoves s1 [.pins, .sense] := by
      unfold s1
      split
      · exact s.marker_moves _ _
      · exact State.onlyMoves_refl _ _
    unfold s2
    split
    · exact State.onlyMoves_trans h1 (s1.syncDetectors_moves p)
    · exact h1
  clear_value s2
  have hplayer : s2.player = s.player := h2 .player (by decide)
  split
  · unfold State.playMarker
    split
    · have hpulse : s2.onlyMoves (s2.pulse p) [.pins, .sense] := s2.marker_moves p 3
      have h3 := State.onlyMoves_trans h2 hpulse
      exact ⟨onlyPlayer_of_pins p h3, (s.player[p]).badMarkers, congrArg (fun v : Vector Player 16 => v[p]) (h3 .player (by decide))⟩
    · refine ⟨onlyPlayer_trans (onlyPlayer_of_pins p h2) (s2.onPlayer_only p _), (s.player[p]).badMarkers + 1, ?_⟩
      rw [State.onPlayer_get, hplayer]
      rfl
    · exact ⟨onlyPlayer_of_pins p h2, (s.player[p]).badMarkers, congrArg (fun v : Vector Player 16 => v[p]) hplayer⟩
  · exact ⟨onlyPlayer_of_pins p h2, (s.player[p]).badMarkers, congrArg (fun v : Vector Player 16 => v[p]) hplayer⟩

/-- What a frame leaves of its player, and what it moves on (R199, R200, R206, R214). -/
structure Framed (s : State) (p : PlayerNo) (o : Op) (y : Player) : Prop where
  state : y.state = (s.player[p]).state
  pc : y.pc = (s.player[p]).pc
  k : y.k = (s.player[p]).k + 1
  loops : y.loops = (s.player[p]).loops
  jumpDue : y.jumpDue = (s.player[p]).jumpDue
  timeoutDue : y.timeoutDue = (s.player[p]).timeoutDue
  fallback : y.fallback = (s.player[p]).fallback
  lanes : y.lanes = (s.player[p]).lanes
  pass : y.pass = (s.player[p]).pass
  followed : y.followed = (s.player[p]).followed
  leftBy : y.leftBy = (s.player[p]).leftBy
  phase : y.phase = (s.player[p]).phase + (s.player[p]).word
  pos : o = .play → y.pos = (s.player[p]).pos + BitVec.ofNat 56 (s.stepOf p).ratio
  word : o ≠ .chirp → y.word = (s.player[p]).word
  chirp : o = .chirp → y.word = BitVec.ofInt 48 (((s.stepOf p).f0.toNat : Int) +
    (min ((s.player[p]).k + 1) ((((s.prog p).at? ((s.player[p]).pc.toNat + 1)).getD 0).dur - 1) : Nat) * (s.stepOf p).df)

theorem State.frameMoved_framed (s : State) (p : PlayerNo) (o : Op) :
    onlyPlayer s (s.frameMoved p o) p ∧ Framed s p o (s.frameMoved p o).player[p] := by
  obtain ⟨honly, b, hb⟩ := s.frameBegun_player p o
  refine ⟨onlyPlayer_trans honly (State.onPlayer_only _ _ _), ?_⟩
  unfold State.frameMoved
  rw [State.onPlayer_get, hb]
  unfold State.moved Player.record
  refine ⟨?_, ?_, ?_, ?_, ?_, ?_, ?_, ?_, ?_, ?_, ?_, ?_, fun h => by subst h; rfl, fun h => ?_, fun h => by subst h; rfl⟩
  case refine_13 =>
    cases o with
    | chirp => exact absurd rfl h
    | _ => rfl
  all_goals cases o <;> rfl

/-- The frame has passed and the watch has looked: the jump that is pending is that of the watch, or the one that was. -/
theorem State.frameSeen_framed (s : State) (p : PlayerNo) (o : Op) :
    onlyPlayer s (s.frameSeen p o) p ∧ Framed s p o (s.frameSeen p o).player[p] ∧
      ((s.frameSeen p o).player[p]).pend = s.pendNow p := by
  obtain ⟨honly, hf⟩ := s.frameMoved_framed p o
  refine ⟨onlyPlayer_trans honly (State.onPlayer_only _ _ _), ?_, ?_⟩
  · unfold State.frameSeen
    rw [State.onPlayer_get]
    exact ⟨hf.1, hf.2, hf.3, hf.4, hf.5, hf.6, hf.7, hf.8, hf.9, hf.10, hf.11, hf.12, hf.13, hf.14, hf.15⟩
  · unfold State.frameSeen
    rw [State.onPlayer_get]

end Sys2Proof.Machine
end

section
/-! PROOFS. Frame steps and WAIT. -/

namespace Sys2Proof.Machine

/-! ## A frame step runs and ends (R183, R184, R186) -/

/-- A frame of a step that has a DUR, or may have one. -/
theorem exec_durStep {s : State} {p : PlayerNo} {c : Instr} {o : Op} (hc : durStep p c o) (h : inForce s p o) :
    exec c s = .next (s.bookkeep p o) := by
  have hplays := h.1
  have hrun (o : Op) : s.runFrame p o = s.bookkeep p o := if_pos hplays
  obtain ⟨rfl, rfl⟩ | ⟨rfl, rfl⟩ | ⟨rfl, rfl⟩ | ⟨rfl, rfl⟩ | ⟨rfl, rfl⟩ := hc
  all_goals exact congrArg Host.Outcome.next (hrun _)

theorem durStep_op {p : PlayerNo} {c : Instr} {o : Op} (hc : durStep p c o) :
    o = .tone ∨ o = .chirp ∨ o = .ramp ∨ o = .noise ∨ o = .level := by
  obtain ⟨-, rfl⟩ | ⟨-, rfl⟩ | ⟨-, rfl⟩ | ⟨-, rfl⟩ | ⟨-, rfl⟩ := hc <;> simp

theorem durStep_plain {p : PlayerNo} {c : Instr} {o : Op} (hc : durStep p c o) : o ≠ .wait ∧ o ≠ .play := by
  obtain rfl | rfl | rfl | rfl | rfl := durStep_op hc
  all_goals exact ⟨by decide, by decide⟩

theorem State.pendNow_none {s : State} {p : PlayerNo} (h : noWatch s p) : s.pendNow p = none := by
  obtain ⟨hpend, hquiet⟩ := h
  unfold State.pendNow
  rw [hpend]
  obtain h | h := hquiet
  · rw [h]
    rfl
  · rw [h, Bool.and_false]
    rfl

/-- Whether the DUR of a step that is no PLAY ends with this frame (R184). -/
theorem State.frameEnds_iff {s : State} {p : PlayerNo} {o : Op} (ho : o ≠ .play) : s.frameEnds p o = true ↔ lastOfDur s p := by
  have hany : s.frameEnds p o = ((s.prog p).lastAt (s.player[p]).pc.toNat).any (· ≤ (s.player[p]).k + 1) := by
    unfold State.frameEnds
    cases o with
    | play => exact absurd rfl ho
    | _ => rfl
  rw [hany]
  unfold lastOfDur
  cases (s.prog p).lastAt (s.player[p]).pc.toNat with
  | none => simp
  | some d => simp

theorem State.fallsBack_other {s t : State} {p : PlayerNo} {o : Op} (ho : o ≠ .play) : s.fallsBack p o t = false := by
  unfold State.fallsBack
  rw [decide_eq_false ho]
  rfl

/-- What a drawn value of the noise generator leaves of its player. -/
theorem Framed.drawNoise {s : State} {p : PlayerNo} {o : Op} {y : Player} (h : Framed s p o y) : Framed s p o y.drawNoise :=
  ⟨h.1, h.2, h.3, h.4, h.5, h.6, h.7, h.8, h.9, h.10, h.11, h.12, h.13, h.14, h.15⟩

/-- A frame that meets no boundary and is not the last: the step stays in force. -/
theorem bookkeep_stays {s : State} {p : PlayerNo} {o : Op} (h : inForce s p o) (hwait : o ≠ .wait) (hplay : o ≠ .play)
    (hmet : (s.pendNow p).any (fun d => boundaryMet d (s.stepOf p) (s.frameWraps p) (s.frameEnds p o)) = false)
    (hstays : (s.frameEnds p o && !((s.pendNow p).any Pend.atSegment && (o == .tone || o == .chirp || o == .ramp))) = false) :
    onlyPlayer s (s.bookkeep p o) p ∧ Framed s p o (s.bookkeep p o).player[p] ∧ ((s.bookkeep p o).player[p]).pend = s.pendNow p := by
  obtain ⟨honly, hframed, hpend⟩ := s.frameSeen_framed p o
  rw [bookkeep_frame h hwait, hmet, hstays, State.fallsBack_other hplay, if_neg Bool.false_ne_true, if_neg Bool.false_ne_true,
    if_neg Bool.false_ne_true]
  split
  · rw [State.onPlayer_get]
    exact ⟨onlyPlayer_trans honly (State.onPlayer_only _ _ _), hframed.drawNoise, hpend⟩
  · exact ⟨honly, hframed, hpend⟩

/-- A step that is left in this frame, its marker action taken. -/
def State.frameLeft (s : State) (p : PlayerNo) (o : Op) : State := (s.frameSeen p o).leaveStep p (s.stepOf p)

theorem State.frameLeft_framed (s : State) (p : PlayerNo) (o : Op) :
    onlyPlayer s (s.frameLeft p o) p ∧ Framed s p o (s.frameLeft p o).player[p] ∧
      ((s.frameLeft p o).player[p]).pend = s.pendNow p := by
  obtain ⟨honly, hframed, hpend⟩ := s.frameSeen_framed p o
  unfold State.frameLeft
  rw [State.leaveStep_player]
  exact ⟨onlyPlayer_trans honly (onlyPlayer_of_pins p (State.leaveStep_moves _ _ _)), hframed, hpend⟩

/-- A player whose step ends with this frame and that no jump keeps goes on (R184, R186). -/
theorem bookkeep_ends {s : State} {p : PlayerNo} {o : Op} (h : inForce s p o) (hwait : o ≠ .wait) (hpend : s.pendNow p = none)
    (hends : s.frameEnds p o = true) : s.bookkeep p o = (s.frameLeft p o).proceed p (s.player[p]).pc.toNat := by
  rw [bookkeep_frame h hwait, hpend, hends, Option.any_none, Option.any_none, if_neg Bool.false_ne_true]
  exact if_pos rfl

/-- A player that goes on from a frame stands before the step's successor. -/
theorem State.proceed_framed {s u : State} {p : PlayerNo} {o : Op} {j : Nat} (hrun : (s.player[p]).state = .running)
    (honly : onlyPlayer s u p) (hframed : Framed s p o u.player[p])
    (hj : (s.prog p).successor (s.player[p]).pc.toNat = some j) (henter : enterable s p j) :
    standsBefore (u.proceed p (s.player[p]).pc.toNat) p j ∧ onlyPlayer s (u.proceed p (s.player[p]).pc.toNat) p := by
  have hprog : u.prog p = s.prog p := State.prog_congr (honly.2 .txn (by decide)) p
  obtain ⟨he, ho⟩ := State.proceed_enters (s := u) (i := (s.player[p]).pc.toNat) (by rw [hprog]; exact hj)
    (enterable_congr honly.2 henter)
  exact ⟨standsBefore_of_enters he (hframed.state.trans hrun), onlyPlayer_trans honly ho⟩

/-- Settles O42: a frame that is not the last moves the player on, and the last leads to the successor. -/
theorem frameStepRuns : Obligations.FrameStepRuns := by
  unfold Obligations.FrameStepRuns
  refine ⟨fun s p c o hc h hquiet hlast => ?_, fun s p c o d hc h hquiet hlast hd => ⟨fun j hj henter => ?_, fun hj => ?_⟩⟩
  · obtain ⟨hwait, hplay⟩ := durStep_plain hc
    have hpend := State.pendNow_none hquiet
    have hgoes : s.frameEnds p o = false := by
      rw [← Bool.not_eq_true, State.frameEnds_iff hplay]
      rintro ⟨d, hd, hle⟩
      exact absurd (hlast d hd) (Nat.not_lt.mpr hle)
    obtain ⟨honly, hf, -⟩ := bookkeep_stays h hwait hplay (by rw [hpend]; rfl) (by rw [hgoes]; rfl)
    refine ⟨_, exec_durStep hc h, hf.state.trans h.2.1, hf.pc, hf.k, hf.phase, fun ho => hf.word ?_, hf.chirp, hf.loops, honly⟩
    obtain rfl | rfl := ho <;> decide
  · obtain ⟨hwait, hplay⟩ := durStep_plain hc
    obtain ⟨honly, hf, -⟩ := s.frameLeft_framed p o
    obtain ⟨hstands, ho⟩ := State.proceed_framed h.2.1 honly hf hj henter
    rw [← bookkeep_ends h hwait (State.pendNow_none hquiet) ((State.frameEnds_iff hplay).mpr ⟨d, hlast, hd⟩)] at hstands ho
    exact ⟨_, exec_durStep hc h, hstands, ho⟩
  · obtain ⟨hwait, hplay⟩ := durStep_plain hc
    obtain ⟨honly, hf, -⟩ := s.frameLeft_framed p o
    have hprog : (s.frameLeft p o).prog p = s.prog p := State.prog_congr (honly.2 .txn (by decide)) p
    obtain ⟨hfin, ho⟩ := State.proceed_finishes (s := s.frameLeft p o) (p := p) (i := (s.player[p]).pc.toNat) (by rw [hprog]; exact hj)
    refine ⟨_, exec_durStep hc h, ?_, ?_⟩
    · rw [bookkeep_ends h hwait (State.pendNow_none hquiet) ((State.frameEnds_iff hplay).mpr ⟨d, hlast, hd⟩), hfin]
      rfl
    · rw [bookkeep_ends h hwait (State.pendNow_none hquiet) ((State.frameEnds_iff hplay).mpr ⟨d, hlast, hd⟩)]
      exact onlyPlayer_trans honly ho

/-! ## WAIT (R197, R198) -/

theorem exec_wait {s : State} {p : PlayerNo} (h : inForce s p .wait) : exec (.wait p) s = .next (s.bookkeep p .wait) :=
  congrArg Host.Outcome.next (if_pos h.1 : s.runFrame p .wait = s.bookkeep p .wait)

/-- Settles O43: a WAIT stays, follows its event, or is left for TOT when its time has run. -/
theorem waitFollowsItsEvent : Obligations.WaitFollowsItsEvent := by
  unfold Obligations.WaitFollowsItsEvent
  refine ⟨fun s p h hsees htmo => ?_, fun s p j h hsees hj henter => ?_, fun s p h hsees htmo hran => ?_,
    fun s p hplays hrun hdue henter => ?_⟩
  · obtain ⟨honly, hf⟩ := s.frameMoved_framed p .wait
    have hstays : s.bookkeep p .wait = s.frameMoved p .wait := by
      rw [bookkeep_wait h, hsees, if_neg Bool.false_ne_true]
      refine if_neg fun hover => ?_
      obtain h0 | hlt := htmo
      · exact hover.1 h0
      · exact absurd hlt (Nat.not_lt.mpr hover.2)
    refine ⟨_, exec_wait h, ?_⟩
    rw [hstays]
    exact ⟨hf.state.trans h.2.1, hf.pc, hf.k, hf.timeoutDue.trans h.2.2.2.2, honly⟩
  · obtain ⟨honly, hf⟩ := s.frameMoved_framed p .wait
    have hleft := (s.frameMoved p .wait).leaveStep_moves p (s.stepOf p)
    have hplayer := (s.frameMoved p .wait).leaveStep_player p (s.stepOf p)
    obtain ⟨hstands, ho⟩ := State.proceed_framed h.2.1 (onlyPlayer_trans honly (onlyPlayer_of_pins p hleft))
      (by rw [hplayer]; exact hf) hj henter
    refine ⟨_, exec_wait h, ?_⟩
    rw [bookkeep_wait h, if_pos hsees]
    exact ⟨hstands, ho⟩
  · obtain ⟨honly, -⟩ := s.frameMoved_framed p .wait
    refine ⟨_, exec_wait h, ?_⟩
    rw [bookkeep_wait h, hsees, if_neg Bool.false_ne_true, if_pos ⟨htmo, hran⟩, State.onPlayer_get]
    exact ⟨rfl, onlyPlayer_trans honly (State.onPlayer_only _ _ _)⟩
  · have hexec : exec (.waitTimeout p) s = .next ((s.leaveStep p (s.stepOf p)).jumpTo p (s.stepOf p).tot) := by
      refine if_pos ?_
      rw [hplays, hrun, hdue]
      rfl
    have hleft := s.leaveStep_moves p (s.stepOf p)
    have hplayer := s.leaveStep_player p (s.stepOf p)
    obtain ⟨he, ho⟩ := State.jumpTo_enters (enterable_congr (State.onlyMoves_mono hleft (by decide)) henter)
    exact ⟨_, hexec, standsBefore_of_enters he (by rw [hplayer]; exact hrun), he.timeoutDue,
      onlyPlayer_trans (onlyPlayer_of_pins p hleft) ho⟩

end Sys2Proof.Machine
end

section
/-! PROOFS. Control steps, and what the lanes ask for. -/

namespace Sys2Proof.Machine

/-! ## Control steps (R185 to R191) -/

theorem State.standsAt_runs {s : State} {p : PlayerNo} {o : Op} (h : s.standsAt p o = true) : (s.player[p]).state = .running := by
  unfold State.standsAt at h
  simp only [Bool.and_eq_true, beq_iff_eq] at h
  exact h.1.2

/-- The player of a control step, which has passed it with other loops. -/
def State.passedWith (s : State) (p : PlayerNo) (loops : List (BitVec 24)) : State :=
  (s.passControl p).onPlayer p fun x => { x with loops := loops }

theorem State.passControl_only (s : State) (p : PlayerNo) :
    onlyPlayer s (s.passControl p) p ∧ (s.passControl p).player[p] = { s.player[p] with followed := (s.player[p]).followed + 1 } :=
  ⟨s.onPlayer_only _ _, s.onPlayer_get _ _⟩

theorem State.passedWith_only (s : State) (p : PlayerNo) (loops : List (BitVec 24)) :
    onlyPlayer s (s.passedWith p loops) p ∧
      (s.passedWith p loops).player[p] = { s.player[p] with followed := (s.player[p]).followed + 1, loops := loops } := by
  unfold State.passedWith
  refine ⟨onlyPlayer_trans (s.passControl_only p).1 (State.onPlayer_only _ _ _), ?_⟩
  rw [State.onPlayer_get, (s.passControl_only p).2]

/-- A player that passes a control step enters the next one with the loops that the step leaves. -/
theorem State.passedWith_arrives {s : State} {p : PlayerNo} {j : Nat} (loops : List (BitVec 24))
    (hrun : (s.player[p]).state = .running) (h : enterable s p j) :
    standsBefore ((s.passedWith p loops).arrive 9 p j) p j ∧ (((s.passedWith p loops).arrive 9 p j).player[p]).loops = loops ∧
      onlyPlayer s ((s.passedWith p loops).arrive 9 p j) p := by
  obtain ⟨honly, hget⟩ := s.passedWith_only p loops
  obtain ⟨he, ho⟩ := State.arrive_enters (enterable_congr honly.2 h)
  rw [hget] at he
  exact ⟨standsBefore_of_enters he hrun, he.loops, onlyPlayer_trans honly ho⟩

theorem State.passedWith_proceeds {s : State} {p : PlayerNo} {i j : Nat} (loops : List (BitVec 24))
    (hj : (s.prog p).successor i = some j) :
    (s.passedWith p loops).proceed p i = (s.passedWith p loops).arrive 9 p j := by
  have hprog : (s.passedWith p loops).prog p = s.prog p :=
    State.prog_congr ((s.passedWith_only p loops).1.2 .txn (by decide)) p
  unfold State.proceed
  rw [hprog, hj]

/-- A jump of a player that has passed a control step (R191). -/
theorem State.passControl_jumps {s : State} {p : PlayerNo} {j : Nat} (hrun : (s.player[p]).state = .running) (h : enterable s p j) :
    standsBefore ((s.passControl p).jumpTo p j) p j ∧ (((s.passControl p).jumpTo p j).player[p]).pend = none ∧
      (((s.passControl p).jumpTo p j).player[p]).loops =
        (s.player[p]).loops.drop ((s.player[p]).loops.length - (s.prog p).depth j) ∧
      onlyPlayer s ((s.passControl p).jumpTo p j) p := by
  obtain ⟨honly, hget⟩ := s.passControl_only p
  have hprog : (s.passControl p).prog p = s.prog p := State.prog_congr (honly.2 .txn (by decide)) p
  obtain ⟨he, ho⟩ := State.jumpTo_enters (enterable_congr honly.2 h)
  rw [hget, hprog] at he
  exact ⟨standsBefore_of_enters he hrun, he.pend, he.loops, onlyPlayer_trans honly ho⟩

/-- NEXT in its loop: the jump that replaces it, the body again, or the step after it (R190, R194). -/
theorem State.settleNext_eq {s : State} {p : PlayerNo} {l : Nat} {top : BitVec 24} {outer : List (BitVec 24)}
    (hl : (s.prog p).loopOf (s.player[p]).pc.toNat = some l) (hloops : (s.player[p]).loops = top :: outer) :
    s.settleNext p =
      if (s.player[p]).pend.any (Pend.replaces · ((s.prog p).depth (s.player[p]).pc.toNat)) then
        (s.passControl p).jumpTo p ((s.player[p]).pend.elim 0 fun d => d.target.toNat)
      else if top = 0 then (s.passControl p).arrive 9 p (l + 1)
      else if top = 1 then (s.passedWith p outer).proceed p (s.player[p]).pc.toNat
      else (s.passedWith p ((top - 1) :: outer)).arrive 9 p (l + 1) := by
  unfold State.settleNext
  dsimp only
  rw [hl, hloops]
  rfl

/-- A jump that does not replace this NEXT leaves it as it is (Table 6.4). -/
theorem replaces_none {s : State} {p : PlayerNo}
    (h : ∀ d, (s.player[p]).pend = some d → d.bnd ≠ 2 ∨ d.depth ≠ (s.prog p).depth (s.player[p]).pc.toNat + 1) :
    (s.player[p]).pend.any (Pend.replaces · ((s.prog p).depth (s.player[p]).pc.toNat)) = false := by
  cases hp : (s.player[p]).pend with
  | none => rfl
  | some d =>
    have hd := h d hp
    rw [Option.any_some]
    unfold Pend.replaces
    obtain hb | hdepth := hd
    · rw [beq_false_of_ne hb]
      rfl
    · rw [beq_false_of_ne hdepth, Bool.and_false]

/-- A player whose loops a control step leaves as they are. -/
theorem State.passedWith_same {s : State} {p : PlayerNo} {loops : List (BitVec 24)} (h : (s.player[p]).loops = loops) :
    s.passedWith p loops = s.passControl p := by
  unfold State.passedWith State.passControl State.onPlayer
  subst h
  simp

/-- Settles O44: LOOP pushes, and NEXT goes back, leaves its loop, or is replaced. -/
theorem loopAndNext : Obligations.LoopAndNext := by
  unfold Obligations.LoopAndNext
  refine ⟨fun s p j h hj henter => ?_, fun s p l top outer h hpend hl hloops htop henter => ?_,
    fun s p l j outer h hpend hl hloops hj henter => ?_, fun s p d l h hpend hbnd hdepth hl hloops henter => ?_⟩
  · have hexec : exec (.loop p) s = .next (s.settleLoop p) := if_pos h
    have hsettle : s.settleLoop p = (s.passedWith p ((s.stepOf p).count :: (s.player[p]).loops)).proceed p (s.player[p]).pc.toNat := by
      unfold State.settleLoop State.passedWith State.passControl State.onPlayer
      simp
    rw [hsettle, State.passedWith_proceeds _ hj] at hexec
    exact ⟨_, hexec, State.passedWith_arrives _ (State.standsAt_runs h) henter⟩
  · have hexec : exec (.next p) s = .next (s.settleNext p) := if_pos h
    rw [State.settleNext_eq hl hloops, replaces_none hpend, if_neg Bool.false_ne_true] at hexec
    by_cases h0 : top = 0
    · rw [if_pos h0, ← State.passedWith_same hloops] at hexec
      rw [if_pos h0, ← h0]
      exact ⟨_, hexec, State.passedWith_arrives _ (State.standsAt_runs h) henter⟩
    · rw [if_neg h0, if_neg htop] at hexec
      rw [if_neg h0]
      exact ⟨_, hexec, State.passedWith_arrives _ (State.standsAt_runs h) henter⟩
  · have hexec : exec (.next p) s = .next (s.settleNext p) := if_pos h
    rw [State.settleNext_eq hl hloops, replaces_none hpend, if_neg Bool.false_ne_true, if_neg (by decide), if_pos rfl,
      State.passedWith_proceeds _ hj] at hexec
    exact ⟨_, hexec, State.passedWith_arrives _ (State.standsAt_runs h) henter⟩
  · have hexec : exec (.next p) s = .next (s.settleNext p) := if_pos h
    obtain ⟨top, outer, hcons⟩ := List.exists_cons_of_ne_nil hloops
    have hreplaces : d.replaces ((s.prog p).depth (s.player[p]).pc.toNat) = true := by
      unfold Pend.replaces
      rw [hbnd, hdepth]
      simp
    rw [State.settleNext_eq hl hcons, hpend, Option.any_some, if_pos hreplaces] at hexec
    exact ⟨_, hexec, State.passControl_jumps (State.standsAt_runs h) henter⟩

/-! ## What the lanes ask for (R221, R297, R309) -/

/-- A player apart from what its lanes hold and ask for, and the events raised for it in this frame. -/
def Player.unfed (x : Player) : Player := { x with lanes := Player.initial.lanes, raisedNow := 0 }

theorem Player.unfed_lanes (x : Player) (l : Vector Prefetch 64) : ({ x with lanes := l } : Player).unfed = x.unfed := rfl

theorem Player.unfed_unasked (x : Player) : x.unasked.unfed = x.unfed := Player.unfed_lanes x _

/-- What the requests of the lanes leave. -/
structure AsksLines (s t : State) : Prop where
  moves : s.onlyMoves t [.mem, .player]
  cells : t.mem.cells = s.mem.cells
  players (q : PlayerNo) : (t.player[q]).unfed = (s.player[q]).unfed

theorem AsksLines.refl (s : State) : AsksLines s s := ⟨State.onlyMoves_refl _ _, rfl, fun _ => rfl⟩

theorem AsksLines.trans {s t u : State} (h : AsksLines s t) (k : AsksLines t u) : AsksLines s u :=
  ⟨State.onlyMoves_trans h.moves k.moves, k.cells.trans h.cells, fun q => (k.players q).trans (h.players q)⟩

theorem State.unfed_of_unqueued {s t : State} (h : (t.unqueued).2 = (s.unqueued).2) (q : PlayerNo) :
    (t.player[q]).unfed = (s.player[q]).unfed := by
  have hq := congrArg (fun v : Vector Player 16 => (v[q]).unfed) h
  unfold State.unqueued at hq
  dsimp only at hq
  rw [mapAll_get, mapAll_get, Player.unfed_unasked, Player.unfed_unasked] at hq
  exact hq

theorem State.askRead_asksLines (s : State) (port : MemPort) (a : LineAddr) (owner : BitVec 16) (kind : ReadKind) :
    AsksLines s (s.askRead port a owner kind) :=
  ⟨s.askRead_moves _ _ _ _, s.askRead_cells _ _ _ _,
    State.unfed_of_unqueued ((congrArg Prod.snd (s.askRead_unqueued port a owner kind)).trans rfl)⟩

theorem State.onPlayer_asksLines (s : State) (p : PlayerNo) {f : Player → Player} (h : ∀ x, (f x).unfed = x.unfed) :
    AsksLines s (s.onPlayer p f) := by
  refine ⟨?_, rfl, fun q => ?_⟩
  · intro x hx
    cases x <;> simp_all [State.agree, State.onPlayer]
  · by_cases hq : q = p
    · subst hq
      rw [State.onPlayer_get, h]
    · rw [(s.onPlayer_only p f).1 q hq]

theorem State.raiseFor_asksLines (s : State) (code : Nat) (who : PlayerNo → Bool) : AsksLines s (s.raiseFor code who) := by
  refine ⟨?_, rfl, fun q => ?_⟩
  · intro x hx
    cases x <;> simp_all [State.agree, State.raiseFor]
  · unfold State.raiseFor
    dsimp only
    rw [mapAll_get]
    split <;> rfl

theorem State.walkList_asksLines (s : State) (g : Segment) (j : Nat) : AsksLines s (s.walkList g j) := by
  unfold State.walkList
  dsimp only
  split
  · split
    · exact AsksLines.refl s
    · exact s.askRead_asksLines _ _ _ _
  · exact AsksLines.refl s

theorem State.askLane_asksLines (s : State) (p : PlayerNo) (st : Machine.Step) (i : Nat) (n : Chan) :
    AsksLines s (s.askLane p st i n) := by
  unfold State.askLane
  dsimp only
  split
  · exact AsksLines.refl s
  · split
    · exact AsksLines.refl s
    · split
      · exact (s.onPlayer_asksLines p (fun x => Player.unfed_lanes x _)).trans (State.raiseFor_asksLines _ _ _)
      · split
        · exact AsksLines.refl s
        · have hasked := fun (f : Player → Player) (hf : ∀ x, (f x).unfed = x.unfed) (a : LineAddr) (owner : BitVec 16) (kind : ReadKind) =>
            (s.onPlayer_asksLines p hf).trans (State.askRead_asksLines _ .p0 a owner kind)
          split
          · refine AsksLines.trans ?_ (State.walkList_asksLines _ _ _)
            exact hasked _ (fun x => Player.unfed_lanes x _) _ _ _
          · exact hasked _ (fun x => Player.unfed_lanes x _) _ _ _

theorem State.askEach_asksLines (s : State) (p : PlayerNo) (st : Machine.Step) (l : List (Chan × Nat)) :
    AsksLines s (l.foldl (fun s e => s.askLane p st e.2 e.1) s) := by
  induction l generalizing s with
  | nil => exact AsksLines.refl s
  | cons e l ih => exact (s.askLane_asksLines p st e.2 e.1).trans (ih _)

theorem State.askLines_asksLines (s : State) (p : PlayerNo) : AsksLines s (s.askLines p) := by
  unfold State.askLines
  dsimp only
  split
  · generalize (if (s.stepOf p).lanes = true then s.txn.live.lanes p else (s.txn.live.lanes p).take 1).zipIdx = l
    exact State.askEach_asksLines s p (s.stepOf p) l
  · exact AsksLines.refl s

end Sys2Proof.Machine
end

section
/-! PROOFS. Jumps and END. -/

namespace Sys2Proof.Machine

/-! ## Pending jumps (R192 to R196, Table 6.4) -/

theorem State.pendNow_some {s : State} {p : PlayerNo} {d : Pend} (h : pendingThen s p d) : s.pendNow p = some d := by
  unfold State.pendNow
  obtain h | ⟨hnone, heve, hsees, rfl⟩ := h
  · rw [h]
    rfl
  · rw [hnone, heve, hsees]
    rfl

theorem Pend.atSegment_iff (d : Pend) : d.atSegment = true ↔ forSegment d := by
  unfold Pend.atSegment forSegment
  simp

theorem State.frameWraps_iff (s : State) (p : PlayerNo) : s.frameWraps p = true ↔ phaseWraps s p := by
  unfold State.frameWraps phaseWraps
  rw [decide_eq_true_iff]

theorem State.frameEnds_play (s : State) (p : PlayerNo) : s.frameEnds p .play = true ↔ passEnds s p := by
  unfold State.frameEnds passEnds
  rw [decide_eq_true_iff]

/-- The steps that take frames, but for WAIT (R183). -/
def Op.plays (o : Op) : Prop := (o = .tone ∨ o = .chirp ∨ o = .ramp) ∨ (o = .noise ∨ o = .level) ∨ o = .play

theorem Op.plays_of_command {p : PlayerNo} {c : Instr} {o : Op} (h : durStep p c o ∨ c = .play p ∧ o = .play) : o.plays := by
  obtain h | ⟨-, rfl⟩ := h
  · obtain rfl | rfl | rfl | rfl | rfl := durStep_op h
    · exact .inl (.inl rfl)
    · exact .inl (.inr (.inl rfl))
    · exact .inl (.inr (.inr rfl))
    · exact .inr (.inl (.inl rfl))
    · exact .inr (.inl (.inr rfl))
  · exact .inr (.inr rfl)

theorem Op.plays_ne_wait {o : Op} (h : o.plays) : o ≠ .wait := by
  rintro rfl
  simp [Op.plays] at h

/-- Table 6.4: the boundary of a jump is met in this frame. -/
theorem boundaryMet_iff {s : State} {p : PlayerNo} {o : Op} {d : Pend} (hop : (s.stepOf p).op = o) (ho : o.plays) :
    boundaryMet d (s.stepOf p) (s.frameWraps p) (s.frameEnds p o) = true ↔ boundaryHere s p o d := by
  unfold boundaryHere
  by_cases h0 : d.bnd = 0
  · unfold boundaryMet
    rw [if_pos h0]
    exact ⟨fun _ => .inl h0, fun _ => rfl⟩
  · have h0' : ¬ d.bnd = 0#2 := h0
    unfold boundaryMet
    rw [if_neg h0]
    by_cases hseg : d.atSegment = true
    · have hfor := (Pend.atSegment_iff d).mp hseg
      rw [if_pos hseg, hop]
      obtain (rfl | rfl | rfl) | (rfl | rfl) | rfl := ho
      · simp [h0', hfor, State.frameWraps_iff]
      · simp [h0', hfor, State.frameWraps_iff]
      · simp [h0', hfor, State.frameWraps_iff]
      · simp [h0', hfor, State.frameEnds_iff (s := s) (p := p) (o := .noise) (by decide)]
      · simp [h0', hfor, State.frameEnds_iff (s := s) (p := p) (o := .level) (by decide)]
      · simp [h0', hfor, State.frameEnds_play]
    · have hfor : ¬ forSegment d := fun h => hseg ((Pend.atSegment_iff d).mpr h)
      rw [if_neg hseg]
      simp [h0', hfor]

/-- A frame that meets the boundary of the pending jump: the jump is due, and the step is left (R194). -/
theorem bookkeep_meets {s : State} {p : PlayerNo} {o : Op} {d : Pend} (h : inForce s p o) (ho : o.plays)
    (hpend : pendingThen s p d) (hmet : boundaryHere s p o d) :
    onlyPlayer s (s.bookkeep p o) p ∧ ((s.bookkeep p o).player[p]).jumpDue = true ∧ ((s.bookkeep p o).player[p]).pend = some d ∧
      ((s.bookkeep p o).player[p]).state = .running ∧ ((s.bookkeep p o).player[p]).pc = (s.player[p]).pc := by
  obtain ⟨honly, hf, hp⟩ := s.frameLeft_framed p o
  rw [bookkeep_frame h (Op.plays_ne_wait ho), State.pendNow_some hpend, Option.any_some,
    if_pos ((boundaryMet_iff h.2.2.1 ho).mpr hmet), ← State.frameLeft, State.onPlayer_get]
  exact ⟨onlyPlayer_trans honly (State.onPlayer_only _ _ _), rfl, hp.trans (State.pendNow_some hpend), hf.state.trans h.2.1, hf.pc⟩

theorem exec_play {s : State} {p : PlayerNo} (h : inForce s p .play) :
    exec (.play p) s = .next ((s.bookkeep p .play).askLines p) := by
  obtain ⟨hplays, hrun, hop, -⟩ := h
  refine if_pos ?_
  rw [hplays, hrun, hop]
  rfl

/-- What the requests of the lanes leave of a player's place. -/
theorem AsksLines.place {s t : State} (h : AsksLines s t) (q : PlayerNo) :
    (t.player[q]).state = (s.player[q]).state ∧ (t.player[q]).pc = (s.player[q]).pc ∧ (t.player[q]).k = (s.player[q]).k ∧
      (t.player[q]).pos = (s.player[q]).pos ∧ (t.player[q]).fallback = (s.player[q]).fallback ∧
      (t.player[q]).pend = (s.player[q]).pend ∧ (t.player[q]).jumpDue = (s.player[q]).jumpDue := by
  have hfield {β : Type} (f : Player → β) (hf : ∀ x : Player, f x.unfed = f x) : f t.player[q] = f s.player[q] :=
    (hf _).symm.trans ((congrArg f (h.players q)).trans (hf _))
  exact ⟨hfield Player.state fun _ => rfl, hfield Player.pc fun _ => rfl, hfield Player.k fun _ => rfl,
    hfield Player.pos fun _ => rfl, hfield Player.fallback fun _ => rfl, hfield Player.pend fun _ => rfl,
    hfield Player.jumpDue fun _ => rfl⟩

/-- A jump that waits keeps the step in force until its boundary (R194, R195). -/
theorem waits_stays {s : State} {p : PlayerNo} {c : Instr} {o : Op} {d : Pend} (hc : durStep p c o) (h : inForce s p o)
    (hwaits : forSegment d ∧ (o = .tone ∨ o = .chirp ∨ o = .ramp) ∧ ¬phaseWraps s p ∨
      forSegment d ∧ (o = .noise ∨ o = .level) ∧ (s.stepOf p).dur ≠ 0 ∧ ¬lastOfDur s p ∨
      d.bnd = 2 ∧ d.depth ≠ 0 ∧ ¬lastOfDur s p) :
    ¬ boundaryHere s p o d ∧ (s.frameEnds p o && !(d.atSegment && (o == .tone || o == .chirp || o == .ramp))) = false := by
  obtain ⟨-, hplay⟩ := durStep_plain hc
  have hends := State.frameEnds_iff (s := s) (p := p) hplay
  have hsegment (hf : forSegment d) : d.bnd ≠ 0 := by
    obtain hf | ⟨hf, -⟩ := hf <;> rw [hf] <;> decide
  obtain ⟨hf, ho, hwrap⟩ | ⟨hf, ho, hdur, hlast⟩ | ⟨hb, hd, hlast⟩ := hwaits
  · refine ⟨?_, ?_⟩
    · rintro (h0 | ⟨-, ⟨-, hw⟩ | ⟨hn, -⟩ | ⟨hp, -⟩⟩)
      · exact hsegment hf h0
      · exact hwrap hw
      · obtain rfl | rfl | rfl := ho <;> simp at hn
      · exact hplay hp
    · have hkeeps : (o == .tone || o == .chirp || o == .ramp) = true := by obtain rfl | rfl | rfl := ho <;> rfl
      rw [(Pend.atSegment_iff d).mpr hf, hkeeps]
      simp
  · refine ⟨?_, ?_⟩
    · rintro (h0 | ⟨-, ⟨ht, -⟩ | ⟨-, hn⟩ | ⟨hp, -⟩⟩)
      · exact hsegment hf h0
      · obtain rfl | rfl := ho <;> simp at ht
      · exact hn.elim hdur hlast
      · exact hplay hp
    · rw [Bool.eq_false_of_not_eq_true fun he => hlast (hends.mp he)]
      rfl
  · refine ⟨?_, ?_⟩
    · rintro (h0 | ⟨hf, -⟩)
      · rw [hb] at h0
        exact absurd h0 (by decide)
      · obtain h1 | ⟨-, h2⟩ := hf
        · rw [hb] at h1
          exact absurd h1 (by decide)
        · exact hd h2
    · rw [Bool.eq_false_of_not_eq_true fun he => hlast (hends.mp he)]
      rfl

/-- Settles O45: a pending jump is due at its boundary and waits until then, and each jump enters its target. -/
theorem jumpsAndEnd : Obligations.JumpsAndEnd := by
  unfold Obligations.JumpsAndEnd
  refine ⟨fun s p c o d hc h hpend hmet => ?_, fun s p c o d hc h hpend hwaits => ?_, fun s p h henter => ?_,
    fun s p d hplays hrun hdue hpend henter => ?_, fun s p h => ?_⟩
  · obtain ⟨honly, hdue, hp, hrun, hpc⟩ := bookkeep_meets h (Op.plays_of_command hc) hpend hmet
    obtain hc | ⟨rfl, rfl⟩ := hc
    · exact ⟨_, exec_durStep hc h, hdue, hp, hrun, hpc, fun _ => honly⟩
    · obtain ⟨hs, hc, -, -, -, hp', hd⟩ := ((s.bookkeep p .play).askLines_asksLines p).place p
      exact ⟨_, exec_play h, hd.trans hdue, hp'.trans hp, hs.trans hrun, hc.trans hpc, fun hne => absurd rfl hne⟩
  · obtain ⟨hwait, hplay⟩ := durStep_plain hc
    have hp := State.pendNow_some hpend
    obtain ⟨hnot, hstays⟩ := waits_stays hc h hwaits
    have hmet : boundaryMet d (s.stepOf p) (s.frameWraps p) (s.frameEnds p o) = false :=
      Bool.eq_false_of_not_eq_true fun hm => hnot ((boundaryMet_iff h.2.2.1 (Op.plays_of_command (.inl hc))).mp hm)
    obtain ⟨honly, hf, hpend'⟩ := bookkeep_stays h hwait hplay (by rw [hp, Option.any_some, hmet]) (by rw [hp, Option.any_some, hstays])
    exact ⟨_, exec_durStep hc h, hf.jumpDue.trans h.2.2.2.1, hpend'.trans hp, hf.state.trans h.2.1, hf.pc, hf.k, honly⟩
  · have hexec : exec (.jump p) s = .next ((s.passControl p).jumpTo p (s.stepOf p).target) := if_pos h
    exact ⟨_, hexec, State.passControl_jumps (State.standsAt_runs h) henter⟩
  · have hexec : exec (.eventJump p) s = .next (s.jumpTo p d.target.toNat) := by
      change execEventJump p s = _
      unfold execEventJump
      dsimp only
      rw [hplays, hrun, hdue, hpend]
      rfl
    obtain ⟨he, ho⟩ := State.jumpTo_enters henter
    exact ⟨_, hexec, standsBefore_of_enters he hrun, he.pend, he.jumpDue, he.loops, ho⟩
  · have hexec : exec (.endStep p) s = .next ((s.passControl p).onPlayer p Player.finish) := if_pos h
    refine ⟨_, hexec, ?_⟩
    rw [State.onPlayer_get]
    exact ⟨rfl, rfl, onlyPlayer_trans (s.passControl_only p).1 (State.onPlayer_only _ _ _)⟩

end Sys2Proof.Machine
end

section
/-! PROOFS. PLAY, its fallbacks and its stops. -/

namespace Sys2Proof.Machine

/-! ## Fallbacks (R220 to R222, R529) -/

/-- A step that takes frames and is no PLAY is entered without a fallback. -/
theorem plainStep_enterable {s : State} {p : PlayerNo} {j : Nat} (h : plainStep s p j) : enterable s p j := by
  obtain ⟨hlen, hop⟩ := h
  refine ⟨hlen, fun hplay => ?_⟩
  rw [hplay] at hop
  simp at hop

/-- A fallback may lead to a step that takes frames and is no PLAY while its limit allows it (R529). -/
theorem mayFollow_of_plain {s : State} {p : PlayerNo} {t : Nat} (h : plainStep s p t) (hlim : (s.player[p]).followed < 8) :
    s.mayFollow p t = true := by
  have hland (stack : List Nat) : (s.prog p).landing 10 t stack 0 = some (t, 0) := by
    unfold Prog.landing
    obtain ⟨-, hop⟩ := h
    obtain hop | hop | hop | hop | hop | hop := hop <;> rw [hop]
  have hne : ((s.prog p).op t == .play) = false := by
    obtain ⟨-, hop⟩ := h
    obtain hop | hop | hop | hop | hop | hop := hop <;> rw [hop] <;> rfl
  have hdone : (s.player[p]).followed + 1 ≤ 8 := hlim
  unfold State.mayFollow
  dsimp only
  rw [hland]
  dsimp only
  rw [hne, Nat.add_zero, decide_eq_true hdone]
  rfl

theorem plainStep_congr {s t : State} {p : PlayerNo} {j : Nat} (h : t.txn = s.txn) (hj : plainStep s p j) : plainStep t p j := by
  unfold plainStep
  rw [State.prog_congr h]
  exact hj

/-- A player that goes to FBT with its loops cut to the depth of FBT. -/
def Player.fallsTo (x : Player) (depth : Nat) : Player :=
  { x.truncate depth with pend := none, jumpDue := false, followed := x.followed + 1, leftBy := x.pc :: x.leftBy }

/-- A player at the first frame of a PLAY, its lanes holding their segments' heads (R213, R303). -/
def State.playsFrom (s : State) (p : PlayerNo) (st : Machine.Step) (i : Nat) (x : Player) : Player :=
  let len := s.passLength st
  let y : Player := { x with pc := BitVec.ofNat 10 i, k := 0, fallback := false }
  Player.record { y with
    pos := 0, pass := y.pass + 1
    lanes := mapAll (fun n _ =>
      { held := min len 96, asked := min len 96, outstanding := false, bogged := false, wrong := s.headOf p st n }) y.lanes }
    (s.clock.clk + 1)

def State.playBegun (s : State) (p : PlayerNo) (st : Machine.Step) (i : Nat) : State := s.onPlayer p (s.playsFrom p st i)

theorem State.playBegun_enters (s : State) (p : PlayerNo) (st : Machine.Step) (i : Nat) :
    onlyPlayer s (s.playBegun p st i) p ∧ Enters s.player[p] (s.playBegun p st i).player[p] i ∧
      ((s.playBegun p st i).player[p]).followed = (s.player[p]).followed := by
  unfold State.playBegun
  rw [State.onPlayer_get]
  exact ⟨s.onPlayer_only _ _, ⟨rfl, rfl, rfl, rfl, rfl, rfl, rfl, rfl⟩, rfl⟩

/-- A PLAY that must fall back when it begins (R220): with FBK it goes to FBT where it may, and otherwise it stands there falling back. -/
theorem State.arrive_fallsBack {s : State} {p : PlayerNo} {i : Nat} {st : Machine.Step} (fuel : Nat)
    (hlen : i < (s.prog p).steps.length) (hst : (s.prog p).at? i = some st) (hop : st.op = .play)
    (hmust : s.mustFallBack p st = true) :
    s.arrive (fuel + 1) p i =
      if st.fbk && (s.playBegun p st i).mayFollow p st.fbt then
        ((s.playBegun p st i).onPlayer p fun x => x.fallsTo ((s.prog p).depth st.fbt)).arrive fuel p st.fbt
      else (s.playBegun p st i).onPlayer p fun x =>
        if st.fbk then { x with fallback := true, pend := none, jumpDue := false } else { x with fallback := true } := by
  have hmust' : (s.playBegun p st i).mustFallBack p st = true := by
    rw [← hmust]
    rfl
  have hplay : s.arrive (fuel + 1) p i =
      if (s.playBegun p st i).mustFallBack p st then
        if st.fbk && (s.playBegun p st i).mayFollow p st.fbt then
          ((s.playBegun p st i).onPlayer p fun x => x.fallsTo ((s.prog p).depth st.fbt)).arrive fuel p st.fbt
        else (s.playBegun p st i).onPlayer p fun x =>
          if st.fbk then { x with fallback := true, pend := none, jumpDue := false } else { x with fallback := true }
      else s.playBegun p st i := by
    rw [State.arrive]
    dsimp only
    rw [if_neg (Nat.not_le.mpr hlen), hst, Option.getD_some, hop]
    dsimp only
    rfl
  rw [hplay, if_pos hmust']

/-- A jump to a PLAY that must fall back (R220). -/
theorem State.jumpTo_fallsBack {s : State} {p : PlayerNo} {i : Nat} {st : Machine.Step} (hrun : (s.player[p]).state = .running)
    (hlen : i < (s.prog p).steps.length) (hst : (s.prog p).at? i = some st) (hop : st.op = .play)
    (hmust : s.mustFallBack p st = true) :
    (st.fbk = false → ((s.jumpTo p i).player[p]).state = .running ∧ ((s.jumpTo p i).player[p]).pc = BitVec.ofNat 10 i ∧
      ((s.jumpTo p i).player[p]).k = 0 ∧ ((s.jumpTo p i).player[p]).fallback = true ∧ onlyPlayer s (s.jumpTo p i) p) ∧
    (st.fbk = true → plainStep s p st.fbt → (s.player[p]).followed < 8 →
      standsBefore (s.jumpTo p i) p st.fbt ∧ ((s.jumpTo p i).player[p]).pend = none ∧
        ((s.jumpTo p i).player[p]).loops.length ≤ (s.prog p).depth st.fbt ∧ onlyPlayer s (s.jumpTo p i) p) := by
  unfold State.jumpTo
  have honly := s.onPlayer_only p fun x =>
    { x.truncate ((s.prog p).depth i) with pend := none, jumpDue := false, timeoutDue := false }
  have hget := s.onPlayer_get p fun x =>
    { x.truncate ((s.prog p).depth i) with pend := none, jumpDue := false, timeoutDue := false }
  generalize (s.onPlayer p fun x =>
    { x.truncate ((s.prog p).depth i) with pend := none, jumpDue := false, timeoutDue := false }) = u at *
  have hrunU : (u.player[p]).state = .running := by rw [hget]; exact hrun
  have hfolU : (u.player[p]).followed = (s.player[p]).followed := by rw [hget]; rfl
  have htxn : u.txn = s.txn := honly.2 .txn (by decide)
  have hprog : u.prog p = s.prog p := State.prog_congr htxn p
  have hmustU : u.mustFallBack p st = true := by
    rw [← hmust]
    unfold State.mustFallBack State.playSegments State.segment State.dramDown
    rw [htxn, honly.2 .mem (by decide), honly.2 .power (by decide)]
  have hfalls := State.arrive_fallsBack (s := u) (p := p) 8 (by rw [hprog]; exact hlen) (by rw [hprog]; exact hst) hop hmustU
  obtain ⟨hbegun, he, hfol⟩ := u.playBegun_enters p st i
  generalize u.playBegun p st i = v at *
  rw [hprog] at hfalls
  rw [hfalls]
  have hv := onlyPlayer_trans honly hbegun
  refine ⟨fun hfbk => ?_, fun hfbk hplain hlim => ?_⟩
  · rw [hfbk, Bool.false_and, if_neg Bool.false_ne_true, State.onPlayer_get]
    exact ⟨he.state.trans hrunU, he.pc, he.k, rfl, onlyPlayer_trans hv (State.onPlayer_only _ _ _)⟩
  · have hmay : v.mayFollow p st.fbt = true :=
      mayFollow_of_plain (plainStep_congr (hv.2 .txn (by decide)) hplain) (by rw [hfol, hfolU]; exact hlim)
    rw [hfbk, hmay, Bool.true_and, if_pos rfl]
    have hleft := v.onPlayer_only p fun x => x.fallsTo ((s.prog p).depth st.fbt)
    have hleftGet := v.onPlayer_get p fun x => x.fallsTo ((s.prog p).depth st.fbt)
    generalize (v.onPlayer p fun x => x.fallsTo ((s.prog p).depth st.fbt)) = w at *
    have hw := onlyPlayer_trans hv hleft
    obtain ⟨x, hx, hent⟩ := State.arrive_begins 7 (enterable_congr hw.2 (plainStep_enterable hplain))
    rw [hleftGet] at hent
    have hgetW := w.onPlayer_get p fun _ => x
    rw [← hx] at hgetW
    have hent' : Enters (v.player[p].fallsTo ((s.prog p).depth st.fbt)) (w.arrive 8 p st.fbt).player[p] st.fbt := hgetW.symm ▸ hent
    refine ⟨standsBefore_of_enters hent' (he.state.trans hrunU), hent'.pend, ?_, ?_⟩
    case refine_2 =>
      rw [hx]
      exact onlyPlayer_trans hw (State.onPlayer_only _ _ _)
    rw [hent'.loops]
    unfold Player.fallsTo Player.truncate
    dsimp only
    rw [List.length_drop]
    omega

/-! ## A frame of a PLAY (R214, R221) -/

/-- A frame of a PLAY that is not its last, and that meets no boundary. -/
theorem bookkeep_play {s : State} {p : PlayerNo} (h : inForce s p .play) (hquiet : noWatch s p) (hends : ¬passEnds s p) :
    s.bookkeep p .play =
      if s.fallsBack p .play (s.frameSeen p .play) then
        ((s.frameSeen p .play).meetBogged p (s.stepOf p)).fallBackNow p (s.stepOf p)
      else s.frameSeen p .play := by
  have hgoes : s.frameEnds p .play = false := Bool.eq_false_of_not_eq_true fun he => hends ((s.frameEnds_play p).mp he)
  rw [bookkeep_frame h (by decide), State.pendNow_none hquiet, hgoes, Option.any_none, if_neg Bool.false_ne_true, Bool.false_and,
    if_neg Bool.false_ne_true]
  refine ite_congr rfl (fun _ => rfl) fun _ => if_neg ?_
  simp

theorem State.dramDown_congr {s t : State} (h : t.power = s.power) : t.dramDown = s.dramDown := by
  unfold State.dramDown
  rw [h]

theorem State.playSegments_congr {s t : State} (h : t.txn = s.txn) (p : PlayerNo) (st : Machine.Step) :
    t.playSegments p st = s.playSegments p st := by
  unfold State.playSegments
  rw [h]

theorem State.segment_congr {s t : State} (h : t.mem = s.mem) (id : Nat) : t.segment id = s.segment id := by
  unfold State.segment
  rw [h]

/-- A segment that is not quarantined has no line that counts as listed (R338). -/
theorem State.tapsBogged_of_sound {s : State} {p : PlayerNo} {st : Machine.Step}
    (h : ∀ id ∈ s.playSegments p st, ∀ g, s.segment id = some g → g.state ≠ .quarantined) : s.tapsBogged p st = false := by
  unfold State.tapsBogged
  rw [List.any_eq_false]
  intro id hid hbog
  obtain ⟨g, hg, hbog⟩ := (Option.any_eq_true _ _).mp hbog
  obtain ⟨d, -, hd⟩ := List.any_eq_true.mp hbog
  unfold Mem.countsBogged at hd
  rw [beq_false_of_ne (h id hid g hg)] at hd
  exact Bool.false_ne_true hd

/-- A PLAY that is fed from memory goes on without a fallback. -/
theorem State.fallsBack_fed {s : State} {p : PlayerNo} (hdown : s.dramDown = false)
    (hlanes : ∀ n : Chan, ((s.player[p]).lanes[n]).bogged = false)
    (hsound : ∀ id ∈ s.playSegments p (s.stepOf p), ∀ g, s.segment id = some g → g.state ≠ .quarantined) :
    s.fallsBack p .play (s.frameSeen p .play) = false := by
  obtain ⟨honly, hf, -⟩ := s.frameSeen_framed p .play
  have htxn : (s.frameSeen p .play).txn = s.txn := honly.2 .txn (by decide)
  have hmem : (s.frameSeen p .play).mem = s.mem := honly.2 .mem (by decide)
  have hreach : (s.frameSeen p .play).reachesBogged p (s.stepOf p) = false := by
    unfold State.reachesBogged
    dsimp only
    rw [List.any_eq_false, hf.lanes]
    intro n _
    rw [hlanes n]
    exact Bool.false_ne_true
  have htaps : (s.frameSeen p .play).tapsBogged p (s.stepOf p) = false := by
    refine State.tapsBogged_of_sound fun id hid g hg => ?_
    rw [State.playSegments_congr htxn] at hid
    rw [State.segment_congr hmem] at hg
    exact hsound id hid g hg
  unfold State.fallsBack
  rw [hreach, htaps, State.dramDown_congr (honly.2 .power (by decide)), hdown, Bool.or_self, Bool.or_self, Bool.and_false]

/-- A PLAY whose lane reaches a line that it could not ask for, or whose fetch has stopped, falls back (R221, R222). -/
theorem State.fallsBack_unfed {s : State} {p : PlayerNo} (hfall : (s.player[p]).fallback = false)
    (hlacks : s.dramDown = true ∨ ∃ n ∈ s.txn.live.lanes p, ((s.player[p]).lanes[n]).bogged = true ∧
      ((s.player[p]).lanes[n]).held ≤
        min (((s.player[p]).pos + BitVec.ofNat 56 (s.stepOf p).ratio).toNat / 2 ^ 24 + 4) (s.passLength (s.stepOf p) - 1)) :
    s.fallsBack p .play (s.frameSeen p .play) = true := by
  obtain ⟨honly, hf, -⟩ := s.frameSeen_framed p .play
  have htxn : (s.frameSeen p .play).txn = s.txn := honly.2 .txn (by decide)
  unfold State.fallsBack
  rw [hf.fallback, hfall, State.dramDown_congr (honly.2 .power (by decide))]
  obtain hdown | ⟨n, hn, hbog, hheld⟩ := hlacks
  · rw [hdown]
    simp
  · have hreach : (s.frameSeen p .play).reachesBogged p (s.stepOf p) = true := by
      unfold State.reachesBogged
      dsimp only
      rw [List.any_eq_true, htxn, hf.lanes, hf.pos rfl]
      refine ⟨n, hn, ?_⟩
      have hlen : (s.frameSeen p .play).passLength (s.stepOf p) = s.passLength (s.stepOf p) := by
        unfold State.passLength
        rw [State.segment_congr (honly.2 .mem (by decide))]
      rw [hbog, hlen, Bool.true_and, decide_eq_true_iff]
      exact hheld
    rw [hreach]
    simp

theorem State.meetBogged_asksLines (s : State) (p : PlayerNo) (st : Machine.Step) : AsksLines s (s.meetBogged p st) := by
  unfold State.meetBogged
  split
  · exact s.raiseFor_asksLines _ _
  · exact AsksLines.refl s

/-- What the requests of the lanes leave of what a fallback asks of a player. -/
theorem AsksLines.followed {s t : State} (h : AsksLines s t) (q : PlayerNo) : (t.player[q]).followed = (s.player[q]).followed := by
  have hfollowed := congrArg Player.followed (h.players q)
  exact hfollowed

/-- A fallback to nominal (R221). -/
theorem State.fallBackNow_nominal {s : State} {p : PlayerNo} {st : Machine.Step} (h : st.fbk = false) :
    s.fallBackNow p st = s.onPlayer p fun x => { x with fallback := true } := by
  unfold State.fallBackNow
  rw [h, Bool.false_and, if_neg Bool.false_ne_true, if_neg Bool.false_ne_true]

/-- A fallback that goes to FBT (R222). -/
theorem State.fallBackNow_follows {s : State} {p : PlayerNo} {st : Machine.Step} (hrun : (s.player[p]).state = .running)
    (h : st.fbk = true) (hplain : plainStep s p st.fbt) (hlim : (s.player[p]).followed < 8) :
    standsBefore (s.fallBackNow p st) p st.fbt ∧ ((s.fallBackNow p st).player[p]).pend = none ∧
      onlyPlayer s (s.fallBackNow p st) p := by
  have hleft := s.leaveStep_moves p st
  have hplayer := s.leaveStep_player p st
  unfold State.fallBackNow
  rw [h, mayFollow_of_plain hplain hlim, if_pos (Bool.and_self true)]
  dsimp only
  generalize s.leaveStep p st = u at *
  have honly := onlyPlayer_trans (onlyPlayer_of_pins p hleft) (u.onPlayer_only p fun x =>
    { x with pend := none, jumpDue := false, followed := x.followed + 1, leftBy := x.pc :: x.leftBy })
  have hget := u.onPlayer_get p fun x =>
    { x with pend := none, jumpDue := false, followed := x.followed + 1, leftBy := x.pc :: x.leftBy }
  generalize (u.onPlayer p fun x =>
    { x with pend := none, jumpDue := false, followed := x.followed + 1, leftBy := x.pc :: x.leftBy }) = v at *
  obtain ⟨he, ho⟩ := State.jumpTo_enters (enterable_congr honly.2 (plainStep_enterable hplain))
  have hrunV : (v.player[p]).state = .running := by
    rw [hget, hplayer]
    exact hrun
  exact ⟨standsBefore_of_enters he hrunV, he.pend, onlyPlayer_trans honly ho⟩

/-- A PLAY that falls back in its pass (R221, R222). -/
theorem exec_play_fallsBack {s : State} {p : PlayerNo} (h : inForce s p .play) (hquiet : noWatch s p)
    (hfall : (s.player[p]).fallback = false) (hends : ¬passEnds s p)
    (hlacks : s.dramDown = true ∨ ∃ n ∈ s.txn.live.lanes p, ((s.player[p]).lanes[n]).bogged = true ∧
      ((s.player[p]).lanes[n]).held ≤
        min (((s.player[p]).pos + BitVec.ofNat 56 (s.stepOf p).ratio).toNat / 2 ^ 24 + 4) (s.passLength (s.stepOf p) - 1)) :
    ((s.stepOf p).fbk = false →
      ∃ t, exec (.play p) s = .next t ∧ (t.player[p]).state = .running ∧ (t.player[p]).pc = (s.player[p]).pc ∧
        (t.player[p]).k = (s.player[p]).k + 1 ∧ (t.player[p]).fallback = true ∧ t.chan = s.chan) ∧
    ((s.stepOf p).fbk = true → plainStep s p (s.stepOf p).fbt → (s.player[p]).followed < 8 →
      ∃ t, exec (.play p) s = .next t ∧ standsBefore t p (s.stepOf p).fbt ∧ (t.player[p]).pend = none ∧ t.chan = s.chan) := by
  have hexec := exec_play h
  rw [bookkeep_play h hquiet hends, State.fallsBack_unfed hfall hlacks, if_pos rfl] at hexec
  obtain ⟨honly, hf, -⟩ := s.frameSeen_framed p .play
  have hmeet := (s.frameSeen p .play).meetBogged_asksLines p (s.stepOf p)
  obtain ⟨hstate, hpc, hk, -, -, -, -⟩ := hmeet.place p
  have hfol := (hmeet.followed p).trans hf.followed
  have hchan : ((s.frameSeen p .play).meetBogged p (s.stepOf p)).chan = s.chan :=
    (hmeet.moves .chan (by decide)).trans (honly.2 .chan (by decide))
  have htxn : ((s.frameSeen p .play).meetBogged p (s.stepOf p)).txn = s.txn :=
    (hmeet.moves .txn (by decide)).trans (honly.2 .txn (by decide))
  generalize (s.frameSeen p .play).meetBogged p (s.stepOf p) = u at *
  have hrun := (hstate.trans hf.state).trans h.2.1
  refine ⟨fun hfbk => ?_, fun hfbk hplain hlim => ?_⟩
  · rw [State.fallBackNow_nominal hfbk] at hexec
    have hasks := (u.onPlayer p fun x => { x with fallback := true }).askLines_asksLines p
    obtain ⟨hs, hc, hk', -, hb, -, -⟩ := hasks.place p
    rw [State.onPlayer_get] at hs hc hk' hb
    exact ⟨_, hexec, hs.trans hrun, (hc.trans hpc).trans hf.pc, (hk'.trans hk).trans hf.k, hb, (hasks.moves .chan (by decide)).trans hchan⟩
  · obtain ⟨⟨hs, hc, hk, hb⟩, hpend, ho⟩ := State.fallBackNow_follows hrun hfbk (plainStep_congr htxn hplain) (by rw [hfol]; exact hlim)
    have hasks := (u.fallBackNow p (s.stepOf p)).askLines_asksLines p
    obtain ⟨hs', hc', hk', -, hb', hp', -⟩ := hasks.place p
    exact ⟨_, hexec, ⟨hs'.trans hs, hc'.trans hc, hk'.trans hk, hb'.trans hb⟩, hp'.trans hpend,
      ((hasks.moves .chan (by decide)).trans (ho.2 .chan (by decide))).trans hchan⟩

/-! ## A player stops (R225, R313) -/

theorem State.stopPlayer_stops (s : State) (p : PlayerNo) (cause : Fin 4) :
    ((s.stopPlayer p cause).player[p]) = { (s.player[p]).fresh with state := .stopped, cause := cause } ∧
      (s.stopPlayer p cause).power.fault 21 = true ∧
      (∀ n : Chan, s.boundTo p n = true →
        ((s.stopPlayer p cause).chan[n]).released = true ∨ ((s.stopPlayer p cause).chan[n]).retreated = true) ∧
      (∀ n : Chan, s.boundTo p n = false → (s.stopPlayer p cause).chan[n] = s.chan[n]) ∧
      (∀ q : PlayerNo, q ≠ p → (s.stopPlayer p cause).player[q] = s.player[q]) ∧
      (s.stopPlayer p cause).mem.cells = s.mem.cells := by
  unfold State.stopPlayer
  dsimp only
  have honly := s.onPlayer_only p fun x => { x.fresh with state := .stopped, cause := cause }
  have hget := s.onPlayer_get p fun x => { x.fresh with state := .stopped, cause := cause }
  generalize (s.onPlayer p fun x => { x.fresh with state := .stopped, cause := cause }) = u at *
  have hlog := u.logEvent_moves 4 (BitVec.ofNat 8 cause.val) (BitVec.ofNat 16 p.val) 0
  have hfault := (u.logEvent 4 (BitVec.ofNat 8 cause.val) (BitVec.ofNat 16 p.val)).beginFault_has (b := 21) (by decide)
  have hchan : ((u.logEvent 4 (BitVec.ofNat 8 cause.val) (BitVec.ofNat 16 p.val)).beginFault 21).chan = s.chan := by
    rw [State.beginFault_chan, State.logEvent_chan]
    exact honly.2 .chan (by decide)
  have hplayer : ((u.logEvent 4 (BitVec.ofNat 8 cause.val) (BitVec.ofNat 16 p.val)).beginFault 21).player = u.player := by
    rw [State.beginFault_player, State.logEvent_player]
  have hcells : ((u.logEvent 4 (BitVec.ofNat 8 cause.val) (BitVec.ofNat 16 p.val)).beginFault 21).mem.cells = s.mem.cells := by
    rw [State.beginFault_cells, State.logEvent_mem]
    exact congrArg Mem.cells (honly.2 .mem (by decide))
  generalize (u.logEvent 4 (BitVec.ofNat 8 cause.val) (BitVec.ofNat 16 p.val)).beginFault 21 = v at *
  have hretreat := v.retreat_moves (s.boundTo p)
  refine ⟨?_, ?_, fun n hn => State.retreat_scope hn, fun n hn => ?_, fun q hq => ?_, ?_⟩
  · rw [State.retreat_player, hplayer, hget]
  · rw [hretreat .power (by decide)]
    exact hfault
  · rw [State.retreat_get, hn, if_neg Bool.false_ne_true, hchan]
  · rw [State.retreat_player, hplayer, honly.1 q hq]
  · rw [hretreat .mem (by decide), hcells]

/-- Settles O46: PLAY advances while it is fed, goes on after its pass, falls back where it must, and stops at an error. -/
theorem playAdvancesAndStops : Obligations.PlayAdvancesAndStops := by
  unfold Obligations.PlayAdvancesAndStops
  refine ⟨fun s p h hquiet hdown hfall hlanes hsound hpass => ?_, fun s p j h hquiet hends hj henter => ?_,
    fun s p st hstands hlen hst hop hmust => ?_, fun s p h hquiet hfall hends hlacks => exec_play_fallsBack h hquiet hfall hends hlacks,
    fun s p cause hplays hrun hcause => ?_⟩
  · have hexec := exec_play h
    rw [bookkeep_play h hquiet (Nat.not_le.mpr hpass), State.fallsBack_fed hdown hlanes hsound, if_neg Bool.false_ne_true] at hexec
    obtain ⟨honly, hf, -⟩ := s.frameSeen_framed p .play
    have hasks := (s.frameSeen p .play).askLines_asksLines p
    obtain ⟨hs, hc, hk, hpos, -, -, -⟩ := hasks.place p
    exact ⟨_, hexec, (hs.trans hf.state).trans h.2.1, hc.trans hf.pc, hk.trans hf.k, hpos.trans (hf.pos rfl),
      hasks.cells.trans (congrArg Mem.cells (honly.2 .mem (by decide))), (hasks.moves .chan (by decide)).trans (honly.2 .chan (by decide)),
      (hasks.moves .txn (by decide)).trans (honly.2 .txn (by decide)), (hasks.moves .power (by decide)).trans (honly.2 .power (by decide))⟩
  · have hexec := exec_play h
    rw [bookkeep_ends h (by decide) (State.pendNow_none hquiet) ((s.frameEnds_play p).mpr hends)] at hexec
    obtain ⟨honly, hf, -⟩ := s.frameLeft_framed p .play
    obtain ⟨⟨hrun, hpc, hk, hfall⟩, ho⟩ := State.proceed_framed h.2.1 honly hf hj henter
    have hasks := ((s.frameLeft p .play).proceed p (s.player[p]).pc.toNat).askLines_asksLines p
    obtain ⟨hs, hc, hk', -, hb, -, -⟩ := hasks.place p
    exact ⟨_, hexec, ⟨hs.trans hrun, hc.trans hpc, hk'.trans hk, hb.trans hfall⟩,
      hasks.cells.trans (congrArg Mem.cells (ho.2 .mem (by decide))), (hasks.moves .chan (by decide)).trans (ho.2 .chan (by decide))⟩
  · have hexec : exec (.jump p) s = .next ((s.passControl p).jumpTo p (s.stepOf p).target) := if_pos hstands
    obtain ⟨honly, hget⟩ := s.passControl_only p
    have htxn : (s.passControl p).txn = s.txn := honly.2 .txn (by decide)
    have hprog : (s.passControl p).prog p = s.prog p := State.prog_congr htxn p
    have hrun : ((s.passControl p).player[p]).state = .running := by
      rw [hget]
      exact State.standsAt_runs hstands
    have hfol : ((s.passControl p).player[p]).followed = (s.player[p]).followed + 1 := congrArg Player.followed hget
    obtain ⟨hnominal, hfollows⟩ := State.jumpTo_fallsBack (i := (s.stepOf p).target) hrun (by rw [hprog]; exact hlen) (by rw [hprog]; exact hst)
      hop (hmust.symm ▸ rfl)
    refine ⟨fun hfbk => ?_, fun hfbk hplain hlim => ?_⟩
    · obtain ⟨h1, h2, h3, h4, ho⟩ := hnominal hfbk
      exact ⟨_, hexec, h1, h2, h3, h4, onlyPlayer_trans honly ho⟩
    · obtain ⟨h1, h2, h3, ho⟩ := hfollows hfbk (plainStep_congr htxn hplain) (by omega)
      rw [hprog] at h3
      exact ⟨_, hexec, h1, h2, h3, onlyPlayer_trans honly ho⟩
  · obtain ⟨hplayer, hfault, hbound, hother, hgoes, hcells⟩ := s.stopPlayer_stops p cause
    have hfinds : (s.plays && (s.player[p]).state == .running &&
        (cause == 1 || cause == 2 || (cause == 3 && s.prefetchEmpty p))) = true := by
      rw [hplays, hrun]
      obtain rfl | rfl | ⟨rfl, hempty⟩ := hcause
      · rfl
      · rfl
      · rw [hempty]
        rfl
    refine ⟨s.stopPlayer p cause, if_pos hfinds, ?_, ?_, ?_, ?_, hfault, hbound, hother, fun q hq => ?_, hcells⟩
    · rw [hplayer]
    · rw [hplayer]
    · rw [hplayer]
      rfl
    · rw [hplayer]
      rfl
    · unfold goesOn
      rw [hgoes q hq]
      exact ⟨rfl, rfl, rfl, rfl, rfl, rfl, rfl, rfl, fun _ => rfl⟩

end Sys2Proof.Machine
end

section
/-! PROOFS. Scrub, refresh and self-refresh. -/

namespace Sys2Proof.Machine

/-! ## The scrubber's schedule (R330, R331) -/

theorem State.onlyMoves_setMem (s : State) (m : Mem) : s.onlyMoves { s with mem := m } [.mem] := by
  intro x hx
  cases x <;> simp_all [State.agree]

/-- The state with the scrubber's position past its line. -/
def State.scrubNext (s : State) : State :=
  { s with mem := { s.mem with
      scrubPos := s.mem.scrubPos + 1, scrubDue := s.mem.scrubDue - s.scrubInterval,
      scrubSlot := (s.scrubIssued.1, s.scrubIssued.2 + 1) } }

theorem exec_scrubRead {s : State} (h : serves s) (hsquall : s.mem.squall = false) (hready : s.scrubReady = true) :
    exec .scrubRead s = .next
      (if s.mem.isProbeLine (lineAt s.mem.scrubPos) then s.scrubNext.passOver
      else s.scrubNext.askRead .p4 (lineAt s.mem.scrubPos) (s.mem.pageKind (lineAt s.mem.scrubPos).page).owner .scrub) := by
  obtain ⟨hruns, hawake⟩ := h
  change execScrubRead s = _
  unfold execScrubRead
  rw [hruns, hawake, hsquall, hready]
  refine (if_pos rfl).trans ?_
  dsimp only
  split <;> rfl

/-- A pass that is not over goes on. -/
theorem State.passOver_of_not {s : State} (h : s.mem.scrubPos < s.mem.lineCount ∨ s.mem.scrubbing = true) : s.passOver = s := by
  unfold State.passOver
  obtain h | h := h
  · rw [decide_eq_false (Nat.not_le.mpr h)]
    rfl
  · rw [h, Bool.not_true, Bool.and_false]
    rfl

/-- A pass that is over is counted, and the charges begin afresh. -/
theorem State.passOver_of_last {s : State} (hlast : s.mem.lineCount ≤ s.mem.scrubPos) (hread : s.mem.scrubbing = false) :
    s.passOver.mem.scrubPos = 0 ∧ s.passOver.mem.charged = [] ∧ s.passOver.port.counter[11] = s.port.counter[11] + 1 := by
  have hends : s.passOver = s.endPass := by
    unfold State.passOver
    rw [decide_eq_true hlast, hread]
    rfl
  rw [hends]
  unfold State.endPass
  refine ⟨rfl, rfl, ?_⟩
  dsimp only
  simp

theorem State.passOver_moves (s : State) : s.onlyMoves s.passOver [.mem, .port] ∧ s.passOver.mem.cells = s.mem.cells := by
  unfold State.passOver State.endPass
  split
  · refine ⟨?_, rfl⟩
    intro x hx
    cases x <;> simp_all [State.agree]
  · exact ⟨State.onlyMoves_refl _ _, rfl⟩

/-- A scrub read that is asked for leaves the schedule and the port as they are. -/
theorem State.askScrub_keeps (s : State) (a : LineAddr) (owner : BitVec 16) :
    (s.askRead .p4 a owner .scrub).mem.scrubPos = s.mem.scrubPos ∧ (s.askRead .p4 a owner .scrub).mem.scrubDue = s.mem.scrubDue := by
  have h := congrArg Prod.fst (s.askRead_unqueued .p4 a owner .scrub)
  have hm : (s.askRead .p4 a owner .scrub).mem.unqueued = s.mem.unqueued := h
  have hpos := congrArg Mem.scrubPos hm
  have hdue := congrArg Mem.scrubDue hm
  exact ⟨hpos, hdue⟩

/-- SCRUB_READ, when it is due (R330, R331). -/
theorem exec_scrubRead_takes {s : State} (h : serves s) (hsquall : s.mem.squall = false) (hready : s.scrubReady = true) :
    ∃ t, exec .scrubRead s = .next t ∧ t.mem.cells = s.mem.cells ∧ s.onlyMoves t [.mem, .player, .port] ∧
      (s.mem.isProbeLine (lineAt s.mem.scrubPos) = false →
        asked t .p4 .scrub (lineAt s.mem.scrubPos) ∧
        t.mem.scrubPos = s.mem.scrubPos + 1 ∧ t.mem.scrubDue = s.mem.scrubDue - s.scrubInterval ∧ t.port = s.port) ∧
      (s.mem.isProbeLine (lineAt s.mem.scrubPos) = true →
        ((s.mem.scrubPos + 1 < s.mem.lineCount ∨ s.mem.scrubbing = true) →
          t.mem.scrubPos = s.mem.scrubPos + 1 ∧ t.port = s.port) ∧
        (s.mem.lineCount ≤ s.mem.scrubPos + 1 → s.mem.scrubbing = false →
          t.mem.scrubPos = 0 ∧ t.mem.charged = [] ∧ t.port.counter[11] = s.port.counter[11] + 1)) := by
  have hnext : s.onlyMoves s.scrubNext [.mem] := s.onlyMoves_setMem _
  have hexec := exec_scrubRead h hsquall hready
  cases hprobe : s.mem.isProbeLine (lineAt s.mem.scrubPos) with
  | true =>
    rw [hprobe, if_pos rfl] at hexec
    obtain ⟨hmoves, hcells⟩ := s.scrubNext.passOver_moves
    refine ⟨_, hexec, hcells, State.onlyMoves_trans (State.onlyMoves_mono hnext (by decide)) (State.onlyMoves_mono hmoves (by decide)),
      nofun, fun _ => ⟨fun hgoes => ?_, fun hlast hread => State.passOver_of_last (s := s.scrubNext) hlast hread⟩⟩
    rw [State.passOver_of_not (s := s.scrubNext) hgoes]
    exact ⟨rfl, rfl⟩
  | false =>
    rw [hprobe, if_neg Bool.false_ne_true] at hexec
    have hasks := s.scrubNext.askRead_moves .p4 (lineAt s.mem.scrubPos) (s.mem.pageKind (lineAt s.mem.scrubPos).page).owner .scrub
    obtain ⟨hpos, hdue⟩ := s.scrubNext.askScrub_keeps (lineAt s.mem.scrubPos) (s.mem.pageKind (lineAt s.mem.scrubPos).page).owner
    exact ⟨_, hexec, s.scrubNext.askRead_cells _ _ _ _,
      State.onlyMoves_trans (State.onlyMoves_mono hnext (by decide)) (State.onlyMoves_mono hasks (by decide)),
      fun _ => ⟨(State.askRead_asked _ _ _ _ _ _ _ _).mpr (.inr ⟨rfl, rfl, rfl⟩), hpos, hdue, hasks .port (by decide)⟩, nofun⟩

/-! ## Refresh (R316) -/

theorem Vector.get_set_same {α : Type} {n : Nat} (v : Vector α n) (i : Fin n) (x : α) : (v.set i x)[i] = x := Vector.getElem_set_self _

/-- What a tREFI leaves of the postponed refresh of a rank and subchannel before it is judged. -/
def Mem.creditLeft (m : Mem) (i : Fin 4) : Vector Nat 4 :=
  if (m.credit[i]).toList.any (decide <| 4 < ·) then mapAll (fun _ n => n - 1) m.credit[i] else m.credit[i]

theorem exec_refreshDue {s : State} (h : serves s) {rank : Fin 2} (hrank : rank.val < s.mem.ranks) (sub : Fin 2) (busy : BitVec 4) :
    exec (.refreshDue rank sub busy) s = .next { s with mem := { s.mem with
      credit := s.mem.credit.set (rankSub rank sub) (mapAll (fun b n =>
        if s.mem.squall || busy.getLsbD b.val || s.mem.targets rank sub b.val then n + 1 else 0) (s.mem.creditLeft (rankSub rank sub)))
      refab := if (s.mem.credit[rankSub rank sub]).toList.any (decide <| 4 < ·) then
          s.mem.refab.set (rankSub rank sub) (s.mem.refab[rankSub rank sub] + 1) else s.mem.refab } } := by
  obtain ⟨hruns, hawake⟩ := h
  change execRefreshDue rank sub busy s = _
  unfold execRefreshDue
  rw [hruns, hawake, decide_eq_true hrank]
  rfl

/-- REFab is due exactly where an index stays postponed by more than 4. -/
theorem Vector.anyOver_iff (v : Vector Nat 4) : v.toList.any (decide <| 4 < ·) = true ↔ ∃ b : Fin 4, 4 < v[b] := by
  rw [List.any_eq_true]
  constructor
  · rintro ⟨n, hn, hlt⟩
    obtain ⟨i, hi, rfl⟩ := Vector.mem_iff_getElem.mp (Vector.mem_toList_iff.mp hn)
    exact ⟨⟨i, hi⟩, of_decide_eq_true hlt⟩
  · rintro ⟨b, hb⟩
    exact ⟨v[b], Vector.mem_toList_iff.mpr (Vector.getElem_mem b.isLt), decide_eq_true hb⟩

/-- Outside Squall every index that no read targets is paid. -/
theorem exec_refreshDue_pays {s : State} (h : serves s) {rank sub : Fin 2} (hrank : rank.val < s.mem.ranks)
    (hsquall : s.mem.squall = false) (hfree : ∀ b : Fin 4, s.mem.targets rank sub b.val = false) :
    ∃ t, exec (.refreshDue rank sub 0) s = .next t ∧ (∀ b : Fin 4, (t.mem.credit[rankSub rank sub])[b] = 0) ∧
      t.mem.cells = s.mem.cells ∧ s.onlyMoves t [.mem] := by
  refine ⟨_, exec_refreshDue h hrank sub 0, fun b => ?_, rfl, s.onlyMoves_setMem _⟩
  dsimp only
  rw [Vector.get_set_same, mapAll_get, hsquall, hfree b]
  simp

/-- Under Squall each index owes one more, and REFab pays one of each where one stays postponed by more than 4. -/
theorem exec_refreshDue_owes {s : State} (h : serves s) {rank sub : Fin 2} (hrank : rank.val < s.mem.ranks) (busy : BitVec 4)
    (hsquall : s.mem.squall = true) :
    ∃ t, exec (.refreshDue rank sub busy) s = .next t ∧ t.mem.cells = s.mem.cells ∧ s.onlyMoves t [.mem] ∧
      ((∀ b : Fin 4, (s.mem.credit[rankSub rank sub])[b] ≤ 4) →
        t.mem.refab = s.mem.refab ∧
          ∀ b : Fin 4, (t.mem.credit[rankSub rank sub])[b] = (s.mem.credit[rankSub rank sub])[b] + 1) ∧
      ((∃ b : Fin 4, 4 < (s.mem.credit[rankSub rank sub])[b]) →
        t.mem.refab[rankSub rank sub] = s.mem.refab[rankSub rank sub] + 1 ∧
          ∀ b : Fin 4, (t.mem.credit[rankSub rank sub])[b] = (s.mem.credit[rankSub rank sub])[b] - 1 + 1) := by
  refine ⟨_, exec_refreshDue h hrank sub busy, rfl, s.onlyMoves_setMem _, fun hfew => ?_, fun hmany => ?_⟩
  · have hnone : (s.mem.credit[rankSub rank sub]).toList.any (decide <| 4 < ·) = false :=
      Bool.eq_false_of_not_eq_true fun hany => by
        obtain ⟨b, hb⟩ := (Vector.anyOver_iff _).mp hany
        exact absurd hb (Nat.not_lt.mpr (hfew b))
    refine ⟨if_neg (by rw [hnone]; exact Bool.false_ne_true), fun b => ?_⟩
    unfold Mem.creditLeft
    dsimp only
    rw [hnone, Vector.get_set_same, mapAll_get, hsquall, if_neg Bool.false_ne_true]
    rfl
  · have hany := (Vector.anyOver_iff _).mpr hmany
    refine ⟨?_, fun b => ?_⟩
    · dsimp only
      rw [hany, if_pos rfl]
      exact Vector.get_set_same _ _ _
    · unfold Mem.creditLeft
      dsimp only
      rw [hany, Vector.get_set_same, mapAll_get, hsquall, if_pos rfl, mapAll_get]
      rfl

/-! ## Self-refresh (R317, R318, Table 9.11) -/

/-- The state with DRAIN begun and its flush done. -/
def State.drained (s : State) : State :=
  { s.fence none with mem := { (s.fence none).mem with
      sr := .drain, srCount := s.mem.srCount, requested := s.mem.requested, credit := Vector.replicate 4 (Vector.replicate 4 0) } }

/-- A fence that meets nothing does nothing. -/
theorem State.fence_of_empty {s : State} {errs : Option (List LineErrs)} (hmerge : s.mem.merge = Vector.replicate 2 []) (hmaps : s.mem.mapDue = []) :
    s.fence errs = s := by
  have hmapsIn : s.enterMaps errs = s := by
    unfold State.enterMaps
    rw [hmaps, List.foldl_nil, ← hmaps]
  unfold State.fence
  dsimp only
  rw [hmapsIn]
  have hsub (sub : Fin 2) : (s.mem.merge[sub]) = [] := by
    rw [hmerge]
    exact Vector.getElem_replicate _
  have hfold : List.finRange 2 = [0, 1] := rfl
  rw [hfold, List.foldl_cons, hsub, List.foldl_nil, List.foldl_cons, hsub, List.foldl_nil, List.foldl_nil]

theorem exec_selfRefreshDrain {s : State} (hruns : s.dramRuns = true) (hallowed : s.srAllowed = true) (hsr : s.mem.sr = .idleCount)
    (hidle : s.txn.live.params.dev.srIdle.toNat ≤ s.mem.srCount) :
    ∃ t, exec .selfRefreshDrain s = .next t ∧ t.mem.sr = .drain ∧
      t.mem.credit = Vector.replicate 4 (Vector.replicate 4 0) ∧
      (s.mem.merge = Vector.replicate 2 [] → s.mem.mapDue = [] →
        t.mem.cells = s.mem.cells ∧ s.onlyMoves t [.mem, .player]) := by
  have hexec : exec .selfRefreshDrain s = .next s.drained.settleQueues := by
    change execSelfRefreshDrain s = _
    unfold execSelfRefreshDrain
    dsimp only
    rw [hruns, hallowed, hsr, decide_eq_true hidle]
    rfl
  have hmem : s.drained.settleQueues.mem.unqueued = s.drained.mem.unqueued :=
    congrArg Prod.fst s.drained.settleQueues_unqueued
  have hsr' := congrArg Mem.sr hmem
  have hcredit := congrArg Mem.credit hmem
  refine ⟨_, hexec, hsr', hcredit, fun hmerge hmaps => ⟨?_, ?_⟩⟩
  · have hfence := congrArg (fun u : State => u.mem.cells) (State.fence_of_empty (errs := none) hmerge hmaps)
    exact (s.drained.settleQueues_cells).trans hfence
  · have hdrained : s.onlyMoves s.drained [.mem] := by
      unfold State.drained
      rw [State.fence_of_empty hmerge hmaps]
      exact s.onlyMoves_setMem _
    exact State.onlyMoves_trans (State.onlyMoves_mono hdrained (by decide)) (State.settleQueues_moves _)

/-- Settles O47: the scrubber, refresh and self-refresh each do what is due. -/
theorem memoryServiceRuns : Obligations.MemoryServiceRuns := by
  unfold Obligations.MemoryServiceRuns
  refine ⟨fun s h hsquall hready => exec_scrubRead_takes h hsquall hready, fun s h => ?_,
    fun s rank sub h hrank hsquall hfree => exec_refreshDue_pays h hrank hsquall hfree,
    fun s rank sub busy h hrank hsquall => exec_refreshDue_owes h hrank busy hsquall,
    fun s hruns hallowed hsr hidle => exec_selfRefreshDrain hruns hallowed hsr hidle,
    fun s hruns hallowed hsr hwaiting hmaps hempty => ?_, fun s hruns hsr hends => ?_, fun s hruns hsr => ?_⟩
  · refine if_neg ?_
    obtain h | h := h
    · rw [h]
      simp
    · unfold State.scrubReady
      rw [decide_eq_false (Nat.not_lt.mpr h)]
      simp
  · obtain ⟨hr0, hw0, hm0⟩ := hempty 0
    obtain ⟨hr1, hw1, hm1⟩ := hempty 1
    have hall {α : Type} (v : Vector (List α) 2) (h0 : v[(0 : Fin 2)] = []) (h1 : v[(1 : Fin 2)] = []) :
        v.toList.all List.isEmpty = true := by
      rw [List.all_eq_true]
      intro l hl
      obtain ⟨i, hi, rfl⟩ := Vector.mem_iff_getElem.mp (Vector.mem_toList_iff.mp hl)
      obtain rfl | rfl : i = 0 ∨ i = 1 := by omega
      · exact List.isEmpty_iff.mpr h0
      · exact List.isEmpty_iff.mpr h1
    refine ⟨{ s with mem := { s.mem with sr := .committed, wakeDue := false } }, if_pos ?_, rfl, rfl, s.onlyMoves_setMem _⟩
    rw [hruns, hallowed, hsr, hall _ hr0 hr1, hall _ hw0 hw1, hall _ hm0 hm1, hwaiting, hmaps]
    rfl
  · refine ⟨{ s with mem := { s.mem with sr := .exit, wakeDue := false } }, if_pos ?_, rfl, rfl, s.onlyMoves_setMem _⟩
    rw [hruns, hsr]
    obtain hends | hends := hends
    · rw [hends]
      rfl
    · rw [hends]
      simp
  · have hexec : exec .selfRefreshExitDone s = .next (State.settleQueues { s with mem := { s.mem with sr := .awake, srCount := 0 } }) := by
      refine if_pos ?_
      rw [hruns, hsr]
      rfl
    have hmem : (State.settleQueues { s with mem := { s.mem with sr := .awake, srCount := 0 } }).mem.unqueued =
        Mem.unqueued { s.mem with sr := .awake, srCount := 0 } :=
      congrArg Prod.fst (State.settleQueues_unqueued { s with mem := { s.mem with sr := .awake, srCount := 0 } })
    have hsr' := congrArg Mem.sr hmem
    have hcount := congrArg Mem.srCount hmem
    exact ⟨_, hexec, hsr', hcount, State.settleQueues_cells _,
      State.onlyMoves_trans (State.onlyMoves_mono (s.onlyMoves_setMem _) (by decide)) (State.settleQueues_moves _)⟩

end Sys2Proof.Machine
end

section
/-! PROOFS. Probes, and DRAM lost. -/

namespace Sys2Proof.Machine

/-! ## Probes (R325 to R327) -/

/-- What a read that is asked for leaves of the probes: the one that runs, and the devices that are retired. -/
theorem State.askRead_probes (s : State) (port : MemPort) (a : LineAddr) (owner : BitVec 16) (kind : ReadKind) :
    (s.askRead port a owner kind).mem.retired = s.mem.retired ∧ (s.askRead port a owner kind).mem.probe = s.mem.probe := by
  have h : (s.askRead port a owner kind).mem.unqueued = (if kind == .scrub then s.mem else s.mem.request).unqueued :=
    congrArg Prod.fst (s.askRead_unqueued port a owner kind)
  have hretired := congrArg Mem.retired h
  have hprobe := congrArg Mem.probe h
  refine ⟨hretired.trans ?_, hprobe.trans ?_⟩
  all_goals
    split
    · rfl
    · unfold Mem.unqueued Mem.request
      split <;> rfl

/-- The reads that a retirement asks for leave the probes and everything but the memory and the players alone. -/
theorem State.askReread_keeps (owner : BogEntry → BitVec 16) (l : List BogEntry) (s : State) :
    (l.foldl (fun s e => s.askRead .p4 e.addr (owner e) .reread) s).mem.retired = s.mem.retired ∧
      (l.foldl (fun s e => s.askRead .p4 e.addr (owner e) .reread) s).mem.probe = s.mem.probe ∧
      s.onlyMoves (l.foldl (fun s e => s.askRead .p4 e.addr (owner e) .reread) s) [.mem, .player] := by
  induction l generalizing s with
  | nil => exact ⟨rfl, rfl, State.onlyMoves_refl _ _⟩
  | cons e l ih =>
    obtain ⟨hretired, hprobe⟩ := s.askRead_probes .p4 e.addr (owner e) .reread
    obtain ⟨h1, h2, h3⟩ := ih (s.askRead .p4 e.addr (owner e) .reread)
    exact ⟨h1.trans hretired, h2.trans hprobe, State.onlyMoves_trans (s.askRead_moves _ _ _ _) h3⟩

/-- A device that is retired is its subchannel's, and moves no channel (R326, R328). -/
theorem State.retire_retires (s : State) (dev : DramDevice) (since : Nat) :
    (s.retire dev since).mem.retired[dev.sub] = some (dev.rank, dev.lane) ∧ (s.retire dev since).mem.probe = s.mem.probe ∧
      s.onlyMoves (s.retire dev since) [.mem, .player, .tel, .port] := by
  unfold State.retire
  extract_lets m s1 s2 owner here
  obtain ⟨hretired, hprobe, hmoves⟩ := State.askReread_keeps owner (s2.mem.bog.filter here) s2
  have hmem : s2.mem = s1.mem := State.logEvent_mem _ _ _ _ _
  refine ⟨?_, ?_, ?_⟩
  · refine (congrArg (fun v : Vector _ 2 => v[dev.sub]) (hretired.trans (congrArg Mem.retired hmem))).trans ?_
    exact Vector.getElem_set_self _
  · have hp := congrArg Mem.probe hmem
    exact hprobe.trans hp
  · have h1 : s.onlyMoves s1 [.mem] := s.onlyMoves_setMem _
    have h2 : s1.onlyMoves s2 [.tel, .port] := s1.logEvent_moves _ _ _ _
    exact State.onlyMoves_trans (State.onlyMoves_mono h1 (by decide))
      (State.onlyMoves_trans (State.onlyMoves_mono h2 (by decide)) (State.onlyMoves_mono hmoves (by decide)))

/-- DRAM that is lost fetches and captures no more (R327). -/
theorem State.loseDram_stops (s : State) (cause : Nat) :
    (s.loseDram cause).mem.probe = s.mem.probe ∧ (∀ k : Fin 8, ((s.loseDram cause).mem.capture[k]).active = false) ∧
      (s.loseDram cause).mem.waiting = [] := by
  unfold State.loseDram
  refine ⟨?_, fun k => ?_, rfl⟩
  · dsimp only
    rw [State.retreat_mem]
    have h := congrArg Mem.probe (s.beginFault_bare cause)
    exact h
  · dsimp only
    rw [mapAll_get]

/-- What an attribution leaves of the probe that runs and of what is live. -/
theorem State.attribute_keeps (s : State) (dev : DramDevice) (since : Nat) :
    (s.attribute dev since).mem.probe = s.mem.probe ∧ (s.attribute dev since).txn.live = s.txn.live := by
  unfold State.attribute
  split
  · obtain ⟨-, hprobe, hmoves⟩ := s.retire_retires dev since
    exact ⟨hprobe, congrArg Txn.live (hmoves .txn (by decide))⟩
  · split
    · exact ⟨rfl, rfl⟩
    · obtain ⟨-, -, -, -, -, hlive⟩ := s.loseDram_retreats (cause := 14) (by decide)
      exact ⟨(s.loseDram_stops 14).1, hlive⟩

theorem exec_probeStart {s : State} {rank sub : Fin 2} (h : serves s) (hnone : s.mem.probe = none) (hrank : rank.val < s.mem.ranks)
    (hdue : s.mem.probeDue rank sub = true) :
    exec (.probeStart rank sub) s = .next { s.bump 17 with mem := { s.mem with
      probe := some (rank, sub, s.probeTrigger (rankSub rank sub)), badLines := s.mem.badLines.set (rankSub rank sub) []
      probeTicks := s.mem.probeTicks.set (rankSub rank sub) 0 } } := by
  obtain ⟨hruns, hawake⟩ := h
  refine if_pos ?_
  rw [hruns, hawake, hnone, hdue, decide_eq_true hrank]
  rfl

/-- The state in which a probe has ended, its line holding the last pattern. -/
def State.probed (s : State) (rank sub : Fin 2) : State :=
  { s with mem := { s.mem.writeLine { page := s.mem.probePage rank, line := if sub = 0 then 1022 else 1023 } 0
      (List.replicate 64 0xAA) with probe := none } }

theorem exec_probeDone {s : State} (r : ProbeRead) {rank sub : Fin 2} {n : Nat} (hruns : s.dramRuns = true)
    (hprobe : s.mem.probe = some (rank, sub, n)) :
    exec (.probeDone r) s = .next (match ProbeRead.failing r with
      | [] => s.probed rank sub
      | [lane] => (s.probed rank sub).attribute { sub := sub, rank := rank, lane := lane } (n - 64)
      | _ :: _ :: _ => (s.probed rank sub).loseDram 14) := by
  change execProbeDone r s = _
  unfold execProbeDone
  rw [hruns, hprobe]
  dsimp only
  cases ProbeRead.failing r with
  | nil => rfl
  | cons lane rest =>
    cases rest with
    | nil => rfl
    | cons lane' rest => rfl

theorem Mem.writeLine_retired (m : Mem) (a : LineAddr) (owner : BitVec 16) (data : List Byte) :
    (m.writeLine a owner data).retired = m.retired := by
  unfold Mem.writeLine
  dsimp only
  split <;> rfl

/-- A probe that ends (R325 to R327). -/
theorem exec_probeDone_attributes {s : State} (r : ProbeRead) {rank sub : Fin 2} {n : Nat} (hruns : s.dramRuns = true)
    (hprobe : s.mem.probe = some (rank, sub, n)) :
    ∃ t, exec (.probeDone r) s = .next t ∧ t.mem.probe = none ∧ t.txn.live = s.txn.live ∧
      (ProbeRead.failing r = [] → t.mem.retired = s.mem.retired ∧ s.onlyMoves t [.mem]) ∧
      (∀ lane, ProbeRead.failing r = [lane] → s.mem.retired[sub] = none →
        t.mem.retired[sub] = some (rank, lane) ∧ t.chan = s.chan ∧ t.power = s.power) ∧
      (2 ≤ (ProbeRead.failing r).length → t.power.fault 14 = true) := by
  have hexec := exec_probeDone r hruns hprobe
  have hretired : (s.probed rank sub).mem.retired = s.mem.retired := s.mem.writeLine_retired _ _ _
  have hmoves : s.onlyMoves (s.probed rank sub) [.mem] := s.onlyMoves_setMem _
  have hnone : (s.probed rank sub).mem.probe = none := rfl
  have hlive : (s.probed rank sub).txn.live = s.txn.live := rfl
  generalize s.probed rank sub = u at *
  cases hfail : ProbeRead.failing r with
  | nil =>
    rw [hfail] at hexec
    exact ⟨u, hexec, hnone, hlive, fun _ => ⟨hretired, hmoves⟩, nofun, fun h => absurd h (by decide)⟩
  | cons lane rest =>
    cases rest with
    | nil =>
      rw [hfail] at hexec
      dsimp only at hexec
      obtain ⟨hp, hl⟩ := u.attribute_keeps { sub := sub, rank := rank, lane := lane } (n - 64)
      refine ⟨_, hexec, hp.trans hnone, hl.trans hlive, nofun, fun lane' hlane hfree => ?_, fun h => absurd h (by simp)⟩
      obtain rfl := (List.cons.inj hlane).1
      obtain ⟨hretires, -, hretireMoves⟩ := u.retire_retires { sub := sub, rank := rank, lane := lane } (n - 64)
      have hattributes : u.attribute { sub := sub, rank := rank, lane := lane } (n - 64) =
          u.retire { sub := sub, rank := rank, lane := lane } (n - 64) := by
        unfold State.attribute
        dsimp only
        rw [hretired, hfree]
      rw [hattributes]
      exact ⟨hretires, (hretireMoves .chan (by decide)).trans (hmoves .chan (by decide)),
        (hretireMoves .power (by decide)).trans (hmoves .power (by decide))⟩
    | cons lane' rest =>
      rw [hfail] at hexec
      dsimp only at hexec
      obtain ⟨hfault, -, -, -, -, hl⟩ := u.loseDram_retreats (cause := 14) (by decide)
      exact ⟨_, hexec, (u.loseDram_stops 14).1.trans hnone, hl.trans hlive, nofun, fun _ h => by simp at h, fun _ => hfault⟩

/-- Settles O48: probes run and charge what fails, and the DRAM that is lost retreats what it fed. -/
theorem probesAndLostDram : Obligations.ProbesAndLostDram := by
  unfold Obligations.ProbesAndLostDram
  refine ⟨fun s rank sub h hnone hrank hdue => ?_, fun s r rank sub n hruns hprobe => exec_probeDone_attributes r hruns hprobe,
    fun s hruns hfitted hstage hfault => ?_⟩
  · refine ⟨_, exec_probeStart h hnone hrank hdue, rfl, fun htwo => ?_, Vector.getElem_set_self _, s.bump_counter 17, rfl, ?_⟩
    · have htrigger : s.probeTrigger (rankSub rank sub) = s.mem.badSince[rankSub rank sub] := if_pos htwo
      exact congrArg (fun n => some (rank, sub, n)) htrigger
    · intro x hx
      cases x <;> simp_all [State.agree]
  · have hexec : exec .ddrAlertFault s = .next (s.loseDram 33) := by
      refine if_pos ?_
      rw [hruns, hfitted, hfault, bne_iff_ne.mpr hstage]
      rfl
    obtain ⟨hhas, -, hfed, hother, hcells, hlive⟩ := s.loseDram_retreats (cause := 33) (by decide)
    obtain ⟨-, hcapture, hwaiting⟩ := s.loseDram_stops 33
    exact ⟨_, hexec, hhas, hfed, hother, hcapture, hwaiting, hcells, hlive⟩

end Sys2Proof.Machine
end

section
/-! PROOFS. The merge buffer flushes. -/

namespace Sys2Proof.Machine

/-! ## The merge buffer flushes (R306, R332, R333) -/

/-- The entry that must flush, flushed. -/
theorem exec_mergeFlush {s : State} {sub : Fin 2} {e : Merge} (flips verify : Flips) (h : serves s) (hsquall : s.mem.squall = false)
    (he : (s.mem.merge[sub]).find? (s.flushDue sub) = some e) :
    exec (.mergeFlush sub flips verify) s = .next (s.flushNow sub e flips verify) := by
  obtain ⟨hruns, hawake⟩ := h
  change execMergeFlush sub flips verify s = _
  unfold execMergeFlush
  rw [hruns, hawake, hsquall, he]
  rfl

/-- A partial entry asks for the line beneath it (R306). -/
theorem State.flushNow_asks {s : State} {sub : Fin 2} {e : Merge} (flips verify : Flips) (hrepair : e.repair = false)
    (hmask : e.mask ≠ BitVec.allOnes 64) (hadmit : s.mem.admitted .p2 e.addr e.owner = none) (hread : s.mem.mergeRead e = false) :
    s.flushNow sub e flips verify = s.askRead .p2 e.addr e.owner .merge := by
  have hpartial : ¬ (e.mask = BitVec.allOnes 64 ∨ e.repair = true) := by
    rintro (h | h)
    · exact hmask h
    · exact Bool.false_ne_true (hrepair.symm.trans h)
  unfold State.flushNow
  rw [if_neg hpartial, hadmit]
  dsimp only
  unfold State.askMerge
  rw [hread, if_neg Bool.false_ne_true]

theorem State.askRead_merge (s : State) (port : MemPort) (a : LineAddr) (owner : BitVec 16) (kind : ReadKind) :
    (s.askRead port a owner kind).mem.merge = s.mem.merge := by
  have h : (s.askRead port a owner kind).mem.unqueued = (if kind == .scrub then s.mem else s.mem.request).unqueued :=
    congrArg Prod.fst (s.askRead_unqueued port a owner kind)
  have hmerge := congrArg Mem.merge h
  refine hmerge.trans ?_
  split
  · rfl
  · unfold Mem.unqueued Mem.request
    split <;> rfl

/-- The memory with a whole entry of the merge buffer written in place. -/
def Mem.flushed (m : Mem) (sub : Fin 2) (e : Merge) : Mem :=
  ((m.request.dropMerge sub e.addr).writeLine e.addr e.owner e.data.toList).askWrite .p2 e.addr e.owner

theorem Mem.request_remap (m : Mem) : m.request.remap = m.remap := by
  unfold Mem.request
  split <;> rfl

theorem Mem.request_merge (m : Mem) : m.request.merge = m.merge := by
  unfold Mem.request
  split <;> rfl

theorem Mem.dropMerge_onSpare (m : Mem) (sub : Fin 2) (b a : LineAddr) (owner : BitVec 16) :
    (m.request.dropMerge sub b).onSpare a owner = m.onSpare a owner := by
  unfold Mem.onSpare Mem.dropMerge
  dsimp only
  rw [Mem.request_remap]

/-- A whole entry flushes as one write of its line (R332). -/
theorem State.flushNow_writes {s : State} {sub : Fin 2} {e : Merge} (flips verify : Flips) (hrepair : e.repair = false)
    (hmap : e.map = false) (hmask : e.mask = BitVec.allOnes 64) (hspare : s.mem.onSpare e.addr e.owner = false) :
    s.flushNow sub e flips verify = { s with mem := s.mem.flushed sub e } := by
  have hput : (s.mem.request.dropMerge sub e.addr).putLine .p2 e.addr e.owner e.data.toList = s.mem.flushed sub e :=
    if_neg (by rw [Mem.dropMerge_onSpare, hspare]; exact Bool.false_ne_true)
  unfold State.flushNow
  rw [if_pos (.inl hmask)]
  unfold State.flush
  rw [hrepair, if_pos (by rfl)]
  unfold State.flushEntry Mem.flushData
  dsimp only
  rw [if_pos hmask, hmap, if_neg Bool.false_ne_true]
  have hwhole : mergeBytes e e.data.toList = e.data.toList :=
    List.ext_getElem (by simp [mergeBytes]) fun i _ _ => by simp [mergeBytes, hmask]
  rw [hwhole, hput]

theorem Mem.askWrite_merge (m : Mem) (port : MemPort) (a : LineAddr) (owner : BitVec 16) :
    (m.askWrite port a owner).merge = m.merge := m.request_merge

theorem Mem.askWrite_rawLine (m : Mem) (port : MemPort) (b a : LineAddr) (o owner : BitVec 16) :
    (m.askWrite port b o).rawLine a owner = m.rawLine a owner := by
  unfold Mem.rawLine
  rw [Mem.askWrite_cells]
  unfold Mem.askWrite
  dsimp only
  rw [Mem.request_remap]

theorem Mem.writeLine_merge (m : Mem) (a : LineAddr) (owner : BitVec 16) (data : List Byte) :
    (m.writeLine a owner data).merge = m.merge := by
  unfold Mem.writeLine
  dsimp only
  split <;> rfl

theorem vec64_toList (v : Vector Byte 64) : vec64 v.toList = v := by
  refine Vector.ext fun i hi => ?_
  simp [vec64]

/-- A whole entry that is written leaves the buffer, its line reads as it held it, and no other byte changes. -/
theorem Mem.flushed_writes {m : Mem} {e : Merge} (sub : Fin 2) (hwf : Memory.wf m.cells = true)
    (hspare : m.onSpare e.addr e.owner = false) :
    (∀ x ∈ (m.flushed sub e).merge[sub], x.addr ≠ e.addr) ∧ (m.flushed sub e).rawLine e.addr e.owner = e.data.toList ∧
      (∀ x : Nat, x < lineBase e.addr e.owner ∨ lineBase e.addr e.owner + 64 ≤ x →
        cellRead (m.flushed sub e).cells x = cellRead m.cells x) := by
  have hcells : (m.request.dropMerge sub e.addr).cells = m.cells := m.request_cells
  have hwf' : Memory.wf (m.request.dropMerge sub e.addr).cells = true := by rw [hcells]; exact hwf
  have hspare' : (m.request.dropMerge sub e.addr).onSpare e.addr e.owner = false := (m.dropMerge_onSpare _ _ _ _).trans hspare
  unfold Mem.flushed
  refine ⟨fun x hx => ?_, ?_, fun x hx => ?_⟩
  · rw [Mem.askWrite_merge, Mem.writeLine_merge] at hx
    have hget : (m.request.dropMerge sub e.addr).merge[sub] = (m.request.merge[sub]).filter fun x => x.addr != e.addr :=
      Vector.getElem_set_self _
    rw [hget] at hx
    exact bne_iff_ne.mp (List.mem_filter.mp hx).2
  · rw [Mem.askWrite_rawLine, Mem.rawLine_writeLine _ _ _ _ hwf' hspare', vec64_toList]
  · rw [Mem.askWrite_cells, Mem.writeLine_other _ _ _ _ _ hwf' hx, hcells]

/-- Settles O50: a partial line waits for what lies beneath it, and a whole one is written. -/
theorem mergeFlushWritesLine : Obligations.MergeFlushWritesLine := by
  unfold Obligations.MergeFlushWritesLine
  refine ⟨fun s sub e flips verify h hsquall he hrepair hmask hadmit hread => ?_,
    fun s sub e flips verify h hwf hsquall he hrepair hmap hmask hspare => ?_⟩
  · have hexec := exec_mergeFlush flips verify h hsquall he
    rw [State.flushNow_asks flips verify hrepair hmask hadmit hread] at hexec
    exact ⟨_, hexec, (State.askRead_asked _ _ _ _ _ _ _ _).mpr (.inr ⟨rfl, rfl, rfl⟩), s.askRead_merge _ _ _ _,
      s.askRead_cells _ _ _ _, s.askRead_moves _ _ _ _⟩
  · have hexec := exec_mergeFlush flips verify h hsquall he
    rw [State.flushNow_writes flips verify hrepair hmap hmask hspare] at hexec
    obtain ⟨hgone, hline, hother⟩ := Mem.flushed_writes sub hwf hspare
    exact ⟨_, hexec, hgone, hline, hother, s.onlyMoves_setMem _⟩

end Sys2Proof.Machine
end

section
/-! PROOFS. Line reads. -/

namespace Sys2Proof.Machine

/-! ## A read that is taken (R305, R322) -/

/-- The memory apart from the requests that stand at the controller, and from the refresh that it owes. -/
def Mem.untaken (m : Mem) : Mem := { m.unqueued with credit := Vector.replicate 4 (Vector.replicate 4 0) }

/-- A read that leaves its queue leaves the rest of the memory, and of the players all but what their lanes have asked for. -/
theorem State.finishRead_untaken (s : State) (r : MemReq) :
    (s.finishRead r).mem.untaken = s.mem.untaken ∧ s.onlyMoves (s.finishRead r) [.mem, .player] ∧
      ∀ p : PlayerNo, ((s.finishRead r).player[p]).unasked = (s.player[p]).unasked := by
  have hsettles := State.settleQueues_unqueued
    { s with mem := { s.mem with
        reads := s.mem.reads.set (subOf r.addr r.owner) ((s.mem.reads[subOf r.addr r.owner]).erase r) } }
  have hmoves := State.onlyMoves_trans
    (State.onlyMoves_mono (s.onlyMoves_setMem { s.mem with
        reads := s.mem.reads.set (subOf r.addr r.owner) ((s.mem.reads[subOf r.addr r.owner]).erase r) }) (by decide))
    (State.settleQueues_moves { s with mem := { s.mem with
        reads := s.mem.reads.set (subOf r.addr r.owner) ((s.mem.reads[subOf r.addr r.owner]).erase r) } })
  unfold State.finishRead
  dsimp only
  generalize State.settleQueues { s with mem := { s.mem with
        reads := s.mem.reads.set (subOf r.addr r.owner) ((s.mem.reads[subOf r.addr r.owner]).erase r) } } = u at *
  have hmem : u.mem.unqueued = s.mem.unqueued := congrArg Prod.fst hsettles
  have huntaken : u.mem.untaken = s.mem.untaken := by
    unfold Mem.untaken
    rw [hmem]
  have hplayers (p : PlayerNo) : (u.player[p]).unasked = (s.player[p]).unasked := by
    have hp := congrArg (fun v : Vector Player 16 => v[p]) (congrArg Prod.snd hsettles)
    unfold State.unqueued at hp
    dsimp only at hp
    rw [mapAll_get, mapAll_get] at hp
    exact hp
  split
  · exact ⟨huntaken, hmoves, hplayers⟩
  · exact ⟨huntaken, State.onlyMoves_trans hmoves (State.onlyMoves_mono (u.onlyMoves_setMem _) (by decide)), hplayers⟩

/-- What a taken read leaves: the same pages, segments, listed lines and errors. -/
structure Taken (s u : State) : Prop where
  moves : s.onlyMoves u [.mem, .player]
  cells : u.mem.cells = s.mem.cells
  kind (p : Nat) : u.mem.pageKind p = s.mem.pageKind p
  seg (id : BitVec 16) : u.mem.seg id = s.mem.seg id
  bog : u.mem.bog = s.mem.bog
  result (a : LineAddr) (owner : BitVec 16) (flips : Flips) : u.mem.readResult a owner flips = s.mem.readResult a owner flips
  erasures (a : LineAddr) (owner : BitVec 16) : u.mem.erasureMode a owner = s.mem.erasureMode a owner
  pos : u.mem.scrubPos = s.mem.scrubPos
  lines : u.mem.lineCount = s.mem.lineCount
  capture : u.mem.capture = s.mem.capture
  players (p : PlayerNo) : (u.player[p]).unasked = (s.player[p]).unasked

theorem State.finishRead_taken (s : State) (r : MemReq) : Taken s (s.finishRead r) := by
  obtain ⟨hmem, hmoves, hplayers⟩ := s.finishRead_untaken r
  have hview {β : Type} (f : Mem → β) (hf : ∀ m : Mem, f m.untaken = f m) : f (s.finishRead r).mem = f s.mem :=
    (hf _).symm.trans ((congrArg f hmem).trans (hf _))
  exact ⟨hmoves, hview Mem.cells fun _ => rfl, fun p => hview (Mem.pageKind · p) fun _ => rfl, fun id => hview (Mem.seg · id) fun _ => rfl,
    hview Mem.bog fun _ => rfl, fun a owner flips => hview (Mem.readResult · a owner flips) fun _ => rfl,
    fun a owner => hview (Mem.erasureMode · a owner) fun _ => rfl, hview Mem.scrubPos fun _ => rfl, hview Mem.lineCount fun _ => rfl,
    hview Mem.capture fun _ => rfl, hplayers⟩

/-- A read that meets no error is clean (R321). -/
theorem Mem.readResult_clean (m : Mem) (a : LineAddr) (owner : BitVec 16) :
    m.readResult a owner [] = { outcome := .clean, residual := [] } := by
  unfold Mem.readResult
  rw [ite_self]
  rfl

theorem Mem.admitted_addr {m : Mem} {port : MemPort} {a : LineAddr} {owner : BitVec 16} {r : MemReq}
    (h : m.admitted port a owner = some r) : r.addr = a := by
  have hr := List.find?_some h
  rw [Bool.and_eq_true, beq_iff_eq, beq_iff_eq] at hr
  exact hr.2

theorem exec_fetchDone {s : State} {a : LineAddr} {r : MemReq} (flips verify : Flips) (h : serves s) (hholds : s.mem.holds a = true)
    (hr : s.mem.admitted .p0 a (s.mem.pageKind a.page).owner = some r) :
    exec (.lineReadDone .fetch a flips verify) s = .next ((s.finishRead r).fetched r flips verify) := by
  obtain ⟨hruns, hawake⟩ := h
  change execLineReadDone .fetch a flips verify s = _
  unfold execLineReadDone
  dsimp only
  rw [hruns, hawake, hholds, hr]
  rfl

theorem exec_scrubDone {s : State} {a : LineAddr} {r : MemReq} (flips verify : Flips) (h : serves s) (hholds : s.mem.holds a = true)
    (hr : s.mem.admitted .p4 a (s.mem.pageKind a.page).owner = some r) :
    exec (.lineReadDone .scrub a flips verify) s =
      if r.read = some .reread then .next ((s.finishRead r).rereadDone a (s.mem.pageKind a.page).owner flips)
      else .next ((s.finishRead r).scrubbed a (s.mem.pageKind a.page).owner flips verify).passOver := by
  obtain ⟨hruns, hawake⟩ := h
  change execLineReadDone .scrub a flips verify s = _
  unfold execLineReadDone
  dsimp only
  rw [hruns, hawake, hholds, hr]
  rfl

theorem exec_captureDone {s : State} {a : LineAddr} {r : MemReq} {k : Fin 8} (flips verify : Flips) (h : serves s)
    (hholds : s.mem.holds a = true) (hk : s.mem.pageKind a.page = .ring k) (hr : s.mem.admitted .p3 a 0 = some r) :
    exec (.lineReadDone .capture a flips verify) s = .next ((s.finishRead r).captureRead k a flips) := by
  obtain ⟨hruns, hawake⟩ := h
  change execLineReadDone .capture a flips verify s = _
  unfold execLineReadDone
  dsimp only
  rw [hruns, hawake, hholds, hr, hk]
  rfl

/-! ## A lane line returns (R221, R297, R309) -/

/-- A lane line that returns clean moves its player alone. -/
theorem State.deliver_only (s : State) (p : PlayerNo) (waits : Chan → Bool) (wrong : List (Nat × BitVec 64)) :
    onlyPlayer s (s.deliver p waits (some wrong)) p ∧
      ∀ n : Chan, waits n = true →
        (((s.deliver p waits (some wrong)).player[p]).lanes[n]).held = ((s.player[p]).lanes[n]).held + 48 ∧
          (((s.deliver p waits (some wrong)).player[p]).lanes[n]).outstanding = false := by
  unfold State.deliver
  dsimp only
  rw [Option.isNone_some, Bool.false_and, if_neg Bool.false_ne_true, State.onPlayer_get]
  refine ⟨s.onPlayer_only p _, fun n hn => ?_⟩
  dsimp only
  rw [mapAll_get, if_pos hn]
  exact ⟨rfl, rfl⟩

/-- What a lane that waits turns on stands while a read is taken. -/
theorem Taken.lanes {s u : State} (h : Taken s u) (p : PlayerNo) (n : Chan) :
    ((u.player[p]).lanes[n]).held = ((s.player[p]).lanes[n]).held ∧
      ((u.player[p]).lanes[n]).outstanding = ((s.player[p]).lanes[n]).outstanding := by
  have hlanes := congrArg (fun x : Player => x.lanes[n]) (h.players p)
  unfold Player.unasked at hlanes
  dsimp only at hlanes
  rw [mapAll_get, mapAll_get] at hlanes
  exact ⟨(congrArg Prefetch.held hlanes :), (congrArg Prefetch.outstanding hlanes :)⟩

theorem Taken.place {s u : State} (h : Taken s u) (p : PlayerNo) :
    (u.player[p]).state = (s.player[p]).state ∧ (u.player[p]).pc = (s.player[p]).pc ∧ (u.player[p]).pass = (s.player[p]).pass := by
  have hp := h.players p
  unfold Player.unasked at hp
  have hstate := congrArg Player.state hp
  have hpc := congrArg Player.pc hp
  have hpass := congrArg Player.pass hp
  dsimp only at hstate hpc hpass
  exact ⟨hstate, hpc, hpass⟩

theorem Taken.laneWaits {s u : State} (h : Taken s u) (r : MemReq) (p : PlayerNo) (lane : Nat) (chan : Chan) (pass : Nat) (n : Chan) :
    u.laneWaits r p lane chan pass n = s.laneWaits r p lane chan pass n := by
  have htxn : u.txn = s.txn := h.moves .txn (by decide)
  obtain ⟨hstate, hpc, hpass⟩ := h.place p
  obtain ⟨hheld, hout⟩ := h.lanes p n
  have hstep : u.stepOf p = s.stepOf p := by
    unfold State.stepOf
    rw [State.prog_congr htxn, hpc]
  unfold State.laneWaits State.segment
  dsimp only
  rw [hstate, hpass, hheld, hout, hstep, htxn]
  simp only [h.seg]

theorem State.deliver_moves (s : State) (p : PlayerNo) (waits : Chan → Bool) (wrong : List (Nat × BitVec 64)) :
    s.onlyMoves (s.deliver p waits (some wrong)) [.mem, .player] ∧ (s.deliver p waits (some wrong)).mem = s.mem := by
  refine ⟨?_, rfl⟩
  unfold State.deliver
  rw [Option.isNone_some, Bool.false_and, if_neg Bool.false_ne_true]
  intro x hx
  cases x <;> simp_all [State.agree, State.onPlayer]

/-- What the cache takes of a line that returns clean (R303). -/
def Mem.caches (m : Mem) (r : MemReq) (caches : Bool) (wrong : List (Nat × BitVec 64)) : Mem :=
  match r.read with
  | some .head => if caches then m.takeHead r.addr r.owner wrong else m
  | some .list => m.takeList r.addr
  | _ => m

theorem Mem.caches_cells (m : Mem) (r : MemReq) (caches : Bool) (wrong : List (Nat × BitVec 64)) :
    (m.caches r caches wrong).cells = m.cells := by
  unfold Mem.caches
  split
  · split <;> rfl
  · unfold Mem.takeList
    split
    · split <;> rfl
    · rfl
  · rfl

/-- The words that a clean read delivers otherwise than they are stored: those of no error. -/
def State.cleanWrong (s : State) (r : MemReq) : List (Nat × BitVec 64) :=
  s.mem.wrongWords r.addr r.owner (8 * s.mem.lineOf r.addr) []

/-- A fetch that returns clean (Table 10.1). -/
theorem State.fetched_clean (s : State) (r : MemReq) :
    s.fetched r [] [] = match r.read with
      | some (.lane p lane chan pass) => s.deliver p (s.laneWaits r p lane chan pass) (some (s.cleanWrong r))
      | _ => { s with mem := s.mem.caches r (s.cachesHead r.owner) (s.cleanWrong r) } := by
  unfold State.fetched
  rw [Mem.readResult_clean]
  unfold Mem.caches
  rcases r.read with - | (- | - | - | - | - | - | -)
  case some.head => cases s.cachesHead r.owner <;> rfl
  all_goals rfl

theorem State.fetched_clean_moves (s : State) (r : MemReq) :
    s.onlyMoves (s.fetched r [] []) [.mem, .player] ∧ (s.fetched r [] []).mem.cells = s.mem.cells := by
  rw [State.fetched_clean]
  split
  · obtain ⟨hmoves, hmem⟩ := s.deliver_moves _ _ (s.cleanWrong r)
    exact ⟨hmoves, congrArg Mem.cells hmem⟩
  · exact ⟨State.onlyMoves_mono (s.onlyMoves_setMem _) (by decide), Mem.caches_cells _ _ _ _⟩

/-- A lane read that returns clean. -/
theorem exec_fetchDone_clean {s : State} {a : LineAddr} {r : MemReq} (h : serves s) (hholds : s.mem.holds a = true)
    (hr : s.mem.admitted .p0 a (s.mem.pageKind a.page).owner = some r) :
    ∃ t, exec (.lineReadDone .fetch a [] []) s = .next t ∧ t.mem.cells = s.mem.cells ∧ s.onlyMoves t [.mem, .player] ∧
      (∀ (p : PlayerNo) (lane : Nat) (chan : Chan) (pass : Nat) (n : Chan), r.read = some (.lane p lane chan pass) →
        s.laneWaits r p lane chan pass n = true →
        ((t.player[p]).lanes[n]).held = ((s.player[p]).lanes[n]).held + 48 ∧
          ((t.player[p]).lanes[n]).outstanding = false) := by
  have htaken := s.finishRead_taken r
  have hexec := exec_fetchDone [] [] h hholds hr
  generalize s.finishRead r = u at *
  obtain ⟨hmoves, hcells⟩ := u.fetched_clean_moves r
  refine ⟨_, hexec, hcells.trans htaken.cells, State.onlyMoves_trans htaken.moves hmoves, fun p lane chan pass n hread hwaits => ?_⟩
  rw [State.fetched_clean, hread]
  obtain ⟨hheld, hout⟩ := (u.deliver_only p (u.laneWaits r p lane chan pass) (u.cleanWrong r)).2 n
    ((htaken.laneWaits _ _ _ _ _ _).trans hwaits)
  rw [(htaken.lanes p n).1] at hheld
  exact ⟨hheld, hout⟩

/-! ## A line goes on the Bog list (R336, R337) -/

theorem Mem.seg_id {m : Mem} {id : BitVec 16} {g : Segment} (h : m.seg id = some g) : g.id = id := by
  have hg := List.find?_some h
  exact beq_iff_eq.mp hg

/-- A descriptor that is put in its place is the one that stands. -/
theorem Mem.putSeg_seg (m : Mem) (g : Segment) : (m.putSeg g).seg g.id = some g ∧ (m.putSeg g).bog = m.bog := by
  unfold Mem.putSeg
  extract_lets m1
  have hsegs : m1.bog = m.bog := by
    unfold m1
    split <;> rfl
  have hnew (l : List Segment) : (l.any fun x => x.id == g.id) = true →
      (l.map fun x => if x.id == g.id then g else x).find? (fun x => x.id == g.id) = some g := by
    intro hany
    induction l with
    | nil => simp at hany
    | cons x l ih =>
      rw [List.map_cons, List.find?_cons]
      by_cases hx : (x.id == g.id) = true
      · rw [if_pos hx, beq_self_eq_true]
      · rw [if_neg hx, Bool.eq_false_of_not_eq_true hx]
        refine ih ?_
        rw [List.any_cons, Bool.eq_false_of_not_eq_true hx, Bool.false_or] at hany
        exact hany
  split
  · next hany => exact ⟨hnew _ hany, hsegs⟩
  · next hany =>
    refine ⟨?_, hsegs⟩
    have hnone : m.segs.find? (fun x => x.id == g.id) = none := by
      rw [List.find?_eq_none]
      intro x hx hid
      exact hany (List.any_eq_true.mpr ⟨x, hx, hid⟩)
    change (m.segs ++ [g]).find? (fun x => x.id == g.id) = some g
    rw [List.find?_append, hnone, Option.none_or, List.find?_cons, beq_self_eq_true]

theorem State.wantContent_wants (s : State) (id : BitVec 16) :
    (s.wantContent id).tel.wanted.contains id = true ∧ (s.wantContent id).mem = s.mem ∧
      (s.tel.wanted.contains id = false → (s.wantContent id).port = s.port) ∧ s.onlyMoves (s.wantContent id) [.tel, .port] := by
  unfold State.wantContent
  split
  · next hin =>
    refine ⟨hin, rfl, fun hnot => absurd (hin.symm.trans hnot) nofun, ?_⟩
    intro x hx
    cases x <;> simp_all [State.agree]
  · refine ⟨?_, rfl, fun _ => rfl, ?_⟩
    · simp
    · intro x hx
      cases x <;> simp_all [State.agree]

/-- A data line that is listed: its segment is quarantined, its entry is active, and its content is wanted. -/
theorem State.bogLine_lists {s : State} {g : Segment} {a : LineAddr} (cause : BogCause) (o : Nat) (hnew : s.mem.bogEntry a = none)
    (hroom : s.mem.bog.length < Config.bogMax) :
    (s.bogLine g a cause o none).mem.cells = s.mem.cells ∧ s.onlyMoves (s.bogLine g a cause o none) [.mem, .tel, .port] ∧
      (s.tel.wanted.contains g.id = false → (s.bogLine g a cause o none).port = s.port) ∧
      (((s.bogLine g a cause o none).mem.seg g.id).map Segment.state = some .quarantined) ∧
      (s.bogLine g a cause o none).tel.wanted.contains g.id = true ∧
      (∃ e, (s.bogLine g a cause o none).mem.bogEntry a = some e ∧ e.owner = g.id ∧ e.cause = cause ∧ e.state = .active) := by
  unfold State.bogLine
  rw [hnew]
  extract_lets room e lost lines newly g' m s1 s2
  have hr : room = true := decide_eq_true hroom
  have hput := s.mem.putSeg_seg g'
  have h1 : s1.mem = ({ m with bog := m.bog ++ [e] } : Mem).noteBog e.slot := by
    unfold s1
    rw [hr]
    rfl
  have hs1 : s.onlyMoves s1 [.mem] := s.onlyMoves_setMem _
  have h2 : s2.mem = s1.mem ∧ s2.tel.wanted = s.tel.wanted ∧ s2.port = s.port ∧ s1.onlyMoves s2 [.tel] := by
    unfold s2
    rw [hr, if_pos rfl]
    refine ⟨rfl, rfl, rfl, ?_⟩
    intro x hx
    cases x <;> simp_all [State.agree, State.noteChanges]
  obtain ⟨hmem2, hwanted2, hport2, hmoves2⟩ := h2
  obtain ⟨hwants, hmem, hport, hmoves⟩ := s2.wantContent_wants g.id
  clear_value s2
  rw [Option.isSome_none, if_neg Bool.false_ne_true, hmem, hmem2, h1]
  refine ⟨s.mem.putSeg_cells g', ?_, fun hnot => (hport (by rw [hwanted2]; exact hnot)).trans hport2, ?_, hwants, ?_⟩
  · exact State.onlyMoves_trans (State.onlyMoves_mono hs1 (by decide))
      (State.onlyMoves_trans (State.onlyMoves_mono hmoves2 (by decide)) (State.onlyMoves_mono hmoves (by decide)))
  · have hseg := congrArg (Option.map Segment.state) hput.1
    exact hseg
  · refine ⟨e, ?_, rfl, rfl, rfl⟩
    change (m.bog ++ [e]).find? (fun x => x.addr == a) = some e
    have hnone : m.bog.find? (fun x => x.addr == a) = none := hput.2.symm ▸ hnew
    rw [List.find?_append, hnone, Option.none_or, List.find?_cons, beq_self_eq_true]

/-! ## A lane line that cannot be corrected (R221, R322, R336) -/

theorem Mem.noteBad_keeps (m : Mem) (a : LineAddr) (owner : BitVec 16) (tick : Nat) :
    (m.noteBad a owner tick).cells = m.cells ∧ (m.noteBad a owner tick).bog = m.bog ∧
      (∀ p, (m.noteBad a owner tick).pageKind p = m.pageKind p) ∧ ∀ id, (m.noteBad a owner tick).seg id = m.seg id := by
  unfold Mem.noteBad
  dsimp only
  split
  · exact ⟨rfl, rfl, fun _ => rfl, fun _ => rfl⟩
  · exact ⟨rfl, rfl, fun _ => rfl, fun _ => rfl⟩

/-- What an uncorrectable fetch does before its line is listed: lanes that wait for it meet it. -/
def State.metBad (s : State) (r : MemReq) : State :=
  match r.read with
  | some (.lane p lane chan pass) => s.deliver p (s.laneWaits r p lane chan pass) none
  | _ => s

theorem State.metBad_moves (s : State) (r : MemReq) : s.onlyMoves (s.metBad r) [.player] := by
  unfold State.metBad
  split
  · unfold State.deliver
    dsimp only
    have honly (p : PlayerNo) (f : Player → Player) : s.onlyMoves (s.onPlayer p f) [.player] := by
      intro x hx
      cases x <;> simp_all [State.agree, State.onPlayer]
    have hraise (u : State) (code : Nat) (who : PlayerNo → Bool) : u.onlyMoves (u.raiseFor code who) [.player] := by
      intro x hx
      cases x <;> simp_all [State.agree, State.raiseFor]
    split
    · exact State.onlyMoves_trans (honly _ _) (hraise _ _ _)
    · exact honly _ _
  · exact State.onlyMoves_refl _ _

theorem State.fetched_bad {s : State} {r : MemReq} {flips : Flips} (verify : Flips)
    (hbad : (s.mem.readResult r.addr r.owner flips).outcome = .uncorrectable) :
    s.fetched r flips verify =
      State.badLine { s.metBad r with mem := (s.metBad r).mem.noteBad r.addr r.owner (s.metBad r).clock.tick } r.addr .fetch
        (some [{ addr := r.addr, read := flips, verify := verify }]) := by
  unfold State.fetched State.metBad
  dsimp only
  rw [hbad]
  rcases r.read with - | (- | - | - | - | - | - | -) <;> rfl

/-- A line of a data page goes on the Bog list as its segment's. -/
theorem State.badLine_data {s : State} {a : LineAddr} {id : BitVec 16} {j : Nat} {g : Segment} (cause : BogCause)
    (errs : Option (List LineErrs)) (hkind : s.mem.pageKind a.page = .data id j) (hseg : s.mem.seg id = some g) :
    s.badLine a cause errs = s.bogLine g a cause (1024 * j + a.line.val) none := by
  unfold State.badLine
  rw [hkind]
  dsimp only
  rw [hseg]
  rfl

/-- A lane read that cannot be corrected. -/
theorem exec_fetchDone_bad {s : State} {a : LineAddr} {r : MemReq} {flips verify : Flips} {id : BitVec 16} {j : Nat} {g : Segment}
    (h : serves s) (hholds : s.mem.holds a = true) (hkind : s.mem.pageKind a.page = .data id j) (hseg : s.mem.seg id = some g)
    (hr : s.mem.admitted .p0 a id = some r) (howner : r.owner = id) (hbad : (s.mem.readResult a id flips).outcome = .uncorrectable)
    (hnew : s.mem.bogEntry a = none) (hroom : s.mem.bog.length < Config.bogMax) :
    ∃ t, exec (.lineReadDone .fetch a flips verify) s = .next t ∧ t.mem.cells = s.mem.cells ∧
      s.onlyMoves t [.mem, .player, .tel, .port] ∧ (s.tel.wanted.contains id = false → t.port = s.port) ∧
      ((t.mem.seg id).map Segment.state = some .quarantined) ∧ t.tel.wanted.contains id = true ∧
      (∃ e, t.mem.bogEntry a = some e ∧ e.owner = id ∧ e.cause = .fetch ∧ e.state = .active) := by
  have haddr := Mem.admitted_addr hr
  have htaken := s.finishRead_taken r
  have hexec := exec_fetchDone flips verify h hholds (r := r) (by rw [hkind]; exact hr)
  generalize s.finishRead r = u at *
  rw [State.fetched_bad verify (by rw [haddr, howner, htaken.result]; exact hbad), haddr] at hexec
  have hmet := u.metBad_moves r
  have hmem : (u.metBad r).mem = u.mem := hmet .mem (by decide)
  generalize u.metBad r = v at *
  obtain ⟨hcells, hbog, hkinds, hsegs⟩ := v.mem.noteBad_keeps a r.owner v.clock.tick
  have hmoves : s.onlyMoves { v with mem := v.mem.noteBad a r.owner v.clock.tick } [.mem, .player] :=
    State.onlyMoves_trans htaken.moves
      (State.onlyMoves_trans (State.onlyMoves_mono hmet (by decide)) (State.onlyMoves_mono (v.onlyMoves_setMem _) (by decide)))
  generalize hw : ({ v with mem := v.mem.noteBad a r.owner v.clock.tick } : State) = w at *
  have hwmem : w.mem = v.mem.noteBad a r.owner v.clock.tick := by rw [← hw]
  have hwkind : w.mem.pageKind a.page = .data id j := by rw [hwmem, hkinds, hmem, htaken.kind, hkind]
  have hwseg : w.mem.seg id = some g := by rw [hwmem, hsegs, hmem, htaken.seg, hseg]
  have hwbog : w.mem.bog = s.mem.bog := by rw [hwmem, hbog, hmem, htaken.bog]
  have hwcells : w.mem.cells = s.mem.cells := by rw [hwmem, hcells, hmem, htaken.cells]
  have hwnew : w.mem.bogEntry a = none := by
    unfold Mem.bogEntry
    rw [hwbog]
    exact hnew
  have hid := Mem.seg_id hseg
  rw [State.badLine_data .fetch _ hwkind hwseg] at hexec
  obtain ⟨hc, hm, hport, hstate, hwanted, hentry⟩ :=
    State.bogLine_lists (g := g) .fetch (1024 * j + a.line.val) hwnew (by rw [hwbog]; exact hroom)
  rw [hid] at hport hstate hwanted hentry
  refine ⟨_, hexec, hc.trans hwcells, State.onlyMoves_trans (State.onlyMoves_mono hmoves (by decide)) (State.onlyMoves_mono hm (by decide)),
    fun hnot => ?_, hstate, hwanted, hentry⟩
  exact (hport (by rw [hmoves .tel (by decide)]; exact hnot)).trans (hmoves .port (by decide))

/-! ## Scrub reads (R328, R329, R331) -/

/-- A scrub read that returns clean does nothing outside erasure mode. -/
theorem State.scrubbed_clean {s : State} {a : LineAddr} {owner : BitVec 16} (verify : Flips) (h : s.mem.erasureMode a owner = false) :
    s.scrubbed a owner [] verify = s := by
  unfold State.scrubbed
  dsimp only
  rw [Mem.readResult_clean, h]
  exact if_neg (by simp)

theorem exec_scrubDone_clean {s : State} {a : LineAddr} {r : MemReq} (verify : Flips) (h : serves s) (hholds : s.mem.holds a = true)
    (hr : s.mem.admitted .p4 a (s.mem.pageKind a.page).owner = some r) (hread : r.read = some .scrub)
    (hmode : s.mem.erasureMode a (s.mem.pageKind a.page).owner = false) :
    ∃ t, exec (.lineReadDone .scrub a [] verify) s = .next t ∧ t.mem.cells = s.mem.cells ∧
      s.onlyMoves t [.mem, .player, .port] ∧
      (s.mem.scrubPos < s.mem.lineCount → t.port = s.port) ∧
      (s.mem.lineCount ≤ s.mem.scrubPos → (s.finishRead r).mem.scrubbing = false →
        t.mem.scrubPos = 0 ∧ t.mem.charged = [] ∧ t.port.counter[11] = s.port.counter[11] + 1) := by
  have htaken := s.finishRead_taken r
  have hexec := exec_scrubDone [] verify h hholds hr
  rw [if_neg (by rw [hread]; decide), State.scrubbed_clean verify (by rw [htaken.erasures]; exact hmode)] at hexec
  generalize s.finishRead r = u at *
  have hport : u.port = s.port := htaken.moves .port (by decide)
  obtain ⟨hmoves, hcells⟩ := u.passOver_moves
  refine ⟨_, hexec, hcells.trans htaken.cells, State.onlyMoves_trans (State.onlyMoves_mono htaken.moves (by decide))
    (State.onlyMoves_mono hmoves (by decide)), fun hgoes => ?_, fun hlast hnone => ?_⟩
  · rw [State.passOver_of_not (.inl (by rw [htaken.pos, htaken.lines]; exact hgoes)), hport]
  · rw [← hport]
    exact State.passOver_of_last (by rw [htaken.pos, htaken.lines]; exact hlast) hnone

theorem Mem.toHistory_bog (m : Mem) (e : BogEntry) : (m.toHistory e).bog = m.bog := rfl

/-- Entries that leave the Bog list. -/
theorem State.leaveBog_leaves (s : State) (who : BogEntry → Bool) (st : BogState) :
    (s.leaveBog who st).mem.bog = s.mem.bog.filter (fun e => !who e) ∧ s.onlyMoves (s.leaveBog who st) [.mem, .tel] := by
  have hfold (l : List BogEntry) (m : Mem) : (l.foldl (fun m e => (m.noteBog e.slot).toHistory e) m).bog = m.bog := by
    induction l generalizing m with
    | nil => rfl
    | cons e l ih => exact (ih _).trans rfl
  unfold State.leaveBog
  refine ⟨?_, ?_⟩
  · dsimp only
    rw [State.noteChanges_mem]
    exact hfold _ _
  · intro x hx
    cases x <;> simp_all [State.agree]

theorem State.settleQuarantine_keeps (s : State) (id : BitVec 16) :
    (s.settleQuarantine id).mem.bog = s.mem.bog ∧ s.onlyMoves (s.settleQuarantine id) [.mem, .tel] := by
  unfold State.settleQuarantine
  split
  · exact ⟨rfl, State.onlyMoves_refl _ _⟩
  · split
    · refine ⟨(Mem.putSeg_seg _ _).2, ?_⟩
      intro x hx
      cases x <;> simp_all [State.agree]
    · exact ⟨rfl, State.onlyMoves_refl _ _⟩

/-- A line of the Bog list that decodes again: it is rewritten, and its entry leaves the list (R328). -/
theorem State.rereadDone_clears {s : State} {a : LineAddr} {owner : BitVec 16} {e : BogEntry} (he : s.mem.bogEntry a = some e) :
    (s.rereadDone a owner []).mem.bogEntry a = none ∧
      (∀ b : LineAddr, b ≠ a → (s.rereadDone a owner []).mem.bogEntry b = s.mem.bogEntry b) ∧
      s.onlyMoves (s.rereadDone a owner []) [.mem, .tel] := by
  unfold State.rereadDone
  dsimp only
  rw [Mem.readResult_clean, he]
  unfold State.chargeRead
  dsimp only
  have hput : (((s.mem.putLine .p4 a owner (s.mem.dataWith a owner [])).listRead a)).bog = s.mem.bog := by
    have hline : (s.mem.putLine .p4 a owner (s.mem.dataWith a owner [])).bog = s.mem.bog := by
      unfold Mem.putLine Mem.askWrite Mem.request Mem.writeLine
      dsimp only
      (repeat' split) <;> rfl
    unfold Mem.listRead
    split
    · cases (s.mem.putLine .p4 a owner (s.mem.dataWith a owner [])).seg _ with
      | none => exact hline
      | some g => exact (Mem.putSeg_seg _ _).2.trans hline
    · exact hline
  generalize (s.mem.putLine .p4 a owner (s.mem.dataWith a owner [])).listRead a = m at *
  have hset := s.onlyMoves_setMem m
  obtain ⟨hleft, hmoves⟩ := State.leaveBog_leaves { s with mem := m } (fun x => x.addr == a) .retirement
  generalize State.leaveBog { s with mem := m } (fun x => x.addr == a) .retirement = u at *
  obtain ⟨hbog, hsettles⟩ := u.settleQuarantine_keeps e.owner
  have hbog' : (u.settleQuarantine e.owner).mem.bog = s.mem.bog.filter fun x => !(x.addr == a) := by
    rw [hbog, hleft, hput]
  refine ⟨?_, fun b hb => ?_, State.onlyMoves_trans (State.onlyMoves_mono hset (by decide)) (State.onlyMoves_trans hmoves hsettles)⟩
  · unfold Mem.bogEntry
    rw [hbog', List.find?_eq_none]
    intro x hx
    simpa using (List.mem_filter.mp hx).2
  · unfold Mem.bogEntry
    rw [hbog', List.find?_filter]
    refine congrArg (fun f => s.mem.bog.find? f) (funext fun x => ?_)
    by_cases hx : x.addr = b
    · simp [hx, hb]
    · simp [hx]

/-! ## Ring reads (R425) -/

/-- A clean ring read gives its frame the line. -/
theorem State.captureRead_clean {s : State} {k : Fin 8} {a : LineAddr} {l : CapLine} (hl : (s.mem.capture[k]).lineAt a = some l) :
    { l with got := true } ∈ ((s.captureRead k a []).mem.capture[k]).lines ∧ (s.captureRead k a []).mem.cells = s.mem.cells ∧
      s.onlyMoves (s.captureRead k a []) [.mem] := by
  have hin : l ∈ (s.mem.capture[k]).lines := List.mem_of_find?_eq_some hl
  unfold State.captureRead
  dsimp only
  rw [Mem.readResult_clean]
  unfold State.chargeRead Mem.ringLine
  dsimp only
  rw [hl]
  refine ⟨?_, rfl, s.onlyMoves_setMem _⟩
  dsimp only
  rw [Vector.get_set_same]
  exact List.mem_map.mpr ⟨l, hin, if_pos (beq_self_eq_true l)⟩

/-- Settles O49: lane, scrub, reread and ring reads, and the stop for a line that the DRAM does not hold. -/
theorem lineReadsAct : Obligations.LineReadsAct := by
  unfold Obligations.LineReadsAct
  refine ⟨fun s a r h hholds hr => exec_fetchDone_clean h hholds hr,
    fun s a r flips verify id j g h hholds hkind hseg hr howner hbad hnew hroom =>
      exec_fetchDone_bad h hholds hkind hseg hr howner hbad hnew hroom,
    fun s a r verify h hholds hr hread hmode => exec_scrubDone_clean verify h hholds hr hread hmode,
    fun s a r e verify h hholds hr hread he => ?_, fun s a k r l h hholds hk hr hl => ?_, fun s src a flips verify h hholds => ?_⟩
  · have htaken := s.finishRead_taken r
    have hexec := exec_scrubDone [] verify h hholds hr
    rw [if_pos hread] at hexec
    generalize s.finishRead r = u at *
    have hentry (b : LineAddr) : u.mem.bogEntry b = s.mem.bogEntry b := by
      unfold Mem.bogEntry
      rw [htaken.bog]
    obtain ⟨hgone, hothers, hmoves⟩ := State.rereadDone_clears (owner := (s.mem.pageKind a.page).owner) ((hentry a).trans he)
    exact ⟨_, hexec, hgone, fun b hb => (hothers b hb).trans (hentry b),
      State.onlyMoves_trans (State.onlyMoves_mono htaken.moves (by decide)) (State.onlyMoves_mono hmoves (by decide))⟩
  · have htaken := s.finishRead_taken r
    have hexec := exec_captureDone [] [] h hholds hk hr
    generalize s.finishRead r = u at *
    obtain ⟨hgot, hcells, hmoves⟩ := State.captureRead_clean (s := u) (k := k) (a := a) (l := l) (by rw [htaken.capture]; exact hl)
    exact ⟨_, hexec, hcells.trans htaken.cells, hgot, State.onlyMoves_trans htaken.moves (State.onlyMoves_mono hmoves (by decide))⟩
  · obtain ⟨hruns, hawake⟩ := h
    change execLineReadDone src a flips verify s = _
    unfold execLineReadDone
    rw [hruns, hawake, hholds]
    rfl

end Sys2Proof.Machine
end

section
/-! PROOFS. HEADER, END, the seal and PROVISION. -/

namespace Sys2Proof.Machine

/-! ## The image that is being read stands while the port does something else -/

@[simp] theorem State.logEvent_image (s : State) (code sub : Byte) (obj : BitVec 16) (data : BitVec 48) :
    (s.logEvent code sub obj data).port.image = s.port.image := by
  unfold State.logEvent
  dsimp only
  split <;> rfl

@[simp] theorem State.outcome_image (s : State) (code : Byte) (obj : Obj) (pin : Byte) (mask : BitVec 64) :
    (s.outcome code obj pin mask).port.image = s.port.image := by
  unfold State.outcome
  dsimp only
  split <;> rfl

theorem State.sendPause_image (s : State) (time : BitVec 16) : (s.sendPause time).port.image = s.port.image := by
  unfold State.sendPause
  split <;> rfl

theorem State.takeOff_image (s : State) (pl : Place) (n : Nat) : (s.takeOff pl n).port.image = s.port.image := by
  unfold State.takeOff State.settlePause
  split
  · dsimp only
    split
    · exact State.sendPause_image _ _
    · split
      · exact State.sendPause_image _ _
      · rfl
  · rfl

/-- What a fault that begins leaves of the image, and of what it would build (R144). -/
theorem State.beginFault_image (s : State) (b : Nat) :
    (s.beginFault b).port.image = s.port.image ∧ (s.beginFault b).txn.boot = s.txn.boot := by
  have hdiscards (u : State) : u.faultDiscards.port.image = u.port.image ∧ u.faultDiscards.txn.boot = u.txn.boot := by
    have hdiscard : (u.discard 3).port.image = u.port.image ∧ (u.discard 3).txn.boot = u.txn.boot := by
      unfold State.discard
      split
      · exact ⟨rfl, rfl⟩
      · have hboot := congrArg Txn.boot (State.outcome_txn u 3 noObj 0 0)
        exact ⟨u.outcome_image _ _ _ _, hboot⟩
    have hveto (v : State) : (v.holdVeto 3).port.image = v.port.image ∧ (v.holdVeto 3).txn.boot = v.txn.boot := by
      unfold State.holdVeto
      dsimp only
      (repeat' split) <;> exact ⟨rfl, rfl⟩
    unfold State.faultDiscards
    dsimp only
    split
    · exact ⟨(hveto _).1.trans hdiscard.1, (hveto _).2.trans hdiscard.2⟩
    · exact hdiscard
  have hends (u : State) : (u.endsProbation b).port.image = u.port.image ∧ (u.endsProbation b).txn.boot = u.txn.boot := by
    unfold State.endsProbation
    split <;> exact ⟨rfl, rfl⟩
  unfold State.beginFault
  dsimp only
  split
  · exact ⟨rfl, rfl⟩
  · rw [(hends _).1, (hends _).2, (hdiscards _).1, (hdiscards _).2]
    split
    · exact ⟨State.logEvent_image _ _ _ _ _, congrArg Txn.boot (State.logEvent_txn _ _ _ _ _)⟩
    · exact ⟨rfl, rfl⟩

theorem State.freeSegment_txn (s : State) (id : BitVec 16) : (s.freeSegment id).txn = s.txn := by
  unfold State.freeSegment State.freePages
  split
  · rfl
  · dsimp only
    rw [State.leaveBog_txn]

/-- An image that fails is discarded, and what the device would start from stands (R126). -/
theorem State.failImage_discards (s : State) (cause : Byte) :
    (s.failImage cause).power.stage = .failed cause ∧ (s.failImage cause).txn.boot = s.txn.boot ∧
      (s.failImage cause).port.image = ImageRead.initial ∧ (s.failImage cause).chan = s.chan := by
  have hfolded : (s.port.image.segments.foldl State.freeSegment s).txn = s.txn :=
    foldl_keeps (fun u : State => u.txn) (fun u id => u.freeSegment_txn id) _ _
  have hchan : (s.failImage cause).chan = s.chan := ((State.inForce_eq_iff _ _).mp (s.failImage_inForce cause)).2.2.1
  unfold State.failImage State.failBringUp at *
  dsimp only at *
  refine ⟨rfl, ?_, ?_, hchan⟩
  · exact (State.beginFault_image _ 32).2.trans (congrArg Txn.boot hfolded)
  · exact (State.beginFault_image _ 32).1

/-! ## The records of an image (R439 to R443, R462) -/

/-- A record of an image, sound in rows 1 and 2. -/
theorem State.takeWhole_inImage {s : State} {pl : Place} {rec : List Byte} (himage : pl.inImage = true) (hcrc : crcOk rec = true)
    (errs : List LineErrs) (readBack : List Byte) :
    s.takeWhole pl rec errs readBack =
      if s.port.image.started then (s.takeOff pl rec.length).takeInImage rec errs else (s.takeOff pl rec.length).takeFirst pl rec := by
  unfold State.takeWhole
  rw [hcrc]
  cases pl with
  | flashImage => rfl
  | portImage => rfl
  | provisioning => cases himage
  | afterBringUp => cases himage

theorem State.headerFault_congr {s t : State} (h : t.power = s.power) (pl : Place) (rec : List Byte) :
    t.headerFault pl rec = s.headerFault pl rec := by
  unfold State.headerFault
  rw [h]

/-- A record that is no chunk does not wait for the memory. -/
theorem State.takeRecord_of_other {s : State} {pl : Place} {ty : Nat} {rec : List Byte} (h : soundRecord s pl ty rec)
    (hend : s.pastEnd pl rec = false) (hty : ty ≠ 0x30) (errs : List LineErrs) (readBack : List Byte) :
    s.takeRecord ty rec errs readBack = s.takeWhole pl rec errs readBack := by
  have hwaits : s.chunkWaits ty = false := by
    unfold State.chunkWaits
    rw [beq_false_of_ne hty]
    rfl
  rw [State.takeRecord_of_sound h hend, hwaits, if_neg Bool.false_ne_true, if_neg fun h => hty h.1]

/-- A good HEADER starts the image. -/
theorem exec_header {s : State} {pl : Place} {rec : List Byte} (h : soundRecord s pl 1 rec) (himage : pl.inImage = true)
    (hstarted : s.port.image.started = false) (hgood : s.headerFault pl rec = none) :
    exec (.header rec) s = .next ((s.takeOff pl rec.length).startImage rec) := by
  have hend : s.pastEnd pl rec = false := by
    unfold State.pastEnd
    dsimp only
    rw [hstarted, Bool.and_false, Bool.false_and]
  have htakes := State.takeRecord_of_other h hend (by decide) [] []
  obtain ⟨-, htype, -, -, -, hcrc⟩ := h
  have hpower : (s.takeOff pl rec.length).power = s.power := s.takeOff_moves pl _ .power (by decide)
  rw [State.takeWhole_inImage himage hcrc, hstarted, if_neg Bool.false_ne_true] at htakes
  have hfirst : (s.takeOff pl rec.length).takeFirst pl rec = (s.takeOff pl rec.length).startImage rec := by
    unfold State.takeFirst
    rw [if_pos htype, State.headerFault_congr hpower, hgood]
  rw [hfirst] at htakes
  exact congrArg Host.Outcome.next htakes

/-- The state in which the image has its END (R441, R443). -/
def State.imageWhole (s : State) (rec : List Byte) : State :=
  { s with port := { s.port with image := { s.port.image.step rec with complete := true } } }

/-- A good END completes the image. -/
theorem exec_endRecord {s : State} {pl : Place} {rec : List Byte} (h : soundRecord s pl 2 rec) (himage : pl.inImage = true)
    (hstarted : s.port.image.started = true) (hlen : s.port.image.bytes.length + rec.length = s.port.image.ilen)
    (hindex : recIndex rec = 0) (hcount : s.port.image.records + 1 = s.port.image.nrec)
    (hsegs : ∀ id ∈ s.port.image.segments, ∃ g, s.mem.seg id = some g ∧ g.rcvd = g.len) :
    exec (.endRecord rec) s = .next
      (if s.power.sealOn then (s.takeOff pl rec.length).imageWhole rec else ((s.takeOff pl rec.length).imageWhole rec).imageActs) := by
  have hlength := h.2.2.1
  have hend : s.pastEnd pl rec = false := by
    unfold State.pastEnd
    dsimp only
    rw [hlength, Option.getD_some, hlen, decide_eq_false (Nat.lt_irrefl _), Bool.and_false]
  have htakes := State.takeRecord_of_other h hend (by decide) [] []
  obtain ⟨-, htype, -, -, -, hcrc⟩ := h
  rw [State.takeWhole_inImage himage hcrc, if_pos hstarted] at htakes
  have himg := s.takeOff_image pl rec.length
  have hpower : (s.takeOff pl rec.length).power = s.power := s.takeOff_moves pl _ .power (by decide)
  have hmem : (s.takeOff pl rec.length).mem = s.mem := s.takeOff_moves pl _ .mem (by decide)
  generalize s.takeOff pl rec.length = u at *
  have hall : (u.port.image.step rec).segments.any (fun id => (u.mem.seg id).elim true fun g => g.rcvd != g.len) = false := by
    rw [List.any_eq_false, himg, hmem]
    intro id hid
    obtain ⟨g, hg, hrcvd⟩ := hsegs id hid
    rw [hg, Option.elim_some, hrcvd]
    simp
  have hends : u.takeEnd rec = if s.power.sealOn then u.imageWhole rec else (u.imageWhole rec).imageActs := by
    have hrecords : (u.port.image.step rec).records = (u.port.image.step rec).nrec := by
      rw [himg]
      exact hcount
    have hseal : u.power.sealOn = s.power.sealOn := congrArg Power.sealOn hpower
    unfold State.takeEnd
    dsimp only
    rw [if_neg (not_not.mpr hindex), if_neg (not_not.mpr hrecords), hall, if_neg Bool.false_ne_true, hseal]
    rfl
  have hinImage : u.takeInImage rec [] = u.takeEnd rec := by
    unfold State.takeInImage
    dsimp only
    rw [htype, if_neg (by decide), himg, if_neg (by omega), if_pos rfl]
  rw [hinImage, hends] at htakes
  exact congrArg Host.Outcome.next htakes

/-! ## The image acts (R124, R443) -/

/-- A stage that begins leaves everything but the stage and the pins that show it. -/
theorem State.endImage_leaves (s : State) :
    s.endImage.power.fault 30 = false ∧
      s.endImage.power.stage = (if s.power.role != .standalone then .join else if s.trimmed then .done else .trimWait) ∧
      s.onlyMoves s.endImage [.power, .pins, .tel, .port] := by
  have hlacks := s.clearFault_lacks (b := 30) (by decide)
  have hpower := s.clearFault_power 30
  have hmoves := s.clearFault_moves 30
  unfold State.endImage State.enterTrimWait
  dsimp only
  generalize s.clearFault 30 = u at *
  have hrole : u.power.role = s.power.role := by rw [hpower]; rfl
  have htrimmed : u.trimmed = s.trimmed := by
    unfold State.trimmed
    rw [hmoves .cal (by decide), hpower]
  have henter (v : State) (st : Stage) (h : v.power.fault 30 = false) : (v.enterStage st).power.fault 30 = false := h
  have hcomplete : u.completeBringUp.power.fault 30 = false := hlacks
  have hdone : u.onlyMoves u.completeBringUp [.power, .pins] :=
    State.onlyMoves_trans (State.onlyMoves_mono (u.setPower_moves _) (by decide)) (State.enterStage_moves _ _)
  rw [hrole, htrimmed]
  refine ⟨?_, ?_, ?_⟩
  · split
    · split
      · exact hcomplete
      · exact hlacks
    · exact hlacks
  · by_cases hr : s.power.role = .standalone
    · rw [hr]
      cases s.trimmed <;> rfl
    · rw [beq_false_of_ne hr, if_neg Bool.false_ne_true, if_pos (bne_iff_ne.mpr hr)]
      rfl
  · refine State.onlyMoves_trans (State.onlyMoves_mono hmoves (by decide)) ?_
    split
    · split
      · exact State.onlyMoves_mono hdone (by decide)
      · exact State.onlyMoves_mono (u.enterStage_moves _) (by decide)
    · exact State.onlyMoves_mono (u.enterStage_moves _) (by decide)

/-- A segment of the image whose tag is verified (R462). -/
def Segment.freed (g : Segment) : Segment :=
  if g.state = .loading ∧ g.rcvd = g.len then { g with sealHold := false, state := .ready } else { g with sealHold := false }

/-- The state in which what the image built has become the base. -/
def State.imageBased (s : State) : State :=
  { s with
    txn := { s.txn with boot := s.builtImage }
    mem := s.mem.segs.foldl (fun m g => m.putSeg g.freed) s.mem
    port := { s.port with image := { s.port.image with built := some s.builtImage, held := [] } } }

theorem State.imageActs_eq (s : State) : s.imageActs = s.imageBased.endImage := rfl

/-- What the image built becomes the base, and nothing that is live or that drives moves. -/
theorem State.imageActs_acts (s : State) :
    s.imageActs.txn.boot = s.builtImage ∧ s.imageActs.power.fault 30 = false ∧
      s.imageActs.power.stage = (if s.power.role != .standalone then .join else if s.trimmed then .done else .trimWait) ∧
      s.imageActs.chan = s.chan ∧ s.imageActs.txn.live = s.txn.live ∧ s.imageActs.mem.cells = s.mem.cells := by
  have hcells : s.imageBased.mem.cells = s.mem.cells :=
    foldl_keeps Mem.cells (fun (m : Mem) (g : Segment) => m.putSeg_cells g.freed) s.mem.segs s.mem
  have hboot : s.imageBased.txn.boot = s.builtImage := rfl
  have hlive : s.imageBased.txn.live = s.txn.live := rfl
  obtain ⟨hfault, hstage, hmoves⟩ := s.imageBased.endImage_leaves
  have htxn : s.imageBased.endImage.txn = s.imageBased.txn := hmoves .txn (by decide)
  have hmem : s.imageBased.endImage.mem = s.imageBased.mem := hmoves .mem (by decide)
  rw [State.imageActs_eq, htxn, hmem]
  exact ⟨hboot, hfault, hstage, hmoves .chan (by decide), hlive, hcells⟩

/-! ## PROVISION (R464, R465) -/

theorem exec_provision {s : State} {rec readBack : List Byte} (h : soundRecord s .provisioning 3 rec) (hstage : s.power.stage = .provision)
    (hok : structureOk rec none = true) (hkcv : kcvOf (slice (recBody rec) 0 32) = slice (recBody rec) 32 8)
    (hback : kcvOf (slice readBack 0 32) = slice readBack 32 8) :
    exec (.provision rec readBack) s = .next (State.enterStage
      { s.takeOff .provisioning rec.length with
        power := { s.power with key := some (slice readBack 0 32), kcv := some (slice readBack 32 8) } } .provisioned) := by
  have htakes := State.takeRecord_of_other h rfl (by decide) [] readBack
  obtain ⟨-, htype, -, -, -, hcrc⟩ := h
  have hpower : (s.takeOff .provisioning rec.length).power = s.power := s.takeOff_moves _ _ .power (by decide)
  have hwhole : s.takeWhole .provisioning rec [] readBack = (s.takeOff .provisioning rec.length).takeInProvision rec readBack := by
    unfold State.takeWhole
    rw [hcrc]
  have hnot : ¬ (rtype rec ≠ 3 ∨ s.power.stage = .provisioned) := by
    rw [htype, hstage]
    decide
  rw [hwhole] at htakes
  generalize s.takeOff .provisioning rec.length = u at *
  unfold State.takeInProvision State.takeKey at htakes
  dsimp only at htakes
  rw [hpower, if_neg hnot, hok, Bool.not_true, if_neg Bool.false_ne_true, if_neg (not_not.mpr hkcv), if_pos hback] at htakes
  exact congrArg Host.Outcome.next htakes

/-! ## The seal (R125, R459, R462) -/

theorem exec_sealVerifyDone {s : State} (hstage : s.power.stage = .image) (hseal : s.power.sealOn = true)
    (hwhole : s.port.image.complete = true) :
    exec .sealVerifyDone s =
      if s.power.tagOf (s.port.image.bytes.take (s.port.image.ilen - 36)) = some (slice s.port.image.bytes (s.port.image.ilen - 36) 32)
      then .next s.imageActs else .next (s.failImage 0xAA) := by
  refine if_pos ?_
  rw [hstage, hseal, hwhole]
  rfl

/-- Settles O57: a HEADER starts the image, its END or its tag lets it act, and PROVISION programs the key. -/
theorem imageAndKeyRecords : Obligations.ImageAndKeyRecords := by
  unfold Obligations.ImageAndKeyRecords
  refine ⟨fun s pl rec h himage hstarted hgood => ?_, fun s pl rec h himage hstarted hlen hindex hcount hsegs => ?_,
    fun s hstage hseal hwhole => ⟨fun htag => ?_, fun htag => ?_⟩, fun s rec readBack h hstage hok hkcv hback => ?_⟩
  · refine ⟨_, exec_header h himage hstarted hgood, rfl, rfl, rfl, rfl, rfl, rfl, ?_⟩
    exact State.onlyMoves_trans (s.takeOff_moves _ _) (State.setPort_moves _ _)
  · have hexec := exec_endRecord h himage hstarted hlen hindex hcount hsegs
    have himg := s.takeOff_image pl rec.length
    have hmoves := s.takeOff_moves pl rec.length
    generalize s.takeOff pl rec.length = u at *
    have hpower : u.power = s.power := hmoves .power (by decide)
    refine ⟨fun hseal => ?_, fun hseal => ?_⟩
    · rw [hseal, if_neg Bool.false_ne_true] at hexec
      obtain ⟨hboot, hfault, hstage, hchan, hlive, hcells⟩ := (u.imageWhole rec).imageActs_acts
      have hbuilt : (u.imageWhole rec).builtImage = s.builtImage := by
        unfold State.builtImage State.imageWhole ImageRead.step
        dsimp only
        rw [himg, hpower]
      have htrimmed : (u.imageWhole rec).trimmed = s.trimmed := by
        unfold State.trimmed State.imageWhole
        dsimp only
        rw [hpower, hmoves .cal (by decide)]
      have hrole : (u.imageWhole rec).power.role = s.power.role := congrArg Power.role hpower
      rw [hrole, htrimmed] at hstage
      exact ⟨_, hexec, hboot.trans hbuilt, hfault, hstage, hchan.trans (hmoves .chan (by decide)),
        hlive.trans (congrArg Txn.live (hmoves .txn (by decide))), hcells.trans (congrArg Mem.cells (hmoves .mem (by decide)))⟩
    · rw [hseal, if_pos rfl] at hexec
      exact ⟨_, hexec, rfl, State.onlyMoves_trans hmoves (u.setPort_moves _)⟩
  · have hexec := exec_sealVerifyDone hstage hseal hwhole
    rw [if_pos htag] at hexec
    obtain ⟨hboot, -, hst, hchan, hlive, hcells⟩ := s.imageActs_acts
    refine ⟨_, hexec, hboot, ?_, hchan, hlive, hcells⟩
    rw [hst]
    (repeat' split) <;> decide
  · have hexec := exec_sealVerifyDone hstage hseal hwhole
    rw [if_neg htag] at hexec
    exact ⟨_, hexec, s.failImage_discards 0xAA⟩
  · refine ⟨_, exec_provision h hstage hok hkcv hback, rfl, rfl, rfl, ?_⟩
    refine State.onlyMoves_trans (State.onlyMoves_mono (s.takeOff_moves .provisioning rec.length) (by decide))
      (State.onlyMoves_trans (State.onlyMoves_mono (State.setPower_moves _ _) (by decide))
        (State.onlyMoves_mono (State.enterStage_moves _ _) (by decide)))

end Sys2Proof.Machine
end

section
/-! PROOFS. Segments load, and a load expires. -/

namespace Sys2Proof.Machine

/-! ## Segments that are put and taken away -/

/-- A descriptor that is put leaves every other. -/
theorem Mem.putSeg_other (m : Mem) (g : Segment) {k : BitVec 16} (hk : k ≠ g.id) : (m.putSeg g).seg k = m.seg k := by
  have hmap (l : List Segment) : (l.map fun x => if x.id == g.id then g else x).find? (fun x => x.id == k) =
      l.find? fun x => x.id == k := by
    induction l with
    | nil => rfl
    | cons x l ih =>
      rw [List.map_cons, List.find?_cons, List.find?_cons, ih]
      by_cases hx : x.id = g.id
      · have hg : (g.id == k) = false := beq_false_of_ne (Ne.symm hk)
        rw [if_pos (beq_iff_eq.mpr hx), hg, hx, hg]
      · rw [if_neg (by simpa using hx)]
  unfold Mem.putSeg Mem.seg
  dsimp only
  split
  · exact hmap _
  · dsimp only
    rw [List.find?_append, List.find?_cons, beq_false_of_ne (Ne.symm hk), List.find?_nil, Option.or_none]

theorem Mem.putSeg_merge (m : Mem) (g : Segment) : (m.putSeg g).merge = m.merge ∧ (m.putSeg g).fitted = m.fitted := by
  unfold Mem.putSeg
  extract_lets m1
  have h1 : m1.merge = m.merge ∧ m1.fitted = m.fitted := by
    unfold m1
    split <;> exact ⟨rfl, rfl⟩
  split
  · exact h1
  · exact h1

/-! ## A load that expires (R301, Table 9.5) -/

theorem State.leaveBog_segs (s : State) (who : BogEntry → Bool) (st : BogState) :
    (s.leaveBog who st).mem.segs = s.mem.segs ∧ (s.leaveBog who st).mem.cells = s.mem.cells ∧
      (s.leaveBog who st).tel.events = s.tel.events := by
  have hfold {β : Type} (f : Mem → β) (hf : ∀ (m : Mem) (e : BogEntry), f ((m.noteBog e.slot).toHistory e) = f m) (l : List BogEntry)
      (m : Mem) : f (l.foldl (fun m e => (m.noteBog e.slot).toHistory e) m) = f m :=
    foldl_keeps f hf l m
  unfold State.leaveBog
  dsimp only
  rw [State.noteChanges_mem]
  exact ⟨hfold Mem.segs (fun _ _ => rfl) _ _, hfold Mem.cells (fun _ _ => rfl) _ _, rfl⟩

theorem Mem.releasePages_frees (m : Mem) (ps : List Nat) :
    (m.releasePages ps).segs = m.segs ∧ (m.releasePages ps).cells = m.cells ∧
      ∀ p ∈ ps, p ∉ (m.releasePages ps).used := by
  have hfold {β : Type} (f : Mem → β) (hf : ∀ (m : Mem) (p : Nat), f (m.notePage p) = f m) (l : List Nat) (m : Mem) :
      f (l.foldl Mem.notePage m) = f m := foldl_keeps f hf l m
  unfold Mem.releasePages
  dsimp only
  refine ⟨hfold Mem.segs (fun _ _ => rfl) _ _, hfold Mem.cells (fun _ _ => rfl) _ _, fun p hp => ?_⟩
  rw [hfold Mem.used (fun _ _ => rfl)]
  simp [hp]

/-- A segment that is freed is gone, with its pages (R299). -/
theorem State.freeSegment_frees {s : State} {id : BitVec 16} {g : Segment} (hg : s.mem.seg id = some g) :
    (s.freeSegment id).mem.seg id = none ∧ (∀ k : BitVec 16, k ≠ id → (s.freeSegment id).mem.seg k = s.mem.seg k) ∧
      (∀ p ∈ g.pages ++ g.lists, p ∉ (s.freeSegment id).mem.used) ∧ (s.freeSegment id).mem.cells = s.mem.cells ∧
      (s.freeSegment id).tel.events = s.tel.events ∧ s.onlyMoves (s.freeSegment id) [.mem, .tel] := by
  unfold State.freeSegment State.freePages
  rw [hg]
  dsimp only
  obtain ⟨hsegs, hcells, hevents⟩ := s.leaveBog_segs (fun e => (g.pages ++ g.lists).contains e.addr.page) .released
  obtain ⟨-, hmoves⟩ := s.leaveBog_leaves (fun e => (g.pages ++ g.lists).contains e.addr.page) .released
  generalize s.leaveBog (fun e => (g.pages ++ g.lists).contains e.addr.page) .released = u at *
  obtain ⟨hreleased, hbytes, hpages⟩ := u.mem.releasePages_frees (g.pages ++ g.lists)
  refine ⟨?_, fun k hk => ?_, hpages, hbytes.trans hcells, hevents, ?_⟩
  · change ((u.mem.releasePages (g.pages ++ g.lists)).segs.filter fun x => x.id != id).find? (fun x => x.id == id) = none
    rw [List.find?_eq_none]
    intro x hx
    have hne := (List.mem_filter.mp hx).2
    simpa using hne
  · change ((u.mem.releasePages (g.pages ++ g.lists)).segs.filter fun x => x.id != id).find? (fun x => x.id == k) = s.mem.seg k
    rw [hreleased, hsegs, List.find?_filter]
    refine congrArg (fun f => s.mem.segs.find? f) (funext fun x => ?_)
    by_cases hx : x.id = k
    · simp [hx, hk]
    · simp [hx]
  · refine State.onlyMoves_trans hmoves ?_
    intro x hx
    cases x <;> simp_all [State.agree]

/-- A load that expires is abandoned. -/
theorem exec_segmentLoadTimeout {s : State} {id : BitVec 16} {g : Segment} (hruns : s.coreRuns = true) (hg : s.mem.seg id = some g)
    (hopen : g.state = .loading ∨ g.state = .quarantined ∧ g.rcvd < g.len)
    (hlate : g.lastChunk + 4096 * 16384 + s.clock.frame ≤ s.clock.clk) :
    exec (.segmentLoadTimeout id) s = .next ((s.freeSegment id).logEvent 0x0C 2 id) := by
  have hloads : (g.state == .loading || (g.state == .quarantined && decide (g.rcvd < g.len))) = true := by
    obtain h | ⟨h, hlt⟩ := hopen
    · rw [h]
      rfl
    · rw [h, decide_eq_true hlt]
      rfl
  have hdue : decide (g.lastChunk + 4096 * Config.framesPerTick + s.clock.frame ≤ s.clock.clk) = true := decide_eq_true hlate
  change execSegmentLoadTimeout id s = _
  unfold execSegmentLoadTimeout
  rw [hg]
  dsimp only
  rw [hruns, hloads, hdue]
  rfl

/-! ## Pages for a load (R298, R299) -/

/-- A segment apart from the pages that it holds. -/
def Segment.unpaged (g : Segment) : Segment := { g with pages := [], lists := [] }

/-- Pages that a segment takes leave the descriptors and the merge buffer, and the segment but for its pages. -/
theorem Mem.grow_keeps {fuel : Nat} {m m' : Mem} {g g' : Segment} {n : Nat} (h : m.grow fuel g n = some (m', g')) :
    m'.segs = m.segs ∧ m'.merge = m.merge ∧ g'.unpaged = g.unpaged := by
  induction fuel generalizing m g with
  | zero =>
    unfold Mem.grow at h
    split at h
    · cases h
      exact ⟨rfl, rfl, rfl⟩
    · cases h
  | succ fuel ih =>
    unfold Mem.grow at h
    split at h
    · cases h
      exact ⟨rfl, rfl, rfl⟩
    · split at h
      · cases h
      · next p m1 htake =>
        have hm1 : m1.segs = m.segs ∧ m1.merge = m.merge := by
          unfold Mem.takePage at htake
          split at htake
          · cases htake
            exact ⟨rfl, rfl⟩
          · cases htake
        have hlist : (m1.addList g p).1.segs = m1.segs ∧ (m1.addList g p).1.merge = m1.merge := by
          unfold Mem.addList
          dsimp only
          split <;> exact ⟨rfl, rfl⟩
        dsimp only at h
        split at h
        · obtain ⟨h1, h2, h3⟩ := ih h
          exact ⟨(h1.trans hlist.1).trans hm1.1, (h2.trans hlist.2).trans hm1.2, h3⟩
        · obtain ⟨h1, h2, h3⟩ := ih h
          exact ⟨h1.trans hm1.1, h2.trans hm1.2, h3⟩

/-! ## The lines of a chunk (R294, R332) -/

/-- A write into a merge buffer that has room flushes nothing. -/
theorem State.throughMerge_room {s : State} {new : Merge} (errs : Option (List LineErrs))
    (hroom : (s.mem.merge[subOf new.addr new.owner]).length < Config.mergeMax) :
    s.onlyMoves (s.throughMerge new errs) [.mem] ∧ (s.throughMerge new errs).mem.segs = s.mem.segs ∧
      ∀ sub : Fin 2, ((s.throughMerge new errs).mem.merge[sub]).length ≤ (s.mem.merge[sub]).length + 1 := by
  have hset (l : List Merge) (hl : l.length ≤ (s.mem.merge[subOf new.addr new.owner]).length + 1) (sub : Fin 2) :
      ((s.mem.merge.set (subOf new.addr new.owner) l)[sub]).length ≤ (s.mem.merge[sub]).length + 1 := by
    by_cases hsub : subOf new.addr new.owner = sub
    · subst hsub
      rw [Vector.get_set_same]
      exact hl
    · have hne : (subOf new.addr new.owner).val ≠ sub.val := fun h => hsub (Fin.ext h)
      rw [Fin.getElem_fin, Vector.getElem_set_ne _ _ hne]
      exact Nat.le_succ _
  unfold State.throughMerge
  extract_lets sub joined entries _ s1 src
  have hs1 : s1 = s := by
    unfold s1
    split
    · exact if_neg (Nat.not_le.mpr hroom)
    · rfl
  split
  · refine ⟨s.onlyMoves_setMem _, rfl, fun k => hset _ ?_ k⟩
    rw [List.length_map]
    exact Nat.le_succ _
  · have hsrc : src = s.mem := congrArg State.mem hs1
    rw [hsrc, hs1]
    refine ⟨s.onlyMoves_setMem _, rfl, fun k => hset _ ?_ k⟩
    rw [List.length_append]
    rfl

/-- One line of a chunk on its way to the merge buffer. -/
def State.storeLine (g : Segment) (c : Chunk) (errs : List LineErrs) (s : State) (i : Nat) : State :=
  match g.lineAddr (c.offset / 48 + i) with
  | some a =>
    s.throughMerge
      { addr := a, owner := g.id, data := vec64 (c.line (48 * i) (min 48 (c.ns - 48 * i))), mask := BitVec.allOnes 64,
        since := s.clock.clk, repair := false, map := false } (some errs)
  | none => s

theorem State.storeLines_eq (s : State) (g : Segment) (c : Chunk) (errs : List LineErrs) :
    s.storeLines g c errs = (List.range ((c.ns + 47) / 48)).foldl (State.storeLine g c errs) s := rfl

/-- The lines of a chunk that finds room enter the merge buffer, and leave every descriptor. -/
theorem State.storeEach_stores (g : Segment) (c : Chunk) (errs : List LineErrs) (l : List Nat) (s : State)
    (hroom : ∀ sub : Fin 2, (s.mem.merge[sub]).length + l.length ≤ Config.mergeMax) :
    s.onlyMoves (l.foldl (State.storeLine g c errs) s) [.mem] ∧
      (l.foldl (State.storeLine g c errs) s).mem.segs = s.mem.segs := by
  induction l generalizing s with
  | nil => exact ⟨State.onlyMoves_refl _ _, rfl⟩
  | cons i l ih =>
    have hone : s.onlyMoves (State.storeLine g c errs s i) [.mem] ∧ (State.storeLine g c errs s i).mem.segs = s.mem.segs ∧
        ∀ sub : Fin 2, ((State.storeLine g c errs s i).mem.merge[sub]).length ≤ (s.mem.merge[sub]).length + 1 := by
      unfold State.storeLine
      split
      · next a _ =>
        refine State.throughMerge_room (some errs) ?_
        have h := hroom (subOf a g.id)
        rw [List.length_cons] at h
        exact Nat.lt_of_lt_of_le (Nat.lt_add_of_pos_right (Nat.succ_pos _)) h
      · exact ⟨State.onlyMoves_refl _ _, rfl, fun _ => Nat.le_succ _⟩
    obtain ⟨hmoves, hsegs, hlen⟩ := hone
    rw [List.foldl_cons]
    obtain ⟨hm, hs⟩ := ih (State.storeLine g c errs s i) fun sub => by
      have h := hroom sub
      have h1 := hlen sub
      rw [List.length_cons] at h
      omega
    exact ⟨State.onlyMoves_trans hmoves hm, hs.trans hsegs⟩

/-! ## A load begins (R300, R456, Table 9.5) -/

/-- A Start chunk begins at sample 0. -/
theorem chunk_offset {rec : List Byte} (htype : rtype rec = 0x30) (hok : structureOk rec none = true)
    (hstart : (chunkOf rec).start = true) : (chunkOf rec).offset = 0 := by
  have hbody : chunkOk (recBody rec) = true := by
    unfold structureOk at hok
    dsimp only at hok
    rw [htype] at hok
    simp only [Bool.and_eq_true] at hok
    exact hok.2
  have hone : fieldAt (recBody rec) 0 1 = 1 := beq_iff_eq.mp hstart
  unfold chunkOk at hbody
  dsimp only at hbody
  rw [if_pos hone] at hbody
  simp only [Bool.and_eq_true, beq_iff_eq] at hbody
  have hzero := hbody.1.1.1.2.1
  exact hzero

/-- The descriptor that a chunk leaves of its segment. -/
def Segment.loaded (g : Segment) (c : Chunk) (clk : Nat) : Segment :=
  { g with
    rcvd := g.rcvd + c.ns, peakHi := (c.peaks 0 c.ns g.peakHi g.peakLo).1, peakLo := (c.peaks 0 c.ns g.peakHi g.peakLo).2
    lastChunk := clk, state := if g.rcvd + c.ns = g.len ∧ !g.sealHold then SegState.ready else .loading }

/-- What a Start for a FREE segment leaves, while pages last and the merge buffer has room. -/
theorem State.startLoad_loads {s : State} {c : Chunk} (errs : List LineErrs) (hoff : c.offset = 0) (hle : c.ns ≤ c.len)
    (hwhole : c.ns % 48 = 0 ∨ c.ns = c.len) (husable : s.dramUsable = true) (hmerge : s.mem.merge = Vector.replicate 2 [])
    (hns : c.ns ≤ 768)
    (hgrows : c.ns = 0 ∨ ((s.mem.putSeg (beginSegment c false)).grow 8 (beginSegment c false) ((c.ns + 49151) / 49152)).isSome = true) :
    ∃ g, (s.startLoad c false errs).2.mem.seg c.id = some g ∧ g.len = c.len ∧ g.rcvd = c.ns ∧
      g.state = (if c.ns = c.len then .ready else .loading) ∧
      (∀ k : BitVec 16, k ≠ c.id → (s.startLoad c false errs).2.mem.seg k = s.mem.seg k) ∧
      s.onlyMoves (s.startLoad c false errs).2 [.mem] := by
  have hcontinues : (beginSegment c false).continues c = true := by
    unfold Segment.continues beginSegment
    dsimp only
    rw [hoff, Nat.zero_add]
    simp only [beq_self_eq_true, Bool.true_and, Bool.and_eq_true, Bool.or_eq_true, decide_eq_true_eq, beq_iff_eq]
    exact ⟨hle, hwhole⟩
  obtain ⟨m, g1, hgrown, hsegs, hm, hg1⟩ : ∃ m g1,
      (if c.ns = 0 then some (s.mem.putSeg (beginSegment c false), beginSegment c false)
        else (s.mem.putSeg (beginSegment c false)).grow 8 (beginSegment c false) ((c.ns + 49151) / 49152)) = some (m, g1) ∧
      m.segs = (s.mem.putSeg (beginSegment c false)).segs ∧ m.merge = s.mem.merge ∧ g1.unpaged = (beginSegment c false).unpaged := by
    have hmerge0 := (s.mem.putSeg_merge (beginSegment c false)).1
    by_cases h0 : c.ns = 0
    · exact ⟨_, _, if_pos h0, rfl, hmerge0, rfl⟩
    · obtain ⟨⟨m, g1⟩, hg⟩ := Option.isSome_iff_exists.mp (hgrows.resolve_left h0)
      obtain ⟨h1, h2, h3⟩ := Mem.grow_keeps hg
      exact ⟨m, g1, (if_neg h0).trans hg, h1, h2.trans hmerge0, h3⟩
  have husable' : State.dramUsable { s with mem := s.mem.putSeg (beginSegment c false) } = true := by
    unfold State.dramUsable at husable ⊢
    dsimp only
    rw [(s.mem.putSeg_merge (beginSegment c false)).2]
    exact husable
  have hstored : s.startLoad c false errs =
      (false, State.storeLines { s with mem := m.putSeg (g1.loaded c s.clock.clk) } (g1.loaded c s.clock.clk) c errs) := by
    unfold State.startLoad State.loadChunk State.storeChunk
    dsimp only
    rw [hcontinues, if_pos rfl, husable', if_pos rfl, hoff, Nat.zero_add, hgrown]
    rfl
  have hid : (g1.loaded c s.clock.clk).id = c.id := congrArg Segment.id hg1
  have hlen : g1.len = c.len := congrArg Segment.len hg1
  have hrcvd : g1.rcvd = 0 := congrArg Segment.rcvd hg1
  have hhold : g1.sealHold = false := congrArg Segment.sealHold hg1
  have hroom (sub : Fin 2) : ((m.putSeg (g1.loaded c s.clock.clk)).merge[sub]).length + (List.range ((c.ns + 47) / 48)).length ≤
      Config.mergeMax := by
    rw [((m.putSeg_merge (g1.loaded c s.clock.clk)).1.trans hm).trans hmerge, List.length_range]
    have hempty : ((Vector.replicate 2 ([] : List Merge))[sub]).length = 0 := by
      rw [Fin.getElem_fin, Vector.getElem_replicate]
      rfl
    rw [hempty]
    unfold Config.mergeMax
    omega
  obtain ⟨hmoves, hkept⟩ := State.storeEach_stores (g1.loaded c s.clock.clk) c errs (List.range ((c.ns + 47) / 48))
    { s with mem := m.putSeg (g1.loaded c s.clock.clk) } hroom
  rw [hstored, State.storeLines_eq]
  have hseg (k : BitVec 16) : ((List.range ((c.ns + 47) / 48)).foldl (State.storeLine (g1.loaded c s.clock.clk) c errs)
      { s with mem := m.putSeg (g1.loaded c s.clock.clk) }).mem.seg k = (m.putSeg (g1.loaded c s.clock.clk)).seg k :=
    congrArg (List.find? fun x : Segment => x.id == k) hkept
  refine ⟨g1.loaded c s.clock.clk, ?_, hlen, ?_, ?_, fun k hk => ?_, State.onlyMoves_trans (s.onlyMoves_setMem _) hmoves⟩
  · rw [hseg, ← hid]
    exact (m.putSeg_seg _).1
  · change g1.rcvd + c.ns = c.ns
    rw [hrcvd, Nat.zero_add]
  · change (if g1.rcvd + c.ns = g1.len ∧ !g1.sealHold then SegState.ready else .loading) = _
    rw [hrcvd, Nat.zero_add, hlen, hhold]
    simp
  · rw [hseg, Mem.putSeg_other _ _ (by rw [hid]; exact hk)]
    have hold : m.seg k = (s.mem.putSeg (beginSegment c false)).seg k := congrArg (List.find? fun x : Segment => x.id == k) hsegs
    rw [hold, Mem.putSeg_other _ _ hk]

/-- A Start chunk of a FREE segment reaches its load. -/
theorem exec_segmentChunk {s : State} {rec : List Byte} (errs : List LineErrs) (h : soundRecord s .afterBringUp 0x30 rec)
    (htag : s.tagOk rec = true) (hok : structureOk rec none = true) (husable : s.dramUsable = true) (hopen : s.p2Open = true)
    (hfree : s.mem.seg (chunkOf rec).id = none) (hstart : (chunkOf rec).start = true) :
    exec (.segmentChunk rec errs) s = .next
      ((State.takeOff { s with mem := s.mem.request } .afterBringUp rec.length).startLoad (chunkOf rec) false errs).2 := by
  have htakes := State.takeRecord_of_sound h rfl errs []
  obtain ⟨-, htype, -, -, -, hcrc⟩ := h
  have hwaits : s.chunkWaits 0x30 = false := by
    unfold State.chunkWaits
    rw [hopen, Bool.not_true, Bool.and_false]
  rw [hwaits, if_neg Bool.false_ne_true, if_pos ⟨rfl, husable⟩] at htakes
  have hmoves := State.takeOff_moves { s with mem := s.mem.request } .afterBringUp rec.length
  have hwhole : State.takeWhole { s with mem := s.mem.request } .afterBringUp rec errs [] =
      (State.takeOff { s with mem := s.mem.request } .afterBringUp rec.length).takeOnPort rec errs
        (arrivedAt rec.length s.port.arrived) := by
    unfold State.takeWhole
    rw [hcrc]
  rw [hwhole] at htakes
  generalize State.takeOff { s with mem := s.mem.request } .afterBringUp rec.length = u at *
  have htagU : u.tagOk rec = true := by
    rw [← htag]
    unfold State.tagOk
    rw [hmoves .power (by decide)]
  have hsegs : u.mem.seg (chunkOf rec).id = none := by
    have hmem : u.mem = s.mem.request := hmoves .mem (by decide)
    rw [← hfree, hmem]
    unfold Mem.seg Mem.request
    split <;> rfl
  unfold State.takeOnPort State.takeChunk at htakes
  rw [htype, if_neg (not_not.mpr rfl), htagU, hok, hsegs, hstart] at htakes
  exact congrArg Host.Outcome.next htakes

/-- Settles O58: a Start chunk begins its segment, and a load that has waited too long is abandoned. -/
theorem segmentsLoadAndExpire : Obligations.SegmentsLoadAndExpire := by
  unfold Obligations.SegmentsLoadAndExpire
  refine ⟨fun s rec errs h htag hok _ husable hopen hmerge hns hfree hstart hle hwhole hgrows => ?_,
    fun s id g hruns hg hwaits hlate hroom => ?_⟩
  · have hexec := exec_segmentChunk errs h htag hok husable hopen hfree hstart
    have hmoves := State.takeOff_moves { s with mem := s.mem.request } .afterBringUp rec.length
    have hstream := State.takeOff_stream (s := { s with mem := s.mem.request }) (pl := .afterBringUp) rfl rec.length
    have hfirst := State.onlyMoves_trans (State.onlyMoves_mono (s.onlyMoves_setMem s.mem.request) (by decide))
      (State.onlyMoves_mono hmoves (by decide : ([.port] : List Part) ⊆ [.mem, .port]))
    generalize State.takeOff { s with mem := s.mem.request } .afterBringUp rec.length = u at *
    have hmem : u.mem = s.mem.request := hmoves .mem (by decide)
    have hrequest (k : BitVec 16) : u.mem.seg k = s.mem.seg k := by
      rw [hmem]
      unfold Mem.seg Mem.request
      split <;> rfl
    have husableU : u.dramUsable = true := by
      have hfitted : s.mem.request.fitted = s.mem.fitted := by
        unfold Mem.request
        split <;> rfl
      unfold State.dramUsable at husable ⊢
      rw [hmem, hfitted, State.dramDown_congr (hmoves .power (by decide))]
      exact husable
    obtain ⟨g, hseg, hlen, hrcvd, hstate, hothers, hloads⟩ := State.startLoad_loads (s := u) errs
      (chunk_offset h.2.1 hok hstart) hle hwhole husableU (by rw [hmem, Mem.request_merge]; exact hmerge) hns (by rw [hmem]; exact hgrows)
    refine ⟨_, g, hexec, hseg, hlen, hrcvd, hstate, fun k hk => (hothers k hk).trans (hrequest k), ?_,
      State.onlyMoves_trans hfirst (State.onlyMoves_mono hloads (by decide))⟩
    rw [hloads .port (by decide)]
    exact hstream
  · obtain ⟨hgone, hothers, hpages, hcells, hevents, hmoves⟩ := State.freeSegment_frees hg
    have hexec := exec_segmentLoadTimeout hruns hg hwaits hlate
    generalize s.freeSegment id = u at *
    have hlog := State.logEvent_moves u 0x0C 2 id 0
    have hmem : (u.logEvent 0x0C 2 id).mem = u.mem := State.logEvent_mem _ _ _ _ _
    refine ⟨_, hexec, ?_⟩
    rw [hmem]
    exact ⟨hgone, hothers, hpages, State.logEvent_enters (by rw [hevents]; exact hroom) _ _ _ _, hcells,
      State.onlyMoves_trans (State.onlyMoves_mono hmoves (by decide)) (State.onlyMoves_mono hlog (by decide))⟩

end Sys2Proof.Machine
end

section
/-! PROOFS. The drive path, its codes and its latch. -/

namespace Sys2Proof.Machine

/-! ## The slew limiter (R237) -/

/-- The limiter moves toward its goal by the lesser of the step and the distance, when the interval has passed (R237). -/
theorem limit_moves (step int : BitVec 9) (t c : Code) (m : BitVec 9) :
    (int.toNat ≤ min (m.toNat + 1) 256 →
      Int.natAbs (((limit step int t c m).1.toNat : Int) - t.toNat) =
        Int.natAbs ((c.toNat : Int) - t.toNat) - min step.toNat (Int.natAbs ((c.toNat : Int) - t.toNat))) ∧
      (min (m.toNat + 1) 256 < int.toNat → (limit step int t c m).1 = c) := by
  unfold limit
  dsimp only
  have ht := t.isLt
  have hc := c.isLt
  refine ⟨fun hint => ?_, fun hint => ?_⟩
  · by_cases hne : t = c
    · rw [if_neg fun h => h.1 hne, hne]
      simp
    · rw [if_pos ⟨hne, hint⟩]
      have hval : t.toNat ≠ c.toNat := fun h => hne (BitVec.eq_of_toNat_eq h)
      dsimp only
      split
      · next hlt =>
        rw [BitVec.toNat_add, BitVec.toNat_ofNat]
        omega
      · next hlt =>
        rw [BitVec.toNat_sub, BitVec.toNat_ofNat]
        omega
  · rw [if_neg fun h => absurd h.2 (Nat.not_le.mpr hint)]

/-- The limiter moves by at most its step, and only when the interval has passed. -/
theorem limit_slews (step int : BitVec 9) (t c : Code) (m : BitVec 9) :
    Int.natAbs (((limit step int t c m).1.toNat : Int) - c.toNat) ≤ step.toNat ∧
      ((limit step int t c m).1 ≠ c → int.toNat ≤ min (m.toNat + 1) 256 ∧ (limit step int t c m).2 = 0) := by
  unfold limit
  dsimp only
  have ht := t.isLt
  have hc := c.isLt
  split
  · next h =>
    refine ⟨?_, fun _ => ⟨h.2, rfl⟩⟩
    have hval : t.toNat ≠ c.toNat := fun h' => h.1 (BitVec.eq_of_toNat_eq h')
    dsimp only
    split
    · rw [BitVec.toNat_add, BitVec.toNat_ofNat]
      omega
    · rw [BitVec.toNat_sub, BitVec.toNat_ofNat]
      omega
  · refine ⟨?_, fun h => absurd rfl h⟩
    simp

/-- At its goal the limiter stays. -/
theorem limit_stays (step int : BitVec 9) (c : Code) (m : BitVec 9) : (limit step int c c m).1 = c := by
  unfold limit
  rw [if_neg fun h => h.1 rfl]

/-! ## Codes and gains (R234, R246) -/

theorem satInt_of_mem {lo hi x : Int} (hlo : lo ≤ x) (hhi : x ≤ hi) : satInt lo hi x = x := by
  unfold satInt
  rw [if_neg (by omega), if_neg (by omega)]

theorem satInt_eq {lo hi : Int} (h : lo ≤ hi) (x : Int) : satInt lo hi x = max lo (min hi x) := by
  unfold satInt
  split
  · omega
  · split <;> omega

/-- A clamped code is its value between 0 and 1023. -/
theorem clampCode_toNat (x : Int) : ((clampCode x).toNat : Int) = max 0 (min 1023 x) := by
  unfold clampCode
  rw [satInt_eq (by decide), BitVec.toNat_ofNat]
  omega

theorem clampCode_of_code (c : Code) : clampCode (c.toNat : Int) = c := by
  refine BitVec.eq_of_toNat_eq ?_
  have h := clampCode_toNat (c.toNat : Int)
  have hc := c.isLt
  omega

/-- Under one gain a code is itself (Table 7.3). -/
theorem rangeMap_same (curr : Bool) (g : BitVec 1) (c : Code) : (rangeMap curr g g c).1 = c := by
  unfold rangeMap rangeRaw
  dsimp only
  rw [if_pos rfl, clampCode_of_code]

theorem roundShift_eq (x : Int) (k : Nat) : rsh x k = roundShift x k := rfl

/-- The target that a channel forms is the one that R234 gives. -/
theorem formsTarget_target {s : State} {n : Chan} {src : Int} {goal : Code} (h : formsTarget s n src goal) :
    ((s.chanParams n).target src).1 = goal := by
  obtain ⟨q, rfl, hgoal⟩ := h
  unfold ChanParams.target
  dsimp only
  refine BitVec.eq_of_toNat_eq ?_
  have hclamp := clampCode_toNat (((s.chanParams n).nom.toNat : Int) +
    rsh (satInt (-2048) 2047 (rsh (src * (s.chanParams n).amp.toNat) (s.chanParams n).sha.toNat) + (s.chanParams n).ofs.toInt)
      (s.chanParams n).sho.toNat)
  rw [satInt_eq (by decide), roundShift_eq, roundShift_eq] at hclamp
  rw [satInt_eq (by decide), roundShift_eq, roundShift_eq]
  exact Int.ofNat_inj.mp (hclamp.trans hgoal.symm)

/-! ## What a slot latches (R228, R235, R250) -/

/-- A player apart from the events raised for it in this frame. -/
def Player.deaf (x : Player) : Player := { x with raisedNow := 0 }

/-- What the latch of slot `n`, and what it counts, leave: of every other channel all, of its own what the next code is made of. -/
structure Latches (s u : State) (n : Chan) : Prop where
  moves : s.onlyMoves u [.chan, .ledger, .player, .tel, .port]
  others (j : Chan) (h : j ≠ n) : u.chan[j] = s.chan[j]
  players (p : PlayerNo) : (u.player[p]).deaf = (s.player[p]).deaf
  code : (u.chan[n]).code = (s.chan[n]).code
  m : (u.chan[n]).m = (s.chan[n]).m
  gainNext : (u.chan[n]).gainNext = (s.chan[n]).gainNext
  window : (u.chan[n]).window = (s.chan[n]).window
  retreated : (u.chan[n]).retreated = (s.chan[n]).retreated
  released : (u.chan[n]).released = (s.chan[n]).released
  lastTarget : (u.chan[n]).lastTarget = (s.chan[n]).lastTarget
  heldNominal : (u.chan[n]).heldNominal = (s.chan[n]).heldNominal
  satNext : (u.chan[n]).satNext = (s.chan[n]).satNext
  clipNext : (u.chan[n]).clipNext = (s.chan[n]).clipNext
  heldNext : (u.chan[n]).heldNext = (s.chan[n]).heldNext

theorem Latches.refl (s : State) (n : Chan) : Latches s s n :=
  ⟨State.onlyMoves_refl _ _, fun _ _ => rfl, fun _ => rfl, rfl, rfl, rfl, rfl, rfl, rfl, rfl, rfl, rfl, rfl, rfl⟩

theorem Latches.trans {s t u : State} {n : Chan} (h : Latches s t n) (k : Latches t u n) : Latches s u n :=
  ⟨State.onlyMoves_trans h.moves k.moves, fun j hj => (k.others j hj).trans (h.others j hj), fun p => (k.players p).trans (h.players p),
    k.code.trans h.code, k.m.trans h.m, k.gainNext.trans h.gainNext, k.window.trans h.window, k.retreated.trans h.retreated,
    k.released.trans h.released, k.lastTarget.trans h.lastTarget, k.heldNominal.trans h.heldNominal, k.satNext.trans h.satNext,
    k.clipNext.trans h.clipNext, k.heldNext.trans h.heldNext⟩

/-- A state with one channel changed. -/
def State.withChan (s : State) (n : Chan) (c : Channel) : State := { s with chan := s.chan.set n c }

theorem State.withChan_get (s : State) (n : Chan) (c : Channel) : (s.withChan n c).chan[n] = c := Vector.get_set_same _ _ _

theorem State.withChan_other (s : State) {n j : Chan} (c : Channel) (h : j ≠ n) : (s.withChan n c).chan[j] = s.chan[j] :=
  Vector.getElem_set_ne n.isLt j.isLt fun e => h (Fin.ext e.symm)

theorem State.withChan_moves (s : State) (n : Chan) (c : Channel) : s.onlyMoves (s.withChan n c) [.chan] := by
  intro x hx
  cases x <;> simp_all [State.agree, State.withChan]

/-- What moves no channel and raises events at most. -/
theorem Latches.of_events {s u : State} (n : Chan) (hmoves : s.onlyMoves u [.ledger, .player, .tel, .port])
    (hplayers : ∀ p : PlayerNo, (u.player[p]).deaf = (s.player[p]).deaf) : Latches s u n := by
  have hchan : u.chan = s.chan := hmoves .chan (by decide)
  refine ⟨State.onlyMoves_mono hmoves (by decide), fun j _ => ?_, hplayers, ?_, ?_, ?_, ?_, ?_, ?_, ?_, ?_, ?_, ?_, ?_⟩
  all_goals rw [hchan]

theorem State.raiseFor_deaf (s : State) (code : Nat) (who : PlayerNo → Bool) (p : PlayerNo) :
    ((s.raiseFor code who).player[p]).deaf = (s.player[p]).deaf := by
  unfold State.raiseFor
  dsimp only
  rw [mapAll_get]
  split <;> rfl

theorem State.raiseFor_moves (s : State) (code : Nat) (who : PlayerNo → Bool) : s.onlyMoves (s.raiseFor code who) [.player] := by
  intro x hx
  cases x <;> simp_all [State.agree, State.raiseFor]

/-- A LEDGER event (R37). -/
theorem State.fireLedger_events (s : State) (i : Fin 128) :
    s.onlyMoves (s.fireLedger i) [.player, .tel, .port] ∧ ∀ p : PlayerNo, ((s.fireLedger i).player[p]).deaf = (s.player[p]).deaf := by
  unfold State.fireLedger
  dsimp only
  generalize hwho : (fun p : PlayerNo => (List.finRange 64).any fun n => s.boundTo p n && s.railOf n == railOfRecord i) = who
  have hraise := s.raiseFor_moves 0x1B who
  have hlog := (s.raiseFor 0x1B who).logEvent_moves 6 (BitVec.ofNat 8 (i.val % 2)) (BitVec.ofNat 16 (railOfRecord i).val) 0
  have hdeaf (p : PlayerNo) := s.raiseFor_deaf 0x1B who p
  have hplayer : ((s.raiseFor 0x1B who).logEvent 6 (BitVec.ofNat 8 (i.val % 2)) (BitVec.ofNat 16 (railOfRecord i).val)).player =
      (s.raiseFor 0x1B who).player := State.logEvent_player _ _ _ _ _
  generalize (s.raiseFor 0x1B who).logEvent 6 (BitVec.ofNat 8 (i.val % 2)) (BitVec.ofNat 16 (railOfRecord i).val) = u at *
  have hfreeze := u.freezeLedger_moves
  have hplayer' : u.freezeLedger.player = u.player := hfreeze .player (by decide)
  refine ⟨State.onlyMoves_trans (State.onlyMoves_mono hraise (by decide)) (State.onlyMoves_trans (State.onlyMoves_mono hlog (by decide))
    (State.onlyMoves_mono hfreeze (by decide))), fun p => ?_⟩
  rw [hplayer', hplayer]
  exact hdeaf p

/-- The counts with one of them risen, which never passes its value (R346). -/
def Ledger.counted (l : Ledger) (i : Fin 128) : Vector Nat 128 :=
  l.count.set i (if l.count[i] < l.value i then l.count[i] + 1 else l.count[i])

theorem State.judgeBudget_events (s : State) (i : Fin 128) :
    s.onlyMoves (s.judgeBudget i) [.ledger, .player, .tel, .port] ∧
      (∀ p : PlayerNo, ((s.judgeBudget i).player[p]).deaf = (s.player[p]).deaf) ∧
      (s.judgeBudget i).ledger.count = s.ledger.count := by
  unfold State.judgeBudget
  dsimp only
  have hset (r : Vector Bool 128) : s.onlyMoves { s with ledger := { s.ledger with reached := r } } [.ledger] := s.setLedger_moves _
  split
  · refine ⟨State.onlyMoves_trans (State.onlyMoves_mono (hset _) (by decide))
      (State.onlyMoves_mono (State.fireLedger_events _ i).1 (by decide)), fun p => (State.fireLedger_events _ i).2 p, ?_⟩
    rw [(State.fireLedger_events _ i).1 .ledger (by decide)]
  · exact ⟨State.onlyMoves_mono (hset _) (by decide), fun p => rfl, rfl⟩

/-- A count that rises moves the ledger, and where its budget becomes reached raises the LEDGER event (R37, R346). -/
theorem State.countUp_events (s : State) (i : Fin 128) :
    s.onlyMoves (s.countUp i) [.ledger, .player, .tel, .port] ∧
      (∀ p : PlayerNo, ((s.countUp i).player[p]).deaf = (s.player[p]).deaf) ∧
      (s.countUp i).ledger.count = s.ledger.counted i := by
  have hset (l : Ledger) : s.onlyMoves { s with ledger := l } [.ledger] := s.setLedger_moves l
  unfold State.countUp
  dsimp only
  exact ⟨State.onlyMoves_trans (State.onlyMoves_mono (hset _) (by decide)) (State.judgeBudget_events _ i).1,
    fun p => (State.judgeBudget_events _ i).2.1 p, (State.judgeBudget_events _ i).2.2⟩

/-- A channel with another latched code and what is judged of it, or with what its frame counts. -/
theorem Latches.of_chan {s : State} {n : Chan} {c : Channel} (hcode : c.code = (s.chan[n]).code) (hm : c.m = (s.chan[n]).m)
    (hgain : c.gainNext = (s.chan[n]).gainNext) (hwindow : c.window = (s.chan[n]).window)
    (hret : c.retreated = (s.chan[n]).retreated) (hrel : c.released = (s.chan[n]).released)
    (hlast : c.lastTarget = (s.chan[n]).lastTarget) (hheld : c.heldNominal = (s.chan[n]).heldNominal)
    (hsat : c.satNext = (s.chan[n]).satNext) (hclip : c.clipNext = (s.chan[n]).clipNext) (hnext : c.heldNext = (s.chan[n]).heldNext) :
    Latches s (s.withChan n c) n := by
  have hget := s.withChan_get n c
  refine ⟨State.onlyMoves_mono (s.withChan_moves n c) (by decide), fun j hj => s.withChan_other c hj, fun _ => rfl, ?_, ?_, ?_, ?_, ?_,
    ?_, ?_, ?_, ?_, ?_, ?_⟩
  all_goals rw [hget]; assumption

/-- Whether the latched code lies beyond the shallow threshold (R36). -/
def State.beyondNow (s : State) (n : Chan) (gain : BitVec 1) : Bool :=
  decide ((s.chanParams n).shallow.toNat < offNominal (s.chanParams n).nom (s.judgedCode n gain (s.chan[n]).latched))

/-- The state in which the latched code is judged, and its rail marked where it is deep (R239). -/
def State.excursionMarked (s : State) (n : Chan) (gain : BitVec 1) : State :=
  if (s.chanParams n).deep.toNat < offNominal (s.chanParams n).nom (s.judgedCode n gain (s.chan[n]).latched) then
    { s.withChan n { s.chan[n] with beyond := s.beyondNow n gain } with
      ledger := { s.ledger with deep := s.ledger.deep.set (s.railOf n) true } }
  else s.withChan n { s.chan[n] with beyond := s.beyondNow n gain }

theorem State.judgeExcursion_eq (s : State) (n : Chan) (gain : BitVec 1) :
    s.judgeExcursion n gain =
      if s.beyondNow n gain && !(s.chan[n]).beyond then (s.excursionMarked n gain).countUp (excRecord (s.railOf n))
      else s.excursionMarked n gain := rfl

theorem State.excursionMarked_marks (s : State) (n : Chan) (gain : BitVec 1) :
    Latches s (s.excursionMarked n gain) n ∧
      (s.excursionMarked n gain).chan[n] = { s.chan[n] with beyond := s.beyondNow n gain } ∧
      (s.excursionMarked n gain).ledger.count = s.ledger.count ∧
      ∀ i, (s.excursionMarked n gain).ledger.counted i = s.ledger.counted i := by
  have hfirst : Latches s (s.withChan n { s.chan[n] with beyond := s.beyondNow n gain }) n :=
    Latches.of_chan rfl rfl rfl rfl rfl rfl rfl rfl rfl rfl rfl
  have hget := s.withChan_get n { s.chan[n] with beyond := s.beyondNow n gain }
  unfold State.excursionMarked
  split
  · exact ⟨hfirst.trans (Latches.of_events n (State.onlyMoves_mono (State.setLedger_moves _ _) (by decide)) fun _ => rfl), hget, rfl,
      fun _ => rfl⟩
  · exact ⟨hfirst, hget, rfl, fun _ => rfl⟩

/-- The excursion of a latched code: beyond the shallow threshold or not, and the count of the channel's rail (R36). -/
theorem State.judgeExcursion_judges (s : State) (n : Chan) (gain : BitVec 1) :
    Latches s (s.judgeExcursion n gain) n ∧
      (s.judgeExcursion n gain).chan[n] = { s.chan[n] with beyond := s.beyondNow n gain } ∧
      (s.judgeExcursion n gain).ledger.count =
        if s.beyondNow n gain && !(s.chan[n]).beyond then
          s.ledger.counted (excRecord (s.railOf n))
        else s.ledger.count := by
  obtain ⟨hlatches, hget, hcount, hvalue⟩ := s.excursionMarked_marks n gain
  rw [State.judgeExcursion_eq]
  generalize s.excursionMarked n gain = u at *
  obtain ⟨hmoves, hdeaf, hcounts⟩ := u.countUp_events (excRecord (s.railOf n))
  split
  · have hchan := congrArg (fun v : Vector Channel 64 => v[n]) (hmoves .chan (by decide))
    refine ⟨hlatches.trans (Latches.of_events n hmoves hdeaf), hchan.trans hget, ?_⟩
    rw [hcounts, hvalue]
  · exact ⟨hlatches, hget, hcount⟩

/-- What a frame counts of its slot (R235, R250). -/
def Channel.counted (c : Channel) : Channel :=
  { c with
    saturated := c.saturated + (if c.satNext then 1 else 0), clipped := c.clipped + (if c.clipNext then 1 else 0)
    ledgerHeld := c.ledgerHeld + (if c.heldNext then 1 else 0), clipRun := c.clipNext }

theorem State.countFrame_eq (s : State) (n : Chan) :
    s.countFrame n =
      if (s.chan[n]).clipNext && !(s.chan[n]).clipRun then
        ((s.withChan n (s.chan[n]).counted).raiseFor 0x1D fun p => s.boundTo p n).logEvent 7 0 (BitVec.ofNat 16 n.val)
      else s.withChan n (s.chan[n]).counted := rfl

theorem State.countFrame_counts (s : State) (n : Chan) :
    Latches s (s.countFrame n) n ∧ (s.countFrame n).chan[n] = (s.chan[n]).counted ∧
      s.onlyMoves (s.countFrame n) [.chan, .player, .tel, .port] := by
  have hfirst : Latches s (s.withChan n (s.chan[n]).counted) n := Latches.of_chan rfl rfl rfl rfl rfl rfl rfl rfl rfl rfl rfl
  have hmoved := s.withChan_moves n (s.chan[n]).counted
  have hget := s.withChan_get n (s.chan[n]).counted
  rw [State.countFrame_eq]
  generalize s.withChan n (s.chan[n]).counted = u at *
  have hraise := u.raiseFor_moves 0x1D fun p => s.boundTo p n
  have hdeaf := u.raiseFor_deaf 0x1D fun p => s.boundTo p n
  generalize (u.raiseFor 0x1D fun p => s.boundTo p n) = v at *
  have hlog := v.logEvent_moves 7 0 (BitVec.ofNat 16 n.val) 0
  have hplayer : (v.logEvent 7 0 (BitVec.ofNat 16 n.val)).player = v.player := State.logEvent_player _ _ _ _ _
  generalize v.logEvent 7 0 (BitVec.ofNat 16 n.val) = w at *
  have hevents : u.onlyMoves w [.player, .tel, .port] :=
    State.onlyMoves_trans (State.onlyMoves_mono hraise (by decide)) (State.onlyMoves_mono hlog (by decide))
  split
  · have hchan := congrArg (fun v : Vector Channel 64 => v[n]) (hevents .chan (by decide))
    refine ⟨hfirst.trans (Latches.of_events n (State.onlyMoves_mono hevents (by decide)) fun p => ?_), hchan.trans hget,
      State.onlyMoves_trans (State.onlyMoves_mono hmoved (by decide)) (State.onlyMoves_mono hevents (by decide))⟩
    rw [hplayer, hdeaf]
  · exact ⟨hfirst, hget, State.onlyMoves_mono hmoved (by decide)⟩

/-- The first clamped frame of a run raises CLIP for the channel's players, and is logged (R250). -/
theorem State.countFrame_clips {s : State} {n : Chan} (hclip : (s.chan[n]).clipNext = true) (hrun : (s.chan[n]).clipRun = false)
    (hroom : s.tel.events.length < 2048) :
    (∀ p : PlayerNo, s.boundTo p n = true → ((s.countFrame n).player[p]).raisedNow.getLsbD 0x1D = true) ∧
      ∃ e ∈ (s.countFrame n).tel.events, e.code = 7 ∧ e.obj = BitVec.ofNat 16 n.val := by
  rw [State.countFrame_eq, hclip, hrun, Bool.not_false, Bool.and_self, if_pos rfl]
  refine ⟨fun p hp => ?_, ?_⟩
  · rw [State.logEvent_player]
    exact State.raiseFor_raised (by decide) hp
  · obtain ⟨e, he, hcode, -, hobj⟩ := State.logEvent_enters
      (s := (s.withChan n (s.chan[n]).counted).raiseFor 0x1D fun p => s.boundTo p n) hroom 7 0 (BitVec.ofNat 16 n.val) 0
    exact ⟨e, he, hcode, hobj⟩

/-- The channel with the code of its frame latched (R228). -/
def Channel.latches (c : Channel) (code : Code) (gain : BitVec 1) : Channel := { c with latched := code, gainHeld := gain, delayed := none }

theorem State.putCode_puts (s : State) (n : Chan) (code : Code) (gain : BitVec 1) :
    Latches s (s.putCode n code gain) n ∧
      (s.putCode n code gain).chan[n] = { (s.chan[n]).latches code gain with
        beyond := (s.withChan n ((s.chan[n]).latches code gain)).beyondNow n gain } ∧
      (s.putCode n code gain).ledger.count =
        if (s.withChan n ((s.chan[n]).latches code gain)).beyondNow n gain && !(s.chan[n]).beyond then
          s.ledger.counted (excRecord (s.railOf n))
        else s.ledger.count := by
  have hfirst : Latches s (s.withChan n ((s.chan[n]).latches code gain)) n :=
    Latches.of_chan rfl rfl rfl rfl rfl rfl rfl rfl rfl rfl rfl
  have hget := s.withChan_get n ((s.chan[n]).latches code gain)
  have hput : s.putCode n code gain = (s.withChan n ((s.chan[n]).latches code gain)).judgeExcursion n gain := rfl
  have hledger : (s.withChan n ((s.chan[n]).latches code gain)).ledger = s.ledger := rfl
  have hrail : (s.withChan n ((s.chan[n]).latches code gain)).railOf n = s.railOf n := rfl
  rw [hput]
  generalize s.withChan n ((s.chan[n]).latches code gain) = u at *
  obtain ⟨hlatches, hchan, hcount⟩ := u.judgeExcursion_judges n gain
  rw [hget] at hchan hcount
  rw [hledger, hrail] at hcount
  exact ⟨hfirst.trans hlatches, hchan, hcount⟩

/-- The state with the code of this frame latched, or held for slot 0 of the next (R228), before the frame is counted. -/
def State.latchedNow (s : State) (n : Chan) : State :=
  if s.txn.live.params.dev.align = 1 then
    s.withChan n { s.chan[n] with delayed := some ((s.chan[n]).code, (s.chan[n]).gainNext) }
  else s.putCode n (s.chan[n]).code (s.chan[n]).gainNext

theorem State.latch_eq (s : State) (n : Chan) : s.latch n = (s.latchedNow n).countFrame n := rfl

theorem BitVec.one_of_ne_zero (b : BitVec 1) : b ≠ 0 → b = 1 := by
  revert b
  decide

/-- What the slot does with the code of its frame, by ALIGN. -/
theorem State.latchedNow_latches (s : State) (n : Chan) :
    Latches s (s.latchedNow n) n ∧
      (s.txn.live.params.dev.align = 0 →
        ((s.latchedNow n).chan[n]).latched = (s.chan[n]).code ∧ ((s.latchedNow n).chan[n]).delayed = none) ∧
      (s.txn.live.params.dev.align = 1 →
        ((s.latchedNow n).chan[n]).latched = (s.chan[n]).latched ∧
          ((s.latchedNow n).chan[n]).delayed = some ((s.chan[n]).code, (s.chan[n]).gainNext)) ∧
      ((s.latchedNow n).chan[n]).saturated = (s.chan[n]).saturated ∧ ((s.latchedNow n).chan[n]).clipped = (s.chan[n]).clipped ∧
      ((s.latchedNow n).chan[n]).clipRun = (s.chan[n]).clipRun := by
  unfold State.latchedNow
  split
  · next halign =>
    have hget := s.withChan_get n { s.chan[n] with delayed := some ((s.chan[n]).code, (s.chan[n]).gainNext) }
    refine ⟨Latches.of_chan rfl rfl rfl rfl rfl rfl rfl rfl rfl rfl rfl, fun h0 => ?_, fun _ => ?_, ?_⟩
    · rw [halign] at h0
      exact absurd h0 (by decide)
    · rw [hget]
      exact ⟨rfl, rfl⟩
    · rw [hget]
      exact ⟨rfl, rfl, rfl⟩
  · next halign =>
    obtain ⟨hlatches, hget, -⟩ := s.putCode_puts n (s.chan[n]).code (s.chan[n]).gainNext
    refine ⟨hlatches, fun _ => ?_, fun h1 => absurd h1 halign, ?_⟩
    · rw [hget]
      exact ⟨rfl, rfl⟩
    · rw [hget]
      exact ⟨rfl, rfl, rfl⟩

/-- A channel whose slot of this frame has been counted. -/
theorem State.latch_latches (s : State) (n : Chan) :
    Latches s (s.latch n) n ∧
      (s.txn.live.params.dev.align = 0 →
        ((s.latch n).chan[n]).latched = (s.chan[n]).code ∧ ((s.latch n).chan[n]).delayed = none) ∧
      (s.txn.live.params.dev.align = 1 →
        ((s.latch n).chan[n]).latched = (s.chan[n]).latched ∧
          ((s.latch n).chan[n]).delayed = some ((s.chan[n]).code, (s.chan[n]).gainNext)) := by
  obtain ⟨hlatches, h0, h1, -, -, -⟩ := s.latchedNow_latches n
  rw [State.latch_eq]
  generalize s.latchedNow n = u at *
  obtain ⟨hcounts, hget, -⟩ := u.countFrame_counts n
  refine ⟨hlatches.trans hcounts, fun h => ?_, fun h => ?_⟩
  · rw [hget]
    exact h0 h
  · rw [hget]
    exact h1 h

/-! ## What a channel's next code is made of (R231 to R237) -/

/-- What a source turns on stands where a player hears of events alone. -/
theorem Player.deaf_fields {x y : Player} (h : y.deaf = x.deaf) :
    y.state = x.state ∧ y.pc = x.pc ∧ y.phase = x.phase ∧ y.noiseValue = x.noiseValue ∧ y.fallback = x.fallback ∧
      y.pos = x.pos ∧ y.lanes = x.lanes := by
  have hstate := congrArg Player.state h
  have hpc := congrArg Player.pc h
  have hphase := congrArg Player.phase h
  have hnoise := congrArg Player.noiseValue h
  have hfall := congrArg Player.fallback h
  have hpos := congrArg Player.pos h
  have hlanes := congrArg Player.lanes h
  exact ⟨hstate, hpc, hphase, hnoise, hfall, hpos, hlanes⟩

/-- A slot's latch leaves the target of a lane. -/
theorem Latches.stepTarget {s u : State} {n : Chan} (h : Latches s u n) (p : PlayerNo) (last : Code) :
    u.stepOf p = s.stepOf p ∧ u.stepTarget p n last = s.stepTarget p n last := by
  have htxn : u.txn = s.txn := h.moves .txn (by decide)
  have hmem : u.mem = s.mem := h.moves .mem (by decide)
  obtain ⟨hstate, hpc, hphase, hnoise, hfall, hpos, hlanes⟩ := Player.deaf_fields (h.players p)
  have hprog : u.prog p = s.prog p := State.prog_congr htxn p
  have hstep : u.stepOf p = s.stepOf p := by
    unfold State.stepOf
    rw [hprog, hpc]
  refine ⟨hstep, ?_⟩
  unfold State.stepTarget State.toneSource State.lanePhase State.playSource State.segment State.laneSegment State.chanParams
  dsimp only
  rw [hstep, hprog, hpc, hphase, hnoise, hfall, hpos, hlanes, htxn, hmem]

theorem State.railOf_congr {s u : State} (h : u.txn = s.txn) (n : Chan) : u.railOf n = s.railOf n := by
  unfold State.railOf
  rw [h]

theorem Latches.params {s u : State} {n : Chan} (h : Latches s u n) :
    u.chanParams n = s.chanParams n ∧ u.isCurr n = s.isCurr n ∧ u.railOf n = s.railOf n := by
  have htxn : u.txn = s.txn := h.moves .txn (by decide)
  have hpower : u.power = s.power := h.moves .power (by decide)
  refine ⟨?_, ?_, State.railOf_congr htxn n⟩
  · unfold State.chanParams
    rw [htxn]
  · unfold State.isCurr
    rw [hpower]

/-- The target of a channel while no budget of its rail is reached, and whether a frame step other than WAIT gives it. -/
def State.freeTarget (s : State) (n : Chan) (last : Code) : Code × Bool × Bool :=
  match s.playerOf n with
  | none => ((s.chanParams n).nom, false, false)
  | some p =>
    if (s.player[p]).state ≠ .running then ((s.chanParams n).nom, false, false)
    else ((s.stepTarget p n last).1, (s.stepTarget p n last).2, (s.stepOf p).op != .wait)

theorem Latches.laneTarget {s u : State} {n : Chan} (h : Latches s u n) (hfree : u.railReached (u.railOf n) = false) (last : Code) :
    u.laneTarget n last = s.freeTarget n last := by
  have htxn : u.txn = s.txn := h.moves .txn (by decide)
  have hbound : u.playerOf n = s.playerOf n := by
    unfold State.playerOf
    exact congrArg (fun f => (List.finRange 16).find? f) (funext fun p => State.boundTo_congr htxn p n)
  have hsub (c : Code) : u.substituted n c = false := by
    unfold State.substituted
    dsimp only
    rw [hfree, Bool.false_and]
  unfold State.laneTarget State.freeTarget
  dsimp only
  rw [hbound, h.params.1]
  cases s.playerOf n with
  | none => rfl
  | some p =>
    dsimp only
    obtain ⟨hstep, htarget⟩ := h.stepTarget p last
    obtain ⟨hstate, -⟩ := Player.deaf_fields (h.players p)
    rw [hstep, htarget, hstate, hsub, if_neg Bool.false_ne_true]

/-- The code for the next frame of a channel in no switch window, under the gain that it keeps (R237). -/
theorem State.compute_code {u : State} {n : Chan} {c : Channel} (hwindow : c.window = false) (hgain : c.gainNext = (u.chanParams n).gain) :
    ((u.compute n false c).code, (u.compute n false c).m) =
      if c.retreated || u.ledger.held[u.railOf n] then
        limit (u.chanParams n).retStep (u.chanParams n).retInt (u.supply n c).1 c.code c.m
      else limit (u.chanParams n).slewStep (u.chanParams n).slewInt (u.supply n c).1 c.code c.m := by
  unfold State.compute
  dsimp only
  rw [hwindow, hgain, rangeMap_same, Bool.false_and, if_neg Bool.false_ne_true]
  rfl

/-- What a computation leaves of its channel. -/
theorem State.compute_leaves (u : State) (n : Chan) (c : Channel) :
    (u.compute n false c).latched = c.latched ∧ (u.compute n false c).delayed = c.delayed ∧
      (u.compute n false c).retreated = c.retreated ∧ (u.compute n false c).released = c.released ∧
      (u.compute n false c).saturated = c.saturated ∧ (u.compute n false c).clipped = c.clipped ∧
      (u.compute n false c).clipRun = c.clipRun ∧ (u.compute n false c).beyond = c.beyond ∧
      (u.compute n false c).lastTarget = (u.supply n c).2.lastTarget := ⟨rfl, rfl, rfl, rfl, rfl, rfl, rfl, rfl, rfl⟩

theorem State.supply_leaves (u : State) (n : Chan) (c : Channel) :
    (u.supply n c).2.latched = c.latched ∧ (u.supply n c).2.code = c.code ∧ (u.supply n c).2.m = c.m ∧
      (u.supply n c).2.released = c.released ∧ (u.supply n c).2.saturated = c.saturated ∧ (u.supply n c).2.clipped = c.clipped ∧
      (u.supply n c).2.clipRun = c.clipRun ∧ (u.supply n c).2.slotClk = some u.clock.clk := ⟨rfl, rfl, rfl, rfl, rfl, rfl, rfl, rfl⟩

/-- What the engine supplies to a channel that neither a retreat, a held rail nor missing sight keeps at nominal. -/
theorem State.supply_of_free {u : State} {n : Chan} {c : Channel} (hret : c.retreated = false) (hheld : u.ledger.held[u.railOf n] = false)
    (hnom : c.heldNominal = false) :
    (u.supply n c).1 = (u.laneTarget n c.lastTarget).1 ∧
      (u.supply n c).2.lastTarget =
        if !(u.laneTarget n c.lastTarget).2.2 then c.lastTarget else (u.laneTarget n c.lastTarget).1 := by
  unfold State.supply
  dsimp only
  rw [hret, hheld, hnom]
  exact ⟨rfl, rfl⟩

theorem State.supply_atNominal {u : State} {n : Chan} {c : Channel} (h : c.retreated = true ∨ c.heldNominal = true) :
    (u.supply n c).1 = (u.chanParams n).nom := by
  unfold State.supply
  dsimp only
  refine if_pos ?_
  obtain h | h := h
  · rw [h]
    rfl
  · rw [h, Bool.or_true]

end Sys2Proof.Machine
end

section
/-! PROOFS. What a drive slot latches and computes. -/

namespace Sys2Proof.Machine

/-! ## The slot of a channel (R227, R228, R237) -/

/-- What the slot of a driven channel leaves. -/
def State.slotted (s : State) (n : Chan) : State := (s.latch n).withChan n ((s.latch n).compute n false (s.latch n).chan[n])

theorem exec_engineSlot_drives {s : State} {n : Chan} (h : slotDrives s n) : exec (.engineSlot n) s = .next (s.slotted n) := by
  obtain ⟨hruns, hreleased, hdone, hjoined⟩ := h
  change execEngineSlot n s = _
  unfold execEngineSlot
  dsimp only
  rw [hruns, hdone, hreleased, hjoined]
  rfl

/-- What a computation puts in its channel leaves the latch as it was. -/
theorem State.slotted_latches (s : State) (n : Chan) :
    latchesIn s (s.slotted n) n ∧ (∀ j : Chan, j ≠ n → (s.slotted n).chan[j] = s.chan[j]) ∧
      s.onlyMoves (s.slotted n) [.chan, .ledger, .player, .tel, .port] ∧ (s.slotted n).ledger = (s.latch n).ledger ∧
      (s.slotted n).player = (s.latch n).player ∧ (s.slotted n).tel = (s.latch n).tel := by
  obtain ⟨hlatches, h0, h1⟩ := s.latch_latches n
  unfold State.slotted latchesIn
  generalize s.latch n = u at *
  obtain ⟨hlatched, hdelayed, -⟩ := u.compute_leaves n u.chan[n]
  rw [State.withChan_get, hlatched, hdelayed]
  exact ⟨⟨h0, h1⟩, fun j hj => (u.withChan_other _ hj).trans (hlatches.others j hj),
    State.onlyMoves_trans hlatches.moves (State.onlyMoves_mono (u.withChan_moves _ _) (by decide)), rfl, rfl, rfl⟩

/-- The code for the next frame of a channel in no switch window. -/
theorem State.slotted_code {s : State} {n : Chan} (h : slotRuns s n) :
    (((s.slotted n).chan[n]).code, ((s.slotted n).chan[n]).m) =
      if (s.chan[n]).retreated || (s.slotted n).ledger.held[s.railOf n] then
        limit (s.chanParams n).retStep (s.chanParams n).retInt ((s.latch n).supply n (s.latch n).chan[n]).1 (s.chan[n]).code (s.chan[n]).m
      else
        limit (s.chanParams n).slewStep (s.chanParams n).slewInt ((s.latch n).supply n (s.latch n).chan[n]).1 (s.chan[n]).code
          (s.chan[n]).m := by
  obtain ⟨-, hwindow, hgain⟩ := h
  obtain ⟨hlatches, -, -⟩ := s.latch_latches n
  obtain ⟨-, -, -, hledger, -, -⟩ := s.slotted_latches n
  rw [hledger]
  unfold State.slotted
  generalize s.latch n = u at *
  obtain ⟨hparams, -, hrail⟩ := hlatches.params
  have hcode := State.compute_code (u := u) (n := n) (c := u.chan[n]) (hlatches.window.trans hwindow)
    ((hlatches.gainNext.trans hgain).trans (congrArg ChanParams.gain hparams).symm)
  have hheld : u.ledger.held[u.railOf n] = u.ledger.held[s.railOf n] := congrArg (fun r : Fin 64 => u.ledger.held[r]) hrail
  rw [State.withChan_get, hcode, hlatches.retreated, hheld, hparams, hlatches.code, hlatches.m]

/-- A channel that is not retreated, its rail not held, is limited by the slew (R237). -/
theorem State.slotted_slews {s : State} {n : Chan} (h : slotRuns s n) (hret : (s.chan[n]).retreated = false)
    (hheld : (s.slotted n).ledger.held[s.railOf n] = false) :
    ((s.slotted n).chan[n]).code = (limit (s.chanParams n).slewStep (s.chanParams n).slewInt
        ((s.latch n).supply n (s.latch n).chan[n]).1 (s.chan[n]).code (s.chan[n]).m).1 ∧
      ((s.slotted n).chan[n]).m = (limit (s.chanParams n).slewStep (s.chanParams n).slewInt
        ((s.latch n).supply n (s.latch n).chan[n]).1 (s.chan[n]).code (s.chan[n]).m).2 := by
  have hcode := State.slotted_code h
  rw [hret, hheld, Bool.or_self, if_neg Bool.false_ne_true] at hcode
  exact ⟨congrArg Prod.fst hcode, congrArg Prod.snd hcode⟩

theorem railFree_iff {s : State} {n : Chan} :
    railFree (s.slotted n) n ↔ (s.latch n).railReached ((s.latch n).railOf n) = false ∧ (s.slotted n).ledger.held[s.railOf n] = false := by
  obtain ⟨hlatches, -, -⟩ := s.latch_latches n
  obtain ⟨-, -, hmoves, hledger, -, -⟩ := s.slotted_latches n
  have hrail : (s.slotted n).railOf n = s.railOf n := State.railOf_congr (hmoves .txn (by decide)) n
  have hrailU := hlatches.params.2.2
  unfold railFree State.railReached
  rw [hledger]
  simp only [hrail, hrailU]

/-- A channel whose rail is free moves toward the target that its player gives. -/
theorem State.slotted_follows {s : State} {n : Chan} (h : slotRuns s n) (hret : (s.chan[n]).retreated = false)
    (hnom : (s.chan[n]).heldNominal = false) (hfree : railFree (s.slotted n) n) :
    movesToward s (s.slotted n) n (s.freeTarget n (s.chan[n]).lastTarget).1 ∧
      ((s.slotted n).chan[n]).lastTarget =
        if !(s.freeTarget n (s.chan[n]).lastTarget).2.2 then (s.chan[n]).lastTarget else (s.freeTarget n (s.chan[n]).lastTarget).1 := by
  obtain ⟨hreached, hheld⟩ := railFree_iff.mp hfree
  obtain ⟨hlatches, -, -⟩ := s.latch_latches n
  obtain ⟨-, -, -, hledger, -, -⟩ := s.slotted_latches n
  obtain ⟨hcode, -⟩ := State.slotted_slews h hret hheld
  have hlast : ((s.slotted n).chan[n]).lastTarget = ((s.latch n).supply n (s.latch n).chan[n]).2.lastTarget := by
    unfold State.slotted
    rw [State.withChan_get]
    rfl
  rw [hledger] at hheld
  obtain ⟨htarget, hkeeps⟩ := State.supply_of_free (u := s.latch n) (n := n) (c := (s.latch n).chan[n])
    (hlatches.retreated.trans hret) ((congrArg (fun r : Fin 64 => (s.latch n).ledger.held[r]) hlatches.params.2.2).trans hheld)
    (hlatches.heldNominal.trans hnom)
  rw [hlatches.lastTarget, hlatches.laneTarget hreached] at htarget hkeeps
  rw [htarget] at hcode
  refine ⟨?_, hlast.trans hkeeps⟩
  unfold movesToward
  rw [hcode]
  exact limit_moves _ _ _ _ _

/-- The shapes of a RAMP (R208). -/
theorem rampSource_shapes (phase : Phase) :
    ((rampSource 0 phase : Nat) : Int) - 512 = ((phase.toNat / 2 ^ 38 : Nat) : Int) - 512 ∧
      ((rampSource 1 phase : Nat) : Int) - 512 = 511 - ((phase.toNat / 2 ^ 38 : Nat) : Int) ∧
      ((rampSource 2 phase : Nat) : Int) - 512 = (if phase.toNat / 2 ^ 37 < 1024 then ((phase.toNat / 2 ^ 37 : Nat) : Int)
        else 2047 - ((phase.toNat / 2 ^ 37 : Nat) : Int)) - 512 := by
  have hphase := phase.isLt
  have h38 : phase.toNat / 2 ^ 38 ≤ 1023 := by omega
  have h37 : phase.toNat / 2 ^ 37 ≤ 2047 := by omega
  unfold rampSource
  dsimp only
  generalize phase.toNat / 2 ^ 38 = x at *
  generalize phase.toNat / 2 ^ 37 = y at *
  refine ⟨rfl, ?_, ?_⟩
  · change ((1023 - x : Nat) : Int) - 512 = _
    omega
  · change ((if y < 1024 then y else 2047 - y : Nat) : Int) - 512 = _
    split <;> omega

/-- What the tone table holds at a phase (R205). -/
theorem State.toneSource_of_table {s : State} {tt : Nat} {phase : Phase} {tab : List Code} {x : Code}
    (htab : s.txn.live.image.tones.toList[tt]? = some (some tab)) (hx : tab[phase.toNat / 2 ^ 36]? = some x) :
    s.toneSource tt phase = x.toNat := by
  unfold State.toneSource
  rw [htab, Option.join_some, Option.elim_some, List.getD_eq_getElem?_getD, hx, Option.getD_some]

/-- The target that a frame step gives from its source (R204 to R214, R234). -/
theorem State.stepTarget_of_source {s : State} {p : PlayerNo} {n : Chan} {src : Int} (last : Code) (h : givesSource s p n src) :
    s.stepTarget p n last = (s.chanParams n).target src ∧ ((s.stepOf p).op != .wait) = true := by
  obtain ⟨hup, hdown, htriangle⟩ := rampSource_shapes (s.lanePhase p n)
  unfold State.stepTarget
  dsimp only
  obtain ⟨hop, tab, x, htab, hx, rfl⟩ | ⟨hop, ext, tab, x, hext, htab, hx, rfl⟩ | ⟨hop, hshape, rfl⟩ | ⟨hop, hshape, rfl⟩ |
    ⟨hop, hshape, rfl⟩ | ⟨hop, rfl⟩ | ⟨hop, hfall, g, hg, rfl⟩ := h
  · rw [hop]
    dsimp only
    rw [State.toneSource_of_table htab hx]
    exact ⟨rfl, rfl⟩
  · rw [hop, hext]
    dsimp only [Option.getD_some]
    rw [State.toneSource_of_table htab hx]
    exact ⟨rfl, rfl⟩
  · rw [hop, hshape]
    dsimp only
    rw [hup]
    exact ⟨rfl, rfl⟩
  · rw [hop, hshape]
    dsimp only
    rw [hdown]
    exact ⟨rfl, rfl⟩
  · rw [hop, hshape]
    dsimp only
    rw [htriangle]
    exact ⟨rfl, rfl⟩
  · rw [hop]
    exact ⟨rfl, rfl⟩
  · rw [hop, hfall, hg]
    exact ⟨rfl, rfl⟩

/-- A running player gives its channel the target of its step. -/
theorem State.freeTarget_of_runs {s : State} {n : Chan} {p : PlayerNo} (hp : s.playerOf n = some p)
    (hrun : (s.player[p]).state = .running) (last : Code) :
    s.freeTarget n last = ((s.stepTarget p n last).1, (s.stepTarget p n last).2, (s.stepOf p).op != .wait) := by
  unfold State.freeTarget
  rw [hp]
  exact if_neg (not_not.mpr hrun)

/-- A channel that no player drives stays toward nominal. -/
theorem State.freeTarget_undriven {s : State} {n : Chan}
    (h : ∀ p : PlayerNo, s.boundTo p n = false ∨ (s.player[p]).state ≠ .running) (last : Code) :
    (s.freeTarget n last).1 = (s.chanParams n).nom := by
  unfold State.freeTarget
  cases hp : s.playerOf n with
  | none => rfl
  | some p =>
    have hbound : s.boundTo p n = true := List.find?_some (p := fun q => s.boundTo q n) hp
    have hidle : (s.player[p]).state ≠ .running := (h p).resolve_left fun hnot => absurd (hbound.symm.trans hnot) nofun
    dsimp only
    rw [if_pos hidle]

/-- A player's target, and how its channel moves toward it (R231 to R236). -/
theorem exec_engineSlot_follows {s : State} {n : Chan} {p : PlayerNo} {goal : Code} (h : slotRuns s n)
    (hret : (s.chan[n]).retreated = false) (hnom : (s.chan[n]).heldNominal = false) (hp : s.playerOf n = some p)
    (hrun : (s.player[p]).state = .running) (htarget : (s.stepTarget p n (s.chan[n]).lastTarget).1 = goal)
    (hlast : ((s.stepOf p).op != .wait) = true ∨ goal = (s.chan[n]).lastTarget) :
    ∃ t, exec (.engineSlot n) s = .next t ∧ (railFree t n → (t.chan[n]).lastTarget = goal ∧ movesToward s t n goal) := by
  refine ⟨_, exec_engineSlot_drives h.1, fun hfree => ?_⟩
  obtain ⟨hmoves, hkeeps⟩ := State.slotted_follows h hret hnom hfree
  rw [State.freeTarget_of_runs hp hrun] at hmoves hkeeps
  dsimp only at hmoves hkeeps
  rw [htarget] at hmoves hkeeps
  refine ⟨?_, hmoves⟩
  obtain hlast | hlast := hlast
  · rw [hkeeps, hlast]
    rfl
  · rw [hkeeps, ← hlast, ite_self]

/-- A channel that is kept at nominal, or that no player drives, moves toward its nominal code (R22, R236). -/
theorem exec_engineSlot_nominal {s : State} {n : Chan} (h : slotRuns s n) (hret : (s.chan[n]).retreated = false)
    (hnom : (s.chan[n]).heldNominal = true ∨ ∀ p : PlayerNo, s.boundTo p n = false ∨ (s.player[p]).state ≠ .running) :
    ∃ t, exec (.engineSlot n) s = .next t ∧ (railFree t n → movesToward s t n (s.chanParams n).nom) := by
  refine ⟨_, exec_engineSlot_drives h.1, fun hfree => ?_⟩
  by_cases hkept : (s.chan[n]).heldNominal = true
  · obtain ⟨hlatches, -, -⟩ := s.latch_latches n
    obtain ⟨hcode, -⟩ := State.slotted_slews h hret (railFree_iff.mp hfree).2
    rw [State.supply_atNominal (.inr (hlatches.heldNominal.trans hkept)), hlatches.params.1] at hcode
    unfold movesToward
    rw [hcode]
    exact limit_moves _ _ _ _ _
  · obtain ⟨hmoves, -⟩ := State.slotted_follows h hret (Bool.eq_false_of_not_eq_true hkept) hfree
    rw [State.freeTarget_undriven (hnom.resolve_left hkept)] at hmoves
    exact hmoves

/-- A retreated channel moves toward nominal at the retreat slope, and stays there (R11, R20). -/
theorem exec_engineSlot_retreats {s : State} {n : Chan} (h : slotRuns s n) (hret : (s.chan[n]).retreated = true) :
    ∃ t, exec (.engineSlot n) s = .next t ∧ latchesIn s t n ∧ (t.chan[n]).retreated = true ∧
      (((s.chanParams n).retInt).toNat ≤ min ((s.chan[n]).m.toNat + 1) 256 →
        Int.natAbs (((t.chan[n]).code.toNat : Int) - (s.chanParams n).nom.toNat) =
          Int.natAbs (((s.chan[n]).code.toNat : Int) - (s.chanParams n).nom.toNat) -
            min ((s.chanParams n).retStep).toNat
              (Int.natAbs (((s.chan[n]).code.toNat : Int) - (s.chanParams n).nom.toNat))) ∧
      (min ((s.chan[n]).m.toNat + 1) 256 < ((s.chanParams n).retInt).toNat → (t.chan[n]).code = (s.chan[n]).code) ∧
      ((s.chan[n]).code = (s.chanParams n).nom → (t.chan[n]).code = (s.chanParams n).nom) := by
  obtain ⟨hlatches, -, -⟩ := s.latch_latches n
  obtain ⟨hin, -, -, -, -, -⟩ := s.slotted_latches n
  have hcode := congrArg Prod.fst (State.slotted_code h)
  rw [hret, Bool.true_or, if_pos rfl, State.supply_atNominal (.inl (hlatches.retreated.trans hret)), hlatches.params.1] at hcode
  have hretreated : ((s.slotted n).chan[n]).retreated = true := by
    unfold State.slotted
    rw [State.withChan_get]
    exact hlatches.retreated.trans hret
  dsimp only at hcode
  refine ⟨_, exec_engineSlot_drives h.1, hin, hretreated, ?_⟩
  rw [hcode]
  obtain ⟨hmoves, hwaits⟩ := limit_moves (s.chanParams n).retStep (s.chanParams n).retInt (s.chanParams n).nom (s.chan[n]).code (s.chan[n]).m
  refine ⟨hmoves, hwaits, fun hat => ?_⟩
  rw [hat]
  exact limit_stays _ _ _ _

/-! ## What a slot counts (R235, R250, R36) -/

theorem State.logEvent_grows (s : State) (code sub : Byte) (obj : BitVec 16) (data : BitVec 48) :
    (s.logEvent code sub obj data).tel.events.length ≤ s.tel.events.length + 1 := by
  unfold State.logEvent
  dsimp only
  split
  · dsimp only
    rw [List.length_reverse, length_insertNewest, List.length_reverse]
  · dsimp only
    rw [List.length_drop, List.length_reverse, length_insertNewest, List.length_reverse]
    omega

theorem State.freezeLedger_events (s : State) : s.freezeLedger.tel.events = s.tel.events := by
  unfold State.freezeLedger
  dsimp only
  split <;> rfl

theorem State.countUp_logs (s : State) (i : Fin 128) : (s.countUp i).tel.events.length ≤ s.tel.events.length + 1 := by
  have hfire (u : State) : (u.fireLedger i).tel.events.length ≤ u.tel.events.length + 1 := by
    unfold State.fireLedger
    dsimp only
    rw [State.freezeLedger_events]
    exact State.logEvent_grows _ _ _ _ _
  have hjudge (u : State) : (u.judgeBudget i).tel.events.length ≤ u.tel.events.length + 1 := by
    unfold State.judgeBudget
    dsimp only
    split
    · exact hfire _
    · exact Nat.le_succ _
  exact hjudge _

/-- The latch of a code logs at most the LEDGER event. -/
theorem State.latchedNow_logs (s : State) (n : Chan) : (s.latchedNow n).tel.events.length ≤ s.tel.events.length + 1 := by
  have hmarked (u : State) (gain : BitVec 1) : (u.excursionMarked n gain).tel = u.tel := by
    unfold State.excursionMarked
    split <;> rfl
  have hjudged (u : State) (gain : BitVec 1) : (u.judgeExcursion n gain).tel.events.length ≤ u.tel.events.length + 1 := by
    rw [State.judgeExcursion_eq]
    split
    · exact (State.countUp_logs _ _).trans (by rw [hmarked])
    · rw [hmarked]
      exact Nat.le_succ _
  unfold State.latchedNow
  split
  · exact Nat.le_succ _
  · exact hjudged _ _

/-- A slot of the present frame, of any channel: what it latches is counted, and then its channel gets what it computes. -/
theorem exec_engineSlot_counts {s : State} {n : Chan} (hruns : s.coreRuns = true) (hdone : s.slotDone n = false) :
    ∃ w c, exec (.engineSlot n) s = .next ((w.countFrame n).withChan n c) ∧
      (w = s ∨ w = s.latchedNow n) ∧ c.clipped = ((w.countFrame n).chan[n]).clipped ∧
      c.clipRun = ((w.countFrame n).chan[n]).clipRun := by
  have hexec : exec (.engineSlot n) s =
      if (s.chan[n]).released then
        .next ((s.countFrame n).withChan n ((s.countFrame n).supply n (s.countFrame n).chan[n]).2)
      else if s.disconnected n then
        .next ((s.countFrame n).withChan n ((s.countFrame n).compute n false (s.countFrame n).chan[n]))
      else .next (s.slotted n) := by
    change execEngineSlot n s = _
    unfold execEngineSlot
    dsimp only
    rw [hruns, hdone]
    cases (s.chan[n]).released with
    | true => rfl
    | false =>
      cases s.disconnected n with
      | true => rfl
      | false => rfl
  by_cases hrel : (s.chan[n]).released = true
  · rw [if_pos hrel] at hexec
    exact ⟨s, _, hexec, .inl rfl, rfl, rfl⟩
  · rw [if_neg hrel] at hexec
    by_cases hdis : s.disconnected n = true
    · rw [if_pos hdis] at hexec
      exact ⟨s, _, hexec, .inl rfl, rfl, rfl⟩
    · rw [if_neg hdis] at hexec
      exact ⟨s.latchedNow n, _, hexec, .inr rfl, rfl, rfl⟩

/-- The first clamped frame of a run is counted, raised and logged (R250). -/
theorem exec_engineSlot_clips {s : State} {n : Chan} (hruns : s.coreRuns = true) (hdone : s.slotDone n = false)
    (hclip : (s.chan[n]).clipNext = true) (hrun : (s.chan[n]).clipRun = false) (hroom : s.tel.events.length < 2047) :
    ∃ t, exec (.engineSlot n) s = .next t ∧ (t.chan[n]).clipped = (s.chan[n]).clipped + 1 ∧ (t.chan[n]).clipRun = true ∧
      (∀ p : PlayerNo, s.boundTo p n = true → (t.player[p]).raisedNow.getLsbD 0x1D = true) ∧
      ∃ e ∈ t.tel.events, e.code = 7 ∧ e.obj = BitVec.ofNat 16 n.val := by
  obtain ⟨w, c, hexec, hw, hclipped, hclipRun⟩ := exec_engineSlot_counts hruns hdone
  have hkeeps : w.txn = s.txn ∧ (w.chan[n]).clipNext = (s.chan[n]).clipNext ∧ (w.chan[n]).clipRun = (s.chan[n]).clipRun ∧
      (w.chan[n]).clipped = (s.chan[n]).clipped ∧ w.tel.events.length ≤ s.tel.events.length + 1 := by
    obtain rfl | rfl := hw
    · exact ⟨rfl, rfl, rfl, rfl, Nat.le_succ _⟩
    · obtain ⟨hlatches, -, -, -, hcl, hcr⟩ := s.latchedNow_latches n
      exact ⟨hlatches.moves .txn (by decide), hlatches.clipNext, hcr, hcl, s.latchedNow_logs n⟩
  obtain ⟨htxn, hnext, hrun', hcl, hlogs⟩ := hkeeps
  obtain ⟨-, hget, -⟩ := w.countFrame_counts n
  obtain ⟨hraised, hlogged⟩ := State.countFrame_clips (hnext.trans hclip) (hrun'.trans hrun) (by omega)
  refine ⟨_, hexec, ?_, ?_, fun p hp => hraised p ((State.boundTo_congr htxn p n).trans hp), hlogged⟩
  · rw [State.withChan_get, hclipped, hget]
    change (w.chan[n]).clipped + (if (w.chan[n]).clipNext = true then 1 else 0) = _
    rw [hnext, if_pos hclip, hcl]
  · rw [State.withChan_get, hclipRun, hget]
    exact hnext.trans hclip

/-- A released channel: targets are formed, and nothing latches (R252). -/
theorem exec_engineSlot_released {s : State} {n : Chan} (hruns : s.coreRuns = true) (hdone : s.slotDone n = false)
    (hrel : (s.chan[n]).released = true) :
    ∃ t, exec (.engineSlot n) s = .next t ∧ (t.chan[n]).released = true ∧ (t.chan[n]).code = (s.chan[n]).code ∧
      (t.chan[n]).latched = (s.chan[n]).latched ∧ (t.chan[n]).m = (s.chan[n]).m ∧
      (t.chan[n]).saturated = (s.chan[n]).saturated + (if (s.chan[n]).satNext then 1 else 0) ∧
      t.slotDone n = true ∧ (∀ j : Chan, j ≠ n → t.chan[j] = s.chan[j]) ∧
      s.onlyMoves t [.chan, .player, .tel, .port] := by
  have hexec : exec (.engineSlot n) s =
      .next ((s.countFrame n).withChan n ((s.countFrame n).supply n (s.countFrame n).chan[n]).2) := by
    change execEngineSlot n s = _
    unfold execEngineSlot
    dsimp only
    rw [hruns, hdone, hrel]
    rfl
  obtain ⟨hcounts, hget, hmoves⟩ := s.countFrame_counts n
  generalize s.countFrame n = u at *
  obtain ⟨hlatched, hcode, hm, hr, hsat, -, -, hclk⟩ := u.supply_leaves n u.chan[n]
  have hchan := u.withChan_get n (u.supply n u.chan[n]).2
  have hdoneU : (u.withChan n (u.supply n u.chan[n]).2).slotDone n = true := by
    unfold State.slotDone
    rw [hchan, hclk]
    exact beq_self_eq_true _
  refine ⟨_, hexec, ?_, ?_, ?_, ?_, ?_, hdoneU, fun j hj => (u.withChan_other _ hj).trans (hcounts.others j hj),
    State.onlyMoves_trans hmoves (State.onlyMoves_mono (u.withChan_moves _ _) (by decide))⟩
  · rw [hchan, hr, hcounts.released, hrel]
  · rw [hchan, hcode, hcounts.code]
  · rw [hchan, hlatched, hget]
    rfl
  · rw [hchan, hm, hcounts.m]
  · rw [hchan, hsat, hget]
    rfl

/-- A channel that calibration holds disconnected: counted, and nothing latches (R250, R353). -/
theorem exec_engineSlot_disconnected {s : State} {n : Chan} (hruns : s.coreRuns = true) (hdone : s.slotDone n = false)
    (hrel : (s.chan[n]).released = false) (hdis : s.disconnected n = true) :
    ∃ t, exec (.engineSlot n) s = .next t ∧ (t.chan[n]).latched = (s.chan[n]).latched ∧
      (t.chan[n]).delayed = (s.chan[n]).delayed ∧
      (t.chan[n]).saturated = (s.chan[n]).saturated + (if (s.chan[n]).satNext then 1 else 0) ∧
      (t.chan[n]).clipped = (s.chan[n]).clipped + (if (s.chan[n]).clipNext then 1 else 0) ∧
      (∀ j : Chan, j ≠ n → t.chan[j] = s.chan[j]) ∧ s.onlyMoves t [.chan, .player, .tel, .port] := by
  have hexec : exec (.engineSlot n) s =
      .next ((s.countFrame n).withChan n ((s.countFrame n).compute n false (s.countFrame n).chan[n])) := by
    change execEngineSlot n s = _
    unfold execEngineSlot
    dsimp only
    rw [hruns, hdone, hrel, hdis]
    rfl
  obtain ⟨hcounts, hget, hmoves⟩ := s.countFrame_counts n
  generalize s.countFrame n = u at *
  obtain ⟨hlatched, hdelayed, -, -, hsat, hclip, -, -, -⟩ := u.compute_leaves n u.chan[n]
  have hchan := u.withChan_get n (u.compute n false u.chan[n])
  refine ⟨_, hexec, ?_, ?_, ?_, ?_, fun j hj => (u.withChan_other _ hj).trans (hcounts.others j hj),
    State.onlyMoves_trans hmoves (State.onlyMoves_mono (u.withChan_moves _ _) (by decide))⟩
  · rw [hchan, hlatched, hget]
    rfl
  · rw [hchan, hdelayed, hget]
    rfl
  · rw [hchan, hsat, hget]
    rfl
  · rw [hchan, hclip, hget]
    rfl

/-- The excursion count of a rail rises with the first code beyond the shallow threshold (R36). -/
theorem exec_engineSlot_judges {s : State} {n : Chan} (h : slotRuns s n) (hbeyond : (s.chan[n]).beyond = false)
    (halign : s.txn.live.params.dev.align = 0)
    (hcount : s.ledger.count[excRecord (s.railOf n)] < s.ledger.value (excRecord (s.railOf n))) :
    ∃ t, exec (.engineSlot n) s = .next t ∧
      (t.chan[n]).beyond =
        decide (((s.chanParams n).shallow).toNat < offNominal (s.chanParams n).nom (s.chan[n]).code) ∧
      t.ledger.count[excRecord (s.railOf n)] =
        (if ((s.chanParams n).shallow).toNat < offNominal (s.chanParams n).nom (s.chan[n]).code then
          s.ledger.count[excRecord (s.railOf n)] + 1 else s.ledger.count[excRecord (s.railOf n)]) ∧
      (∀ i : Fin 128, i ≠ excRecord (s.railOf n) → t.ledger.count[i] = s.ledger.count[i]) := by
  have hput : s.latchedNow n = s.putCode n (s.chan[n]).code (s.chan[n]).gainNext :=
    if_neg (by rw [halign]; decide)
  obtain ⟨-, hget, hcounts⟩ := s.putCode_puts n (s.chan[n]).code (s.chan[n]).gainNext
  have hnow : (s.withChan n ((s.chan[n]).latches (s.chan[n]).code (s.chan[n]).gainNext)).beyondNow n (s.chan[n]).gainNext =
      decide (((s.chanParams n).shallow).toNat < offNominal (s.chanParams n).nom (s.chan[n]).code) := by
    have hjudged : (s.withChan n ((s.chan[n]).latches (s.chan[n]).code (s.chan[n]).gainNext)).judgedCode n (s.chan[n]).gainNext
        ((s.withChan n ((s.chan[n]).latches (s.chan[n]).code (s.chan[n]).gainNext)).chan[n]).latched = (s.chan[n]).code := by
      rw [State.withChan_get, h.2.2]
      exact rangeMap_same _ _ _
    unfold State.beyondNow
    rw [hjudged]
    rfl
  rw [hnow, hbeyond, Bool.not_false, Bool.and_true] at hcounts
  rw [hnow] at hget
  rw [← hput] at hget hcounts
  obtain ⟨-, -, -, hledger, -, -⟩ := s.slotted_latches n
  obtain ⟨-, hcounted, hmoves⟩ := (s.latchedNow n).countFrame_counts n
  have hled : (s.slotted n).ledger = (s.latchedNow n).ledger := hledger.trans (hmoves .ledger (by decide))
  have hbeyond' : ((s.slotted n).chan[n]).beyond = ((s.latchedNow n).chan[n]).beyond := by
    unfold State.slotted
    rw [State.withChan_get]
    have hb := congrArg Channel.beyond hcounted
    exact hb
  refine ⟨_, exec_engineSlot_drives h.1, ?_, ?_, fun i hi => ?_⟩
  · rw [hbeyond', hget]
  · rw [hled, hcounts]
    split
    · next hb =>
      rw [if_pos (of_decide_eq_true hb)]
      unfold Ledger.counted
      rw [Vector.get_set_same, if_pos hcount]
    · next hb => rw [if_neg fun hlt => hb (decide_eq_true hlt)]
  · rw [hled, hcounts]
    split
    · unfold Ledger.counted
      exact Vector.getElem_set_ne (excRecord (s.railOf n)).isLt i.isLt fun e => hi (Fin.ext e.symm)
    · rfl

/-- Settles O40: what a slot latches, counts and computes. -/
theorem engineSlotMoves : Obligations.EngineSlotMoves := by
  unfold Obligations.EngineSlotMoves
  refine ⟨fun s n h hret => ?_, fun s n hruns hdone hrel => exec_engineSlot_released hruns hdone hrel,
    fun s n hruns hdone hrel hdis => exec_engineSlot_disconnected hruns hdone hrel hdis,
    fun s n hruns hdone hclip hrun hroom => exec_engineSlot_clips hruns hdone hclip hrun hroom,
    fun s n p src goal h hret hnom hp hrun hsource hforms => ?_, fun s n p goal h hret hnom hp hrun hgoal => ?_,
    fun s n h hret hnom => exec_engineSlot_nominal h hret hnom, fun s n hdone => ?_, fun s n h hret => exec_engineSlot_retreats h hret,
    fun s n h hbeyond halign hcount => exec_engineSlot_judges h hbeyond halign hcount⟩
  · obtain ⟨hin, hothers, hmoves, -, -, -⟩ := s.slotted_latches n
    refine ⟨_, exec_engineSlot_drives h.1, hin, fun hheld => ?_, hothers, congrArg Txn.live (hmoves .txn (by decide)),
      hmoves .mem (by decide)⟩
    obtain ⟨hcode, hm⟩ := State.slotted_slews h hret hheld
    rw [hcode, hm]
    exact limit_slews _ _ _ _ _
  · obtain ⟨htarget, hstep⟩ := State.stepTarget_of_source (s.chan[n]).lastTarget hsource
    exact exec_engineSlot_follows h hret hnom hp hrun ((congrArg Prod.fst htarget).trans (formsTarget_target hforms)) (.inl hstep)
  · obtain ⟨hop, hlevel⟩ | ⟨hop, hlast⟩ := hgoal
    · refine exec_engineSlot_follows h hret hnom hp hrun ?_ (.inl (by rw [hop]; rfl))
      unfold State.stepTarget
      dsimp only
      rw [hop, hlevel]
      exact clampCode_of_code goal
    · refine exec_engineSlot_follows h hret hnom hp hrun ?_ (.inr hlast)
      unfold State.stepTarget
      dsimp only
      rw [hop]
      exact hlast.symm
  · refine if_pos ?_
    rw [hdone, Bool.or_true]

end Sys2Proof.Machine
end

section
/-! PROOFS. Range switches. -/

namespace Sys2Proof.Machine

/-! ## Range switches (R246 to R249) -/

/-- The code that a slot computes, in the terms of the gain that the channel has (R247). -/
def State.oldCode (u : State) (n : Chan) (c : Channel) : Code :=
  let t := (rangeMap (u.isCurr n) (u.chanParams n).gain c.gainNext (u.supply n c).1).1
  if c.retreated || (u.supply n c).2.heldNext then
    (limit (u.chanParams n).retStep (u.chanParams n).retInt t c.code c.m).1
  else (limit (u.chanParams n).slewStep (u.chanParams n).slewInt t c.code c.m).1

/-- Whether a slot's frame is the natural switch of its window (R248). -/
def State.switchesNow (u : State) (n : Chan) (c : Channel) : Bool :=
  c.window && naturalSwitch (u.isCurr n) (u.chanParams n).gain false c.code (u.oldCode n c)

/-- What a computation makes of a switch window (R247, R248). -/
theorem State.compute_window (u : State) (n : Chan) (c : Channel) :
    (u.compute n false c).window = (c.window && !u.switchesNow n c) ∧
      (u.compute n false c).gainNext = (if u.switchesNow n c then (u.chanParams n).gain else c.gainNext) ∧
      (u.compute n false c).code =
        (if u.switchesNow n c then (rangeMap (u.isCurr n) c.gainNext (u.chanParams n).gain (u.oldCode n c)).1 else u.oldCode n c) := by
  have hold : (if c.retreated || (u.supply n c).2.heldNext then
      limit (u.chanParams n).retStep (u.chanParams n).retInt
        (rangeMap (u.isCurr n) (u.chanParams n).gain c.gainNext (u.supply n c).1).1 c.code c.m
      else limit (u.chanParams n).slewStep (u.chanParams n).slewInt
        (rangeMap (u.isCurr n) (u.chanParams n).gain c.gainNext (u.supply n c).1).1 c.code c.m).1 = u.oldCode n c := by
    unfold State.oldCode
    dsimp only
    split <;> rfl
  unfold State.compute State.switchesNow
  dsimp only
  rw [hold]
  refine ⟨rfl, rfl, ?_⟩
  split <;> rfl

theorem State.oldCode_slews {u : State} {n : Chan} {c : Channel} (hret : c.retreated = false)
    (hheld : u.ledger.held[u.railOf n] = false) :
    Int.natAbs (((u.oldCode n c).toNat : Int) - c.code.toNat) ≤ ((u.chanParams n).slewStep).toNat := by
  have hnext : (u.supply n c).2.heldNext = false := hheld
  unfold State.oldCode
  dsimp only
  rw [hret, hnext, Bool.or_self, if_neg Bool.false_ne_true]
  exact (limit_slews _ _ _ _ _).1

/-- Where the natural switch is (R248). -/
theorem naturalSwitch_iff (curr : Bool) (gain : BitVec 1) (before after : Code) :
    naturalSwitch curr gain false before after = true ↔
      curr = true ∧ (after = 512 ∨ before.toNat < 512 ∧ 512 < after.toNat ∨ 512 < before.toNat ∧ after.toNat < 512) ∨
        curr = false ∧ gain = 0 ∧ after.toNat ≤ 511 := by
  have hgain : gain = 0 ↔ gain ≠ 1 := by
    revert gain
    decide
  unfold naturalSwitch
  cases curr with
  | true => simp [or_assoc]
  | false =>
    by_cases hg : gain = 1
    · rw [if_neg Bool.false_ne_true, if_pos hg, hgain]
      simp [hg]
    · rw [if_neg Bool.false_ne_true, if_neg hg, hgain]
      simp [show ¬ gain = 1#1 from hg]

/-- A code in the terms of another gain (Table 7.3). -/
theorem rangeMap_other {curr : Bool} {g h : BitVec 1} (hne : g ≠ h) (c : Code) :
    ((rangeMap curr g h c).1.toNat : Int) = max 0 (min 1023
      (if h = 1 then (if curr = true then 512 + ((c.toNat : Int) - 512 + 1) / 2 else ((c.toNat : Int) + 1) / 2)
      else if curr = true then 512 + 2 * ((c.toNat : Int) - 512) else 2 * (c.toNat : Int))) := by
  unfold rangeMap rangeRaw
  dsimp only
  rw [clampCode_toNat, if_neg hne]

/-- A slot in a switch window. -/
theorem exec_engineSlot_switches {s : State} {n : Chan} (h : slotDrives s n) (hwindow : (s.chan[n]).window = true)
    (hgain : (s.chan[n]).gainNext ≠ (s.chanParams n).gain) (hret : (s.chan[n]).retreated = false) :
    ∃ t c, exec (.engineSlot n) s = .next t ∧
      (t.ledger.held[t.railOf n] = false →
        Int.natAbs ((BitVec.toNat (w := 10) c : Int) - (s.chan[n]).code.toNat) ≤ ((s.chanParams n).slewStep).toNat) ∧
      ((t.chan[n]).window = false ↔
        s.isCurr n = true ∧ (c = 512 ∨ (s.chan[n]).code.toNat < 512 ∧ 512 < c.toNat ∨ 512 < (s.chan[n]).code.toNat ∧ c.toNat < 512) ∨
          s.isCurr n = false ∧ (s.chanParams n).gain = 0 ∧ c.toNat ≤ 511) ∧
      ((t.chan[n]).window = true → (t.chan[n]).code = c ∧ (t.chan[n]).gainNext = (s.chan[n]).gainNext) ∧
      ((t.chan[n]).window = false → (t.chan[n]).gainNext = (s.chanParams n).gain ∧
        ((t.chan[n]).code.toNat : Int) = max 0 (min 1023
          (if (s.chanParams n).gain = 1 then
            (if s.isCurr n = true then 512 + ((c.toNat : Int) - 512 + 1) / 2 else ((c.toNat : Int) + 1) / 2)
          else if s.isCurr n = true then 512 + 2 * ((c.toNat : Int) - 512) else 2 * (c.toNat : Int)))) ∧
      latchesIn s t n ∧ (∀ j : Chan, j ≠ n → t.chan[j] = s.chan[j]) := by
  obtain ⟨hlatches, -, -⟩ := s.latch_latches n
  obtain ⟨hin, hothers, -, -, -, -⟩ := s.slotted_latches n
  obtain ⟨hparams, hcurr, -⟩ := hlatches.params
  obtain ⟨hwin, hnext, hcode⟩ := (s.latch n).compute_window n (s.latch n).chan[n]
  have hslews := State.oldCode_slews (u := s.latch n) (n := n) (c := (s.latch n).chan[n]) (hlatches.retreated.trans hret)
  have hswitch : (s.latch n).switchesNow n (s.latch n).chan[n] =
      naturalSwitch (s.isCurr n) (s.chanParams n).gain false (s.chan[n]).code ((s.latch n).oldCode n (s.latch n).chan[n]) := by
    unfold State.switchesNow
    rw [hlatches.window, hwindow, Bool.true_and, hparams, hcurr, hlatches.code]
  rw [hlatches.window, hwindow, Bool.true_and, hswitch] at hwin
  rw [hswitch, hparams, hlatches.gainNext] at hnext
  rw [hswitch, hparams, hcurr, hlatches.gainNext] at hcode
  rw [hparams, hlatches.code] at hslews
  have hget : (s.slotted n).chan[n] = (s.latch n).compute n false (s.latch n).chan[n] := State.withChan_get _ _ _
  have hledger : (s.slotted n).ledger.held[(s.slotted n).railOf n] = (s.latch n).ledger.held[(s.latch n).railOf n] := rfl
  generalize (s.latch n).oldCode n (s.latch n).chan[n] = c at *
  have hiff := naturalSwitch_iff (s.isCurr n) (s.chanParams n).gain (s.chan[n]).code c
  refine ⟨s.slotted n, c, exec_engineSlot_drives h, fun hheld => hslews (hledger ▸ hheld), ?_, fun hstands => ?_, fun hcloses => ?_, hin, hothers⟩
  · rw [hget, hwin, Bool.not_eq_false']
    exact hiff
  · rw [hget, hwin, Bool.not_eq_true'] at hstands
    rw [hget, hcode, hnext, hstands]
    exact ⟨rfl, rfl⟩
  · rw [hget, hwin, Bool.not_eq_false'] at hcloses
    rw [hget, hcode, hnext, hcloses]
    exact ⟨rfl, rangeMap_other hgain c⟩

/-- The state in which a window is forced closed (R248, R249). -/
def State.forced (s : State) (n : Chan) : State :=
  s.withChan n { s.chan[n] with
    code := (rangeMap (s.isCurr n) (s.chan[n]).gainNext (s.chanParams n).gain (s.chan[n]).code).1
    gainNext := (s.chanParams n).gain, window := false
    clipNext := (s.chan[n]).clipNext || (rangeMap (s.isCurr n) (s.chan[n]).gainNext (s.chanParams n).gain (s.chan[n]).code).2 }

theorem exec_rangeSwitchForced {s : State} {n : Chan} (hruns : s.coreRuns = true) (hwindow : (s.chan[n]).window = true)
    (hrel : (s.chan[n]).released = false)
    (hframe : s.clock.frame = 16383 ∧ s.slotDone n = false ∨ s.clock.frame = 16382 ∧ s.slotDone n = true) :
    exec (.rangeSwitchForced n) s = .next (s.forced n) := by
  have hhere : ((s.clock.frame == 16382 && s.slotDone n) || (s.clock.frame == 16383 && !s.slotDone n)) = true := by
    obtain ⟨hf, hd⟩ | ⟨hf, hd⟩ := hframe
    · rw [hf, hd]
      rfl
    · rw [hf, hd]
      rfl
  refine if_pos ?_
  rw [hruns, hwindow, hrel]
  exact hhere

/-- Settles O41: the natural switch and the forced one. -/
theorem forcedRangeSwitch : Obligations.ForcedRangeSwitch := by
  unfold Obligations.ForcedRangeSwitch
  refine ⟨fun s n h hwindow hgain hret => exec_engineSlot_switches h hwindow hgain hret, fun s n hruns hwindow hrel hframe => ?_⟩
  have hget : (s.forced n).chan[n] = _ := s.withChan_get n _
  have hcode : ((s.forced n).chan[n]).code = (rangeMap (s.isCurr n) (s.chan[n]).gainNext (s.chanParams n).gain (s.chan[n]).code).1 :=
    congrArg Channel.code hget
  have hheld := congrArg Channel.gainHeld hget
  have hx := (s.chan[n]).code.isLt
  refine ⟨_, exec_rangeSwitchForced hruns hwindow hrel hframe, congrArg Channel.window hget, congrArg Channel.gainNext hget,
    hheld, fun h0 h1 hcurr => ?_, fun h0 h1 hcurr => ?_, fun h0 h1 hcurr => ?_, fun h0 h1 hcurr => ?_,
    fun j hj => s.withChan_other _ hj, s.withChan_moves _ _⟩
  all_goals
    have hmap := rangeMap_other (curr := s.isCurr n) (g := (s.chan[n]).gainNext) (h := (s.chanParams n).gain) (by rw [h0, h1]; decide)
      (s.chan[n]).code
    rw [← hcode, h1, hcurr] at hmap
  · rw [if_pos rfl, if_pos rfl] at hmap
    omega
  · rw [if_pos rfl, if_neg Bool.false_ne_true] at hmap
    omega
  · rw [if_neg (by decide), if_pos rfl] at hmap
    exact hmap
  · rw [if_neg (by decide), if_neg Bool.false_ne_true] at hmap
    omega

end Sys2Proof.Machine
end

section
/-! PROOFS. TXC closes the transaction. -/

namespace Sys2Proof.Machine

/-! ## The pins that a closing command shows -/

/-- The levels that the filtered pins end with (R81). -/
def State.levelsShown (s : State) (o : PinObs) : BitVec 3 × BitVec 2 := (pinLevels o).getD (s.pins.mode, s.pins.var)

/-- RTR_N's filtered level as the samples leave it (R91). -/
def State.rtrShown (s : State) (o : PinObs) : Bool := ((filtered o.rtrN).getLast?).elim s.pins.rtrLow (!·)

/-- The pins, once what the samples show stands in them. -/
def State.pinsShown (s : State) (o : PinObs) : Pins :=
  { s.pins with mode := (s.levelsShown o).1, var := (s.levelsShown o).2, rtrLow := s.rtrShown o }

theorem State.observe_eq (s : State) (o : PinObs) :
    s.observe o = if s.rtrShown o && !s.pins.rtrLow then (State.judgeMode { s with pins := s.pinsShown o }).rtrRecognised
      else State.judgeMode { s with pins := s.pinsShown o } := rfl

@[simp] theorem State.judgeMode_pins (s : State) : s.judgeMode.pins = s.pins := by
  unfold State.judgeMode
  split <;> simp

@[simp] theorem State.judgeMode_clock (s : State) : s.judgeMode.clock = s.clock := by
  unfold State.judgeMode
  split <;> simp

@[simp] theorem State.judgeMode_live (s : State) : s.judgeMode.txn.live = s.txn.live := by
  unfold State.judgeMode
  split <;> simp

@[simp] theorem State.observe_pins (s : State) (o : PinObs) : (s.observe o).pins = s.pinsShown o := by
  rw [State.observe_eq]
  split <;> simp

@[simp] theorem State.observe_clock (s : State) (o : PinObs) : (s.observe o).clock = s.clock := by
  rw [State.observe_eq]
  split <;> simp

@[simp] theorem State.observe_live (s : State) (o : PinObs) : (s.observe o).txn.live = s.txn.live := by
  rw [State.observe_eq]
  split <;> simp

/-- Where the samples are the first to show another's driver pull RTR_N low, every channel retreats (R91). -/
theorem State.observe_retreats {s : State} {o : PinObs} (h : rtrFalls s o) : (s.observe o).allRetreated := by
  obtain ⟨hlast, hlow, hdrive⟩ := h
  have hshown : s.rtrShown o = true := by
    unfold State.rtrShown
    rw [hlast]
    rfl
  rw [State.observe_eq, hshown, hlow, if_pos (by decide)]
  refine (State.rtrRecognised_retreats ?_).1
  rw [State.judgeMode_pins]
  exact hdrive

/-- What the pins show moves the pins alone where they stand. -/
theorem State.observe_of_pinsStand {s : State} {o : PinObs} (h : pinsStand s o) :
    s.observe o = { s with pins := s.pinsShown o } := by
  obtain ⟨hmode, hrtr⟩ := h
  rw [State.observe_pins] at hmode
  have hjudge : State.judgeMode { s with pins := s.pinsShown o } = { s with pins := s.pinsShown o } := by
    unfold State.judgeMode
    split
    · next hbad =>
      exact if_pos (hmode.resolve_left (by simpa using hbad))
    · rfl
  rw [State.observe_eq, hjudge]
  split
  · next hfalls =>
    rw [Bool.and_eq_true, Bool.not_eq_true'] at hfalls
    obtain ⟨hshown, hlow⟩ := hfalls
    have hlast : (filtered o.rtrN).getLast? = some false := by
      unfold State.rtrShown at hshown
      cases hl : (filtered o.rtrN).getLast? with
      | none => simp [hl, hlow] at hshown
      | some b => cases b <;> simp_all
    exact if_pos (Bool.not_eq_false _ ▸ fun hdrive => hrtr ⟨hlast, hlow, hdrive⟩)
  · rfl

/-- Whether the pins stand depends on them and on cause 17 alone. -/
theorem pinsStand_congr {s t : State} {o : PinObs} (hmode : t.pins.mode = s.pins.mode) (hvar : t.pins.var = s.pins.var)
    (hlow : t.pins.rtrLow = s.pins.rtrLow) (hdrive : t.pins.rtrDrive = s.pins.rtrDrive)
    (hfault : t.power.fault 17 = s.power.fault 17) (h : pinsStand s o) : pinsStand t o := by
  obtain ⟨hstands, hrtr⟩ := h
  rw [State.observe_pins] at hstands
  refine ⟨?_, fun ⟨hlast, hl, hd⟩ => hrtr ⟨hlast, hlow ▸ hl, hdrive ▸ hd⟩⟩
  rw [State.observe_pins, hfault]
  unfold State.pinsShown State.levelsShown at hstands ⊢
  rw [hmode, hvar]
  exact hstands

/-! ## The shadow as the closing command freezes it (R142) -/

theorem State.takeConfig_moves (s : State) (rec : List Byte) (arrived : Nat) :
    s.onlyMoves (s.takeConfig rec arrived) [.txn, .tel, .port] := by
  unfold State.takeConfig
  dsimp only
  split
  · exact State.onlyMoves_mono (State.logEvent_moves _ _ _ _ _) (by decide)
  · split
    · exact State.onlyMoves_mono (State.logEvent_moves _ _ _ _ _) (by decide)
    · split
      · exact State.onlyMoves_mono (s.setTxn_moves _) (by decide)
      · exact State.onlyMoves_mono (State.outcome_moves _ _ _ _ _) (by decide)

/-- The state once a record has left the content buffer. -/
def State.cutOne (s : State) (off n : Nat) : State := State.settlePause { s with port := s.port.cut off n }

theorem State.cutOne_moves (s : State) (off n : Nat) : s.onlyMoves (s.cutOne off n) [.txn, .tel, .port] := by
  intro p hp
  cases p <;> simp_all [State.agree, State.cutOne]

theorem State.drainRecords_moves (fuel off : Nat) (s : State) : s.onlyMoves (State.drainRecords fuel s off) [.txn, .tel, .port] := by
  induction fuel generalizing s off with
  | zero => exact State.onlyMoves_refl _ _
  | succ fuel ih =>
    unfold State.drainRecords
    split
    · exact State.onlyMoves_refl _ _
    · dsimp only
      split
      · exact State.onlyMoves_refl _ _
      · split
        · exact ih _ s
        · exact State.onlyMoves_trans (State.onlyMoves_trans (s.cutOne_moves _ _) (State.takeConfig_moves _ _ _)) (ih _ _)

theorem State.drainRecords_inForce (fuel off : Nat) (s : State) : (State.drainRecords fuel s off).inForce = s.inForce := by
  induction fuel generalizing s off with
  | zero => rfl
  | succ fuel ih =>
    unfold State.drainRecords
    split
    · rfl
    · dsimp only
      split
      · rfl
      · split
        · exact ih _ s
        · rw [ih, State.takeConfig_inForce, State.settlePause_inForce]
          rfl

/-- The shadow without the records accepted in this frame, which are refused. -/
def State.unfreshen (s : State) : State :=
  match s.txn.fresh with
  | some f =>
    if f.clk = s.clock.clk then
      f.refused.foldl (fun (s : State) o => s.outcome 6 o) { s with txn := { s.txn with shadow := some f.image } }
    else s
  | none => s

theorem State.unfreshen_moves (s : State) : s.onlyMoves s.unfreshen [.txn, .tel, .port] := by
  unfold State.unfreshen
  split
  · split
    · exact State.onlyMoves_trans (State.onlyMoves_mono (s.setTxn_moves _) (by decide))
        (State.onlyMoves_foldl (fun u o => State.onlyMoves_mono (u.outcome_moves _ _ _ _) (by decide)) _ _)
    · exact State.onlyMoves_refl _ _
  · exact State.onlyMoves_refl _ _

theorem State.unfreshen_inForce (s : State) : s.unfreshen.inForce = s.inForce := by
  unfold State.unfreshen
  split
  · split
    · exact foldl_keeps State.inForce (fun u o => State.outcome_inForce u _ _ _ _) _ _
    · rfl
  · rfl

/-- The records that stand whole have patched it. -/
def State.withRecords (s : State) : State := if s.portRuns then State.drainRecords (s.port.stream.length / 16 + 1) s 0 else s

theorem State.freezeShadow_eq (s : State) : s.freezeShadow = if s.txn.state ≠ .opened then s
    else { s.unfreshen.withRecords with txn := { s.unfreshen.withRecords.txn with fresh := none } } := rfl

theorem State.freezeShadow_freezes (s : State) :
    s.onlyMoves s.freezeShadow [.txn, .tel, .port] ∧ s.freezeShadow.inForce = s.inForce := by
  have hdrained (u : State) : u.onlyMoves u.withRecords [.txn, .tel, .port] ∧ u.withRecords.inForce = u.inForce := by
    unfold State.withRecords
    split
    · exact ⟨State.drainRecords_moves _ _ u, State.drainRecords_inForce _ _ u⟩
    · exact ⟨State.onlyMoves_refl _ _, rfl⟩
  obtain ⟨hmoves, hforce⟩ := hdrained s.unfreshen
  rw [State.freezeShadow_eq]
  split
  · exact ⟨State.onlyMoves_refl _ _, rfl⟩
  · exact ⟨State.onlyMoves_trans (State.onlyMoves_trans s.unfreshen_moves hmoves) (State.onlyMoves_mono (State.setTxn_moves _ _) (by decide)),
      hforce.trans s.unfreshen_inForce⟩

/-- With nothing on its way to it, the shadow is frozen as it stands. -/
theorem State.freezeShadow_of_settled {s : State} (hfresh : s.txn.fresh = none) (hstream : s.port.stream = []) : s.freezeShadow = s := by
  have hun : s.unfreshen = s := by
    unfold State.unfreshen
    rw [hfresh]
  have hdrained : s.withRecords = s := by
    unfold State.withRecords
    rw [hstream]
    split
    · have hlen : (([] : List Byte).length / 16 + 1) = 0 + 1 := rfl
      rw [hlen]
      unfold State.drainRecords
      rw [hstream]
      rfl
    · rfl
  rw [State.freezeShadow_eq, hun, hdrained]
  split
  · rfl
  · rw [← hfresh]

/-! ## A transaction closes (R143, R146) -/

/-- The state that the closing command judges: the shadow frozen, the merge buffer fenced, the DRAM woken. -/
def State.closing (s : State) (cfg : Configuration) (fence : List LineErrs) : State :=
  let s1 := if s.freezeShadow.txn.state = .opened then s.freezeShadow.fence (some fence) else s.freezeShadow
  if cfg.needsDram then { s1 with mem := s1.mem.wake } else s1

/-- The image that it judges. -/
def State.closingImage (s : State) : Image := s.freezeShadow.txn.shadow.getD s.freezeShadow.baseImage

/-- The transaction as it leaves it. -/
def State.closedTxn (u : State) (img : Image) (mode : BitVec 3) (var : BitVec 2) (stable : Bool) : Txn :=
  { u.txn with
    state := .pending, shadow := some img, selMode := modeTaken mode, selVar := var,
    verdict := some (u.validate (img.configure mode var) stable), validated := false, closedAt := u.clock.clk
    seen := Vector.ofFn (u.hasSightUnder (img.configure mode var)) }

/-- The state with the transaction closed, before the heads are asked for. -/
def State.closed (s : State) (mode : BitVec 3) (var : BitVec 2) (stable : Bool) (fence : List LineErrs) : State :=
  let u := s.closing (s.closingImage.configure mode var) fence
  { u with txn := u.closedTxn s.closingImage mode var stable }

theorem State.closeShadow_eq (s : State) (mode : BitVec 3) (var : BitVec 2) (stable : Bool) (fence : List LineErrs) :
    s.closeShadow mode var stable fence =
      if (s.closed mode var stable fence).dramUsable then
        (s.closed mode var stable fence).loadHeads (s.closingImage.configure mode var)
      else s.closed mode var stable fence := rfl

theorem State.loadHeads_moves (s : State) (c : Configuration) : s.onlyMoves (s.loadHeads c) [.mem, .player] := by
  unfold State.loadHeads
  refine State.onlyMoves_foldl (fun u id => ?_) _ s
  split
  · exact State.onlyMoves_refl _ _
  · refine State.onlyMoves_foldl (fun u o => ?_) _ u
    split
    · split
      · exact u.askRead_moves _ _ _ _
      · exact State.onlyMoves_refl _ _
    · exact State.onlyMoves_refl _ _

theorem State.loadHeads_cells (s : State) (c : Configuration) : (s.loadHeads c).mem.cells = s.mem.cells := by
  unfold State.loadHeads
  refine foldl_keeps (fun u : State => u.mem.cells) (fun u id => ?_) _ s
  split
  · rfl
  · refine foldl_keeps (fun u : State => u.mem.cells) (fun u o => ?_) _ u
    split
    · split
      · exact u.askRead_cells _ _ _ _
      · rfl
    · rfl

theorem State.closeShadow_moves_closed (s : State) (mode : BitVec 3) (var : BitVec 2) (stable : Bool) (fence : List LineErrs) :
    (s.closed mode var stable fence).onlyMoves (s.closeShadow mode var stable fence) [.mem, .player] ∧
      (s.closeShadow mode var stable fence).mem.cells = (s.closed mode var stable fence).mem.cells := by
  rw [State.closeShadow_eq]
  split
  · exact ⟨State.loadHeads_moves _ _, State.loadHeads_cells _ _⟩
  · exact ⟨State.onlyMoves_refl _ _, rfl⟩

/-- The frame and the live configuration stand while a transaction closes. -/
theorem State.closing_stands (s : State) (cfg : Configuration) (fence : List LineErrs) :
    (s.closing cfg fence).clock = s.clock ∧ (s.closing cfg fence).txn.live = s.txn.live := by
  obtain ⟨hmoves, hforce⟩ := s.freezeShadow_freezes
  have hclock : s.freezeShadow.clock = s.clock := hmoves .clock (by decide)
  have hlive : s.freezeShadow.txn.live = s.txn.live := ((State.inForce_eq_iff _ _).mp hforce).1
  have hserved := s.freezeShadow.fence_served (some fence)
  have hfenceClock : (s.freezeShadow.fence (some fence)).clock = s.freezeShadow.clock := congrArg Served.clock hserved
  have hfenceLive : (s.freezeShadow.fence (some fence)).txn.live = s.freezeShadow.txn.live :=
    congrArg (fun x => x.txn.live) hserved
  unfold State.closing
  dsimp only
  split <;> split <;> simp_all

/-- What a closed transaction is. -/
theorem State.closeShadow_closes (s : State) (mode : BitVec 3) (var : BitVec 2) (stable : Bool) (fence : List LineErrs) :
    (s.closeShadow mode var stable fence).txn.state = .pending ∧
      (s.closeShadow mode var stable fence).txn.selMode = modeTaken mode ∧
      (s.closeShadow mode var stable fence).txn.selVar = var ∧
      (s.closeShadow mode var stable fence).txn.validated = false ∧
      (s.closeShadow mode var stable fence).txn.verdict.isSome = true ∧
      (s.closeShadow mode var stable fence).txn.closedAt = s.clock.clk ∧
      (s.closeShadow mode var stable fence).txn.live = s.txn.live := by
  obtain ⟨hclock, hlive⟩ := s.closing_stands (s.closingImage.configure mode var) fence
  have htxn : (s.closeShadow mode var stable fence).txn = (s.closed mode var stable fence).txn :=
    (s.closeShadow_moves_closed mode var stable fence).1 .txn (by decide)
  rw [htxn]
  exact ⟨rfl, rfl, rfl, rfl, rfl, congrArg Clock.clk hclock, hlive⟩

/-- With nothing on its way to the shadow, it is judged as it stands, and only the DRAM is woken and read. -/
theorem State.closeShadow_of_settled {s : State} (h : settled s) (mode : BitVec 3) (var : BitVec 2) (stable : Bool) (fence : List LineErrs) :
    (s.closeShadow mode var stable fence).txn.shadow = some (s.txn.shadow.getD s.baseImage) ∧
      (s.closeShadow mode var stable fence).mem.cells = s.mem.cells ∧
      s.onlyMoves (s.closeShadow mode var stable fence) [.txn, .mem, .player] := by
  obtain ⟨hfresh, hstream, hmerge, hmaps⟩ := h
  have hfrozen := State.freezeShadow_of_settled hfresh hstream
  have himage : s.closingImage = s.txn.shadow.getD s.baseImage := by
    unfold State.closingImage
    rw [hfrozen]
  have hclosing : (s.closing (s.closingImage.configure mode var) fence).mem.cells = s.mem.cells ∧
      s.onlyMoves (s.closing (s.closingImage.configure mode var) fence) [.txn, .mem, .player] := by
    unfold State.closing
    dsimp only
    rw [hfrozen, State.fence_of_empty hmerge hmaps, ite_self]
    split
    · exact ⟨Mem.wake_cells _, State.onlyMoves_mono (s.onlyMoves_setMem _) (by decide)⟩
    · exact ⟨rfl, State.onlyMoves_refl _ _⟩
  obtain ⟨hmoves, hcells⟩ := s.closeShadow_moves_closed mode var stable fence
  have htxn : (s.closeShadow mode var stable fence).txn = (s.closed mode var stable fence).txn := hmoves .txn (by decide)
  refine ⟨?_, hcells.trans hclosing.1, State.onlyMoves_trans (State.onlyMoves_trans hclosing.2 (State.onlyMoves_mono (State.setTxn_moves _ _) (by decide)))
    (State.onlyMoves_mono hmoves (by decide))⟩
  rw [htxn, ← himage]
  rfl

/-! ## TXC -/

/-- A pin that falls moves the levels that count from a lock alone. -/
theorem State.txFalls_txHigh (s : State) (pin : TxPin) (l : List Bool) :
    ∃ h, s.txFalls pin l = { s with pins := { s.pins with txHigh := h } } := by
  unfold State.txFalls
  split
  · exact ⟨_, rfl⟩
  · exact ⟨s.pins.txHigh, rfl⟩

/-- The state in which TXC closes: the pins observed, with a new TXID where an implicit transaction begins. -/
def State.readyToClose (s : State) (obs : PinObs) : State :=
  if (s.observe obs).txn.state = .opened ∨ (s.observe obs).chain.openDue then s.observe obs else (s.observe obs).raiseTxid

theorem exec_txc_closes {s t : State} {l : List Bool} {o : List TxPin} {obs : PinObs} (ht : s.txFalls .txc l = t)
    (hh : s.hears .txc l = true)
    (hi : (givesWay .txc o || t.followsRoot || t.txn.state == .pending || t.chain.rootCmd == .sendAbort) = false) :
    exec (.txc l o obs) s = .next ((t.readyToClose obs).closeShadow (t.readyToClose obs).pins.mode (t.readyToClose obs).pins.var
      ((t.readyToClose obs).pinsStable obs) obs.fence) := by
  change execTxc l o obs s = _
  unfold execTxc
  dsimp only
  rw [hh, ht, hi]
  rfl

theorem State.readyToClose_ready (t : State) (obs : PinObs) :
    (t.readyToClose obs).pins = t.pinsShown obs ∧ (t.readyToClose obs).clock = t.clock ∧
      (t.readyToClose obs).txn.live = t.txn.live ∧ (t.readyToClose obs).txn.shadow = (t.observe obs).txn.shadow ∧
      (t.readyToClose obs).txn.fresh = (t.observe obs).txn.fresh ∧ (t.readyToClose obs).baseImage = (t.observe obs).baseImage ∧
      (t.observe obs).onlyMoves (t.readyToClose obs) [.txn] := by
  have hpins := t.observe_pins obs
  have hclock := t.observe_clock obs
  have hlive := t.observe_live obs
  unfold State.readyToClose
  generalize t.observe obs = u at *
  split
  · exact ⟨hpins, hclock, hlive, rfl, rfl, rfl, State.onlyMoves_refl _ _⟩
  · exact ⟨hpins, hclock, hlive, rfl, rfl, rfl, u.setTxn_moves _⟩

/-- What holds retreated goes on so. -/
theorem State.Steady.allRetreated {q : Bool} {s t : State} (h : s.Steady q t) (hall : s.allRetreated) : t.allRetreated := fun n =>
  (hall n).elim (fun hr => .inl ((h.chan n).released hr)) fun hr => ((h.chan n).retreated hr).symm

/-- The transaction that TXC closes, the pins observed. -/
def State.txcClosed (t : State) (obs : PinObs) : State :=
  (t.readyToClose obs).closeShadow (t.readyToClose obs).pins.mode (t.readyToClose obs).pins.var
    ((t.readyToClose obs).pinsStable obs) obs.fence

theorem State.txcClosed_closes (t : State) (obs : PinObs) :
    (t.txcClosed obs).txn.state = .pending ∧ (t.txcClosed obs).txn.selMode = modeTaken (t.levelsShown obs).1 ∧
      (t.txcClosed obs).txn.selVar = (t.levelsShown obs).2 ∧ (t.txcClosed obs).txn.validated = false ∧
      (t.txcClosed obs).txn.verdict.isSome = true ∧ (t.txcClosed obs).txn.closedAt = t.clock.clk ∧
      (t.txcClosed obs).txn.live = t.txn.live := by
  obtain ⟨hpins, hclock, hlive, -⟩ := t.readyToClose_ready obs
  obtain ⟨hstate, hmode, hvar, hvalidated, hverdict, hclosed, hkept⟩ :=
    (t.readyToClose obs).closeShadow_closes (t.readyToClose obs).pins.mode (t.readyToClose obs).pins.var
      ((t.readyToClose obs).pinsStable obs) obs.fence
  refine ⟨hstate, hmode.trans ?_, hvar.trans ?_, hvalidated, hverdict, hclosed.trans (congrArg Clock.clk hclock), hkept.trans hlive⟩
  · rw [hpins]
    rfl
  · rw [hpins]
    rfl

theorem State.txcClosed_retreats {t : State} {obs : PinObs} (h : rtrFalls t obs) : (t.txcClosed obs).allRetreated := by
  obtain ⟨-, -, -, -, -, -, hready⟩ := t.readyToClose_ready obs
  have hchan : (t.readyToClose obs).chan = (t.observe obs).chan := hready .chan (by decide)
  have hall : (t.readyToClose obs).allRetreated := by
    unfold State.allRetreated
    rw [hchan]
    exact State.observe_retreats h
  exact (State.Steady.closeShadow (q := false) (State.Steady.refl _)).allRetreated hall

theorem State.txcClosed_of_settled {t : State} {obs : PinObs} (h : settled t) (hpins : pinsStand t obs) :
    (t.txcClosed obs).txn.shadow = some (t.txn.shadow.getD t.baseImage) ∧ (t.txcClosed obs).chan = t.chan ∧
      (t.txcClosed obs).mem.cells = t.mem.cells := by
  obtain ⟨-, -, -, hshadow, hfresh, hbase, hready⟩ := t.readyToClose_ready obs
  have hseen := State.observe_of_pinsStand hpins
  obtain ⟨hfresh', hstream, hmerge, hmaps⟩ := h
  have hmem : (t.readyToClose obs).mem = t.mem := by
    rw [hready .mem (by decide), hseen]
  have hport : (t.readyToClose obs).port = t.port := by
    rw [hready .port (by decide), hseen]
  have hchan : (t.readyToClose obs).chan = t.chan := by
    rw [hready .chan (by decide), hseen]
  rw [hseen] at hshadow hfresh hbase
  have hsettled : settled (t.readyToClose obs) := by
    refine ⟨hfresh.trans hfresh', ?_, ?_, ?_⟩
    · rw [hport, hstream]
    · rw [hmem, hmerge]
    · rw [hmem, hmaps]
  obtain ⟨hclosed, hcells, hmoves⟩ := State.closeShadow_of_settled hsettled (t.readyToClose obs).pins.mode (t.readyToClose obs).pins.var
    ((t.readyToClose obs).pinsStable obs) obs.fence
  refine ⟨hclosed.trans ?_, (hmoves .chan (by decide)).trans hchan, hcells.trans (congrArg Mem.cells hmem)⟩
  rw [hshadow, hbase]
  rfl

/-- Settles O25: TXC closes the transaction on what the pins show, and is ignored where one is pending or the root's. -/
theorem txcCloses : Obligations.TxcCloses := by
  unfold Obligations.TxcCloses
  refine ⟨fun s l o obs hh hfollows ho hpending habort => ?_, fun s l o obs hh hwhy => ?_⟩
  · obtain ⟨h, ht⟩ := s.txFalls_txHigh .txc l
    have hgives : givesWay .txc o = false := by simpa [givesWay] using ho
    have hroot : (State.followsRoot { s with pins := { s.pins with txHigh := h } }) = false := hfollows
    have hexec := exec_txc_closes (o := o) (obs := obs) ht hh (by
      rw [hgives, hroot]
      simp [hpending, habort])
    obtain ⟨hstate, hmode, hvar, hvalidated, hverdict, hclosed, hkept⟩ :=
      State.txcClosed_closes { s with pins := { s.pins with txHigh := h } } obs
    refine ⟨_, hexec, hstate, ?_, ?_, hvalidated, hverdict, hclosed, hkept, fun hfalls => State.txcClosed_retreats hfalls,
      fun hsettled hstand => ?_⟩
    · rw [State.observe_pins]
      exact hmode
    · rw [State.observe_pins]
      exact hvar
    · exact State.txcClosed_of_settled (t := { s with pins := { s.pins with txHigh := h } }) hsettled
        (pinsStand_congr (s := s) rfl rfl rfl rfl rfl hstand)
  · obtain ⟨p, hp⟩ := s.txFalls_eq .txc l
    refine ⟨State.ignorePulse { s with pins := p } .txc, ?_, s.ignored p .txc⟩
    change execTxc l o obs s = _
    unfold execTxc
    rw [hh, hp]
    refine (if_neg (by decide)).trans (if_pos ?_)
    obtain hpending | hfollows := hwhy
    · simp [hpending]
    · have hroot : State.followsRoot { s with pins := p } = true := hfollows
      rw [hroot]
      simp

end Sys2Proof.Machine
end

section
/-! PROOFS. What a valid sync frame brings. -/

namespace Sys2Proof.Machine

/-! ## What a valid sync frame brings (R377, R387, R390, R402), and what it leaves -/

/-- What a device past JOIN keeps through a sync frame, and the marks that the frame sets. -/
structure Carried where
  chan : Vector Channel 64
  pins : Pins
  clock : Clock
  power : Power
  pinFault : Bool
  txn : Txn
  merge : Vector (List Merge) 2
  mapDue : List MapWrite
  stream : List Byte
  reserved : BitVec 32
  island : Bool
  merged : Option Return
  synced : Bool
  rxEpoch : BitVec 48
  enumcnt : BitVec 16
  seNext : Byte
  veto : Option Byte
  preparedId : Option Byte

def State.carried (s : State) : Carried where
  chan := s.chan
  pins := s.pins
  clock := s.clock
  power := { s.power with faults := 0 }
  pinFault := s.power.fault 17
  txn := { s.txn with lastGood := none, probation := none }
  merge := s.mem.merge
  mapDue := s.mem.mapDue
  stream := s.port.stream
  reserved := s.port.counter[8]
  island := s.chain.island
  merged := s.chain.merged
  synced := s.chain.synced
  rxEpoch := s.chain.rxEpoch
  enumcnt := s.chain.enumcnt
  seNext := s.chain.seNext
  veto := s.chain.veto
  preparedId := s.chain.preparedId

theorem State.clearFault_carried (s : State) {b : Nat} (hb : b < 64) (h : b ≠ 17) : (s.clearFault b).carried = s.carried := by
  have hpower : ({ (s.clearFault b).power with faults := 0 } : Power) = { s.power with faults := 0 } := by
    rw [State.clearFault_power]
  have hport : (s.clearFault b).port.stream = s.port.stream ∧ (s.clearFault b).port.counter[8] = s.port.counter[8] := by
    unfold State.clearFault
    split
    · dsimp only
      split
      · exact ⟨congrArg Prod.fst (State.logEvent_line _ _ _ _ _), State.logEvent_counter (i := 8) _ _ _ _ _ (by decide)⟩
      · exact ⟨rfl, rfl⟩
    · exact ⟨rfl, rfl⟩
  obtain ⟨hstream, hcounter⟩ := hport
  unfold State.carried
  rw [hpower, State.clearFault_fault_other s hb (Ne.symm h), hstream, hcounter, State.clearFault_chan, State.clearFault_pins,
    State.clearFault_clock, State.clearFault_txn, State.clearFault_mem, State.clearFault_chain]

theorem State.slewAlign_carried (s : State) (f : SyncRx) (d : Int) : (s.slewAlign f d).carried = s.carried := by
  unfold State.slewAlign
  dsimp only
  split
  · exact State.clearFault_carried _ (by decide) (by decide)
  · rfl

/-- Past JOIN a device that is no island moves towards what the frame places. -/
theorem State.align_carried {s : State} (hstage : s.power.stage ≠ .join) (hisland : s.chain.island = false) (f : SyncRx) :
    (s.align f).carried = s.carried := by
  unfold State.align
  split
  · rfl
  · next d _ =>
    dsimp only
    rw [if_neg (Bool.eq_false_iff.mp hisland), if_neg hstage]
    exact State.slewAlign_carried _ _ _

/-- A TXID that is new ends the veto and the PREPARE of the one before (R160). -/
theorem State.noteTxid_carried (s : State) (t : Byte) :
    (s.noteTxid t).carried = { s.carried with
      txn := { s.carried.txn with txid := t }, veto := if s.txn.txid = t then s.chain.veto else none,
      preparedId := if s.txn.txid = t then s.chain.preparedId else none } := by
  unfold State.noteTxid
  split
  · next h =>
    subst h
    rfl
  · rfl

theorem State.promote_carried (s : State) (prob : Bool) : (s.promote prob).carried = s.carried := by
  unfold State.promote
  split <;> rfl

theorem State.noteMissedCommit_carried (s : State) (prob : Bool) : (s.noteMissedCommit prob).carried = s.carried := by
  unfold State.noteMissedCommit
  dsimp only
  split <;> rfl

/-- What a device past JOIN holds once a valid sync frame has come. -/
def Carried.brings (c : Carried) (f : SyncRx) : Carried :=
  { c with
    txn := { c.txn with txid := SyncRx.txid f }
    veto := if c.txn.txid = SyncRx.txid f then c.veto else none
    preparedId := if c.txn.txid = SyncRx.txid f then c.preparedId else none
    synced := true, rxEpoch := SyncRx.epoch f
    enumcnt := BitVec.ofNat 16 (fieldAt (SyncRx.bytes f) 12 2)
    seNext := BitVec.ofNat 8 (fieldAt (SyncRx.bytes f) 11 1) }

/-- The marks that a valid frame sets. -/
def State.marked (s : State) (f : SyncRx) : State :=
  { s with chain := { s.chain with
      synced := true, validRun := if s.chain.island then s.chain.validRun + 1 else 0, rxEpoch := SyncRx.epoch f, txopen := SyncRx.flag f 1,
      enumcnt := BitVec.ofNat 16 (fieldAt (SyncRx.bytes f) 12 2), seNext := BitVec.ofNat 8 (fieldAt (SyncRx.bytes f) 11 1) } }

theorem State.takeSync_carried {s : State} (hpast : s.pastJoin = true) (hisland : s.chain.island = false) (f : SyncRx) :
    (s.takeSync f).carried = s.carried.brings f := by
  have hjoin : s.power.stage ≠ .join := by
    intro h
    unfold State.pastJoin State.isUp at hpast
    simp [h] at hpast
  have heq : s.takeSync f = ((((s.marked f).align f).noteTxid (SyncRx.txid f)).promote (SyncRx.flag f 0)).noteMissedCommit (SyncRx.flag f 0) := by
    unfold State.takeSync
    dsimp only
    rw [if_neg hjoin]
    exact if_pos (by rw [hpast, hisland]; rfl)
  have halign := State.align_carried (s := s.marked f) hjoin hisland f
  have htxid := congrArg (fun c => c.txn.txid) halign
  have hveto := congrArg Carried.veto halign
  have hprepared := congrArg Carried.preparedId halign
  dsimp only [State.carried] at htxid hveto hprepared
  rw [heq, State.noteMissedCommit_carried, State.promote_carried, State.noteTxid_carried, halign, htxid, hveto, hprepared]
  rfl

/-- What of a state `u` a valid sync frame has brought, which found the device in `s`. -/
structure Brought (s : State) (f : SyncRx) (u : State) : Prop where
  chan : u.chan = s.chan
  pins : u.pins = s.pins
  clock : u.clock = s.clock
  isUp : u.isUp = true
  base : u.baseImage = s.baseImage
  pinFault : u.power.fault 17 = s.power.fault 17
  state : u.txn.state = s.txn.state
  shadow : u.txn.shadow = s.txn.shadow
  verdict : u.txn.verdict = s.txn.verdict
  fresh : u.txn.fresh = s.txn.fresh
  live : u.txn.live = s.txn.live
  txid : u.txn.txid = SyncRx.txid f
  merge : u.mem.merge = s.mem.merge
  mapDue : u.mem.mapDue = s.mem.mapDue
  stream : u.port.stream = s.port.stream
  merged : u.chain.merged = s.chain.merged
  synced : u.chain.synced = true
  rxEpoch : u.chain.rxEpoch = SyncRx.epoch f
  enumcnt : u.chain.enumcnt = BitVec.ofNat 16 (fieldAt (SyncRx.bytes f) 12 2)
  seNext : u.chain.seNext = BitVec.ofNat 8 (fieldAt (SyncRx.bytes f) 11 1)
  veto : u.chain.veto = if s.txn.txid = SyncRx.txid f then s.chain.veto else none
  preparedId : u.chain.preparedId = if s.txn.txid = SyncRx.txid f then s.chain.preparedId else none

theorem Brought.of_carried {s u : State} {f : SyncRx} {k : BitVec 32} (hup : s.power.stage = .done)
    (h : u.carried = { s.carried.brings f with reserved := k }) : Brought s f u := by
  have hlive : u.txn.live = s.txn.live := congrArg (fun c => c.txn.live) h
  have hboot : u.txn.boot = s.txn.boot := congrArg (fun c => c.txn.boot) h
  have hpowerUp : u.power.powerUp = s.power.powerUp := congrArg (fun c => c.power.powerUp) h
  have hstage : u.power.stage = s.power.stage := congrArg (fun c => c.power.stage) h
  exact {
    chan := congrArg Carried.chan h
    pins := congrArg Carried.pins h
    clock := congrArg Carried.clock h
    isUp := by
      unfold State.isUp
      rw [hstage, hup]
      rfl
    base := by
      unfold State.baseImage
      rw [hpowerUp, hboot, hlive]
    pinFault := congrArg Carried.pinFault h
    state := congrArg (fun c => c.txn.state) h
    shadow := congrArg (fun c => c.txn.shadow) h
    verdict := congrArg (fun c => c.txn.verdict) h
    fresh := congrArg (fun c => c.txn.fresh) h
    live := hlive
    txid := congrArg (fun c => c.txn.txid) h
    merge := congrArg Carried.merge h
    mapDue := congrArg Carried.mapDue h
    stream := congrArg Carried.stream h
    merged := congrArg Carried.merged h
    synced := congrArg Carried.synced h
    rxEpoch := congrArg Carried.rxEpoch h
    enumcnt := congrArg Carried.enumcnt h
    seNext := congrArg Carried.seNext h
    veto := congrArg Carried.veto h
    preparedId := congrArg Carried.preparedId h }

/-- A sync frame that a device takes as valid: the command acts on a state that it has brought its fields to. -/
theorem State.receiveSync_acts {s : State} {f : SyncRx} {k : Nat} (h : takesValid s f k) {is : Nat → Bool} (his : is k = true)
    (act : State → State) :
    ∃ u, s.receiveSync f is act = act u ∧ Brought s f u ∧
      u.port.counter[8] = if 6 ≤ k then s.port.counter[8] + 1 else s.port.counter[8] := by
  obtain ⟨hhears, htakes, hup, hisland, hsound, hvalid, hcmd⟩ := h
  subst hcmd
  have hpast : s.pastJoin = true := by
    unfold State.takesSync at htakes
    rw [hup] at htakes
    simpa using (Bool.and_eq_true _ _ ▸ htakes).2
  obtain ⟨u, hu, hrun⟩ := State.receiveSync_of_valid (act := act) hhears htakes hsound hvalid his
  have htaken : ((s.forwardSync f).takeSync f).carried = s.carried.brings f := State.takeSync_carried (s := s.forwardSync f) hpast hisland f
  have hcarried : u.carried = { s.carried.brings f with reserved := if 6 ≤ SyncRx.cmd f then s.port.counter[8] + 1 else s.port.counter[8] } := by
    have hcounter : ((s.forwardSync f).takeSync f).port.counter[8] = s.port.counter[8] := congrArg Carried.reserved htaken
    rw [hu]
    split
    · have hbump : (((s.forwardSync f).takeSync f).bump 8).carried =
          { ((s.forwardSync f).takeSync f).carried with reserved := ((s.forwardSync f).takeSync f).port.counter[8] + 1 } := by
        have hc : (((s.forwardSync f).takeSync f).bump 8).port.counter[8] = ((s.forwardSync f).takeSync f).port.counter[8] + 1 :=
          State.bump_counter _ 8
        rw [← hc]
        rfl
      rw [hbump, htaken, hcounter]
    · rw [htaken]
      rfl
  have hisland' : u.chain.island = false := (congrArg Carried.island hcarried).trans hisland
  have hpower : ({ u.power with faults := 0 } : Power) = { s.power with faults := 0 } := congrArg Carried.power hcarried
  have hpast' : u.pastJoin = true := by
    have hfree (v : State) : v.pastJoin = State.pastJoin { v with power := { v.power with faults := 0 } } := rfl
    rw [hfree, hpower]
    exact hpast
  rw [hpast', hisland'] at hrun
  exact ⟨u, hrun, .of_carried hup hcarried, congrArg Carried.reserved hcarried⟩

end Sys2Proof.Machine
end

section
/-! PROOFS. Sync commands on the transaction. -/

namespace Sys2Proof.Machine

/-! ## Sync commands on the transaction (R157, R158, R160, R395, R396) -/

/-- A device that opens late holds a shadow of its own base (R396); one that does not stays as it is. -/
theorem State.openLate_opens {u : State} {f : SyncRx} (hflag : SyncRx.flag f 1 = true) (hidle : u.txn.state = .idle)
    (hveto : u.chain.veto = none) (hprepared : u.chain.preparedId ≠ some (SyncRx.txid f)) : u.openLate f = u.openShadow :=
  if_pos (by simp [hflag, hidle, hveto, hprepared])

theorem State.openLate_moves (u : State) (f : SyncRx) : u.onlyMoves (u.openLate f) [.txn] := by
  unfold State.openLate
  split
  · exact u.setTxn_moves _
  · exact State.onlyMoves_refl _ _

theorem State.openLate_live (u : State) (f : SyncRx) : (u.openLate f).txn.live = u.txn.live := by
  unfold State.openLate
  split <;> rfl

theorem State.openLate_of_open {u : State} (f : SyncRx) (h : u.txn.state ≠ .idle) : u.openLate f = u :=
  if_neg (by simp [h])

/-- The sync frame's commands that let a device open late. -/
theorem exec_sync_late {s : State} {f : SyncRx} {k : Nat} {c : Instr} (hvalid : takesValid s f k)
    (hc : c = .syncNone f ∧ k = 0 ∨ c = .syncCommit f ∧ k = 3 ∨ c = .syncRollback f ∧ k = 5 ∨ c = .syncReservedCommand f ∧ 6 ≤ k) :
    ∃ u t, Brought s f u ∧ exec c s = .next t ∧ (u.openLate f).onlyMoves t [.chain] := by
  obtain ⟨rfl, rfl⟩ | ⟨rfl, rfl⟩ | ⟨rfl, rfl⟩ | ⟨rfl, hk⟩ := hc
  · obtain ⟨u, hrun, hu, -⟩ := State.receiveSync_acts hvalid (is := (· == 0)) rfl fun s => s.openLate f
    exact ⟨u, _, hu, congrArg Host.Outcome.next hrun, State.onlyMoves_refl _ _⟩
  · obtain ⟨u, hrun, hu, -⟩ := State.receiveSync_acts hvalid (is := (· == 3)) rfl fun s =>
      { s.openLate f with chain := { (s.openLate f).chain with commitDue := true, voting := false } }
    exact ⟨u, _, hu, congrArg Host.Outcome.next hrun, State.setChain_moves _ _⟩
  · obtain ⟨u, hrun, hu, -⟩ := State.receiveSync_acts hvalid (is := (· == 5)) rfl fun s =>
      { s.openLate f with chain := { (s.openLate f).chain with rollbackDue := true, voting := false } }
    exact ⟨u, _, hu, congrArg Host.Outcome.next hrun, State.setChain_moves _ _⟩
  · obtain ⟨u, hrun, hu, -⟩ := State.receiveSync_acts hvalid (is := fun c => decide (6 ≤ c)) (by simpa using hk) fun s => s.openLate f
    exact ⟨u, _, hu, congrArg Host.Outcome.next hrun, State.onlyMoves_refl _ _⟩

theorem syncFrame_opensLate {s : State} {f : SyncRx} {k : Nat} {c : Instr} (hvalid : takesValid s f k)
    (hc : c = .syncNone f ∧ k = 0 ∨ c = .syncCommit f ∧ k = 3 ∨ c = .syncRollback f ∧ k = 5 ∨ c = .syncReservedCommand f ∧ 6 ≤ k)
    (hflag : SyncRx.flag f 1 = true) (hidle : s.txn.state = .idle) (hveto : s.chain.veto = none)
    (hprepared : s.chain.preparedId ≠ some (SyncRx.txid f)) :
    ∃ t, exec c s = .next t ∧ t.txn.state = .opened ∧ t.txn.shadow = some s.baseImage ∧ t.txn.txid = SyncRx.txid f ∧
      t.txn.count = 0 ∧ t.txn.live = s.txn.live ∧ t.chan = s.chan := by
  obtain ⟨u, t, hu, hexec, hmoves⟩ := exec_sync_late hvalid hc
  have hnone : u.chain.veto = none := by
    rw [hu.veto, hveto, ite_self]
  have hnew : u.chain.preparedId ≠ some (SyncRx.txid f) := by
    rw [hu.preparedId]
    split
    · exact hprepared
    · nofun
  rw [State.openLate_opens hflag (hu.state.trans hidle) hnone hnew] at hmoves
  have htxn : t.txn = u.openShadow.txn := hmoves .txn (by decide)
  have hchan : t.chan = u.chan := hmoves .chan (by decide)
  refine ⟨t, hexec, ?_, ?_, ?_, ?_, ?_, hchan.trans hu.chan⟩
  · rw [htxn]
    rfl
  · rw [htxn, ← hu.base]
    rfl
  · rw [htxn]
    exact hu.txid
  · rw [htxn]
    rfl
  · rw [htxn]
    exact hu.live

/-- NONE marks the boundary (R390). -/
theorem syncNone_marks {s : State} {f : SyncRx} (hvalid : takesValid s f 0) :
    ∃ t, exec (.syncNone f) s = .next t ∧ t.chain.synced = true ∧ t.chain.rxEpoch = SyncRx.epoch f ∧
      t.chain.enumcnt = BitVec.ofNat 16 (fieldAt (SyncRx.bytes f) 12 2) ∧
      t.chain.seNext = BitVec.ofNat 8 (fieldAt (SyncRx.bytes f) 11 1) ∧
      t.port.counter[8] = s.port.counter[8] ∧ t.chan = s.chan ∧ t.txn.live = s.txn.live := by
  obtain ⟨u, hrun, hu, hcount⟩ := State.receiveSync_acts hvalid (is := (· == 0)) rfl fun s => s.openLate f
  have hchain : (u.openLate f).chain = u.chain := u.openLate_moves f .chain (by decide)
  have hport : (u.openLate f).port = u.port := u.openLate_moves f .port (by decide)
  have hchan : (u.openLate f).chan = u.chan := u.openLate_moves f .chan (by decide)
  refine ⟨u.openLate f, congrArg Host.Outcome.next hrun, ?_, ?_, ?_, ?_, ?_, hchan.trans hu.chan, (u.openLate_live f).trans hu.live⟩
  · rw [hchain, hu.synced]
  · rw [hchain, hu.rxEpoch]
  · rw [hchain, hu.enumcnt]
  · rw [hchain, hu.seNext]
  · rw [hport, hcount]
    rfl

/-- A reserved command marks it too, and is counted (R395). -/
theorem syncReserved_marks {s : State} {f : SyncRx} {k : Nat} (hvalid : takesValid s f k) (hk : 6 ≤ k) :
    ∃ t, exec (.syncReservedCommand f) s = .next t ∧ t.chain.synced = true ∧ t.chain.rxEpoch = SyncRx.epoch f ∧
      t.chain.enumcnt = BitVec.ofNat 16 (fieldAt (SyncRx.bytes f) 12 2) ∧
      t.port.counter[8] = s.port.counter[8] + 1 ∧ t.chan = s.chan ∧ t.txn.live = s.txn.live := by
  obtain ⟨u, hrun, hu, hcount⟩ := State.receiveSync_acts hvalid (is := fun c => decide (6 ≤ c)) (by simpa using hk) fun s => s.openLate f
  have hchain : (u.openLate f).chain = u.chain := u.openLate_moves f .chain (by decide)
  have hport : (u.openLate f).port = u.port := u.openLate_moves f .port (by decide)
  have hchan : (u.openLate f).chan = u.chan := u.openLate_moves f .chan (by decide)
  refine ⟨u.openLate f, congrArg Host.Outcome.next hrun, ?_, ?_, ?_, ?_, hchan.trans hu.chan, (u.openLate_live f).trans hu.live⟩
  · rw [hchain, hu.synced]
  · rw [hchain, hu.rxEpoch]
  · rw [hchain, hu.enumcnt]
  · rw [hport, hcount, if_pos hk]

/-- OPEN opens the shadow (R158). -/
theorem syncOpen_opens {s : State} {f : SyncRx} (hvalid : takesValid s f 1) (hveto : s.chain.veto = none) :
    ∃ t, exec (.syncOpen f) s = .next t ∧ t.txn.state = .opened ∧ t.txn.shadow = some s.baseImage ∧ t.txn.count = 0 ∧
      t.txn.txid = SyncRx.txid f ∧ t.txn.live = s.txn.live ∧ t.chan = s.chan := by
  obtain ⟨u, hrun, hu, -⟩ := State.receiveSync_acts hvalid (is := (· == 1)) rfl fun s => if s.chain.veto.isNone then s.openShadow else s
  have hnone : u.chain.veto.isNone = true := by
    rw [hu.veto, hveto, ite_self]
    rfl
  rw [if_pos hnone] at hrun
  exact ⟨_, congrArg Host.Outcome.next hrun, rfl, congrArg some hu.base, rfl, hu.txid, hu.live, hu.chan⟩

/-- COMMIT calls for the apply at the next boundary (R395). -/
theorem syncCommit_calls {s : State} {f : SyncRx} (hvalid : takesValid s f 3) :
    ∃ t, exec (.syncCommit f) s = .next t ∧ t.chain.commitDue = true ∧ t.chain.voting = false ∧
      t.txn.live = s.txn.live ∧ (s.txn.state ≠ .idle → t.txn.shadow = s.txn.shadow) ∧ t.chan = s.chan := by
  obtain ⟨u, hrun, hu, -⟩ := State.receiveSync_acts hvalid (is := (· == 3)) rfl fun s =>
    { s.openLate f with chain := { (s.openLate f).chain with commitDue := true, voting := false } }
  have hchan : (u.openLate f).chan = u.chan := u.openLate_moves f .chan (by decide)
  refine ⟨_, congrArg Host.Outcome.next hrun, rfl, rfl, (u.openLate_live f).trans hu.live, fun hopen => ?_, hchan.trans hu.chan⟩
  have hstays : u.openLate f = u := State.openLate_of_open f (by rwa [hu.state])
  change (u.openLate f).txn.shadow = _
  rw [hstays, hu.shadow]

/-- ROLLBACK calls for last-good there (R400). -/
theorem syncRollback_calls {s : State} {f : SyncRx} (hvalid : takesValid s f 5) :
    ∃ t, exec (.syncRollback f) s = .next t ∧ t.chain.rollbackDue = true ∧ t.txn.live = s.txn.live ∧ t.chan = s.chan := by
  obtain ⟨u, hrun, hu, -⟩ := State.receiveSync_acts hvalid (is := (· == 5)) rfl fun s =>
    { s.openLate f with chain := { (s.openLate f).chain with rollbackDue := true, voting := false } }
  have hchan : (u.openLate f).chan = u.chan := u.openLate_moves f .chan (by decide)
  exact ⟨_, congrArg Host.Outcome.next hrun, rfl, (u.openLate_live f).trans hu.live, hchan.trans hu.chan⟩

/-- ABORT discards the transaction, naming the device that vetoed (R160, R430). -/
theorem syncAbort_discards {s : State} {f : SyncRx} (hvalid : takesValid s f 4) (hopen : s.txn.state ≠ .idle) :
    ∃ t, exec (.syncAbort f) s = .next t ∧ t.txn.state = .idle ∧ t.txn.shadow = none ∧ lastOutcome t = some 7 ∧
      (∀ r, s.chain.merged = some r → r.tick = s.lastTick → r.vetoId ≠ 0xFFFF →
        t.tel.outcomes.getLast?.map OutcomeEntry.obj = some { kind := 9, obj := BitVec.ofNat 32 (r.vetoId.toNat % 4096) }) ∧
      t.chain.veto = none ∧ t.txn.live = s.txn.live ∧ t.chan = s.chan := by
  obtain ⟨u, hrun, hu, -⟩ := State.receiveSync_acts hvalid (is := (· == 4)) rfl fun s => (s.discard 7 s.vetoObj).endTxn
  have hdiscard : u.discard 7 u.vetoObj = (u.outcome 7 u.vetoObj).closeTxn := if_neg (by rwa [hu.state])
  have htel : (u.discard 7 u.vetoObj).endTxn.tel = (u.outcome 7 u.vetoObj).tel := by
    rw [State.endTxn_tel, hdiscard, State.closeTxn_tel]
  have hlast := u.outcome_last 7 u.vetoObj 0 0
  have hlive : (u.discard 7 u.vetoObj).endTxn.txn.live = u.txn.live := by
    have h := (u.discard 7 u.vetoObj).endTxn_configured
    exact (congrArg Prod.fst h).trans (State.discard_live _ _ _)
  have hchan : (u.discard 7 u.vetoObj).endTxn.chan = u.chan := by
    rw [hdiscard]
    exact State.outcome_chan _ _ _ _ _
  refine ⟨_, congrArg Host.Outcome.next hrun, rfl, rfl, ?_, fun r hr htick hid => ?_, rfl, hlive.trans hu.live, hchan.trans hu.chan⟩
  · unfold lastOutcome
    rw [htel, hlast]
    rfl
  · have hmerged : u.lastMerged = some r := by
      have hlt : u.lastTick = s.lastTick := by
        unfold State.lastTick
        rw [hu.clock]
      unfold State.lastMerged
      rw [hu.merged, hr, hlt]
      simp [htick]
    have hobj : u.vetoObj = { kind := 9, obj := BitVec.ofNat 32 (r.vetoId.toNat % 4096) } := by
      unfold State.vetoObj
      rw [hmerged]
      exact if_neg hid
    rw [htel, hlast, ← hobj]
    rfl

/-! ## PREPARE (R157, R160, R395) -/

/-- The state in which PREPARE is seen: the pins observed, and the vote begun. -/
def State.voting (u : State) (f : SyncRx) (obs : PinObs) : State :=
  { (u.observe obs).vetoUnready with chain := { (u.observe obs).vetoUnready.chain with
      preparedId := some (SyncRx.txid f), voting := true, sincePrepare := some 0 } }

/-- The byte MV of the frame (Table 12.3). -/
def mvOf (f : SyncRx) : Byte := BitVec.ofNat 8 (fieldAt (SyncRx.bytes f) 10 1)

theorem State.voting_of_stand {u : State} {f : SyncRx} {obs : PinObs} (hup : u.isUp = true) (hstand : pinsStand u obs) :
    u.voting f obs = { u with
      pins := u.pinsShown obs
      chain := { u.chain with preparedId := some (SyncRx.txid f), voting := true, sincePrepare := some 0 } } := by
  have hready : (u.observe obs).vetoUnready = u.observe obs :=
    if_pos (by rw [State.observe_of_pinsStand hstand]; exact hup)
  unfold State.voting
  rw [hready, State.observe_of_pinsStand hstand]

theorem exec_syncPrepare_votes {s : State} {f : SyncRx} (obs : PinObs) (hvalid : takesValid s f 2) :
    ∃ u, Brought s f u ∧ exec (.syncPrepare f obs) s = .next (if (u.voting f obs).chain.veto.isSome then u.voting f obs
      else (u.voting f obs).closeShadow ((mvOf f).extractLsb' 0 3) ((mvOf f).extractLsb' 3 2) true obs.fence) := by
  obtain ⟨u, hrun, hu, -⟩ := State.receiveSync_acts hvalid (is := (· == 2)) rfl fun u =>
    if (u.voting f obs).chain.veto.isSome then u.voting f obs
    else (u.voting f obs).closeShadow ((mvOf f).extractLsb' 0 3) ((mvOf f).extractLsb' 3 2) true obs.fence
  exact ⟨u, hu, congrArg Host.Outcome.next hrun⟩

theorem Brought.standsPins {s u : State} {f : SyncRx} {obs : PinObs} (hu : Brought s f u) (h : pinsStand s obs) :
    pinsStand u obs :=
  pinsStand_congr (by rw [hu.pins]) (by rw [hu.pins]) (by rw [hu.pins]) (by rw [hu.pins]) hu.pinFault h

/-- PREPARE freezes the shadow and judges it with the mode and variant of MV. -/
theorem syncPrepare_judges {s : State} {f : SyncRx} {obs : PinObs} (hvalid : takesValid s f 2) (hveto : s.chain.veto = none)
    (hsettled : settled s) (hstand : pinsStand s obs) :
    ∃ t, exec (.syncPrepare f obs) s = .next t ∧ t.txn.state = .pending ∧
      t.txn.shadow = some (s.txn.shadow.getD s.baseImage) ∧ t.txn.verdict.isSome = true ∧ t.txn.validated = false ∧
      t.txn.selMode = modeTaken (BitVec.ofNat 3 (fieldAt (SyncRx.bytes f) 10 1 % 8)) ∧
      t.txn.selVar = BitVec.ofNat 2 (fieldAt (SyncRx.bytes f) 10 1 / 8 % 4) ∧
      t.chain.preparedId = some (SyncRx.txid f) ∧ t.chain.voting = true ∧ t.txn.live = s.txn.live ∧ t.chan = s.chan := by
  obtain ⟨u, hu, hexec⟩ := exec_syncPrepare_votes obs hvalid
  have hnone : u.chain.veto = none := by
    rw [hu.veto, hveto, ite_self]
  have hvoting := State.voting_of_stand (f := f) hu.isUp (hu.standsPins hstand)
  obtain ⟨hfresh, hstream, hmerge, hmaps⟩ := hsettled
  have hv : settled (u.voting f obs) ∧ (u.voting f obs).chain.veto.isSome = false ∧ (u.voting f obs).chan = u.chan ∧
      (u.voting f obs).txn = u.txn ∧ (u.voting f obs).baseImage = u.baseImage ∧
      (u.voting f obs).chain.preparedId = some (SyncRx.txid f) ∧ (u.voting f obs).chain.voting = true := by
    rw [hvoting]
    exact ⟨⟨hu.fresh.trans hfresh, hu.stream.trans hstream, hu.merge.trans hmerge, hu.mapDue.trans hmaps⟩,
      congrArg Option.isSome hnone, rfl, rfl, rfl, rfl, rfl⟩
  generalize u.voting f obs = v at hexec hv
  obtain ⟨hsettled, hfree, hchan, htxn, hbase, hprepared, hvotes⟩ := hv
  rw [hfree, if_neg Bool.false_ne_true] at hexec
  have hmode : (mvOf f).extractLsb' 0 3 = BitVec.ofNat 3 (fieldAt (SyncRx.bytes f) 10 1 % 8) := by
    apply BitVec.eq_of_toNat_eq
    unfold mvOf
    simp
  have hvar : (mvOf f).extractLsb' 3 2 = BitVec.ofNat 2 (fieldAt (SyncRx.bytes f) 10 1 / 8 % 4) := by
    apply BitVec.eq_of_toNat_eq
    unfold mvOf
    simp
    omega
  obtain ⟨hstate, hsel, hselVar, hvalidated, hverdict, -, hlive⟩ :=
    v.closeShadow_closes ((mvOf f).extractLsb' 0 3) ((mvOf f).extractLsb' 3 2) true obs.fence
  obtain ⟨hshadow, -, hmoves⟩ := State.closeShadow_of_settled hsettled ((mvOf f).extractLsb' 0 3) ((mvOf f).extractLsb' 3 2) true obs.fence
  generalize v.closeShadow ((mvOf f).extractLsb' 0 3) ((mvOf f).extractLsb' 3 2) true obs.fence = t at *
  have hchain : t.chain = v.chain := hmoves .chain (by decide)
  have htchan : t.chan = v.chan := hmoves .chan (by decide)
  refine ⟨t, hexec, hstate, ?_, hverdict, hvalidated, hmode ▸ hsel, hvar ▸ hselVar, ?_, ?_, ?_, htchan.trans (hchan.trans hu.chan)⟩
  · rw [hshadow, htxn, hbase, hu.shadow, hu.base]
  · rw [hchain, hprepared]
  · rw [hchain, hvotes]
  · rw [hlive, htxn, hu.live]

/-- A device that holds a veto of the same TXID keeps it and validates nothing. -/
theorem syncPrepare_vetoed {s : State} {f : SyncRx} {obs : PinObs} {v : Byte} (hvalid : takesValid s f 2) (hveto : s.chain.veto = some v)
    (hid : SyncRx.txid f = s.txn.txid) (hstand : pinsStand s obs) :
    ∃ t, exec (.syncPrepare f obs) s = .next t ∧ t.chain.veto = some v ∧ t.txn.verdict = s.txn.verdict ∧
      t.txn.state = s.txn.state ∧ t.txn.shadow = s.txn.shadow ∧ t.chain.voting = true ∧ t.chan = s.chan := by
  obtain ⟨u, hu, hexec⟩ := exec_syncPrepare_votes obs hvalid
  have hheld : u.chain.veto = some v := by
    rw [hu.veto, if_pos hid.symm, hveto]
  have hvoting := State.voting_of_stand (f := f) hu.isUp (hu.standsPins hstand)
  have hv : (u.voting f obs).chain.veto = some v := by
    rw [hvoting]
    exact hheld
  rw [hv] at hexec
  refine ⟨u.voting f obs, hexec, hv, ?_, ?_, ?_, rfl, ?_⟩ <;> rw [hvoting]
  · exact hu.verdict
  · exact hu.state
  · exact hu.shadow
  · exact hu.chan

end Sys2Proof.Machine
end

section
/-! PROOFS. Sync frames, unsound and forwarded. -/

namespace Sys2Proof.Machine

/-! ## Unsound sync frames (R372) -/

/-- A sync command is the reception of its frame. -/
theorem exec_syncCommand {c : Instr} {f : SyncRx} (hc : syncCommand c f) (s : State) :
    ∃ is act, exec c s = .next (s.receiveSync f is act) := by
  obtain rfl | rfl | ⟨obs, rfl⟩ | rfl | rfl | rfl | rfl := hc
  all_goals exact ⟨_, _, rfl⟩

theorem State.receiveSync_of_unsound {s : State} {f : SyncRx} (hhears : s.hearsSync = true) (hsound : SyncRx.sound f = false)
    (is : Nat → Bool) (act : State → State) :
    s.receiveSync f is act = { (s.forwardSync f).countBad with
      chain := { (s.forwardSync f).countBad.chain with lastIndex := none } } := by
  unfold State.receiveSync
  dsimp only
  rw [hhears, hsound]
  rfl

theorem State.forwardSync_moves (s : State) (f : SyncRx) : s.onlyMoves (s.forwardSync f) [.chain, .freeCount] := by
  have hset (c : Chain) (k : Nat) : s.onlyMoves { s with chain := c, freeCount := k } [.chain, .freeCount] := by
    intro p hp
    cases p <;> simp_all [State.agree]
  exact hset (s.forwardSync f).chain (s.forwardSync f).freeCount

theorem unsoundSync_counts {s : State} {f : SyncRx} {c : Instr} (hc : syncCommand c f) (hhears : s.hearsSync = true)
    (hruns : s.coreRuns = true) (hsound : SyncRx.sound f = false) :
    ∃ t, exec c s = .next t ∧ t.chain.synced = s.chain.synced ∧ t.chain.rxEpoch = s.chain.rxEpoch ∧
      t.port.counter[6] = s.port.counter[6] + 1 ∧ s.onlyMoves t [.chain, .port, .freeCount] := by
  obtain ⟨is, act, hexec⟩ := exec_syncCommand hc s
  have hbad : (s.forwardSync f).countBad = (s.forwardSync f).bump 6 := if_pos hruns
  rw [State.receiveSync_of_unsound hhears hsound, hbad] at hexec
  exact ⟨_, hexec, rfl, rfl, (s.forwardSync f).bump_counter 6,
    State.onlyMoves_trans (State.onlyMoves_trans (State.onlyMoves_mono (s.forwardSync_moves f) (by decide))
      (State.onlyMoves_mono ((s.forwardSync f).bump_moves 6) (by decide))) (State.onlyMoves_mono (State.setChain_moves _ _) (by decide))⟩

/-! ## What is forwarded stays to be sent -/

theorem State.holdVeto_outSync (s : State) (code : Byte) : (s.holdVeto code).chain.outSync = s.chain.outSync := by
  unfold State.holdVeto
  split
  · rfl
  · dsimp only
    split <;> rfl

theorem State.beginFault_outSync (s : State) (b : Nat) : (s.beginFault b).chain.outSync = s.chain.outSync := by
  have hdiscards (u : State) : u.faultDiscards.chain.outSync = u.chain.outSync := by
    unfold State.faultDiscards
    dsimp only
    split
    · rw [State.holdVeto_outSync, State.discard_chain]
    · rw [State.discard_chain]
  have hends (u : State) : (u.endsProbation b).chain.outSync = u.chain.outSync := by
    unfold State.endsProbation
    split <;> rfl
  unfold State.beginFault
  dsimp only
  split
  · rfl
  · rw [hends, hdiscards]
    split
    · rw [State.logEvent_chain]
    · rfl

theorem State.align_outSync (s : State) (f : SyncRx) : (s.align f).chain.outSync = s.chain.outSync := by
  unfold State.align
  split
  · rfl
  · dsimp only
    split
    · rfl
    · split
      · unfold State.stepAlign
        rw [State.clearFault_chain]
      · unfold State.slewAlign
        dsimp only
        split
        · rw [State.clearFault_chain]
        · rfl

theorem State.judgeIndex_outSync (s : State) (f : SyncRx) : (s.judgeIndex f).chain.outSync = s.chain.outSync := by
  unfold State.judgeIndex
  dsimp only
  split
  · rfl
  · split
    · split
      · rfl
      · exact State.beginFault_outSync _ _
    · rfl

theorem State.noteTxid_outSync (s : State) (t : Byte) : (s.noteTxid t).chain.outSync = s.chain.outSync := by
  unfold State.noteTxid
  split <;> rfl

theorem State.promote_outSync (s : State) (prob : Bool) : (s.promote prob).chain.outSync = s.chain.outSync := by
  unfold State.promote
  split <;> rfl

theorem State.noteMissedCommit_outSync (s : State) (prob : Bool) : (s.noteMissedCommit prob).chain.outSync = s.chain.outSync := by
  unfold State.noteMissedCommit
  dsimp only
  split <;> rfl

theorem State.takeSync_outSync (s : State) (f : SyncRx) : (s.takeSync f).chain.outSync = s.chain.outSync := by
  have halign : ((s.marked f).align f).chain.outSync = s.chain.outSync := State.align_outSync _ f
  have heq : s.takeSync f =
      if s.power.stage = .join then
        if (((s.marked f).align f).judgeIndex f).power.stage = .join ∧ (((s.marked f).align f).judgeIndex f).chain.id.isSome ∧
            (((s.marked f).align f).judgeIndex f).chain.aligned then (((s.marked f).align f).judgeIndex f).endJoin
        else ((s.marked f).align f).judgeIndex f
      else if s.pastJoin && !s.chain.island then
        ((((s.marked f).align f).noteTxid (SyncRx.txid f)).promote (SyncRx.flag f 0)).noteMissedCommit (SyncRx.flag f 0)
      else (s.marked f).align f := rfl
  rw [heq]
  split
  · split
    · have hend (u : State) : u.endJoin.chain = u.chain := by simp [State.endJoin]
      rw [hend, State.judgeIndex_outSync, halign]
    · rw [State.judgeIndex_outSync, halign]
  · split
    · rw [State.noteMissedCommit_outSync, State.promote_outSync, State.noteTxid_outSync, halign]
    · exact halign

/-- What a device has forwarded of a frame stays to be sent, whatever becomes of the frame. -/
theorem State.receiveSync_outSync {s : State} {f : SyncRx} {is : Nat → Bool} {act : State → State} (hhears : s.hearsSync = true)
    (his : SyncRx.sound f = false ∨ is (SyncRx.cmd f) = true) (hact : ∀ u, (act u).chain.outSync = u.chain.outSync) :
    (s.receiveSync f is act).chain.outSync = (s.forwardSync f).chain.outSync := by
  have hmine : ¬(SyncRx.sound f && !is (SyncRx.cmd f)) = true := by
    obtain h | h := his <;> simp [h]
  unfold State.receiveSync
  dsimp only
  rw [hhears, if_neg (by decide), if_neg hmine]
  have htaken : (if 6 ≤ SyncRx.cmd f then ((s.forwardSync f).takeSync f).bump 8 else (s.forwardSync f).takeSync f).chain.outSync =
      (s.forwardSync f).chain.outSync := by
    split
    · exact State.takeSync_outSync _ _
    · exact State.takeSync_outSync _ _
  generalize (if 6 ≤ SyncRx.cmd f then ((s.forwardSync f).takeSync f).bump 8 else (s.forwardSync f).takeSync f) = u at htaken ⊢
  split
  · unfold State.countBad
    split <;> rfl
  · split
    · rfl
    · split
      · rfl
      · split
        · rw [hact, htaken]
        · exact htaken

/-! ## The frame that goes out (R372, R380, R386) -/

/-- The bytes of a forwarded frame that its CRC covers. -/
def resentBody (f : SyncRx) (spine tooth kind acc : Nat) : List Byte :=
  (SyncRx.bytes f).take 14 ++ leBytes 1 spine ++ leBytes 1 tooth ++ leBytes 1 kind ++ slice (SyncRx.bytes f) 17 1 ++ leBytes 4 acc ++
    slice (SyncRx.bytes f) 22 2

theorem resend_eq (f : SyncRx) (spine tooth kind acc : Nat) :
    resend f spine tooth kind acc = resentBody f spine tooth kind acc ++
      leBytes 4 (if SyncRx.sound f then crc32 (resentBody f spine tooth kind acc) else ~~~crc32 (resentBody f spine tooth kind acc)).toNat := rfl

theorem slice_length {bs : List Byte} {off len : Nat} (h : off + len ≤ bs.length) : (slice bs off len).length = len := by
  unfold slice
  rw [List.length_take, List.length_drop]
  omega

/-- A slice that follows `off` bytes of a list. -/
theorem slice_append {as bs cs : List Byte} {off len : Nat} (ha : as.length = off) (hb : bs.length = len) :
    slice (as ++ (bs ++ cs)) off len = bs := by
  unfold slice
  rw [← ha, List.drop_left, ← hb, List.take_left]

/-- The parts of a sync frame stand where Table 12.3 has them. -/
theorem slice_parts {a b c d e g h k : List Byte} (ha : a.length = 14) (hb : b.length = 1) (hc : c.length = 1) (hd : d.length = 1)
    (he : e.length = 1) (hg : g.length = 4) (hh : h.length = 2) :
    slice (a ++ b ++ c ++ d ++ e ++ g ++ h ++ k) 14 1 = b ∧ slice (a ++ b ++ c ++ d ++ e ++ g ++ h ++ k) 15 1 = c ∧
      slice (a ++ b ++ c ++ d ++ e ++ g ++ h ++ k) 16 1 = d ∧ slice (a ++ b ++ c ++ d ++ e ++ g ++ h ++ k) 17 1 = e ∧
      slice (a ++ b ++ c ++ d ++ e ++ g ++ h ++ k) 18 4 = g ∧ slice (a ++ b ++ c ++ d ++ e ++ g ++ h ++ k) 22 2 = h := by
  refine ⟨?_, ?_, ?_, ?_, ?_, ?_⟩
  · simpa only [List.append_assoc] using slice_append (as := a) (cs := c ++ d ++ e ++ g ++ h ++ k) ha hb
  · simpa only [List.append_assoc] using
      slice_append (as := a ++ b) (off := 15) (cs := d ++ e ++ g ++ h ++ k) (by simp only [List.length_append, ha, hb]) hc
  · simpa only [List.append_assoc] using
      slice_append (as := a ++ b ++ c) (off := 16) (cs := e ++ g ++ h ++ k) (by simp only [List.length_append, ha, hb, hc]) hd
  · simpa only [List.append_assoc] using
      slice_append (as := a ++ b ++ c ++ d) (off := 17) (cs := g ++ h ++ k) (by simp only [List.length_append, ha, hb, hc, hd]) he
  · simpa only [List.append_assoc] using
      slice_append (as := a ++ b ++ c ++ d ++ e) (off := 18) (cs := h ++ k) (by simp only [List.length_append, ha, hb, hc, hd, he]) hg
  · simpa only [List.append_assoc] using
      slice_append (as := a ++ b ++ c ++ d ++ e ++ g) (off := 22) (cs := k) (by simp only [List.length_append, ha, hb, hc, hd, he, hg]) hh

theorem leNat_leBytes (k n : Nat) : leNat (leBytes k n) = n % 256 ^ k := by
  induction k generalizing n with
  | zero => simp [leBytes, leNat, Nat.mod_one]
  | succ k ih =>
    have hpow : 256 ^ (k + 1) = 256 * 256 ^ k := Nat.pow_succ'
    rw [leBytes, leNat, ih, BitVec.toNat_ofNat, hpow]
    exact (Nat.mod_mul (x := n) (a := 256)).symm

/-- What a frame of 28 bytes reads as, resent. -/
theorem resend_reads {f : SyncRx} (hlen : (SyncRx.bytes f).length = 28) (spine tooth kind acc : Nat) :
    (resend f spine tooth kind acc).length = 28 ∧ (resend f spine tooth kind acc).take 14 = (SyncRx.bytes f).take 14 ∧
      fieldAt (resend f spine tooth kind acc) 14 1 = spine % 256 ∧ fieldAt (resend f spine tooth kind acc) 15 1 = tooth % 256 ∧
      fieldAt (resend f spine tooth kind acc) 16 1 = kind % 256 ∧
      slice (resend f spine tooth kind acc) 17 1 = slice (SyncRx.bytes f) 17 1 ∧
      slice (resend f spine tooth kind acc) 22 2 = slice (SyncRx.bytes f) 22 2 ∧
      fieldAt (resend f spine tooth kind acc) 18 4 = acc % 2 ^ 32 ∧
      (resend f spine tooth kind acc).take 24 = resentBody f spine tooth kind acc ∧
      (resend f spine tooth kind acc).drop 24 =
        leBytes 4 (if SyncRx.sound f then crc32 (resentBody f spine tooth kind acc) else ~~~crc32 (resentBody f spine tooth kind acc)).toNat := by
  have hhead : ((SyncRx.bytes f).take 14).length = 14 := by
    rw [List.length_take, hlen]
    rfl
  have h17 := slice_length (bs := SyncRx.bytes f) (off := 17) (len := 1) (by omega)
  have h22 := slice_length (bs := SyncRx.bytes f) (off := 22) (len := 2) (by omega)
  have hbody : (resentBody f spine tooth kind acc).length = 24 := by
    unfold resentBody
    simp only [List.length_append, leBytes_length, hhead, h17, h22]
  rw [resend_eq]
  generalize (if SyncRx.sound f then crc32 (resentBody f spine tooth kind acc) else ~~~crc32 (resentBody f spine tooth kind acc)).toNat = crc
  obtain ⟨hspine, htooth, hkind, hspare, hacc, hrest⟩ := slice_parts (k := leBytes 4 crc) hhead (leBytes_length 1 spine)
    (leBytes_length 1 tooth) (leBytes_length 1 kind) h17 (leBytes_length 4 acc) h22
  refine ⟨?_, ?_, ?_, ?_, ?_, hspare, hrest, ?_, ?_, ?_⟩
  · rw [List.length_append, hbody, leBytes_length]
  · unfold resentBody
    simp only [List.append_assoc]
    rw [List.take_append_of_le_length (by rw [hhead]), List.take_of_length_le (by rw [hhead])]
  · exact (congrArg leNat hspine).trans (leNat_leBytes 1 spine)
  · exact (congrArg leNat htooth).trans (leNat_leBytes 1 tooth)
  · exact (congrArg leNat hkind).trans (leNat_leBytes 1 kind)
  · exact (congrArg leNat hacc).trans (leNat_leBytes 4 acc)
  · rw [List.take_append_of_le_length (by rw [hbody]), List.take_of_length_le (by rw [hbody])]
  · rw [← hbody, List.drop_left]

/-- ACC grown by d_A and by a wait. -/
def State.accSent (s : State) (f : SyncRx) (d : Int) (k : Nat) : Nat :=
  ((SyncRx.acc f : Int) + d + (min (Config.freeDelay (s.freeCount + k)) 40000 : Nat)).toNat % 2 ^ 32

/-- What the core sends on B and on C. -/
theorem State.forwardSync_sends {s : State} {f : SyncRx} {d : Int} (hway : s.wayCarries = false) (hd : s.chain.delayA = some d) :
    (s.portLive .b = true → (s.forwardSync f).chain.outSync[0] =
      some (resend f (s.chain.spine.toNat % 256) (s.chain.tooth.toNat % 256) (if s.power.role = .spine then 0 else 2) (s.accSent f d 1))) ∧
      (s.portLive .c = true → s.power.role = .spine → (s.forwardSync f).chain.outSync[1] =
        some (resend f (s.chain.spine.toNat % 256) 0 1 (s.accSent f d 2))) := by
  refine ⟨fun hb => ?_, fun hc hrole => ?_⟩
  · unfold State.forwardSync State.accSent
    simp only [Vector.getElem_ofFn]
    rw [hway, hd, hb]
    simp
  · unfold State.forwardSync State.accSent
    simp only [Vector.getElem_ofFn]
    rw [hway, hd, hc, hrole]
    simp

/-- A frame that the core resends is what `forwards` says. -/
theorem resend_forwards {s : State} {f : SyncRx} (hlen : (SyncRx.bytes f).length = 28) (d : Int) (k : Nat) {tooth kind : Nat}
    (htooth : tooth < 256) (hkind : kind < 256) :
    forwards s f d (resend f (s.chain.spine.toNat % 256) tooth kind (s.accSent f d k)) tooth kind := by
  obtain ⟨hlength, htake, hspine, htoothAt, hkindAt, hspare, hrest, hacc, hbody, hcrc⟩ :=
    resend_reads hlen (s.chain.spine.toNat % 256) tooth kind (s.accSent f d k)
  have hs := s.chain.spine.isLt
  refine ⟨hlength, htake, ?_, ?_, ?_, hspare, hrest, ⟨_, Nat.min_le_right (Config.freeDelay (s.freeCount + k)) 40000, ?_⟩, ?_⟩
  · rw [hspine]
    omega
  · rw [htoothAt, Nat.mod_eq_of_lt htooth]
  · rw [hkindAt, Nat.mod_eq_of_lt hkind]
  · rw [hacc]
    exact Nat.mod_mod _ _
  · rw [hcrc, hbody]

theorem syncNone_forwards {s : State} {f : SyncRx} {d : Int} (hhears : s.hearsSync = true) (hway : s.wayCarries = false)
    (hd : s.chain.delayA = some d) (hlen : (SyncRx.bytes f).length = 28) (hmine : SyncRx.sound f = false ∨ SyncRx.cmd f = 0) :
    ∃ t, exec (.syncNone f) s = .next t ∧
      (s.portLive .b = true → ∃ out, t.chain.outSync[0] = some out ∧
        forwards s f d out s.chain.tooth.toNat (if s.power.role = .spine then 0 else 2)) ∧
      (s.portLive .c = true → s.power.role = .spine → ∃ out, t.chain.outSync[1] = some out ∧ forwards s f d out 0 1) := by
  have hout := State.receiveSync_outSync (s := s) (f := f) (is := (· == 0)) (act := fun u => u.openLate f) hhears
    (hmine.imp_right fun h => by rw [h]; rfl) fun u => congrArg Chain.outSync (u.openLate_moves f .chain (by decide))
  obtain ⟨hb, hc⟩ := State.forwardSync_sends (f := f) hway hd
  have htooth := s.chain.tooth.isLt
  rw [← hout] at hb hc
  refine ⟨_, rfl, fun h => ⟨_, hb h, ?_⟩, fun h hrole => ⟨_, hc h hrole, resend_forwards hlen d 2 (by decide) (by decide)⟩⟩
  rw [Nat.mod_eq_of_lt htooth]
  exact resend_forwards hlen d 1 htooth (by split <;> decide)

/-- Settles O32: each sync command acts on the state that its frame's fields have come to. -/
theorem syncFramesAct : Obligations.SyncFramesAct := by
  unfold Obligations.SyncFramesAct
  exact ⟨fun s f h => syncNone_marks h, fun s f k h hk => syncReserved_marks h hk,
    fun s f c hc hhears hruns hsound => unsoundSync_counts hc hhears hruns hsound,
    fun s f d hhears hway hd hlen hmine => syncNone_forwards hhears hway hd hlen hmine,
    fun s f k c h _ hc hflag hidle hveto hprepared => syncFrame_opensLate h hc hflag hidle hveto hprepared,
    fun s f h hveto => syncOpen_opens h hveto, fun s f h => syncCommit_calls h, fun s f h hopen => syncAbort_discards h hopen,
    fun s f h => syncRollback_calls h, fun s f obs h hveto hsettled hstand => syncPrepare_judges h hveto hsettled hstand,
    fun s f obs v h hveto hid hstand => syncPrepare_vetoed h hveto hid hstand⟩

end Sys2Proof.Machine
end

section
/-! PROOFS. One input and one bank in a scan. -/

namespace Sys2Proof.Machine

/-! ## One input's turn in a scan (R256 to R260) -/

/-- What of an input the filters and the detector leave as its turn made it. -/
def Input.sensed (x : Input) : List Sample × Option Code × BitVec 16 × Bool × Nat :=
  (x.window, x.lastValid, x.replaced, x.tripDue, x.outCount)

theorem Input.decimate_sensed (x : Input) (m : MonParams) (out : Sample) : (x.decimate m out).1.sensed = x.sensed := by
  unfold Input.decimate
  dsimp only
  split <;> rfl

theorem Input.detect_sensed (x : Input) (m : MonParams) (out : Sample) (theta : Nat × Nat) (epoch : BitVec 48) :
    (x.detect m out theta epoch).sensed = x.sensed := by
  unfold Input.detect
  dsimp only
  generalize (decide (m.detCyc.toNat ≤ _) && decide (0 < x.n) || decide (2 ^ 26 ≤ x.n)) = closes
  cases closes <;> rfl

/-- The newest sample stands at the head of a rank window. -/
theorem pushWindow_head {α : Type} (h : Nat) (x : α) (w : List α) : (pushWindow h x w).head? = some x := by
  unfold pushWindow
  split
  · rfl
  · rw [List.head?_replicate, if_neg (by omega)]

/-- A scan of a bank moves the sense path and the captures; the inputs under trim, and those that have failed, stay so. -/
structure Scans (s t : State) : Prop where
  moves : s.onlyMoves t [.sense, .mem, .port]
  cells : t.mem.cells = s.mem.cells
  trimming : t.sense.trimming = s.sense.trimming
  failed : t.sense.failed = s.sense.failed

theorem Scans.refl (s : State) : Scans s s := ⟨State.onlyMoves_refl _ _, rfl, rfl, rfl⟩

theorem Scans.trans {s t u : State} (h : Scans s t) (h' : Scans t u) : Scans s u :=
  ⟨State.onlyMoves_trans h.moves h'.moves, h'.cells.trans h.cells, h'.trimming.trans h.trimming, h'.failed.trans h.failed⟩

/-- An input's turn rests on it, on the live configuration and on what a scan leaves alone. -/
theorem State.scanInput_congr {s t : State} (h : Scans s t) {i : Chan} (hi : t.sense.input[i] = s.sense.input[i]) (v : ScanIn)
    (replace : Bool) : t.scanInput v i replace = s.scanInput v i replace := by
  have htxn : t.txn = s.txn := h.moves .txn (by decide)
  have hpower : t.power = s.power := h.moves .power (by decide)
  unfold State.scanInput
  rw [hi, htxn, hpower, h.trimming, h.failed]

/-- The state with one input set. -/
def State.withInput (s : State) (i : Chan) (x : Input) : State :=
  { s with sense := { s.sense with input := s.sense.input.set i x } }

theorem State.withInput_get (s : State) (i : Chan) (x : Input) : (s.withInput i x).sense.input[i] = x := Vector.get_set_same _ _ _

theorem State.withInput_other (s : State) {i j : Chan} (x : Input) (h : j ≠ i) : (s.withInput i x).sense.input[j] = s.sense.input[j] :=
  Vector.getElem_set_ne i.isLt j.isLt fun e => h (Fin.ext e.symm)

theorem State.withInput_scans (s : State) (i : Chan) (x : Input) : Scans s (s.withInput i x) := by
  have hmoves : s.onlyMoves (s.withInput i x) [.sense] := s.setSense_moves (s.withInput i x).sense
  exact ⟨State.onlyMoves_mono hmoves (by decide), rfl, rfl, rfl⟩

theorem State.setMemPort_moves (s : State) (m : Mem) (p : Port) : s.onlyMoves { s with mem := m, port := p } [.mem, .port] := by
  intro q hq
  cases q <;> simp_all [State.agree]

theorem State.setCaptures_moves (s : State) (f : Fin 8 → Capture → Capture) : s.onlyMoves (s.setCaptures f) [.mem, .port] ∧
    (s.setCaptures f).mem.cells = s.mem.cells := by
  unfold State.setCaptures
  dsimp only
  exact ⟨s.setMemPort_moves _ _, Mem.setCaptures_cells _ _⟩

theorem State.captureWord_moves (s : State) (i : Chan) (word : BitVec 16) :
    s.onlyMoves (s.captureWord i word) [.mem, .port] ∧ (s.captureWord i word).mem.cells = s.mem.cells := by
  unfold State.captureWord
  split
  · exact ⟨State.onlyMoves_refl _ _, rfl⟩
  · split
    · exact State.setCaptures_moves _ _
    · exact ⟨State.onlyMoves_refl _ _, rfl⟩

theorem State.captureWord_scans (s : State) (i : Chan) (word : BitVec 16) :
    Scans s (s.captureWord i word) ∧ (s.captureWord i word).sense = s.sense := by
  obtain ⟨hmoves, hcells⟩ := s.captureWord_moves i word
  have hsense : (s.captureWord i word).sense = s.sense := hmoves .sense (by decide)
  exact ⟨⟨State.onlyMoves_mono hmoves (by decide), hcells, by rw [hsense], by rw [hsense]⟩, hsense⟩

/-- An input `x` after its turn, as `s` and the replacement make it. -/
structure Scanned (s : State) (v : ScanIn) (i : Chan) (replace : Bool) (x : Input) : Prop where
  head : x.window.head? = some (s.scanInput v i replace).2.1
  lastValid : x.lastValid = (s.scanInput v i replace).1.lastValid
  replaced : x.replaced = (s.scanInput v i replace).1.replaced
  tripDue : x.tripDue = (s.scanInput v i replace).1.tripDue
  outCount : x.outCount = (s.scanInput v i replace).1.outCount

/-- The input's state once the filters and the detector have taken its sample. -/
def State.turned (s : State) (v : ScanIn) (i : Chan) (replace : Bool) : Input :=
  let m := s.txn.live.params.mon[i]
  let r := s.scanInput v i replace
  let window := pushWindow m.rank.toNat r.2.1 r.1.window
  let out : Sample := { code := medianCode (window.map Sample.code), ovr := window.any Sample.ovr, tr := window.any Sample.tr }
  (({ r.1 with window := window } : Input).decimate m out).1.detect m out (s.theta i) (s.arrivalEpoch i)

theorem State.turned_scanned (s : State) (v : ScanIn) (i : Chan) (replace : Bool) : Scanned s v i replace (s.turned v i replace) := by
  have h : (s.turned v i replace).sensed = (pushWindow (s.txn.live.params.mon[i]).rank.toNat (s.scanInput v i replace).2.1
      (s.scanInput v i replace).1.window, (s.scanInput v i replace).1.lastValid, (s.scanInput v i replace).1.replaced,
      (s.scanInput v i replace).1.tripDue, (s.scanInput v i replace).1.outCount) := by
    unfold State.turned
    dsimp only
    rw [Input.detect_sensed, Input.decimate_sensed]
    rfl
  have hwindow := congrArg Prod.fst h
  exact ⟨(congrArg List.head? hwindow).trans (pushWindow_head _ _ _), congrArg (fun y => y.2.1) h, congrArg (fun y => y.2.2.1) h,
    congrArg (fun y => y.2.2.2.1) h, congrArg (fun y => y.2.2.2.2) h⟩

/-- One input's turn: it is scanned, and no other. -/
theorem State.scanOne_scans (s : State) (v : ScanIn) (replace : Bool) (i : Chan) :
    Scans s (State.scanOne v (s, replace) i).1 ∧ (State.scanOne v (s, replace) i).1.sense.carry = s.sense.carry ∧
      (∀ j : Chan, j ≠ i → (State.scanOne v (s, replace) i).1.sense.input[j] = s.sense.input[j]) ∧
      Scanned s v i replace ((State.scanOne v (s, replace) i).1.sense.input[i]) ∧
      (State.scanOne v (s, replace) i).2 = (s.scanInput v i replace).2.2 := by
  have heq : ∃ w : Option (BitVec 16), State.scanOne v (s, replace) i =
      (match w with
        | some w => State.captureWord (s.withInput i (s.turned v i replace)) i w
        | none => s.withInput i (s.turned v i replace),
        (s.scanInput v i replace).2.2) := ⟨_, rfl⟩
  obtain ⟨w, hw⟩ := heq
  have hset := s.withInput_scans i (s.turned v i replace)
  have hscanned : Scanned s v i replace ((s.withInput i (s.turned v i replace)).sense.input[i]) := by
    rw [State.withInput_get]
    exact s.turned_scanned v i replace
  have hother (j : Chan) (hj : j ≠ i) := s.withInput_other (s.turned v i replace) hj
  have hcarry : (s.withInput i (s.turned v i replace)).sense.carry = s.sense.carry := rfl
  rw [hw]
  generalize s.withInput i (s.turned v i replace) = u at *
  cases w with
  | none => exact ⟨hset, hcarry, hother, hscanned, rfl⟩
  | some w =>
    obtain ⟨hcaptured, hsense⟩ := u.captureWord_scans i w
    dsimp only
    rw [hsense]
    exact ⟨hset.trans hcaptured, hcarry, hother, hscanned, rfl⟩

/-! ## A bank's turn -/

/-- Whether an input's conversion is overranged, whatever came before it. -/
def State.overAt (s : State) (v : ScanIn) (i : Chan) : Bool := (s.scanInput v i false).2.2

theorem State.scanInput_over (s : State) (v : ScanIn) (i : Chan) (replace : Bool) : (s.scanInput v i replace).2.2 = s.overAt v i := by
  unfold State.overAt State.scanInput
  dsimp only
  split <;> rfl

/-- What replaces the `k`th input of a list, where `r` replaces its first (R259). -/
def State.replacedAt (s : State) (v : ScanIn) (l : List Chan) (r : Bool) : Nat → Bool
  | 0 => r
  | k + 1 => (l[k]?).elim false (s.overAt v)

theorem State.replacedAt_zero (s : State) (v : ScanIn) (l : List Chan) (r : Bool) : s.replacedAt v l r 0 = r := rfl

theorem State.replacedAt_succ (s : State) (v : ScanIn) (l : List Chan) (r : Bool) (k : Nat) :
    s.replacedAt v l r (k + 1) = (l[k]?).elim false (s.overAt v) := rfl

theorem State.replacedAt_cons (s : State) (v : ScanIn) (i : Chan) (l : List Chan) (r : Bool) (k : Nat) :
    s.replacedAt v (i :: l) r (k + 1) = s.replacedAt v l (s.overAt v i) k := by
  cases k <;> rfl

theorem Scanned.congr {s t : State} {v : ScanIn} {i : Chan} {r : Bool} {x : Input} (h : t.scanInput v i r = s.scanInput v i r)
    (hx : Scanned t v i r x) : Scanned s v i r x :=
  ⟨h ▸ hx.head, h ▸ hx.lastValid, h ▸ hx.replaced, h ▸ hx.tripDue, h ▸ hx.outCount⟩

theorem Scanned.of_eq {s : State} {v : ScanIn} {i : Chan} {r : Bool} {x y : Input} (h : y = x) (hx : Scanned s v i r x) :
    Scanned s v i r y := h ▸ hx

/-- Inputs that take their turns one after the other: each is scanned once, after the one before it. -/
theorem State.scanInputs_scan (v : ScanIn) (l : List Chan) (hl : l.Nodup) (s : State) (r : Bool) :
    Scans s (l.foldl (State.scanOne v) (s, r)).1 ∧ (l.foldl (State.scanOne v) (s, r)).1.sense.carry = s.sense.carry ∧
      (∀ j : Chan, j ∉ l → (l.foldl (State.scanOne v) (s, r)).1.sense.input[j] = s.sense.input[j]) ∧
      (∀ (k : Nat) (i : Chan), l[k]? = some i →
        Scanned s v i (s.replacedAt v l r k) ((l.foldl (State.scanOne v) (s, r)).1.sense.input[i])) ∧
      (l.foldl (State.scanOne v) (s, r)).2 = s.replacedAt v l r l.length := by
  induction l generalizing s r with
  | nil => exact ⟨.refl s, rfl, fun _ _ => rfl, fun k i h => absurd h (by simp), rfl⟩
  | cons i l ih =>
    obtain ⟨hi, hl⟩ := List.nodup_cons.mp hl
    obtain ⟨hscans, hcarry, hother, hscanned, hover⟩ := s.scanOne_scans v r i
    rw [State.scanInput_over] at hover
    rw [List.foldl_cons]
    have hacc : State.scanOne v (s, r) i = ((State.scanOne v (s, r) i).1, s.overAt v i) := Prod.ext rfl hover
    generalize (State.scanOne v (s, r) i).1 = u at *
    rw [hacc]
    obtain ⟨hscans', hcarry', hother', hscanned', hover'⟩ := ih hl u (s.overAt v i)
    have hsame (j : Chan) (hj : j ∈ l) (q : Bool) : u.scanInput v j q = s.scanInput v j q :=
      State.scanInput_congr hscans (hother j fun e => hi (e ▸ hj)) v q
    have hat (k : Nat) : u.replacedAt v l (s.overAt v i) k = s.replacedAt v l (s.overAt v i) k := by
      cases k with
      | zero => rw [State.replacedAt_zero, State.replacedAt_zero]
      | succ k =>
        rw [State.replacedAt_succ, State.replacedAt_succ]
        cases hk : l[k]? with
        | none => rw [Option.elim_none, Option.elim_none]
        | some j =>
          rw [Option.elim_some, Option.elim_some]
          exact congrArg (fun y => y.2.2) (hsame j (List.mem_of_getElem? hk) false)
    refine ⟨hscans.trans hscans', hcarry'.trans hcarry, fun j hj => ?_, fun k j hk => ?_, ?_⟩
    · rw [List.mem_cons, not_or] at hj
      exact (hother' j hj.2).trans (hother j hj.1)
    · cases k with
      | zero =>
        obtain rfl : i = j := Option.some.inj hk
        exact hscanned.of_eq (hother' i hi)
      | succ k =>
        rw [List.getElem?_cons_succ] at hk
        rw [State.replacedAt_cons, ← hat]
        exact (hscanned' k j hk).congr (hsame j (List.mem_of_getElem? hk) _)
    · rw [hover', hat, List.length_cons, State.replacedAt_cons]

/-- The inputs of a bank are sixteen in a row. -/
theorem bankInputs_eq (b : Bank) : (bankInputs b).Nodup ∧ (bankInputs b).length = 16 ∧
    (∀ k : Fin 16, (bankInputs b)[k.val]? = some ⟨16 * b.val + k.val, by omega⟩) ∧ ∀ j : Chan, j ∈ bankInputs b ↔ bankOf j = b := by
  refine ⟨(List.nodup_finRange 64).filter _, ?_, ?_, fun j => by simp [bankInputs]⟩
  · revert b
    decide
  · revert b
    decide

/-- What replaces an input (R259). -/
def State.replaces (s : State) (v : ScanIn) (i : Chan) : Bool :=
  if i.val % 16 = 0 then s.sense.carry[bankOf i] else s.overAt v ⟨i.val - 1, by omega⟩

/-- What a bank leaves for the scan that follows. -/
def State.carries (s : State) (v : ScanIn) (b : Bank) : Bool := s.overAt v ⟨16 * b.val + 15, by omega⟩ && !s.sense.trimming[b]

theorem State.scanBank_scans (v : ScanIn) (s : State) (b : Bank) :
    Scans s (s.scanBank v b) ∧ (∀ j : Chan, bankOf j ≠ b → (s.scanBank v b).sense.input[j] = s.sense.input[j]) ∧
      (∀ i : Chan, bankOf i = b → Scanned s v i (s.replaces v i) ((s.scanBank v b).sense.input[i])) ∧
      (s.scanBank v b).sense.carry = s.sense.carry.set b (s.carries v b) := by
  obtain ⟨hnodup, hlen, hget, hmem⟩ := bankInputs_eq b
  obtain ⟨hscans, hcarry, hother, hscanned, hover⟩ := State.scanInputs_scan v (bankInputs b) hnodup s s.sense.carry[b]
  have heq : s.scanBank v b = { ((bankInputs b).foldl (State.scanOne v) (s, s.sense.carry[b])).1 with
      sense := { ((bankInputs b).foldl (State.scanOne v) (s, s.sense.carry[b])).1.sense with
        carry := ((bankInputs b).foldl (State.scanOne v) (s, s.sense.carry[b])).1.sense.carry.set b
          (((bankInputs b).foldl (State.scanOne v) (s, s.sense.carry[b])).2 && !s.sense.trimming[b]) } } := rfl
  rw [heq]
  have hlast : s.replacedAt v (bankInputs b) s.sense.carry[b] (bankInputs b).length = s.overAt v ⟨16 * b.val + 15, by omega⟩ := by
    rw [hlen]
    exact congrArg (fun o => Option.elim o false (s.overAt v)) (hget 15)
  rw [hlast] at hover
  generalize (bankInputs b).foldl (State.scanOne v) (s, s.sense.carry[b]) = acc at *
  refine ⟨⟨State.onlyMoves_trans hscans.moves (State.onlyMoves_mono (State.setSense_moves _ _) (by decide)), hscans.cells, hscans.trimming,
    hscans.failed⟩, fun j hj => hother j fun h => hj ((hmem j).mp h), fun i hi => ?_, ?_⟩
  · have hk : i.val % 16 < 16 := Nat.mod_lt _ (by decide)
    have hval : 16 * b.val + i.val % 16 = i.val := by
      rw [← hi]
      unfold bankOf
      dsimp only
      omega
    have hturn := hscanned (i.val % 16) i ((hget ⟨i.val % 16, hk⟩).trans (congrArg some (Fin.ext hval)))
    have hreplaces : s.replacedAt v (bankInputs b) s.sense.carry[b] (i.val % 16) = s.replaces v i := by
      unfold State.replaces
      split
      · next h0 =>
        rw [h0]
        exact congrArg (fun c : Bank => s.sense.carry[c]) hi.symm
      · next h0 =>
        obtain ⟨k, hk1⟩ := Nat.exists_eq_succ_of_ne_zero h0
        have hprev := hget ⟨k, by omega⟩
        rw [hk1]
        refine (congrArg (fun o => Option.elim o false (s.overAt v)) hprev).trans (congrArg (s.overAt v) (Fin.ext ?_))
        dsimp only
        omega
    rw [← hreplaces]
    exact hturn
  · rw [hcarry, hover]
    rfl

/-! ## A whole scan -/

/-- The banks take their turns: each input of theirs is scanned once, and each leaves its carry. -/
theorem State.scanBanks_scan (v : ScanIn) (l : List Bank) (hl : l.Nodup) (s : State) :
    Scans s (l.foldl (State.scanBank v) s) ∧
      (∀ j : Chan, bankOf j ∉ l → (l.foldl (State.scanBank v) s).sense.input[j] = s.sense.input[j]) ∧
      (∀ i : Chan, bankOf i ∈ l → Scanned s v i (s.replaces v i) ((l.foldl (State.scanBank v) s).sense.input[i])) ∧
      (∀ b : Bank, (l.foldl (State.scanBank v) s).sense.carry[b] = if b ∈ l then s.carries v b else s.sense.carry[b]) := by
  induction l generalizing s with
  | nil => exact ⟨.refl s, fun _ _ => rfl, fun _ h => absurd h List.not_mem_nil, fun _ => rfl⟩
  | cons b l ih =>
    obtain ⟨hb, hl⟩ := List.nodup_cons.mp hl
    obtain ⟨hscans, hother, hscanned, hcarry⟩ := State.scanBank_scans v s b
    rw [List.foldl_cons]
    generalize s.scanBank v b = u at *
    obtain ⟨hscans', hother', hscanned', hcarry'⟩ := ih hl u
    have hsame (j : Chan) (hj : bankOf j ≠ b) (q : Bool) : u.scanInput v j q = s.scanInput v j q :=
      State.scanInput_congr hscans (hother j hj) v q
    have hover (j : Chan) (hj : bankOf j ≠ b) : u.overAt v j = s.overAt v j := congrArg (fun y => y.2.2) (hsame j hj false)
    have hkeeps (c : Bank) (hc : c ≠ b) : u.sense.carry[c] = s.sense.carry[c] := by
      rw [hcarry]
      exact Vector.getElem_set_ne b.isLt c.isLt fun e => hc (Fin.ext e.symm)
    refine ⟨hscans.trans hscans', fun j hj => ?_, fun i hi => ?_, fun c => ?_⟩
    · rw [List.mem_cons, not_or] at hj
      exact (hother' j hj.2).trans (hother j hj.1)
    · obtain rfl | hmem := List.mem_cons.mp hi
      · exact (hscanned i rfl).of_eq (hother' i hb)
      · have hne : bankOf i ≠ b := fun e => hb (e ▸ hmem)
        have hreplaces : u.replaces v i = s.replaces v i := by
          unfold State.replaces
          split
          · exact hkeeps _ hne
          · next h0 =>
            refine hover _ fun e => hne (e ▸ Fin.ext ?_)
            unfold bankOf
            dsimp only
            omega
        rw [← hreplaces]
        exact (hscanned' i hmem).congr (hsame i hne _)
    · rw [hcarry']
      by_cases hc : c = b
      · subst hc
        rw [if_neg hb, if_pos List.mem_cons_self, hcarry]
        exact Vector.get_set_same _ _ _
      · have hmem : c ∈ b :: l ↔ c ∈ l := by simp [hc]
        have hbank : bankOf ⟨16 * c.val + 15, by omega⟩ = c := Fin.ext (by unfold bankOf; dsimp only; omega)
        have hcarries : u.carries v c = s.carries v c := by
          unfold State.carries
          rw [hover _ (by rw [hbank]; exact hc), hscans.trimming]
        simp only [hmem, hcarries, hkeeps c hc]

/-- The state in which every bank has had its turn. -/
def State.scanned (s : State) (v : ScanIn) : State := (List.finRange 4).foldl (State.scanBank v) s

theorem State.scanned_scans (s : State) (v : ScanIn) :
    Scans s (s.scanned v) ∧ (∀ i : Chan, Scanned s v i (s.replaces v i) ((s.scanned v).sense.input[i])) ∧
      ∀ b : Bank, (s.scanned v).sense.carry[b] = s.carries v b := by
  unfold State.scanned
  have hmem (b : Bank) : b ∈ List.finRange 4 := List.mem_finRange b
  have hnodup := List.nodup_finRange 4
  generalize List.finRange 4 = l at hmem hnodup ⊢
  obtain ⟨hscans, -, hscanned, hcarry⟩ := State.scanBanks_scan v l hnodup s
  exact ⟨hscans, fun i => hscanned i (hmem _), fun b => (hcarry b).trans (if_pos (hmem b))⟩

theorem exec_monitorScan {s : State} (v : ScanIn) (hruns : s.coreRuns = true) (heven : s.clock.frame % 2 = 0) :
    exec (.monitorScan v) s = .next (s.scanned v).loseSight := by
  change execMonitorScan v s = _
  unfold execMonitorScan State.scanned
  exact if_pos (by simp [hruns, heven])

end Sys2Proof.Machine
end

section
/-! PROOFS. What a conversion gives. -/

namespace Sys2Proof.Machine

/-! ## What a conversion gives (R256, R258, R510) -/

/-- The conversion of an input: its code, and whether it is overranged. -/
def State.conversion (s : State) (v : ScanIn) (i : Chan) : Code × Bool :=
  convertBall (s.txn.live.params.mon[i]) v.mon[i] v.mong[bankOf i]

theorem convNumerator_eq (s : State) (v : ScanIn) (i : Chan) :
    convNumerator (s.txn.live.params.mon[i]) (v.mon[i] - v.mong[bankOf i]) = scaledInput s v i := by
  have hgain (p : BitVec 2) : (pregain p : Int) = if p = 0 then 1 else if p = 1 then 4 else 16 := by
    revert p
    decide
  unfold convNumerator scaledInput
  rw [hgain]
  rfl

/-- A code is the floor of R256, within its ends. -/
theorem clampCode_floor (y : Int) :
    (y < 0 → clampCode (y / 1250000000) = 0) ∧ (1024 * 1250000000 ≤ y → clampCode (y / 1250000000) = 1023) ∧
      (0 ≤ y → y < 1024 * 1250000000 →
        ((clampCode (y / 1250000000)).toNat : Int) * 1250000000 ≤ y ∧ y < (((clampCode (y / 1250000000)).toNat : Int) + 1) * 1250000000) := by
  have hval := clampCode_toNat (y / 1250000000)
  refine ⟨fun hneg => BitVec.eq_of_toNat_eq ?_, fun hhigh => BitVec.eq_of_toNat_eq ?_, fun h0 h1 => ?_⟩
  · change _ = 0
    omega
  · change _ = 1023
    omega
  · rw [hval]
    omega

theorem State.conversion_overranges (s : State) (v : ScanIn) (i : Chan) : (s.conversion v i).2 = true ↔ overranges s v i := by
  unfold State.conversion convertBall overranges
  split
  · next h => exact ⟨fun _ => .inl h, fun _ => rfl⟩
  · next hhigh =>
    split
    · next h => exact ⟨fun _ => .inr (.inl h), fun _ => rfl⟩
    · next hlow =>
      unfold convert
      dsimp only
      rw [convNumerator_eq]
      simp only [hhigh, hlow, false_or, Bool.or_eq_true, decide_eq_true_eq]

/-- The code of a ball within its range. -/
theorem State.conversion_code {s : State} {v : ScanIn} {i : Chan} (hlow : -100000000 ≤ v.mon[i]) (hhigh : v.mon[i] ≤ 1500000000) :
    (s.conversion v i).1 = clampCode (scaledInput s v i / 1250000000) := by
  unfold State.conversion convertBall
  rw [if_neg (Int.not_lt.mpr hhigh), if_neg (Int.not_lt.mpr hlow), ← convNumerator_eq]
  rfl

theorem State.conversion_of_low {s : State} {v : ScanIn} {i : Chan} (h : v.mon[i] < -100000000) : (s.conversion v i).1 = 0 := by
  unfold State.conversion convertBall
  rw [if_neg (by omega), if_pos h]

theorem State.conversion_of_high {s : State} {v : ScanIn} {i : Chan} (h : 1500000000 < v.mon[i]) : (s.conversion v i).1 = 1023 := by
  unfold State.conversion convertBall
  rw [if_pos h]

/-! ## What an input's turn leaves (R259, R260, R271) -/

theorem Input.guardSample_keeps (x : Input) (g : Option Guard) (h : Nat) (code : Code) (ovr : Bool) :
    (x.guardSample g h code ovr).lastValid = x.lastValid ∧ (x.guardSample g h code ovr).replaced = x.replaced := ⟨rfl, rfl⟩

theorem State.scanInput_of_trimming {s : State} {i : Chan} (h : s.sense.trimming[bankOf i] = true) (v : ScanIn) (r : Bool) :
    s.scanInput v i r = (s.sense.input[i], { code := (s.sense.input[i]).lastValid.getD 512, ovr := false, tr := true }, false) :=
  if_pos h

/-- A conversion counts as overranged in a bank that is not under trim. -/
theorem State.overAt_iff {s : State} {v : ScanIn} {i : Chan} (h : s.sense.trimming[bankOf i] = false) :
    s.overAt v i = true ↔ overranges s v i := by
  rw [← State.conversion_overranges]
  have hnot : ¬ s.sense.trimming[bankOf i] = true := by
    rw [h]
    exact Bool.false_ne_true
  unfold State.overAt State.scanInput
  dsimp only
  rw [if_neg hnot]
  rfl

/-- A bank that has lost its self-test, its supply or the reference marks every sample, and its guards count nothing. -/
theorem State.scanInput_of_suspended {s : State} {i : Chan} (htrim : s.sense.trimming[bankOf i] = false)
    (h : senseSuspended s i = true) (v : ScanIn) (r : Bool) :
    (s.scanInput v i r).1.tripDue = false ∧ (s.scanInput v i r).1.outCount = 0 ∧ (s.scanInput v i r).2.1.tr = true := by
  have hnot : ¬ s.sense.trimming[bankOf i] = true := by
    rw [htrim]
    exact Bool.false_ne_true
  unfold senseSuspended at h
  unfold State.scanInput
  dsimp only
  rw [if_neg hnot, h, if_pos rfl]
  exact ⟨rfl, rfl, Bool.or_true _⟩

/-- An input that is not settling takes its conversion, or what stands for it. -/
theorem State.scanInput_of_settled {s : State} {i : Chan} (htrim : s.sense.trimming[bankOf i] = false)
    (hsettled : (s.sense.input[i]).settling = 0) (v : ScanIn) (r : Bool) :
    (s.scanInput v i r).2.1 =
        (if r = true then { code := (s.sense.input[i]).lastValid.getD (s.conversion v i).1, ovr := false, tr := true }
          else { code := (s.conversion v i).1, ovr := (s.conversion v i).2, tr := senseSuspended s i }) ∧
      (s.scanInput v i r).1.lastValid =
        (if r = true ∨ (s.conversion v i).2 = true then (s.sense.input[i]).lastValid else some (s.conversion v i).1) ∧
      (s.scanInput v i r).1.replaced = (if r = true then (s.sense.input[i]).replaced + 1 else (s.sense.input[i]).replaced) := by
  have hnot : ¬ s.sense.trimming[bankOf i] = true := by
    rw [htrim]
    exact Bool.false_ne_true
  have hsuspended : (s.sense.failed[bankOf i] || !s.power.isGood .mon || !s.power.isGood .ref) = senseSuspended s i := rfl
  have hconv : convertBall (s.txn.live.params.mon[i]) v.mon[i] v.mong[bankOf i] = s.conversion v i := rfl
  have hno : decide (0 < (s.sense.input[i]).settling) = false := by
    rw [hsettled]
    rfl
  unfold State.scanInput
  dsimp only
  rw [if_neg hnot, hconv, hsuspended, hno]
  generalize s.conversion v i = c
  obtain ⟨code, ovr⟩ := c
  refine ⟨?_, ?_, ?_⟩
  · cases r <;> simp
  · cases r <;> cases ovr <;> cases senseSuspended s i <;> rfl
  · cases r <;> cases senseSuspended s i <;> rfl

/-- What replaces an input of a bank that is not under trim: an overranged conversion before it (R259). -/
theorem State.replaces_iff {s : State} {v : ScanIn} {i : Chan} (h : s.sense.trimming[bankOf i] = false) :
    s.replaces v i = true ↔ followsOverrange s v i := by
  unfold State.replaces followsOverrange
  split
  · rfl
  · next h0 =>
    refine State.overAt_iff ?_
    have hbank : bankOf ⟨i.val - 1, by omega⟩ = bankOf i := Fin.ext (by unfold bankOf; dsimp only; omega)
    rw [← h]
    exact congrArg (fun b : Bank => s.sense.trimming[b]) hbank

/-! ## The scan as a whole -/

theorem monitorScan_leaves {s : State} {v : ScanIn} :
    (∀ n : Chan, ((s.scanned v).loseSight.chan[n]).released = (s.chan[n]).released) ∧
      (s.scanned v).loseSight.mem.cells = s.mem.cells ∧ s.onlyMoves (s.scanned v).loseSight [.sense, .mem, .chan, .cal, .port] := by
  obtain ⟨hscans, -, -⟩ := s.scanned_scans v
  have hchan : (s.scanned v).chan = s.chan := hscans.moves .chan (by decide)
  refine ⟨fun n => ?_, ?_, State.onlyMoves_trans (State.onlyMoves_mono hscans.moves (by decide))
    (State.onlyMoves_mono (State.loseSight_moves _) (by decide))⟩
  · rw [((s.scanned v).loseSight_get n).1, hchan]
  · rw [State.loseSight_mem, hscans.cells]

theorem State.carries_iff {s : State} {v : ScanIn} {i : Chan} (hlast : i.val % 16 = 15) (h : s.sense.trimming[bankOf i] = false) :
    s.carries v (bankOf i) = true ↔ overranges s v i := by
  have hi : (⟨16 * (bankOf i).val + 15, by omega⟩ : Chan) = i := Fin.ext (by unfold bankOf; dsimp only; omega)
  unfold State.carries
  rw [hi, h, Bool.not_false, Bool.and_true]
  exact State.overAt_iff h

/-- Settles O37: each input takes its turn once, after the one before it. -/
theorem monitorScanConverts : Obligations.MonitorScanConverts := by
  unfold Obligations.MonitorScanConverts
  refine ⟨fun s v hruns heven => ?_, fun s v i hruns heven htrim hsettled hfollows => ?_,
    fun s v i hruns heven htrim hsettled hfollows => ?_⟩
  · obtain ⟨hscans, hscanned, hcarry⟩ := s.scanned_scans v
    obtain ⟨hreleased, hcells, hmoves⟩ := monitorScan_leaves (s := s) (v := v)
    have hsense : (s.scanned v).loseSight.sense = (s.scanned v).sense := State.loseSight_sense _
    refine ⟨_, exec_monitorScan v hruns heven, hreleased, hcells, hmoves, fun i htrim => ⟨fun hlast => ?_, fun hsuspended => ?_⟩,
      fun i htrim => ?_⟩
    · rw [hsense, hcarry]
      exact State.carries_iff hlast htrim
    · rw [hsense]
      obtain ⟨htrip, hcount, htr⟩ := State.scanInput_of_suspended htrim hsuspended v (s.replaces v i)
      exact ⟨(hscanned i).tripDue.trans htrip, (hscanned i).outCount.trans hcount,
        (congrArg (Option.map Sample.tr) (hscanned i).head).trans (congrArg some htr)⟩
    · rw [hsense, hcarry]
      have hturn := State.scanInput_of_trimming htrim v (s.replaces v i)
      refine ⟨?_, (hscanned i).lastValid.trans (congrArg (fun y => y.1.lastValid) hturn), fun c hc => ?_⟩
      · unfold State.carries
        rw [htrim, Bool.not_true, Bool.and_false]
      · rw [(hscanned i).head, hturn, hc]
        rfl
  · obtain ⟨-, hscanned, -⟩ := s.scanned_scans v
    have hsense : (s.scanned v).loseSight.sense = (s.scanned v).sense := State.loseSight_sense _
    have hnot : ¬ s.replaces v i = true := fun h => hfollows ((State.replaces_iff htrim).mp h)
    obtain ⟨hsample, hvalid, hreplaced⟩ := State.scanInput_of_settled htrim hsettled v (s.replaces v i)
    rw [if_neg hnot] at hsample hreplaced
    have hover := s.conversion_overranges v i
    obtain ⟨hneg, hhigh, hfloor⟩ := clampCode_floor (scaledInput s v i)
    have hturn := hscanned i
    refine ⟨_, { code := (s.conversion v i).1, ovr := (s.conversion v i).2, tr := senseSuspended s i },
      exec_monitorScan v hruns heven, ?_, ?_, rfl, fun hin => ?_, fun hout => ?_⟩
    · rw [hsense, hturn.head, hsample]
    · rw [hsense, hturn.replaced, hreplaced]
    · have hno : (s.conversion v i).2 = false := Bool.eq_false_iff.mpr fun h => hin (hover.mp h)
      rw [hno, if_neg (by simp [hnot])] at hvalid
      unfold overranges at hin
      rw [not_or, not_or] at hin
      obtain ⟨hball, hball', -⟩ := hin
      dsimp only
      rw [hsense, hturn.lastValid, hvalid, State.conversion_code (Int.not_lt.mp hball') (Int.not_lt.mp hball)]
      exact ⟨hno, rfl, hneg, hhigh, hfloor⟩
    · have hyes := hover.mpr hout
      rw [hyes, if_pos (.inr rfl)] at hvalid
      dsimp only
      rw [hsense, hturn.lastValid, hvalid]
      refine ⟨hyes, rfl, State.conversion_of_low, State.conversion_of_high, fun hlow hup => ?_⟩
      rw [State.conversion_code hlow hup]
      unfold overranges at hout
      exact ⟨hneg, fun h0 => hhigh (by omega)⟩
  · obtain ⟨-, hscanned, -⟩ := s.scanned_scans v
    have hsense : (s.scanned v).loseSight.sense = (s.scanned v).sense := State.loseSight_sense _
    obtain ⟨hsample, hvalid, hreplaced⟩ := State.scanInput_of_settled htrim hsettled v (s.replaces v i)
    have hyes := (State.replaces_iff htrim).mpr hfollows
    rw [if_pos hyes] at hsample hreplaced
    rw [if_pos (.inl hyes)] at hvalid
    have hturn := hscanned i
    refine ⟨_, (s.scanInput v i (s.replaces v i)).2.1, exec_monitorScan v hruns heven, ?_, ?_, ?_, ?_, fun c hc => ?_, ?_⟩
    · rw [hsense, hturn.head]
    · rw [hsample]
    · rw [hsample]
    · rw [hsense, hturn.lastValid, hvalid]
    · rw [hsample, hc]
      rfl
    · rw [hsense, hturn.replaced, hreplaced]

end Sys2Proof.Machine
end

section
/-! PROOFS. A result of a detector. -/

namespace Sys2Proof.Machine

/-! ## The nearest integers of a result (R283) -/

/-- A quotient is the nearest one. -/
theorem roundDiv_nearest (num : Int) {den : Nat} (hden : 0 < den) : 2 * Int.natAbs (num - roundDiv num den * (den : Int)) ≤ den := by
  have hpos : (0 : Int) < 2 * (den : Int) := by omega
  have hquot (x : Int) : 2 * ((x / (2 * (den : Int))) * (den : Int)) + x % (2 * (den : Int)) = x := by
    have h := Int.mul_ediv_add_emod x (2 * (den : Int))
    rwa [Int.mul_assoc, Int.mul_comm (den : Int)] at h
  unfold roundDiv
  split
  · have hq := hquot (2 * num + den)
    have h0 := Int.emod_nonneg (2 * num + den) (Int.ne_of_gt hpos)
    have h1 := Int.emod_lt_of_pos (2 * num + den) hpos
    generalize (2 * num + den) / (2 * (den : Int)) * (den : Int) = p at hq ⊢
    omega
  · have hq := hquot (2 * -num + den)
    have h0 := Int.emod_nonneg (2 * -num + den) (Int.ne_of_gt hpos)
    have h1 := Int.emod_lt_of_pos (2 * -num + den) hpos
    rw [Int.neg_mul]
    generalize (2 * -num + den) / (2 * (den : Int)) * (den : Int) = p at hq ⊢
    omega

/-- A quotient within 24 signed bits is reported as it is. -/
theorem roundDiv_within {num : Int} {den : Nat} (hden : 0 < den) (h : Int.natAbs num < 8388607 * den) :
    satInt (-8388608) 8388607 (roundDiv num den) = roundDiv num den := by
  have hnear := roundDiv_nearest num hden
  have hbound : (roundDiv num den).natAbs ≤ 8388607 := by
    by_contra hbig
    have hmul : 8388608 * den ≤ (roundDiv num den).natAbs * den := Nat.mul_le_mul_right den (by omega)
    have habs : (roundDiv num den * (den : Int)).natAbs = (roundDiv num den).natAbs * den := by
      rw [Int.natAbs_mul, Int.natAbs_natCast]
    generalize (roundDiv num den).natAbs * den = p at hmul habs
    generalize roundDiv num den * (den : Int) = r at hnear habs
    omega
  rw [satInt_eq (by decide)]
  omega

/-- The search for a root stops at the greatest that its bits reach. -/
theorem isqrtFrom_greatest (i r x : Nat) :
    r ≤ isqrtFrom i r x ∧ isqrtFrom i r x < r + 2 ^ (i + 1) ∧ (isqrtFrom i r x = r ∨ isqrtFrom i r x * isqrtFrom i r x ≤ x) ∧
      (isqrtFrom i r x + 1 = r + 2 ^ (i + 1) ∨ x < (isqrtFrom i r x + 1) * (isqrtFrom i r x + 1)) := by
  induction i generalizing r with
  | zero =>
    unfold isqrtFrom
    split
    · next h => exact ⟨by omega, by omega, .inr h, .inl rfl⟩
    · next h => exact ⟨by omega, by omega, .inl rfl, .inr (by omega)⟩
  | succ i ih =>
    have hpow : 2 ^ (i + 1 + 1) = 2 ^ (i + 1) + 2 ^ (i + 1) := by rw [Nat.pow_succ, Nat.mul_two]
    rw [isqrtFrom]
    split
    · next h =>
      obtain ⟨hlo, hhi, hroot, hnext⟩ := ih (r + 2 ^ (i + 1))
      refine ⟨by omega, by omega, hroot.elim (fun e => .inr (by rw [e]; exact h)) .inr, hnext.imp_left fun e => by omega⟩
    · next h =>
      obtain ⟨hlo, hhi, hroot, hnext⟩ := ih r
      refine ⟨hlo, by omega, hroot, .inr ?_⟩
      obtain e | hlt := hnext
      · rw [e]
        omega
      · exact hlt

/-- The root is the nearest integer. -/
theorem sqrtRound_nearest {x : Nat} (hx : x < 2 ^ 62) :
    sqrtRound x * sqrtRound x ≤ x + sqrtRound x ∧ x ≤ sqrtRound x * sqrtRound x + sqrtRound x := by
  obtain ⟨-, hlt, hroot, hnext⟩ := isqrtFrom_greatest 31 0 x
  have hsquare : isqrtFrom 31 0 x * isqrtFrom 31 0 x ≤ x := hroot.elim (fun e => by rw [e]; exact Nat.zero_le _) id
  have hbeyond : x < (isqrtFrom 31 0 x + 1) * (isqrtFrom 31 0 x + 1) := by
    refine hnext.resolve_left fun e => ?_
    have hbig : isqrtFrom 31 0 x = 4294967295 := by omega
    rw [hbig] at hsquare
    omega
  unfold sqrtRound
  dsimp only
  generalize isqrtFrom 31 0 x = r at hsquare hbeyond ⊢
  have hexpand : (r + 1) * (r + 1) = r * r + 2 * r + 1 := by
    rw [Nat.add_mul, Nat.mul_add]
    omega
  rw [hexpand] at hbeyond
  split
  · rw [hexpand]
    omega
  · omega

/-! ## The nearest step of a turn (R283) -/

/-- The search for a step stops at the greatest that its bits reach. -/
theorem angleFrom_greatest (i : Nat) (x y : Int) (r : Nat) :
    r ≤ angleFrom i x y r ∧ angleFrom i x y r < r + 2 ^ (i + 1) ∧ (angleFrom i x y r = r ∨ beyondStep x y (angleFrom i x y r) = true) ∧
      (angleFrom i x y r + 1 = r + 2 ^ (i + 1) ∨ beyondStep x y (angleFrom i x y r + 1) = false) := by
  induction i generalizing r with
  | zero =>
    unfold angleFrom
    split
    · next h => exact ⟨by omega, by omega, .inr h, .inl rfl⟩
    · next h => exact ⟨by omega, by omega, .inl rfl, .inr (Bool.eq_false_iff.mpr h)⟩
  | succ i ih =>
    have hpow : 2 ^ (i + 1 + 1) = 2 ^ (i + 1) + 2 ^ (i + 1) := by rw [Nat.pow_succ, Nat.mul_two]
    rw [angleFrom]
    split
    · next h =>
      obtain ⟨hlo, hhi, hstep, hnext⟩ := ih (r + 2 ^ (i + 1))
      exact ⟨by omega, by omega, hstep.elim (fun e => .inr (by rw [e]; exact h)) .inr, hnext.imp_left fun e => by omega⟩
    · next h =>
      obtain ⟨hlo, hhi, hstep, hnext⟩ := ih r
      refine ⟨hlo, by omega, hstep, .inr ?_⟩
      obtain e | hnot := hnext
      · rw [e]
        exact Bool.eq_false_iff.mpr h
      · exact hnot

theorem beyondStep_iff (x y : Int) (j : Nat) : beyondStep x y j = true ↔ x * sinFix (2 * j - 1) 65536 ≤ y * cosFix (2 * j - 1) 65536 := by
  unfold beyondStep
  rw [decide_eq_true_eq]
  omega

/-- The step that the phase takes in its quadrant. -/
def stepOf (x y : Int) : Nat := if beyondStep x y (angleFrom 13 x y 0 + 1) then angleFrom 13 x y 0 + 1 else angleFrom 13 x y 0

theorem stepOf_nearest (x y : Int) : nearestStep x y (stepOf x y) := by
  obtain ⟨-, hlt, hstep, hnext⟩ := angleFrom_greatest 13 x y 0
  unfold stepOf
  generalize angleFrom 13 x y 0 = r at hlt hstep hnext ⊢
  have hodd : 2 * (r + 1) - 1 = 2 * r + 1 := by omega
  split
  · next h =>
    have hlast : r + 1 = 16384 := by
      refine (hnext.resolve_right ?_).trans (Nat.zero_add _)
      rw [h]
      exact Bool.noConfusion
    exact ⟨by omega, .inr ((beyondStep_iff x y (r + 1)).mp h), .inl hlast⟩
  · next h =>
    rw [beyondStep_iff, hodd, Int.not_le] at h
    exact ⟨by omega, hstep.imp_right (beyondStep_iff x y r).mp, .inr h⟩

theorem phaseOf_origin : phaseOf 0 0 = 0 := rfl

/-- The phase in the quadrant that a direction lies in. -/
theorem phaseOf_quadrants (i q : Int) :
    (0 < i → 0 ≤ q → phaseOf i q = BitVec.ofNat 16 (stepOf i q)) ∧
      (i ≤ 0 → 0 < q → phaseOf i q = BitVec.ofNat 16 (16384 + stepOf q (-i))) ∧
      (i < 0 → q ≤ 0 → phaseOf i q = BitVec.ofNat 16 (32768 + stepOf (-i) (-q))) ∧
      (0 ≤ i → q < 0 → phaseOf i q = BitVec.ofNat 16 (49152 + stepOf (-q) i)) := by
  refine ⟨fun hi hq => ?_, fun hi hq => ?_, fun hi hq => ?_, fun hi hq => ?_⟩ <;> unfold phaseOf
  · rw [if_neg (by omega), if_pos ⟨hi, hq⟩]
    dsimp only
    rw [Nat.zero_mul, Nat.zero_add]
    rfl
  · rw [if_neg (by omega), if_neg (by omega), if_pos ⟨hi, hq⟩]
    rfl
  · rw [if_neg (by omega), if_neg (by omega), if_neg (by omega), if_pos ⟨hi, hq⟩]
    rfl
  · rw [if_neg (by omega), if_neg (by omega), if_neg (by omega), if_neg (by omega)]
    rfl

/-! ## A result that is reported (R283 to R285) -/

/-- Whether a result meets the condition of its detector (R285). -/
def State.meets (s : State) (i : Chan) (c : Closing) : Bool :=
  !c.taint && !c.timeout && (if (s.txn.live.params.mon[i]).detTdir = 0 then decide ((s.txn.live.params.mon[i]).detThr.toNat ≤ (c.result i false).mag)
    else !decide ((s.txn.live.params.mon[i]).detThr.toNat ≤ (c.result i false).mag))

/-- The input once its integration is reported. -/
def State.reportedInput (s : State) (i : Chan) (c : Closing) : Input :=
  { s.sense.input[i] with closing := none, met := if c.taint || c.timeout then (s.sense.input[i]).met else s.meets i c }

/-- The result that enters the queue. -/
def State.resultOf (s : State) (i : Chan) (c : Closing) : DetResult := { c.result i false with met := s.meets i c }

/-- The state once it has. -/
def State.reported (s : State) (i : Chan) (c : Closing) : State := (s.withInput i (s.reportedInput i c)).pushResult (s.resultOf i c)

/-- Event 0x19 of an input, and its entry (R285). -/
def State.raiseMet (u : State) (i : Chan) : State :=
  ((u.raiseFor 0x19 fun p => (List.finRange 64).any fun n => u.boundTo p n && u.linked n i).fireCaptures
    fun st => st.trig == 0x19 && st.mask.getLsbD i.val).logEvent 5 0 (BitVec.ofNat 16 i.val)

theorem State.reportClosing_eq (s : State) (i : Chan) (c : Closing) :
    s.reportClosing i c = if s.meets i c && !(s.sense.input[i]).met then (s.reported i c).raiseMet i else s.reported i c := rfl

theorem State.raiseMet_raises (u : State) (i : Chan) :
    (u.raiseMet i).tel.results = u.tel.results ∧ (u.raiseMet i).sense = u.sense ∧ (u.raiseMet i).chan = u.chan ∧
      (u.raiseMet i).power = u.power ∧ (u.raiseMet i).txn = u.txn ∧
      (∀ (p : PlayerNo) (n : Chan), u.boundTo p n = true → u.linked n i = true →
        ((u.raiseMet i).player[p]).raisedNow.getLsbD 0x19 = true) ∧
      (u.tel.events.length < 2048 → ∃ e ∈ (u.raiseMet i).tel.events, e.code = 5 ∧ e.obj = BitVec.ofNat 16 i.val) := by
  have hlog (w : State) : (w.logEvent 5 0 (BitVec.ofNat 16 i.val)).tel.results = w.tel.results := by
    unfold State.logEvent
    dsimp only
    split <;> rfl
  have hraise := u.raiseFor_moves 0x19 fun p => (List.finRange 64).any fun n => u.boundTo p n && u.linked n i
  unfold State.raiseMet
  refine ⟨(hlog _).trans ?_, (State.logEvent_sense _ _ _ _ _).trans ?_, (State.logEvent_chan _ _ _ _ _).trans ?_,
    (State.logEvent_power _ _ _ _ _).trans ?_, (State.logEvent_txn _ _ _ _ _).trans ?_, fun p n hbound hlinked => ?_, fun hroom => ?_⟩
  · rw [State.fireCaptures_tel]
    rfl
  · exact (State.fireCaptures_sense _ _).trans (hraise .sense (by decide))
  · exact (State.fireCaptures_chan _ _).trans (hraise .chan (by decide))
  · exact (State.fireCaptures_power _ _).trans (hraise .power (by decide))
  · exact (State.fireCaptures_txn _ _).trans (hraise .txn (by decide))
  · rw [State.logEvent_player, State.fireCaptures_player]
    exact State.raiseFor_raised (by decide) (List.any_eq_true.mpr ⟨n, List.mem_finRange n, by rw [hbound, hlinked]; rfl⟩)
  · obtain ⟨e, he, hcode, -, hobj⟩ := State.logEvent_enters (s := (u.raiseFor 0x19 fun p => (List.finRange 64).any fun n =>
        u.boundTo p n && u.linked n i).fireCaptures fun st => st.trig == 0x19 && st.mask.getLsbD i.val)
      (by rw [State.fireCaptures_tel]; exact hroom) 5 0 (BitVec.ofNat 16 i.val) 0
    exact ⟨e, he, hcode, hobj⟩

theorem State.pushResult_pushes (s : State) (r : DetResult) :
    (s.pushResult r).tel.results.getLast? = some r ∧ (s.pushResult r).tel.events = s.tel.events ∧ s.onlyMoves (s.pushResult r) [.tel, .port] := by
  have htel (u : State) (t : Telemetry) : u.onlyMoves { u with tel := t } [.tel] := by
    intro p hp
    cases p <;> simp_all [State.agree]
  unfold State.pushResult
  dsimp only
  split
  · exact ⟨List.getLast?_concat .., rfl, State.onlyMoves_mono (htel s _) (by decide)⟩
  · next h =>
    refine ⟨?_, rfl, State.onlyMoves_trans (State.onlyMoves_mono (s.bump_moves 4) (by decide)) (State.onlyMoves_mono (htel _ _) (by decide))⟩
    rw [List.length_append, List.length_singleton] at h
    rw [List.drop_append_of_le_length (by omega)]
    exact List.getLast?_concat ..

/-- What reporting leaves, event or none. -/
theorem State.reported_reports (s : State) (i : Chan) (c : Closing) :
    (s.reported i c).tel.results.getLast? = some (s.resultOf i c) ∧ (s.reported i c).sense.input[i] = s.reportedInput i c ∧
      (s.reported i c).tel.events = s.tel.events ∧ s.onlyMoves (s.reported i c) [.sense, .tel, .port] := by
  obtain ⟨hlast, hevents, hmoves⟩ := (s.withInput i (s.reportedInput i c)).pushResult_pushes (s.resultOf i c)
  have hsense : (s.reported i c).sense = (s.withInput i (s.reportedInput i c)).sense := hmoves .sense (by decide)
  refine ⟨hlast, ?_, hevents, State.onlyMoves_trans (State.onlyMoves_mono (s.setSense_moves _) (by decide)) (State.onlyMoves_mono hmoves (by decide))⟩
  rw [hsense]
  exact s.withInput_get i _

theorem State.reportClosing_reports (s : State) (i : Chan) (c : Closing) :
    (s.reportClosing i c).tel.results.getLast? = some (s.resultOf i c) ∧ (s.reportClosing i c).sense.input[i] = s.reportedInput i c ∧
      (s.meets i c = true → (s.sense.input[i]).met = false →
        (∀ (p : PlayerNo) (n : Chan), s.boundTo p n = true → s.linked n i = true →
          ((s.reportClosing i c).player[p]).raisedNow.getLsbD 0x19 = true) ∧
        (s.tel.events.length < 2048 → ∃ e ∈ (s.reportClosing i c).tel.events, e.code = 5 ∧ e.obj = BitVec.ofNat 16 i.val)) ∧
      (s.meets i c = false ∨ (s.sense.input[i]).met = true →
        (s.reportClosing i c).player = s.player ∧ (s.reportClosing i c).tel.events = s.tel.events) ∧
      (s.reportClosing i c).chan = s.chan ∧ (s.reportClosing i c).power = s.power ∧ (s.reportClosing i c).txn = s.txn := by
  obtain ⟨hlast, hinput, hevents, hmoves⟩ := s.reported_reports i c
  have heq := s.reportClosing_eq i c
  generalize s.reported i c = u at *
  generalize s.reportClosing i c = t at *
  have hchan : u.chan = s.chan := hmoves .chan (by decide)
  have hpower : u.power = s.power := hmoves .power (by decide)
  have htxn : u.txn = s.txn := hmoves .txn (by decide)
  have hplayer : u.player = s.player := hmoves .player (by decide)
  by_cases hraises : s.meets i c = true ∧ (s.sense.input[i]).met = false
  · obtain ⟨hmet, hbefore⟩ := hraises
    obtain rfl : t = u.raiseMet i := heq.trans (if_pos (by rw [hmet, hbefore]; rfl))
    obtain ⟨hresults, hsense, hchan', hpower', htxn', hraised, henters⟩ := u.raiseMet_raises i
    have hlinks (n : Chan) : u.linked n i = s.linked n i := by
      unfold State.linked State.linkOf
      rw [htxn]
    refine ⟨hresults ▸ hlast, by rw [hsense]; exact hinput,
      fun _ _ => ⟨fun p n hbound hlinked => hraised p n (by rw [State.boundTo_congr htxn, hbound]) (by rw [hlinks, hlinked]),
        fun hroom => henters (by rw [hevents]; exact hroom)⟩, fun hquiet => ?_, hchan'.trans hchan, hpower'.trans hpower, htxn'.trans htxn⟩
    rw [hmet, hbefore] at hquiet
    exact absurd hquiet (by decide)
  · obtain rfl : t = u := heq.trans (if_neg (by simpa using hraises))
    exact ⟨hlast, hinput, fun hmet hbefore => absurd ⟨hmet, hbefore⟩ hraises, fun _ => ⟨hplayer, hevents⟩, hchan, hpower, htxn⟩

/-! ## What a result says -/

/-- I and Q of a result are integers of 24 signed bits. -/
theorem Closing.result_within (c : Closing) (i : Chan) :
    (c.result i false).i.natAbs ≤ 8388608 ∧ (c.result i false).q.natAbs ≤ 8388608 := by
  have hsat (x : Int) : (satInt (-8388608) 8388607 x).natAbs ≤ 8388608 := by
    rw [satInt_eq (by decide)]
    omega
  exact ⟨hsat _, hsat _⟩

/-- MAG is the root of what I and Q say. -/
theorem Closing.result_mag (c : Closing) (i : Chan) :
    ((c.result i false).mag * (c.result i false).mag : Int) ≤
        (c.result i false).i * (c.result i false).i + (c.result i false).q * (c.result i false).q + (c.result i false).mag ∧
      (c.result i false).i * (c.result i false).i + (c.result i false).q * (c.result i false).q ≤
        ((c.result i false).mag * (c.result i false).mag : Int) + (c.result i false).mag := by
  have hmag : (c.result i false).mag = sqrtRound ((c.result i false).i * (c.result i false).i + (c.result i false).q * (c.result i false).q).toNat := rfl
  obtain ⟨hi, hq⟩ := c.result_within i
  have hsquare (x : Int) (hx : x.natAbs ≤ 8388608) : 0 ≤ x * x ∧ x * x ≤ 70368744177664 := by
    rw [← Int.natAbs_mul_self]
    have h := Nat.mul_le_mul hx hx
    omega
  obtain ⟨hi0, hi1⟩ := hsquare _ hi
  obtain ⟨hq0, hq1⟩ := hsquare _ hq
  rw [hmag]
  generalize (c.result i false).i * (c.result i false).i = a at hi0 hi1 ⊢
  generalize (c.result i false).q * (c.result i false).q = b at hq0 hq1 ⊢
  obtain ⟨hlow, hup⟩ := sqrtRound_nearest (x := (a + b).toNat) (by omega)
  generalize sqrtRound (a + b).toNat = m at hlow hup ⊢
  have hm : ((m * m : Nat) : Int) = (m : Int) * m := Int.natCast_mul m m
  rw [← hm]
  generalize m * m = mm at hlow hup ⊢
  omega

/-- I and Q are the nearest integers to what the integration gives, where they lie within 24 bits. -/
theorem Closing.result_nearest {c : Closing} (i : Chan) (hn : 0 < c.n) :
    (Int.natAbs (128 * c.iAcc) < 8388607 * (c.n * 32767) →
        2 * Int.natAbs (128 * c.iAcc - (c.result i false).i * (c.n * 32767 : Nat)) ≤ c.n * 32767) ∧
      (Int.natAbs (128 * c.qAcc) < 8388607 * (c.n * 32767) →
        2 * Int.natAbs (128 * c.qAcc - (c.result i false).q * (c.n * 32767 : Nat)) ≤ c.n * 32767) := by
  have hden : 0 < c.n * 32767 := Nat.mul_pos hn (by decide)
  have hi : (c.result i false).i = satInt (-8388608) 8388607 (roundDiv (128 * c.iAcc) (c.n * 32767)) := rfl
  have hq : (c.result i false).q = satInt (-8388608) 8388607 (roundDiv (128 * c.qAcc) (c.n * 32767)) := rfl
  refine ⟨fun h => ?_, fun h => ?_⟩
  · rw [hi, roundDiv_within hden h]
    exact roundDiv_nearest _ hden
  · rw [hq, roundDiv_within hden h]
    exact roundDiv_nearest _ hden

/-- PH is the nearest step to the direction, in its quadrant. -/
theorem Closing.result_phase (c : Closing) (i : Chan) :
    ((c.result i false).i = 0 → (c.result i false).q = 0 → (c.result i false).ph = 0) ∧
      (0 < (c.result i false).i → 0 ≤ (c.result i false).q →
        ∃ k, nearestStep (c.result i false).i (c.result i false).q k ∧ (c.result i false).ph = BitVec.ofNat 16 k) ∧
      ((c.result i false).i ≤ 0 → 0 < (c.result i false).q →
        ∃ k, nearestStep (c.result i false).q (-(c.result i false).i) k ∧ (c.result i false).ph = BitVec.ofNat 16 (16384 + k)) ∧
      ((c.result i false).i < 0 → (c.result i false).q ≤ 0 →
        ∃ k, nearestStep (-(c.result i false).i) (-(c.result i false).q) k ∧ (c.result i false).ph = BitVec.ofNat 16 (32768 + k)) ∧
      (0 ≤ (c.result i false).i → (c.result i false).q < 0 →
        ∃ k, nearestStep (-(c.result i false).q) (c.result i false).i k ∧ (c.result i false).ph = BitVec.ofNat 16 (49152 + k)) := by
  have hph : (c.result i false).ph = phaseOf (c.result i false).i (c.result i false).q := rfl
  rw [hph]
  generalize (c.result i false).i = x
  generalize (c.result i false).q = y
  obtain ⟨hfirst, hsecond, hthird, hfourth⟩ := phaseOf_quadrants x y
  refine ⟨fun hx hy => ?_, fun hx hy => ⟨_, stepOf_nearest _ _, hfirst hx hy⟩, fun hx hy => ⟨_, stepOf_nearest _ _, hsecond hx hy⟩,
    fun hx hy => ⟨_, stepOf_nearest _ _, hthird hx hy⟩, fun hx hy => ⟨_, stepOf_nearest _ _, hfourth hx hy⟩⟩
  rw [hx, hy]
  exact phaseOf_origin

/-- A result with TAINT or TIMEOUT meets no condition; another one compares MAG. -/
theorem State.meets_iff (s : State) (i : Chan) (c : Closing) :
    (c.taint = true ∨ c.timeout = true → s.meets i c = false) ∧
      (c.taint = false → c.timeout = false → (s.meets i c = true ↔ if (s.txn.live.params.mon[i]).detTdir = 0 then
        (s.txn.live.params.mon[i]).detThr.toNat ≤ (c.result i false).mag else (c.result i false).mag < (s.txn.live.params.mon[i]).detThr.toNat)) := by
  unfold State.meets
  refine ⟨fun h => ?_, fun htaint htimeout => ?_⟩
  · obtain h | h := h <;> rw [h] <;> simp
  · rw [htaint, htimeout]
    split <;> simp

/-- The command of either end reports the integration. -/
theorem exec_detector_reports {s : State} {i : Chan} {c : Closing} {cmd : Instr} (hclosing : (s.sense.input[i]).closing = some c)
    (hcmd : cmd = .detectorClose i ∧ c.timeout = false ∨ cmd = .detectorTimeout i ∧ c.timeout = true) :
    exec cmd s = .next (s.reportClosing i c) := by
  obtain ⟨rfl, htimeout⟩ | ⟨rfl, htimeout⟩ := hcmd
  · change execDetectorClose i s = _
    unfold execDetectorClose
    rw [hclosing]
    exact if_neg (by simp [htimeout])
  · change execDetectorTimeout i s = _
    unfold execDetectorTimeout
    rw [hclosing]
    exact if_pos htimeout

/-- Settles O39: the result is what the integration gives, and the event of a condition that it newly meets is raised. -/
theorem detectorReports : Obligations.DetectorReports := by
  unfold Obligations.DetectorReports
  intro s i c cmd hclosing hn hcmd
  obtain ⟨hlast, hinput, hraises, hquiet, hchan, hpower, htxn⟩ := s.reportClosing_reports i c
  obtain ⟨hnearI, hnearQ⟩ := c.result_nearest i hn
  obtain ⟨hmagLow, hmagUp⟩ := c.result_mag i
  obtain ⟨horigin, hfirst, hsecond, hthird, hfourth⟩ := c.result_phase i
  obtain ⟨hmarred, hclean⟩ := s.meets_iff i c
  refine ⟨_, s.resultOf i c, exec_detector_reports hclosing hcmd, hlast, congrArg Input.closing hinput, rfl, rfl, rfl, rfl, rfl,
    hnearI, hnearQ, hmagLow, hmagUp, horigin, hfirst, hsecond, hthird, hfourth, fun h => ⟨hmarred h, ?_⟩,
    fun htaint htimeout => ⟨?_, hclean htaint htimeout⟩, hraises, hquiet, hchan, hpower, htxn⟩
  · have hmet := congrArg Input.met hinput
    rw [hmet]
    exact if_pos (by simpa using h)
  · have hmet := congrArg Input.met hinput
    rw [hmet]
    exact if_neg (by simp [htaint, htimeout])

end Sys2Proof.Machine
end
